-- ==== Sys2Proof/Word.lean ====
section
/-!
DEFINITION. The word types of the module and their plainest arithmetic: registers are 32 bits wide (00_scope.md, "Register access and classes"),
packets and records are byte strings with the least significant byte first (R5).
-/
namespace Sys2Proof

/-- A register value. -/
abbrev Word := BitVec 32

/-- One byte of a packet, record or memory. -/
abbrev Byte := BitVec 8

/-- A byte string. -/
abbrev Bytes := List Byte

/-- The byte with value `n mod 256`. -/
def byte (n : Nat) : Byte := BitVec.ofNat 8 n

/-- The word with value `n mod 2^32`. -/
def word (n : Nat) : Word := BitVec.ofNat 32 n

end Sys2Proof
end

