-- ==== Sys2Proof/Config.lean ====
section
/-!
DEFINITION. What an implementation fixes and the free values: constants without a body, so that no proof can use a value of them.
Each is used where the spec leaves a value open or where the value is made by a published standard whose text is outside the manual (00_scope.md).
The notes name the log entry (notes/assumptions) of each use.
-/
namespace Sys2Proof.Config

/-- A rounding direction the spec does not state: the exact quotient lies between the floor and the floor plus one (log entry 5). -/
opaque roundUp : Nat → Bool

/-- A value that the spec leaves open, `n` times drawn, as a natural number (log entry 6). -/
opaque freeNat : Nat → Nat

/-- A bounded open integer (log entry 6). -/
opaque freeInt : Nat → Int

/-- SHA-256 of a byte string: 32 bytes, by FIPS 180-4, a published standard (00_scope.md; log entry 7). -/
opaque sha256 : Bytes → List Byte

/-- The public key of a private key: ECDSA P-256 (log entry 7). -/
opaque ecPublic : Bytes → Bytes

/-- The ECDSA P-256 signature of a digest under a private key, with a nonce number (log entry 7). -/
opaque ecSign : Bytes → Bytes → Nat → Bytes

/-- Whether an ECDSA P-256 signature of a digest verifies under a public key (log entry 7). -/
opaque ecVerify : Bytes → Bytes → Bytes → Bool

/-- AES-256 key wrap with padding of a plaintext under a key (RFC 5649; log entry 7). -/
opaque kwpWrap : Bytes → Bytes → Bytes

/-- Key unwrap; none where the integrity check fails (RFC 5649; log entry 7). -/
opaque kwpUnwrap : Bytes → Bytes → Option Bytes

/-- AES-GCM encryption: key, nonce, associated data, plaintext to ciphertext and tag (SP 800-38D; log entry 7). -/
opaque gcmSeal : Bytes → Bytes → Bytes → Bytes → Bytes × Bytes

/-- AES-GCM decryption: key, nonce, associated data, ciphertext, tag; none where the tag fails (SP 800-38D; log entry 7). -/
opaque gcmOpen : Bytes → Bytes → Bytes → Bytes → Bytes → Option Bytes

/-- FF1 decryption of decimal digits under a key and a tweak (SP 800-38G; log entry 7). -/
opaque ff1Decrypt : Bytes → Bytes → List Nat → List Nat

/-- A new random key of the given kind code for draw `n` (log entry 7). -/
opaque randomKey : Nat → Nat → Bytes

/-- A PKCS#10 certificate signing request over a key and subject data, for draw `n` (log entry 7). -/
opaque csrDer : Bytes → Bytes → Nat → Bytes

/-- The LBIST signature of a scan chain with no fault (an implementation constant, log entry 8). -/
opaque lbistSignature : Nat → Word

/-- The 12-byte serial number of the module (fuses; log entry 8). -/
opaque serial : Nat → Byte

/-- The grade letter of the module: ASCII E or M (R1; log entry 8). -/
opaque gradeIsM : Bool

/-- The firmware version in factory bank A, the boot ROM version and the safety task version (log entry 8). -/
opaque shellVersion : Word
opaque bootRomVersion : Word
opaque safetyVersion : Word

/-- The carry format that the factory image writes and the oldest it restores (R492; log entry 8). -/
opaque shellCarry : Nat
opaque shellOldest : Nat

/-- The twin copy format of the firmware of a version, and which unlike formats of two modules are compatible (R397, R413; log entry 8). -/
opaque copyFormat : Nat → Nat
opaque copyFits : Nat → Nat → Bool

/-- SHA-384 of a byte string, and whether an ECDSA P-384 signature (r, s) of a digest verifies under a public key (FIPS 180-4, FIPS 186-4; R492; log entry 7). -/
opaque sha384 : Bytes → Bytes
opaque ec384Verify : Bytes → Bytes → Bytes → Bytes → Bool

/-- The rows of a macro of a memory that the factory fuse map replaces, each by one spare row, and how many they are (R511; log entry 8). -/
opaque fuseMap : Nat → Nat → List Nat
def fuseRows (m k : Nat) : Nat := (fuseMap m k).length

/-- Which columns the matrix of the SECDED code has, which the spec does not give (R507; log entry 16). -/
opaque secdedPick : Nat → Nat

/-- Check bytes of odd weight 3 or more: with the check bits' own columns any three differ in sum from 0, so that single errors are told apart and double errors from them (R507). -/
def secdedBytes : List Byte :=
  ((List.range 256).map (BitVec.ofNat 8)).filter fun b => let w := ((List.range 8).filter fun i => b.getLsbD i).length; w % 2 = 1 && decide (3 ≤ w)

/-- The columns of the 64 data bits, no two alike (DESIGN CHOICE, log entry 16). -/
def secdedCols : List Byte :=
  ((List.range 64).foldl (fun (x : List Byte × List Byte) i =>
    let k := secdedPick i % x.2.length
    (x.1 ++ [x.2.getD k 0], x.2.eraseIdx k)) ([], secdedBytes)).1

/-- The check byte of a 64-bit word: the sum of the columns of its bits (R507). -/
def secded (w : BitVec 64) : Byte := (List.range 64).foldl (fun (b : Byte) i => if w.getLsbD i then b ^^^ secdedCols.getD i 0 else b) 0

/-- The Kernel firmware version at factory, its certificate bytes and its identity key (log entry 8). -/
opaque kernVersion : Word
opaque kernCert : Bytes
opaque kernKey : Bytes

/-- Krovham's provisioning WRAP key of slot 0 and its blob under the factory KEK (00_scope.md, R2; log entry 8). -/
opaque wrapKey : Bytes
opaque kek : Nat → Bytes

/-- Krovham's image-signing public keys (log entry 8). -/
opaque shellSignKey : Bytes
opaque kernSignKey : Bytes

/-- The PTP clockIdentity of the module and the clockAccuracy it announces as grandmaster, which the spec does not give (R97; log entry 8). -/
opaque clockIdentity : Nat → Byte
opaque clockAccuracy : Byte

/-- The bytes of the module's MAC addresses (log entry 8). -/
opaque macByte : Nat → Byte

/-- The 24-bit code that the compensating FIR of a stream makes of the newest eight outputs of its sinc3 stage, at an oversampling ratio (R144, R145 state its response and no coefficients; log entry 80). -/
opaque fir : Nat → List Int → Int

/-- The code that a Guard stream's sinc3 output gives at 2.5 MHz (false) and at 5 MHz (true): R314 states 20 bits and no scale (log entry 82). -/
opaque guardCode : Bool → Int → Int

/-- The value of the fractional-delay interpolation of a current stream: the delay in 1/8,192 of a sample, 1 to 8,191, and the newest four samples (R156 fixes no interpolation kernel; log entry 9). -/
opaque fracDelay : Int → List Int → Int

/-- The proximity resistance of a converter code under a calibration word, in ohm (log entry 9). -/
opaque ppOhms : Nat → Nat → Nat

/-- The NID and NMK that the Shell gives a lane, the short network identifier in them, and the unassociated value of that identifier (R262, R274; log entry 81). -/
opaque laneNid : Nat → Bytes
opaque laneNmk : Nat → Bytes
opaque laneSni : Nat → Nat
opaque unassociated : Nat

/-- Whether a write of the used-token list to Shell flash fails, by draw number (R250; log entry 52). -/
opaque flashFails : Nat → Bool

/-- Whether a Kernel firmware image's P-384 signature verifies (log entry 7). -/
opaque kernImageOk : Bytes → Bool

/-- The public key of a SIGN key of the given algorithm code (R471; log entry 7). -/
opaque pubKey : Nat → Bytes → Bytes

/-- The public key in the leaf of a certificate set (log entry 7). -/
opaque leafKey : Bytes → Bytes

end Sys2Proof.Config
end

