-- ==== Sys2Proof/Machine/Tab.lean ====
section
/-!
DEFINITION. Sparse tables in one canonical form: strictly rising keys and no entry equal to the value an unlisted key reads as.
Registers, the FRAM, key slots and the per-instance state of the repeated units are held so; equal tables are equal data.
-/
namespace Sys2Proof.Machine

/-- A sparse table from keys to values. -/
abbrev Tab (α : Type) := List (Nat × α)

/-- The value at `k`; an unlisted key reads as `d`. -/
def tget {α : Type} (d : α) : Tab α → Nat → α
  | [], _ => d
  | (k, v) :: t, n => if k = n then v else tget d t n

/-- The table without key `n`. -/
def terase {α : Type} : Tab α → Nat → Tab α
  | [], _ => []
  | (k, v) :: t, n => if k = n then terase t n else (k, v) :: terase t n

/-- The table with an entry placed before the first larger key. -/
def tinsert {α : Type} (n : Nat) (v : α) : Tab α → Tab α
  | [] => [(n, v)]
  | (k, w) :: t => if n < k then (n, v) :: (k, w) :: t else (k, w) :: tinsert n v t

/-- The table with `v` at `n`: a value equal to the default is not listed. -/
def tset {α : Type} [DecidableEq α] (d : α) (t : Tab α) (n : Nat) (v : α) : Tab α :=
  if v = d then terase t n else tinsert n v (terase t n)

/-- The canonical form: keys strictly rising, no entry equal to the default. -/
def twf {α : Type} [DecidableEq α] (d : α) : Tab α → Bool
  | [] => true
  | [(_, v)] => !decide (v = d)
  | (k, v) :: (k', v') :: t => !decide (v = d) && decide (k < k') && twf d ((k', v') :: t)

/-- The canonical form of a list of entries, of which the last of a key counts. -/
def tnorm {α : Type} [DecidableEq α] (d : α) (l : List (Nat × α)) : Tab α := l.foldl (fun t e => tset d t e.1 e.2) []

/-- The canonical form of an addressed memory (FRAM, display buffers): an unlisted byte reads as 0. -/
abbrev Memory.wf (m : Tab Byte) : Bool := twf 0 m

end Sys2Proof.Machine
end

