-- ==== Sys2Proof/Machine/Parts.lean ====
section
/-!
DEFINITION. The parts of the state, one structure per block of the module, as plain data. `State.lean` joins them; Syntax takes from here the shape of what
a twin's Pod frame carries.
-/
namespace Sys2Proof.Machine

/-! ### The command fabric (02_command_fabric.md) -/

/-- A reply packet before its bytes are built (R44). -/
structure Reply where
  queue : Nat
  status : Nat
  tag : Nat
  opcode : Nat
  payload : Bytes
  pip : Nat
  epoch : Nat
  deriving DecidableEq, Repr

/-- An accepted command (R49): `id` is its place in acceptance order, `src` the source index of its final reply (R72), `ip` and `port` where it came from over UDP (R82) and `own` the module's own address that it came to (R410). -/
structure Cmd where
  id : Nat
  queue : Nat
  cls : Nat
  tag : Nat
  opcode : Nat
  payload : Bytes
  accPip : Nat
  launch : Option Nat
  deadline : Nat
  src : Nat
  ip : Nat
  port : Nat
  own : Nat
  deriving DecidableEq, Repr

/-- Where a command in flight stands. -/
inductive Phase where
  /-- It waits for its launch pip (R59). -/
  | waitLaunch
  /-- It waits for a quiet pip from `first` to `last` (R607). -/
  | waitQuiet (first last : Nat)
  /-- A FAB_COMMIT without a launch pip that commits at the commit point of `pip` (R67). -/
  | waitCommit (pip : Nat)
  /-- A unit works on it; its final reply comes through the unit's outbox. -/
  | running
  /-- Its final reply was produced in pip `pip` and waits for the next collector opening (R75). -/
  | produced (status : Nat) (payload : Bytes) (pip : Nat)
  /-- Its final reply is its answer (R45) and stands in the answer FIFO. -/
  | answered
  /-- Its final reply stands in the completion ring, delivered at the collector opening of `pip` (R72). -/
  | delivered (pip : Nat) (r : Reply)
  deriving DecidableEq, Repr

/-- A command in flight: from acceptance until the host has taken its final reply. -/
structure Flight where
  cmd : Cmd
  phase : Phase
  deriving DecidableEq, Repr

/-- What an entry of the answer FIFO is (R74): an ACCEPTED answer, the final answer of command `id`, or a rejection. -/
inductive AnsKind where
  | accepted
  | final (id : Nat)
  | rejected
  deriving DecidableEq, Repr

/-- An entry of the answer FIFO. -/
structure Answer where
  reply : Reply
  kind : AnsKind
  ip : Nat
  port : Nat
  own : Nat
  deriving DecidableEq, Repr

/-- A command that missed its deadline after it had started (R63); `ended` is the pip it finished in, once it has. -/
structure Late where
  cmd : Cmd
  ended : Option Nat
  deriving DecidableEq, Repr

/-- A UDP datagram that the module has sent: the address and port it leaves from (R82, R410), where it goes, its bytes. -/
structure Datagram where
  own : Nat
  source : Nat
  ip : Nat
  port : Nat
  bytes : Bytes
  deriving DecidableEq, Repr

/-- The command fabric: commands in flight in acceptance order, commands that missed their deadline after they had started, the answer FIFO, the last 256 final replies newest first (R82), full receive buffers,
the next command's id (0 is no command's), STALE_EPOCH replies to commands of a silent partner, which hold no credit here (R418), the queues and tags of the commands whose data cannot be corrected when they come to act (R508, R510, R524; log entry 33). `spiOut` and `udpOut` are the model's own: the bytes that the last HOST_SPI read returned,
the last reply datagram (log entry 10). -/
structure Fab where
  flights : List Flight
  late : List Late
  answers : List Answer
  history : List Reply
  rxBufs : List Bytes
  nextId : Nat
  stale : List Flight
  faults : List (Nat × Nat)
  spiOut : Bytes
  udpOut : Option Datagram
  deriving DecidableEq, Repr

/-- The fabric after a reset of the application cores. -/
def Fab.reset : Fab :=
  { flights := [], late := [], answers := [], history := [], rxBufs := [], nextId := 1, stale := [], faults := [], spiOut := [], udpOut := none }
/-! ### What every block shares -/

/-- A write to a Live register that takes effect at the next pip boundary (R35, R85); `host` where REG_WRITE or REG_MODIFY made it (R605). -/
inductive LivePend where
  | set (addr : Nat) (v : Word) (host : Bool)
  | clear (addr : Nat) (bits : Word)
  deriving DecidableEq, Repr

/-- A final reply that a unit has produced for command `id`, in pip `pip`. -/
structure Done where
  id : Nat
  status : Nat
  payload : Bytes
  pip : Nat
  deriving DecidableEq, Repr

/-- A record of the Shell event log before it is laid out (R555). -/
structure LogRec where
  seq : Nat
  pip : Nat
  source : Nat
  kind : Nat
  data : Bytes
  deriving DecidableEq, Repr

/-- The module modes (R16), with the codes of SYS_MODE. -/
inductive Mode where
  | boot | sprout | maintenance | service | degraded
  deriving DecidableEq, Repr

/-- The strap pins ROLE, SPROUT and HOSTSEL as they stand at the lands (sampled into SYS_STRAPS at the release of a reset, R553 step 1, R570). -/
structure Straps where
  role : Bool
  sprout : Bool
  hostsel : Bool
  deriving DecidableEq, Repr

/-! ### System: power, resets, clocks, the event log and the saved configuration (19_power_reset_clocks.md) -/

/-- One saved copy of the configuration region (R544): the block's bit of R66 and the values that differ from their Reset values. -/
structure SavedBlock where
  block : Nat
  values : Tab Word
  deriving DecidableEq, Repr

/-- The system unit's state that no register shows. `resetCause` is the cause the next BOOT records (R542); `resetPip` when its reset was released; `save` a SYS_CFG_SAVE under way with the copies it stores;
`resetReq` a reset of the application cores due after the given pip's frame (R497, R556); `pfailPip` the PFAIL pip; `bothGoodSince` since when both feeds have been good (R529);
`node175Since` since when the ORed node has been above 17.5 V (R535); `inReset` while RESET_N is low or a power-fail reset is asserted (`pfReset`, R535); `safetyHalt` while the safety core pair sends no word, `safetyForced` if until the Stone has found the heartbeat lost (R552);
`fabReset` that the reset of this step takes the command fabric with it; `coldClk` and `coldCfg` that the clock selection and the configuration have not been set up since POR or the power-fail reset, `coldCfg` 2 where the time unit's with them, which POR alone clears
(R543, R550, R553); `saveAt` the pip in which the save began; `resetLow` the level of RESET_N (R540); `wdtAt` when the watchdog's present limit began, by `Dev.osc` (R541); `refBad` whether REFCLK has failed and is not valid again, `refValid` for how many coasting pips it has been (R548); `pilots` whether the pilot generators have driven CP_PWM_nn since their last reset (R567, R568); `cuts` the outlets that were cut or whose coil tripped while the application cores were away, each with its reason (R382, R353). -/
structure Sys where
  log : List LogRec
  saved : List SavedBlock
  save : Option (Nat × List SavedBlock)
  resetCause : Nat
  resetPip : Nat
  resetReq : Option Nat
  pfailPip : Option Nat
  bothGoodSince : Option Nat
  node175Since : Option Nat
  inReset : Bool
  pfReset : Bool
  safetyHalt : Bool
  safetyForced : Bool
  fabReset : Bool
  coldClk : Bool
  coldCfg : Nat
  saveAt : Nat
  resetLow : Bool
  wdtAt : Nat
  refBad : Bool
  refValid : Nat
  pilots : Bool
  cuts : List (Nat × Nat)
  deriving DecidableEq, Repr

/-- The system unit at power-on: an empty log and configuration region, a POR in force. -/
def Sys.reset : Sys :=
  { log := [], saved := [], save := none, resetCause := 0, resetPip := 0, resetReq := none, pfailPip := none, bothGoodSince := none, node175Since := none,
    inReset := false, pfReset := false, safetyHalt := true, safetyForced := false, fabReset := false, coldClk := true, coldCfg := 2, saveAt := 0, resetLow := false, wdtAt := 0, refBad := false, refValid := 0, pilots := false, cuts := [] }

/-! ### The time unit (03_pip_and_time.md) -/

/-- The servo states, with the codes of TIME_STATUS.state (R103). -/
inductive Servo where
  | start | locked | holdover | recovery | test
  deriving DecidableEq, Repr

/-- A step of TB0 that is pending until the boundary of `due` (R609): by agreement (`delta` in ns) or by TIME_SET_TB0 (a target time in ns, and its command). -/
inductive PendStep where
  | agreed (due : Nat) (delta : Int)
  | given (due : Nat) (target : Nat) (id : Nat)
  deriving DecidableEq, Repr

/-- What the PTP task knows of its grandmaster and port (TIME_PTP_STATUS). -/
structure PtpInfo where
  gmId : Bytes
  stepsRemoved : Nat
  clockClass : Nat
  accuracy : Nat
  prio1 : Nat
  prio2 : Nat
  portState : Nat
  deriving DecidableEq, Repr

/-- The time unit: TB0 in ns at the boundary of the current pip (its 8 ns ticks and the fraction have no part at a boundary, R91);
`skip` the pip numbers to be passed over at the next boundary; `offsRaise` a pending raise of TIME_PIP_OFFSET (R610); `stateReq` a TIME_SET_STATE for the next boundary;
`shown` the measurements since the agreement count was discarded, newest first, and `meas` those of them that agreement counts (R103, R609); `stepped` whether acquisition has stepped TB0, and `lastStep` the pip L of the last step; `good` the run of measurements of at most
250 ns after it; `givenTime` whether R94's third condition for a self-parented clock holds; `sent` the event messages that the PTP task has sent and whose timestamps it awaits, and `lost` those that are lost for want of one
(R102), by messageType, domain and sequenceId; `bound` TIME_STATUS as at the boundary of the current pip, which TIME_GET returns; `followUp` the timestamp entry of the last Sync answered with a Follow_Up (the model's own, log entry 10). -/
structure TimeU where
  tb0 : Nat
  bound : Word
  skip : Nat
  offsRaise : Option Nat
  stateReq : Option Servo
  pend : Option PendStep
  meas : List Int
  shown : List Int
  stepped : Bool
  lastStep : Option Nat
  good : Nat
  everAligned : Bool
  givenTime : Bool
  ptp : PtpInfo
  txts0 : List Bytes
  txts1 : List Bytes
  sent : List (Nat × Nat × Nat)
  lost : List (Nat × Nat × Nat)
  followUp : Bytes
  deriving DecidableEq, Repr

/-- The time unit at POR (R93). -/
def TimeU.reset : TimeU :=
  { tb0 := 0, bound := 0, skip := 0, offsRaise := none, stateReq := none, pend := none, meas := [], shown := [], stepped := false, lastStep := none, good := 0,
    everAligned := false, givenTime := false,
    ptp := { gmId := [], stepsRemoved := 0, clockClass := 248, accuracy := 254, prio1 := 128, prio2 := 128, portState := 1 },
    txts0 := [], txts1 := [], sent := [], lost := [], followUp := [] }

/-! ### Outlets and sessions (04_outlets_and_sessions.md) -/

/-- The outlet states, with the codes of OUT_nn_STATE.state (R124). -/
inductive OState where
  | idle | plugged | linking | negotiating | authorising | cableCheck | precharge | energy | rampdown | weldCheck | unplugged | fault
  deriving DecidableEq, Repr

/-- An identifier presented for authorisation: kind 1 UID, 2 contract, 3 account (R129); `acct` 0xFFFF for none. -/
structure Ident where
  kind : Nat
  len : Nat
  bytes : Bytes
  acct : Nat
  deriving DecidableEq, Repr

/-- An entry of the local authorisation list (R129). -/
structure ListEntry where
  kind : Nat
  len : Nat
  bytes : Bytes
  status : Nat
  acct : Nat
  deriving DecidableEq, Repr

/-- A record of the outlet event ring (R128). -/
structure EvRec where
  seq : Nat
  pip : Nat
  outlet : Nat
  code : Nat
  before : Nat
  after : Nat
  reason : Nat
  src : Nat
  session : Nat
  extra : Bytes
  deriving DecidableEq, Repr

/-- What stands behind one outlet's registers: its timers as due pips, its identifiers, the vehicle's maxima, and how far its set-up and its session have come.
`cand` and `candN` count agreeing pilot readings and `sampled` is the pip of the last (R120); `probeDue` when the next probe of FAULT starts, `probeFrom` when the running one did, `probeN` how many of its
samples have read state A (R126); `confK` and `confS` whether the Kernel and the Stone hold i_break and t_force; `settled` since when the voltage has lain within 5 % of the cable-check target and `isoWarn` whether the
vehicle was sent the status "warning" (R134); `kWant` whether a Kernel session should be open; `relPip` the pip whose frame releases the coils; `endReason` the reason with which the session ended and `forced` whether the Stone forced its opening (R201);
`lastProto` and `lastReason` the protocol and the reason of the last session (OUT_SESSION_INFO). -/
structure Outlet where
  cand : Nat
  candN : Nat
  sampled : Option Nat
  linkDue : Option Nat
  hostDue : Option Nat
  cableDue : Option Nat
  prechDue : Option Nat
  weldDue : Option Nat
  probeDue : Nat
  probeFrom : Option Nat
  probeN : Nat
  authSince : Option Nat
  waiting : Bool
  ident : Option Ident
  authSrc : Nat
  preauth : Option (Ident × Nat)
  pluggedPip : Nat
  stateSince : Nat
  hlc : Bool
  linkUp : Bool
  tls : Bool
  bpt : Bool
  evMaxV : Nat
  evMaxI : Nat
  evMaxP : Nat
  evcc : Bytes
  settled : Option Nat
  isoWarn : Bool
  prechMet : Bool
  confK : Bool
  confS : Bool
  kWant : Bool
  relPip : Option Nat
  endReason : Nat
  forced : Bool
  lastProto : Nat
  lastReason : Nat
  certPending : Bool
  certBuf : Bytes
  certOut : Bytes
  wantUnavail : Bool
  deriving DecidableEq, Repr

/-- An outlet after a reset of the application cores. -/
def Outlet.reset : Outlet :=
  { cand := 0, candN := 0, sampled := none, linkDue := none, hostDue := none, cableDue := none, prechDue := none, weldDue := none, probeDue := 0, probeFrom := none, probeN := 0, authSince := none,
    waiting := false, ident := none, authSrc := 0, preauth := none, pluggedPip := 0, stateSince := 0, hlc := false, linkUp := false, tls := false, bpt := false,
    evMaxV := 0, evMaxI := 0, evMaxP := 0, evcc := [], settled := none, isoWarn := false, prechMet := false, confK := false, confS := false, kWant := false,
    relPip := none, endReason := 0, forced := false, lastProto := 0, lastReason := 0, certPending := false, certBuf := [], certOut := [], wantUnavail := false }

/-- A CAN frame: its port, whether it is of CAN FD and of two bit rates, its identifier, its payload. -/
structure CanFrame where
  port : Nat
  fd : Bool
  brs : Bool
  ext : Bool
  id : Nat
  data : Bytes
  deriving DecidableEq, Repr

/-- A power-module template beyond its registers: when it last sent or matched, its alive counter, the last frame it sent. -/
structure Tpl where
  last : Nat
  alive : Nat
  frame : Option CanFrame
  deriving DecidableEq, Repr

/-- A template before its first frame. -/
def Tpl.reset : Tpl := { last := 0, alive := 0, frame := none }

/-- The outlet unit: the 32 outlets, the event ring newest first, the local list with its staging copy and its copy in flash (with the version it carries),
the floating pre-authorisation, the pip of the last accepted command, the keypad's outlet selection is the tag unit's. -/
structure OutUnit where
  outs : Tab Outlet
  ring : List EvRec
  list : List ListEntry
  staging : List ListEntry
  flashList : List ListEntry
  flashVersion : Nat
  floating : Option (Ident × Nat)
  lastAccept : Nat
  tpls : Tab Tpl
  deriving DecidableEq, Repr

/-- The outlet unit after power-on. -/
def OutUnit.reset : OutUnit :=
  { outs := [], ring := [], list := [], staging := [], flashList := [], flashVersion := 0, floating := none, lastAccept := 0, tpls := [] }

/-! ### The Kernel (05_kernel_measurement.md, 06_kernel_seal_and_ledger.md, 07_tariffs_billing_credit.md) -/

/-- The configuration of a metering channel that Kernel commands set (R149). -/
structure KCfg where
  role : Nat
  kind : Nat
  gang : Nat
  freq : Nat
  group : Nat
  gainV : Nat
  gainI : Nat
  ofsV : Int
  ofsI : Int
  phase : Int
  vfs : Nat
  ifs : Nat
  deriving DecidableEq, Repr

/-- A channel's configuration after factory formatting (R149). -/
def KCfg.reset : KCfg := { role := 0, kind := 0, gang := 0, freq := 0, group := 0, gainV := 0, gainI := 0, ofsV := 0, ofsI := 0, phase := 0, vfs := 0, ifs := 0 }

/-- The decimator of a bitstream (R144): the three integrators and the three combs of its sinc3 stage, whose outputs of at most 2,500³ in magnitude 48 bits hold, and the newest eight outputs, newest first, that its FIR works on. -/
structure KDec where
  i1 : BitVec 48
  i2 : BitVec 48
  i3 : BitVec 48
  c1 : BitVec 48
  c2 : BitVec 48
  c3 : BitVec 48
  outs : List Int
  deriving DecidableEq, Repr

/-- A bitstream (R144, R170): `stuck` its flag, `clean` how many samples it has run without a stuck run since, `run` the equal bits that end with its last one, and its decimator. -/
structure KStream where
  stuck : Bool
  clean : Nat
  run : Nat
  last : Bool
  dec : KDec
  deriving DecidableEq, Repr

/-- A bitstream before its first bit. -/
def KStream.reset : KStream := { stuck := false, clean := 0, run := 0, last := false, dec := { i1 := 0, i2 := 0, i3 := 0, c1 := 0, c2 := 0, c3 := 0, outs := [] } }

/-- The zero-crossing detector of an AC channel (R167, R168): the last sample below 0 and its instant in 10 ns periods of the timing clock, the pending crossing,
the last crossing declared and the periods held (newest first) in µs, the samples since a crossing and whether R168 has declared that gap, the run of periods within 45 Hz to 65 Hz. -/
structure KZc where
  armed : Bool
  negV : Int
  negT : Nat
  cand : Option Nat
  last : Option Nat
  periods : List Nat
  since : Nat
  gap : Bool
  goodRun : Nat
  noZc : Bool
  deriving DecidableEq, Repr

/-- The detector before any sample. -/
def KZc.reset : KZc := { armed := false, negV := 0, negT := 0, cand := none, last := none, periods := [], since := 0, gap := false, goodRun := 0, noZc := false }

/-- The open demand interval of a channel (R227): its start, the billing registers and accumulators at the start (`o` for the outlet accumulators), tariff data and FLAGS. -/
structure KInterval where
  seq : Nat
  startUs : Int
  startOfs : Int
  startPip : Nat
  imp0 : Nat
  exp0 : Nat
  oImp0 : Nat
  oExp0 : Nat
  accImp0 : Nat
  accExp0 : Nat
  tariff0 : Nat
  switches : Nat
  flags : Nat
  deriving DecidableEq, Repr

/-- An open Kernel session (R612); `impAcc` and `expAcc` the outlet accumulators, `tImp0` and `tExp0` the channel's tariff registers at its open, in accumulator units. -/
structure KSession where
  id : Nat
  outlet : Nat
  startUs : Int
  startOfs : Int
  startPip : Nat
  imp0 : Nat
  exp0 : Nat
  impAcc : Nat
  expAcc : Nat
  tImp0 : Tab Nat
  tExp0 : Tab Nat
  tariff0 : Nat
  switches : Nat
  flags : Nat
  deriving DecidableEq, Repr

/-- A metering channel: `cfg` as commanded, `act` in effect (R150); histories newest first, values with 16 fraction bits in mV and mA, powers with 32 fraction bits in µW;
accumulators in units of 2⁻⁴⁰ µWh (R160); `rawV` and `rawI` the newest calibrated samples of the streams (R156); `buf` the first eight (voltage, current) samples since the last latch (R148); `below` whether every sample since the last latch meets R173's test;
`closeImp`, `closeExp` and `closeReg` the tariff registers (accumulator units) and the outlet import register (mWh) at the last session's close. -/
structure KChan where
  cfg : KCfg
  act : KCfg
  sv : KStream
  si : KStream
  rawV : List Int
  rawI : List Int
  vHist : List Int
  iHist : List Int
  pHist : List Int
  buf : List (Int × Int)
  shown : Int × Int × Int × Int
  accImp : Nat
  accExp : Nat
  oAccImp : Nat
  oAccExp : Nat
  tImp : Tab Nat
  tExp : Tab Nat
  mdImp : Tab Nat
  mdExp : Tab Nat
  satV : Bool
  satI : Bool
  satVNow : Bool
  satINow : Bool
  satCnt : Nat
  stuckCnt : Nat
  noZcCnt : Nat
  zc : KZc
  below : Bool
  iBreak : Option Nat
  liveBelow : Bool
  settling : Bool
  balBase : Int
  seq : Nat
  open_ : Option KInterval
  partialNext : Bool
  session : Option KSession
  gangSession : Nat
  closeImp : Tab Nat
  closeExp : Tab Nat
  closeReg : Nat
  lastInterval : Nat
  lastReceipt : Nat
  deriving DecidableEq, Repr

/-- A channel after the Kernel's first power-on. -/
def KChan.reset : KChan :=
  { cfg := KCfg.reset, act := KCfg.reset, sv := KStream.reset, si := KStream.reset, rawV := [], rawI := [], vHist := [], iHist := [], pHist := [], buf := [], shown := (0, 0, 0, 0),
    accImp := 0, accExp := 0, oAccImp := 0, oAccExp := 0, tImp := [], tExp := [], mdImp := [], mdExp := [],
    satV := false, satI := false, satVNow := false, satINow := false, satCnt := 0, stuckCnt := 0, noZcCnt := 0, zc := KZc.reset,
    below := true, iBreak := none, liveBelow := false, settling := false, balBase := 0, seq := 0, open_ := none, partialNext := false,
    session := none, gangSession := 0, closeImp := [], closeExp := [], closeReg := 0, lastInterval := 0, lastReceipt := 0 }

/-- A modulator clock (R141, R143): rate 1 to 3, direction, fault, and the settling samples left (R172); `next` a change in force from the next pip. -/
structure KMclk where
  rate : Nat
  input : Bool
  fault : Bool
  settle : Nat
  next : Option (Nat × Bool)
  deriving DecidableEq, Repr

/-- A pulse output (R176 to R179): its CFG image, residue in accumulator units, pulses pending and emitted, the sample of the last pulse, the level of MPULSE_n (R178); `next` an image in force from the next pip. -/
structure KPulse where
  cfg : Word
  residue : Nat
  pending : Nat
  count : Nat
  lastAt : Option Nat
  level : Bool
  next : Option Word
  deriving DecidableEq, Repr

/-- A balance group (R180, R181), `failing` from count failed checks in a row to count passes in a row; `next` images in force from the next pip. -/
structure KBal where
  cfg : Word
  tol : Word
  result : Int
  failCnt : Nat
  runFail : Nat
  runPass : Nat
  failing : Bool
  next : Option (Word × Word)
  deriving DecidableEq, Repr

/-- A ledger record (R192, R197): counter, type, its bytes, the session of a RECEIPT, its channel, and the ring block it lies in once programmed. -/
structure KRec where
  ctr : Nat
  typ : Nat
  chan : Nat
  session : Nat
  bytes : Bytes
  block : Nat
  deriving DecidableEq, Repr

/-- A tariff table (R218): day types as lists of (tariff, minute), seasons, special days, billing boundaries, offset changes, and its bytes. -/
structure Tariff where
  version : Nat
  n : Nat
  len : Nat
  activation : Int
  stdOfs : Int
  dayTypes : List (List (Nat × Nat))
  seasons : List (Nat × Nat × List Nat)
  specials : List (Nat × Nat × Nat × Nat)
  boundaries : List (Nat × Nat × Nat × Nat)
  changes : List (Int × Int)
  raw : Bytes
  deriving DecidableEq, Repr

/-- The tariff in force until a table is activated (R221): tariff 0, 15 minutes, offset 0, a monthly boundary on day 1 at minute 0. -/
def Tariff.default : Tariff :=
  { version := 0, n := 1, len := 15, activation := 0, stdOfs := 0, dayTypes := [[(0, 0)]], seasons := [(1, 1, [0, 0, 0, 0, 0, 0, 0])], specials := [],
    boundaries := [(1, 0, 1, 0)], changes := [], raw := [] }

/-- A Kernel command that waits (R184), with the count of the Kernel's sample latches at its arrival: an opcode of the 0x03xx or 0x04xx family with its payload and the host command it carries, the time unit's renumbering,
or one of the session task's: a session open with its id, a session close and whether the Stone forced the opening, an I_break in 0.1 A. -/
inductive KCmd where
  | host (opcode : Nat) (payload : Bytes) (id : Nat) (arrival : Nat)
  | renumber (l k : Nat) (arrival : Nat)
  | sessOpen (n id : Nat) (arrival : Nat)
  | sessClose (n : Nat) (forced : Bool) (arrival : Nat)
  | iBreak (n v : Nat) (arrival : Nat)
  deriving DecidableEq, Repr

/-- The power-fail snapshot of a channel (R238): accumulators in units of 2⁻⁴⁰ µWh, tariff registers in mWh, maxima, tariff in force. -/
structure KSnapChan where
  imp : Nat
  exp : Nat
  oImp : Nat
  oExp : Nat
  tImp : Tab Nat
  tExp : Tab Nat
  mdImp : Tab Nat
  mdExp : Tab Nat
  seq : Nat
  lastInterval : Nat
  lastReceipt : Nat
  deriving DecidableEq, Repr

/-- A power-fail snapshot of the Kernel: legal time in µs, PFAIL pip, and the channels. -/
structure KSnap where
  us : Int
  pip : Nat
  chans : Tab KSnapChan
  pulses : List Nat
  deriving DecidableEq, Repr

/-- A channel of a snapshot before it is filled. -/
def KSnapChan.zero : KSnapChan := { imp := 0, exp := 0, oImp := 0, oExp := 0, tImp := [], tExp := [], mdImp := [], mdExp := [], seq := 0, lastInterval := 0, lastReceipt := 0 }

/-- A configuration copy in the Kernel ledger flash (R188, R190, R191, R232): its sequence and SHA-256, and what it holds. -/
structure KConf where
  seq : Nat
  hash : Bytes
  sealCount : Nat
  lastKey : Option Int
  limitMs : Nat
  signerKey : Option Bytes
  chans : List KCfg
  pulses : List Word
  bals : List (Word × Word)
  tariff : Tariff
  deriving DecidableEq, Repr

/-- A Kernel firmware slot. -/
structure KSlot where
  version : Word
  valid : Bool
  deriving DecidableEq, Repr

/-- A Kernel firmware load (R208). -/
structure KLoad where
  len : Nat
  version : Nat
  data : Bytes
  deriving DecidableEq, Repr

/-- The Kernel. Legal time `us` is UTC in µs since 1970 at the last sample instant, and `lag` how far in µs the present instant lies after that; `latches` counts the sample latches, and `lastCp` and `lastBal` are
the latches of the last CHECKPOINT at a 15-minute pip (R199) and of the last balance check (R180); `ring` holds the programmed records newest first and `buf` those awaiting programming oldest first;
`blockNo` and `blockUsed` the block being filled and `oldestBlock` the oldest held; `mode` 0 ALIGNED, 1 FREE, 2 REALIGNING;
`limNext` the limits in force from the next pip (R150); `nowPip` the pip of the last latch; `clk` the timing-clock periods of 10 ns since the power-on and `phase` how far the sample grid
lies after the pip boundaries in them (R146, R147); `sealA` the bit driven on METSEAL_A (R186); `copyA` and `copyB` the configuration copies; `lastKey` the key of the last boundary fired;
`tamperDue` whether a TAMPER record waits for the Kernel to run (R207); `pfail` whether the power-fail work of R235 is done and `outage` the legal time and pip at its end; `confirmed` the outlets whose I_break the Kernel has taken, for the Shell to see;
`done` the replies the Kernel has produced (command, status, payload) and `stored` the receipts it has stored (outlet, counter, session), both for the Shell to take. -/
structure Kernel where
  chans : Tab KChan
  mclks : List KMclk
  pulses : List KPulse
  bals : List KBal
  sampleNo : Nat
  nowPip : Nat
  clk : Nat
  phase : Int
  nSince : Nat
  latchCount : Nat
  mode : Nat
  regular : Nat
  strobeAge : Nat
  alignLost : Nat
  latches : Nat
  lastBal : Option Nat
  lastBalSample : Nat
  sealRun : Nat
  sealWin : List Bool
  sealA : Bool
  sealOpen : Bool
  sealCount : Nat
  sealLastPip : Nat
  us : Int
  lag : Nat
  slew : Int
  slewTick : Nat
  suspect : Bool
  tamperDue : Bool
  clockFault : Bool
  krefFault : Bool
  slewCnt : Nat
  stepCnt : Nat
  lastStep : Int
  tariff : Tariff
  staged : Option Tariff
  stagedAt : Int
  load : Option (Nat × Nat × Bytes)
  tariffNow : Nat
  lastBoundary : Int
  periodSeq : Nat
  periodStart : Int
  lastKey : Option Int
  repeatCnt : Nat
  outageCnt : Nat
  lastOutage : Nat
  limitMs : Nat
  signerKey : Option Bytes
  limNext : Option (Nat × Bytes)
  head : Nat
  headHash : Bytes
  ring : List KRec
  buf : List KRec
  blockNo : Nat
  blockUsed : Nat
  oldestBlock : Nat
  archived : Nat
  overwritten : Nat
  unsignedRun : Nat
  firstUnsigned : Option Nat
  lastCp : Option Nat
  unsignedCnt : Nat
  refusedCnt : Nat
  signer : Nat
  mfault : Nat
  fwLoad : Option KLoad
  fwVerified : Option Nat
  slots : List KSlot
  slotRun : Nat
  slotNext : Option Nat
  copyA : KConf
  copyB : KConf
  inbox : List KCmd
  waits : List (Nat × Nat)
  snap : Option KSnap
  snapPend : Option (KSnap × Nat)
  pfail : Bool
  commitOk : Bool
  outage : Option (Int × Nat)
  confirmed : List Nat
  done : List (Nat × Nat × Bytes)
  stored : List (Nat × Nat × Nat)
  draws : Nat
  deriving DecidableEq, Repr

/-- A modulator clock after the Kernel's power-on (R141). -/
def KMclk.reset : KMclk := { rate := 2, input := false, fault := false, settle := 0, next := none }

/-- A pulse output after the Kernel's power-on. -/
def KPulse.reset : KPulse := { cfg := 0, residue := 0, pending := 0, count := 0, lastAt := none, level := false, next := none }

/-- A balance group after the Kernel's power-on. -/
def KBal.reset : KBal := { cfg := 0, tol := 0x03000000, result := 0, failCnt := 0, runFail := 0, runPass := 0, failing := false, next := none }

/-- The bytes of a configuration copy over which its SHA-256 is taken; the spec gives no layout (DESIGN CHOICE, log entry 80). -/
def KConf.image (c : KConf) : Bytes :=
  let w := fun (n : Nat) => (List.range 8).map fun i => byte (n / 256 ^ i)
  let z := fun (i : Int) => w (i % (2 ^ 64 : Nat)).toNat
  w c.seq ++ w c.sealCount ++ z (c.lastKey.getD 0) ++ w c.limitMs ++ c.signerKey.getD []
    ++ (c.chans.flatMap fun x => w x.role ++ w x.kind ++ w x.gang ++ w x.freq ++ w x.group ++ w x.gainV ++ w x.gainI ++ z x.ofsV ++ z x.ofsI ++ z x.phase ++ w x.vfs ++ w x.ifs)
    ++ (c.pulses.flatMap fun x => w x.toNat) ++ (c.bals.flatMap fun x => w x.1.toNat ++ w x.2.toNat) ++ c.tariff.raw

/-- A configuration copy with its SHA-256. -/
def KConf.sealed (c : KConf) : KConf := { c with hash := Config.sha256 c.image }

/-- Whether a copy's SHA-256 is right. -/
def KConf.ok (c : KConf) : Bool := c.hash = Config.sha256 c.image

/-- A copy that factory formatting writes (R613). -/
def KConf.factory (seq : Nat) : KConf :=
  KConf.sealed { seq := seq, hash := [], sealCount := 0, lastKey := none, limitMs := 2000, signerKey := none, chans := List.replicate 32 KCfg.reset, pulses := List.replicate 4 0,
                 bals := List.replicate 8 (0, 0x03000000), tariff := Tariff.default }

/-- The Kernel with a factory-formatted ledger flash (R613), before its first power-on record. -/
def Kernel.factory : Kernel :=
  { chans := [], mclks := [KMclk.reset, KMclk.reset, KMclk.reset, KMclk.reset],
    pulses := [KPulse.reset, KPulse.reset, KPulse.reset, KPulse.reset],
    bals := [KBal.reset, KBal.reset, KBal.reset, KBal.reset, KBal.reset, KBal.reset, KBal.reset, KBal.reset],
    sampleNo := 0, nowPip := 0, clk := 0, phase := 0, nSince := 0, latchCount := 0, mode := 1, regular := 0, strobeAge := 2, alignLost := 0, latches := 0, lastBal := none, lastBalSample := 0,
    sealRun := 0, sealWin := [], sealA := false, sealOpen := false, sealCount := 0, sealLastPip := 0, us := 0, lag := 0, slew := 0, slewTick := 0, suspect := false, tamperDue := false, clockFault := false,
    krefFault := false, slewCnt := 0, stepCnt := 0, lastStep := 0, tariff := Tariff.default, staged := none, stagedAt := 0, load := none, tariffNow := 0,
    lastBoundary := 0, periodSeq := 0, periodStart := 0, lastKey := none, repeatCnt := 0, outageCnt := 0, lastOutage := 0, limitMs := 2000, signerKey := none, limNext := none,
    head := 0, headHash := [], ring := [], buf := [], blockNo := 0, blockUsed := 0, oldestBlock := 0, archived := 0, overwritten := 0, unsignedRun := 0,
    firstUnsigned := none, lastCp := none, unsignedCnt := 0, refusedCnt := 0, signer := 0, mfault := 0, fwLoad := none, fwVerified := none,
    slots := [⟨Config.kernVersion, true⟩, ⟨0, false⟩], slotRun := 0, slotNext := some 0, copyA := KConf.factory 1, copyB := KConf.factory 2, inbox := [], waits := [], snap := none, snapPend := none,
    pfail := false, commitOk := true, outage := none, confirmed := [], done := [], stored := [], draws := 18446744073709551616 }

/-! ### BILL (07_tariffs_billing_credit.md) -/

/-- A fleet account (class F). -/
structure Account where
  balance : Int
  limit : Nat
  mask : Nat
  blocked : Bool
  refs : List Nat
  deriving DecidableEq, Repr

/-- What an account command does: set it, delete it, or adjust its balance under a reference (R246, R247). -/
inductive AcctOp where
  | set (balance : Int) (limit mask : Nat) (blocked : Bool)
  | delete
  | adjust (delta : Int) (ref : Nat)
  deriving DecidableEq, Repr

/-- An account change that acts at the latch of pip `due` (R246). -/
structure AcctChange where
  acct : Nat
  due : Nat
  op : AcctOp
  deriving DecidableEq, Repr

/-- A transaction record (R252). -/
structure TxnRec where
  seq : Nat
  pip : Nat
  outlet : Nat
  event : Nat
  session : Nat
  imp : Nat
  exp : Nat
  tariff : Nat
  src : Nat
  reason : Nat
  cls : Nat
  acct : Nat
  balance : Int
  cost : Int
  ref : Nat
  deriving DecidableEq, Repr

/-- The accounting of an outlet's session (R241, R251): class 0 none, 1 F, 2 W; token class; credit in cu or mWh; remainder below 1 cu in 10⁻⁶ cu; the last tariff registers seen. -/
structure BillOut where
  active : Bool
  cls : Nat
  acct : Nat
  tokenCls : Nat
  tokenId : Nat
  credit : Int
  cost : Int
  rem : Int
  lastImp : Tab Nat
  lastExp : Tab Nat
  lastReg : Nat
  session : Nat
  src : Nat
  stopped : Bool
  meterAt : Nat
  deriving DecidableEq, Repr

/-- No session accounting. -/
def BillOut.none : BillOut :=
  { active := false, cls := 0, acct := 0xFFFF, tokenCls := 0, tokenId := 0, credit := 0, cost := 0, rem := 0, lastImp := [], lastExp := [], lastReg := 0, session := 0, src := 0, stopped := false, meterAt := 0 }

/-- A used token (R250). -/
structure UsedToken where
  id : Nat
  expiry : Nat
  deriving DecidableEq, Repr

/-- The BILL block; `flash` what R242 saved: balances and the open sessions' accounting; `writes` numbers the writes of the used list to flash (the model's own field, log entry 52). -/
structure Bill where
  accounts : Tab (Option Account)
  changes : List AcctChange
  outs : Tab BillOut
  used : List UsedToken
  txns : List TxnRec
  flashAccounts : Tab (Option Account)
  flashOuts : Tab BillOut
  midnight : Int
  writes : Nat
  deriving DecidableEq, Repr

/-- BILL with nothing loaded. -/
def Bill.reset : Bill := { accounts := [], changes := [], outs := [], used := [], txns := [], flashAccounts := [], flashOuts := [], midnight := 0, writes := 0 }


/-! ### The Husk (08_vehicle_links_husk.md) -/

/-- What a frame of a lane holds (R259): data for the Shell, a SLAC message, CM_VALIDATE, CM_SET_KEY, or another management message. -/
inductive PlcFrame where
  | data (bytes : Bytes)
  | slac
  | validate
  | setKey
  | other
  deriving DecidableEq, Repr

/-- A frame that a lane sends: the SLAC answers, with what they carry (R268, R272, R274), the answers to CM_VALIDATE ("not required") and CM_SET_KEY (R259), data of the vehicle's session,
a frame of the mesh, a test frame of a ROBO mode. -/
inductive LaneMsg where
  | parmCnf
  | attenChar (run : Bytes) (groups : List Nat)
  | matchCnf (run nid nmk : Bytes)
  | notRequired
  | setKeyCnf
  | data
  | mesh
  | test (mode : Nat)
  deriving DecidableEq, Repr

/-- A context in use (R260): its lane, whether it receives, its acceptance or request pip and order, whether the frame's last symbol has arrived and its SACK is decided,
whether its miss was counted (R265), the number of the slice it last had, and the frame it sends. -/
structure HCtx where
  lane : Nat
  rx : Bool
  acc : Nat
  seq : Nat
  lastSym : Bool
  sack : Bool
  late : Bool
  served : Nat
  msg : Option LaneMsg
  deriving DecidableEq, Repr

/-- The last SLAC decision that involved a lane (SLAC_PROFILE_GET): code 0 decided here, 1 withheld, 2 ambiguous. -/
structure SlacLast where
  run : Bytes
  sounds : Nat
  code : Nat
  groups : List Nat
  figs : List Nat
  deriving DecidableEq, Repr

/-- A lane: bytes reserved or filled in its 16 KB receive ring, the frames delivered into it (and whether each was late, R265) with the ring's write index (R263), the RMS of the last 16 windows without a preamble (newest first), whether samples were blanked in this pip,
whether its front end is in reset, the matched RunID, the last decision; whether the Shell has loaded its station address, NID and NMK (whose values are `Config`'s, log entry 81); the last SACK it sent (true: positive, R264) and the last frame it sent. -/
structure HLane where
  ring : Nat
  frames : List (PlcFrame × Bool)
  wr : Nat
  noise : List Int
  blank : Bool
  down : Bool
  matched : Option Bytes
  last : Option SlacLast
  net : Bool
  sack : Option Bool
  sent : Option LaneMsg
  deriving DecidableEq, Repr

/-- A lane at reset. -/
def HLane.reset : HLane :=
  { ring := 0, frames := [], wr := 0, noise := [], blank := false, down := false, matched := none, last := none, net := false, sack := none, sent := none }

/-- How a RunID stands. -/
inductive SlacState where
  | sounding
  | decided (lane : Option Nat)
  | ambiguous (lanes : List Nat)
  | plain
  deriving DecidableEq, Repr

/-- What a lane has captured of a RunID: the sounds it heard and the sums of its 58 groups over them. -/
structure SlacCap where
  lane : Nat
  heard : Nat
  sums : List Nat
  deriving DecidableEq, Repr

/-- A vehicle that sounds (R269): its RunID, the sounds its CM_START_ATTEN_CHAR.IND announced, when that was decoded, the sounds captured, the captures of each lane. -/
structure SlacRun where
  run : Bytes
  announced : Nat
  start : Nat
  sounds : Nat
  caps : List SlacCap
  st : SlacState
  deriving DecidableEq, Repr

/-- A LANE_TX_TEST under way, with the frames it has sent. -/
structure TxTest where
  lane : Nat
  mode : Nat
  till : Nat
  id : Nat
  sent : Nat
  deriving DecidableEq, Repr

/-- The Husk: contexts, slice count, whether all 8 contexts were busy in this pip, whether its front ends are in reset with the commands that wait for them,
SLAC runs, transmit tests; `txq` the Shell's transmit requests that found no context (R260); for each T1S port the pip after the one in which node 1 was last heard, whether it was heard in
this PLCA cycle, the node whose transmit opportunity runs (0 the port's own), and the frames that wait for the port's own transmit opportunity. -/
structure Husk where
  ctxs : List HCtx
  nextSeq : Nat
  sliceNo : Nat
  full : Bool
  resetting : Bool
  resetWaits : List Nat
  lanes : Tab HLane
  runs : List SlacRun
  tests : List TxTest
  txq : List (Nat × LaneMsg)
  node1 : Tab Nat
  cycle1 : Tab Bool
  t1sNode : Tab Nat
  t1sq : Tab Nat
  deriving DecidableEq, Repr

/-- The Husk after its reset. -/
def Husk.reset : Husk :=
  { ctxs := [], nextSeq := 1, sliceNo := 0, full := false, resetting := false, resetWaits := [], lanes := [], runs := [], tests := [], txq := [], node1 := [], cycle1 := [], t1sNode := [], t1sq := [] }

/-! ### The key store and tamper logic (16_keys_and_tamper.md) -/

/-- A key in a slot (R471): use code 0 for an empty slot; origin 1 generated, 2 imported. -/
structure KeySlot where
  use : Nat
  alg : Nat
  origin : Nat
  label : Nat
  version : Nat
  key : Bytes
  deriving DecidableEq, Repr

/-- An empty slot. -/
def KeySlot.empty : KeySlot := { use := 0, alg := 0, origin := 0, label := 0, version := 0, key := [] }

/-- A load, clear, generation or import that has not completed (R478): the slot's content after it, the blob to persist, whether the persisted blob is deleted, and the reply. -/
structure KeyOp where
  id : Nat
  key : KeySlot
  blob : Option Bytes
  forget : Bool
  reply : Bytes
  load : Bool
  due : Option Nat
  deriving DecidableEq, Repr

/-- The key store: KEK generation in the key cell (R470), slots, operations under way, blobs persisted in Shell flash, certificate sets in force and being written (R483), entropy draws. -/
structure KeyUnit where
  kekGen : Nat
  slots : Tab KeySlot
  ops : List (Nat × KeyOp)
  persist : Tab Bytes
  chains : List Bytes
  staging : List Bytes
  draws : Nat
  deriving DecidableEq, Repr

/-- The 16-byte header of a blob (R473). -/
def keyHeader (k : KeySlot) : Bytes :=
  [0x4B, 0x42, 0x4B, 0x42, 1, byte k.use, byte k.alg, byte k.origin, byte k.label, byte (k.label / 256), byte (k.label / 65536), byte (k.label / 16777216),
   byte k.version, byte (k.version / 256), byte (k.version / 65536), byte (k.version / 16777216)]

/-- Krovham's provisioning WRAP key (R2, R481). -/
def provisioningKey : KeySlot := { use := 3, alg := 5, origin := 2, label := 0, version := 0, key := Config.wrapKey }

/-- The key store as shipped: keyed once, the provisioning WRAP key as persisted blob of slot 0 (R481). -/
def KeyUnit.factory : KeyUnit :=
  { kekGen := 1, slots := [], ops := [], persist := [(0, keyHeader provisioningKey ++ Config.kwpWrap (Config.kek 1) (keyHeader provisioningKey ++ Config.wrapKey))],
    chains := [[], [], [], []], staging := [[], [], [], []], draws := 0 }

/-! ### The depot mesh (09_depot_mesh.md) -/

/-- The states of MESH_STATUS.state. -/
inductive MeshSt where
  | off | scanning | joining | member | coordinator
  deriving DecidableEq, Repr

/-- A mesh message (R298), with the epoch in which it was received or originated; `up` while one to all nodes climbs to the coordinator. -/
structure MeshMsg where
  typ : Nat
  flags : Nat
  src : Nat
  dst : Nat
  seq : Nat
  hops : Nat
  payload : Bytes
  epoch : Nat
  up : Bool
  deriving DecidableEq, Repr

/-- The map (R288): version, coordinator identity, reassigned mask, slot owners and parents by node id (0xFE coordinator, 0xFF unused). -/
structure MeshMap where
  version : Nat
  ident : Bytes
  reassigned : Nat
  owners : List Nat
  parents : List Nat
  deriving DecidableEq, Repr

/-- No map. -/
def MeshMap.empty : MeshMap := { version := 0, ident := [], reassigned := 0, owners := List.replicate 64 0xFF, parents := List.replicate 64 0xFF }

/-- What a node knows of a neighbour: SNR readings with their period, path cost advertised, last period heard, and which of the last 64 frames to it were resent (newest first). -/
structure MeshNbr where
  snrs : List (Nat × Nat)
  cost : Nat
  heard : Nat
  tx : List Bool
  deriving DecidableEq, Repr

/-- A neighbour never heard. -/
def MeshNbr.none : MeshNbr := { snrs := [], cost := 255, heard := 0, tx := [] }

/-- An entry of the receive ring (R303). -/
structure MeshRx where
  typ : Nat
  src : Nat
  seq : Nat
  pip : Nat
  payload : Bytes
  deriving DecidableEq, Repr

/-- An action that waits for its launch instant (R305). -/
structure MeshAct where
  src : Nat
  seq : Nat
  action : Nat
  outlet : Nat
  arg : Nat
  period : Nat
  offset : Nat
  answer : Bool
  deriving DecidableEq, Repr

/-- A slot frame without a positive SACK yet: its messages (own ones marked), the next hop, how often it was sent again. -/
structure MeshFlight where
  msgs : List (MeshMsg × Bool)
  hop : Nat
  tries : Nat
  deriving DecidableEq, Repr

/-- The mesh MAC. `periodAt` when the current period began, in periods of 250 µs that TB1 does not move (`Dev.osc`; R287), and `slotsSent` the slots used in it; `count` the periods since enabling (the time base of hearing and holding); `backup` whether it acts as a backup of rank 0
whatever its role (R308, R310); `heardNet` a frame of its network with an epoch at least its own was heard in this scan; `quietFrom` the period since which a scanning backup has heard none (R307); `idents` the coordinator's list of identities;
`seen` the last 32 (epoch, sequence) of each source, and `climbed` those of messages to all nodes that passed on their way up; `asked` the identities whose JOIN_REQ it forwarded (R290); `ended` this period's end was handled; `refAge` the age in a frame of the reference in this period; `hold` it must not send until it holds the map of an epoch heard (R309);
`lastFrame` and `lastSack` the last frame and SACK it sent (the model's own, log entry 10). -/
structure Mesh where
  st : MeshSt
  node : Nat
  parent : Nat
  missed : Nat
  epoch : Nat
  period : Nat
  periodAt : Nat
  count : Nat
  slotsSent : List Nat
  scanFrom : Nat
  quietFrom : Nat
  heardNet : Bool
  backup : Bool
  storedEpoch : Nat
  pathCost : Nat
  lastChange : Nat
  map : MeshMap
  nbrs : Tab MeshNbr
  idents : List (Bytes × Nat)
  leavers : List Nat
  own : List MeshMsg
  transit : List MeshMsg
  flight : Option MeshFlight
  rx : List MeshRx
  seen : Tab (List (Nat × Nat))
  climbed : Tab (List (Nat × Nat))
  asked : List Bytes
  ended : Bool
  nextSeq : Nat
  joinParent : Nat
  joinAt : Nat
  joinSent : Nat
  joinTries : Nat
  refAge : Option Nat
  hold : Option Nat
  sendMap : Bool
  leaving : Bool
  rescan : Bool
  waitTill : Nat
  actions : List MeshAct
  lastFrame : Bytes
  lastSack : Option Bool
  deriving DecidableEq, Repr

/-- The mesh MAC after a reset of the Husk; the stored epoch is in Shell flash. -/
def Mesh.reset : Mesh :=
  { st := .off, node := 0xFF, parent := 0xFF, missed := 0, epoch := 0, period := 0, periodAt := 0, count := 0, slotsSent := [], scanFrom := 0, quietFrom := 0, heardNet := false, backup := false,
    storedEpoch := 0, pathCost := 255, lastChange := 0, map := MeshMap.empty, nbrs := [], idents := [], leavers := [], own := [], transit := [], flight := none, rx := [], seen := [], climbed := [], asked := [], ended := false,
    nextSeq := 0, joinParent := 0xFF, joinAt := 0, joinSent := 0, joinTries := 0, refAge := none, hold := none, sendMap := false, leaving := false, rescan := false, waitTill := 0,
    actions := [], lastFrame := [], lastSack := none }
/-! ### The display (15_status_display.md) -/

/-- The updates of a region (R463): the running one with the line it handles next and the lines it has copied, and the pending one. -/
structure RegionUpd where
  run : Option Nat
  line : Nat
  copied : Nat
  pending : Option Nat
  deriving DecidableEq, Repr

/-- A region with no update. -/
def RegionUpd.none : RegionUpd := { run := .none, line := 0, copied := 0, pending := .none }

/-- The display memory and what stands behind DISP_STATUS: the active and staging buffers by byte (y × 64 + x / 2, the even x in bits [3:0]; an unlisted byte is 0, log entry 13), the stress counters
and accumulators by pixel (y × 128 + x), the counters saved in flash, the updates by region, and a band that takes effect at the next frame start; the lines as the scan has latched them (R451), the steps that each pixel's last drive sinks and those of the drive before its line's slot, to which its column is precharged (R449), the pips since the frame began
(none while no scan runs), the setting that VPANEL has reached in 0.1 V (0 while it is off; R456), the words that this frame shows at grey 0 (R510), and the region whose line comes next (R462). -/
structure DispU where
  active : Tab Byte
  staging : Tab Byte
  stress : Tab Nat
  accum : Tab Nat
  saved : Tab Nat
  upd : Tab RegionUpd
  bandNext : Option Nat
  shown : Tab Byte
  driven : Tab Nat
  pre : Tab Nat
  age : Option Nat
  vset : Nat
  grey0 : List Nat
  turn : Nat
  deriving DecidableEq, Repr

/-- The display after POR. -/
def DispU.reset : DispU := { active := [], staging := [], stress := [], accum := [], saved := [], upd := [], bandNext := none, shown := [], driven := [], pre := [], age := none, vset := 0, grey0 := [], turn := 0 }

/-! ### Card reader, tag port and keypad (14_tags_and_cards.md) -/

/-- A card that a poll cycle listed (RDR_LIST). -/
structure CardSeen where
  uid : Bytes
  sak : Nat
  atqa : Nat
  offered : Bool
  deriving DecidableEq, Repr

/-- A UID that counts as present (R429): the cycles in a row that have not found it, and whether it has been offered. -/
structure CardHere where
  uid : Bytes
  missed : Nat
  offered : Bool
  deriving DecidableEq, Repr

/-- What the reader has sent last in an exchange, apart from R(NAK) and S(WTX) (R431). -/
inductive RdrStage where
  | wupa
  | select
  | rats
  | blocks
  deriving DecidableEq, Repr

/-- What the reader sends in an exchange (R431): WUPA, SELECT by the full UID, RATS, an I-block with its chaining bit, R(NAK), R(ACK), the answer to an S(WTX), S(DESELECT). -/
inductive RdrBlk where
  | wupa
  | select (uid : Bytes)
  | rats
  | i (more : Bool) (inf : Bytes)
  | nak
  | ack
  | wtx (m : Nat)
  | deselect
  deriving DecidableEq, Repr

/-- An RDR_APDU exchange (R431): its command, the listed card, what of the APDU is still to be sent, when it started, its stage, the card's FWI and FSC, when the wait began, the S(WTX) multiplier of this wait, whether R(NAK) has been sent, and what of the response has come. -/
structure CardExch where
  id : Nat
  uid : Bytes
  apdu : Bytes
  start : Nat
  stage : RdrStage
  fwi : Nat
  fsc : Nat
  since : Nat
  mult : Nat
  nak : Bool
  got : Bytes
  deriving DecidableEq, Repr

/-- An access that waits for the FRAM or is being served (R437): a host read or write of command `id`, a passport write with the bytes it writes once it is served, or a field reader's READ BINARY. -/
inductive FramAcc where
  | read (id off len : Nat)
  | write (id off : Nat) (data : Bytes)
  | passport (content : Option Bytes)
  | field (apdu : Bytes)
  deriving DecidableEq, Repr

/-- A key event of the ring of 32 (R443). -/
structure KeyEv where
  code : Nat
  press : Nat
  pip : Nat
  deriving DecidableEq, Repr

/-- What the tag port sends (R432, R434, R439): the ATQA, the SAK or the ATS; an I-block with its chaining bit; an S(WTX) with its WTXM. -/
inductive TagBlk where
  | plain (b : Bytes)
  | i (more : Bool) (inf : Bytes)
  | wtx (m : Nat)
  deriving DecidableEq, Repr

/-- The card-emulation front end of the tag port, which no state of the application cores stops (R432): whether an antenna was found at the last BOOT, whether it sees a field, its UID as a number, whether an ISO/IEC 14443-4 session is
open, with the field reader's FSD, and the passport is selected; the blocks of the last answer (the model's own, log entry 10). -/
structure TagFe where
  ant : Bool
  field : Bool
  uid : Nat
  session : Bool
  fsd : Nat
  selected : Bool
  out : List TagBlk
  deriving DecidableEq, Repr

/-- The front end without a field, before the first BOOT. -/
def TagFe.reset : TagFe := { ant := false, field := false, uid := 0, session := false, fsd := 0, selected := false, out := [] }

/-- The tag unit: the 16 KB FRAM by address (an unlisted byte is 0, log entry 14), the front end and its copy of TAG_EMU_CFG, the last cycle's list and the UIDs present, the pip of the next cycle, that at which a cycle now running began, the exchange, what the reader has sent in the last one; accesses with whether the first is being served; the hold, the cut;
keypad: whether each KP_ROW output is driven low, the pip from which the next scan can end, the key down, agreeing scans by key, the open entry (1 outlet, 2 token, 3 account) with its digits and the pip of its last key, the selection's end, the ring. -/
structure TagU where
  fram : Tab Byte
  fe : TagFe
  emuCell : Word
  list : List CardSeen
  here : List CardHere
  pollAt : Nat
  cycle : Option Nat
  exch : Option CardExch
  rdrOut : List RdrBlk
  accs : List FramAcc
  serving : Bool
  hold : Option Nat
  cut : Bool
  rows : List Bool
  scanAt : Nat
  down : Option Nat
  agree : Tab Nat
  entry : Nat
  digits : List Nat
  keyAt : Nat
  selTill : Nat
  ring : List KeyEv
  deriving DecidableEq, Repr

/-- The tag unit after power-on. -/
def TagU.reset : TagU :=
  { fram := [], fe := TagFe.reset, emuCell := 0x804, list := [], here := [], pollAt := 0, cycle := none, exch := none, rdrOut := [], accs := [], serving := false, hold := none, cut := false, rows := [false, false, false, false], scanAt := 0,
    down := none, agree := [], entry := 0, digits := [], keyAt := 0, selTill := 0, ring := [] }

/-! ### Shell firmware (17_firmware_update.md) -/

/-- A valid bank: the header fields of its image (R492), its bytes, and whether it is the image that left the factory, whose bytes the model does not hold. -/
structure FwuBank where
  version : Nat
  rollback : Nat
  safety : Nat
  carry : Nat
  oldest : Nat
  factory : Bool
  data : Bytes
  deriving DecidableEq, Repr

/-- The carry image (R497): its format, and what it holds of the blocks that the reset clears. -/
structure Carry where
  fmt : Nat
  regs : Tab Word
  out : OutUnit
  bill : Bill
  tag : TagU
  deriving DecidableEq, Repr

/-- The update unit: banks A and B, the open load (length, version, bytes), whether the idle bank is staged, the load's command that has not completed (with its reply), the bank marked to boot and the
bank that the fallback boots, what the next BOOT records as its reason, when the trial began, the carry image and whether one was asked for, and the pip in which the pause began. -/
structure FwuU where
  bankA : Option FwuBank
  bankB : Option FwuBank
  load : Option (Nat × Nat × Bytes)
  staged : Bool
  target : Bool
  busy : Option (Nat × Nat × Bytes)
  boot : Bool
  prev : Bool
  reason : Nat
  trialAt : Option Nat
  carry : Option Carry
  carryAsked : Bool
  pauseFrom : Option Nat
  deriving DecidableEq, Repr

/-- The factory image of bank A. -/
def FwuBank.factoryImage : FwuBank :=
  { version := Config.shellVersion.toNat, rollback := 0, safety := Config.safetyVersion.toNat, carry := Config.shellCarry, oldest := Config.shellOldest, factory := true, data := [] }

/-- The update unit as shipped: the factory image in bank A. -/
def FwuU.factory : FwuU :=
  { bankA := some FwuBank.factoryImage, bankB := none, load := none, staged := false, target := true, busy := none, boot := false, prev := false, reason := 0, trialAt := none,
    carry := none, carryAsked := false, pauseFrom := none }

/-! ### Memory integrity (18_memory_integrity_bist.md) -/

/-- An entry of the soft repair table, with how many spare rows of its macro it has used up to now (R512). -/
structure Repair where
  mem : Nat
  macro_ : Nat
  row : Nat
  uses : Nat
  deriving DecidableEq, Repr

/-- A defect that a march test of a row would find: memory, row, word of the row, bit; `spare` where the row is a spare one, then numbered 10 × macro + its place among the macro's spare rows (R522). -/
structure RowDefect where
  spare : Bool
  mem : Nat
  row : Nat
  word : Nat
  bit : Nat
  deriving DecidableEq, Repr

/-- The integrity unit: the soft repair table, its entries in use since the last BOOT that applied them, the rows recorded as failing since, the pip of the next row test, whether a logic test waits, the
chains to retest and the chains with a confirmed failure (with whether their block has been reset since), the words of the test windows that differ from 0 with its check byte (by memory × 512 + word),
and what each MEM_MBIST_RUN that is sent or waits would find, by its queue × 65,536 + tag (log entry 15). -/
structure MemU where
  repair : List Repair
  applied : List Repair
  failing : List (Nat × Nat)
  rowAt : Nat
  waits : Bool
  slice : Option Nat
  retest : List Nat
  bad : List (Nat × Bool)
  window : Tab (Option (BitVec 64 × Byte))
  defects : Tab (List RowDefect)
  deriving DecidableEq, Repr

/-- The integrity unit as shipped. -/
def MemU.reset : MemU := { repair := [], applied := [], failing := [], rowAt := 0, waits := false, slice := none, retest := [], bad := [], window := [], defects := [] }


/-! ### The Guard (10_guard_earth_fault.md) -/

/-- A common multiple of the counts of samples that a window of R317 can hold, two a pip up to 160: a mean over any of them times this is a whole number. -/
def winLcm : Nat := (List.range 80).foldl (fun a k => Nat.lcm a (k + 1)) 1 * 2

/-- A Guard channel behind its registers: `stream` its bitstream and decimator (R314, R329), `t` the pips it has worked through, by which its times count (R314). Samples are in 1/65,536 µA: `win` the last 160, newest first, and `zeros` the DC component at each of the last 400 pips
of this STANDBY, over its samples alone and times `winLcm`, `skip` that the samples of the pip now running began before it; `zero` the frozen zero as a sum and a count of samples; `stages` when the five stage timers started, `met` the cause of the stage that met its trip condition and when it did; `inj` what IMD_INJ drives (0 high impedance, 1 high, 2 low);
`imd` the pip W in which the window began, `imdT` when that was by `t`, with the sums of its four parts (R323) and the extreme samples of its two halves; `test` when TEST began and the two window sums taken;
`clean` samples since the last stuck run; `standby` pips of this STANDBY. -/
structure GChan where
  stream : KStream
  t : Nat
  skip : Bool
  imdT : Nat
  win : List Int
  zeros : List Int
  zero : Int × Nat
  stages : List (Option Nat)
  met : Option (Nat × Nat)
  inj : Nat
  imd : Option Nat
  sums : List Int
  peaks : Int × Int
  test : Option Nat
  testDc : List Int
  clean : Nat
  standby : Nat
  deriving DecidableEq, Repr

/-- A Guard channel at POR. -/
def GChan.reset : GChan :=
  { stream := KStream.reset, t := 0, skip := false, imdT := 0, win := [], zeros := [], zero := (0, 0), stages := [none, none, none, none, none], met := none, inj := 0, imd := none, sums := [0, 0, 0, 0], peaks := (0, 0), test := none, testDc := [], clean := 0,
    standby := 0 }

/-! ### Safety and the Stone (11_safety_stone.md) -/

/-- A safety pair: filtered levels (closed or high), when one channel left the other behind, fault (0 none, 1 DISCREPANCY, 2 TEST_PULSE, 3 CROSS, 4 ANTIVALENCE), whether both channels have
been seen open together, whether the start-up test holds and has ever been done, whether a reset is awaited; for TWO_HAND whether both hands were released together since the permit ended and when the first
hand was actuated and, while both are, the second; for RESET when the press began and how long the released press lasted; `permit` as the Stone evaluates it, and `cpu` as the safety task does where the two differ (R340). -/
structure SPair where
  a : Bool
  b : Bool
  disc : Option Nat
  fault : Nat
  openSeen : Bool
  startOk : Bool
  started : Bool
  needReset : Bool
  armed : Bool
  handAt : Option Nat
  second : Option Nat
  pressAt : Option Nat
  press : Option Nat
  permit : Bool
  cpu : Option Bool
  deriving DecidableEq, Repr

/-- A pair with both channels open. -/
def SPair.reset : SPair :=
  { a := false, b := false, disc := none, fault := 0, openSeen := false, startOk := false, started := false, needReset := false, armed := false, handAt := none, second := none, pressAt := none,
    press := none, permit := false, cpu := none }

/-- A Stone connection: received data, the last sequence, frames accepted in a row, when its watchdog falls due, whether a reset is awaited; for transmission the data and time of the last frame, the frame, and its transport, peer and UDP port (R365).
Times of the Stone and the safety task count periods of the dies' own oscillators (`Dev.osc`, R33). -/
structure SConn where
  data : Nat
  seq : Nat
  run : Nat
  due : Option Nat
  needReset : Bool
  lastTx : Option (Nat × Nat)
  frame : Bytes
  dest : Option (Nat × Nat × Nat)
  deriving DecidableEq, Repr

/-- A connection before its first frame. -/
def SConn.reset : SConn := { data := 0, seq := 0, run := 0, due := none, needReset := false, lastTx := none, frame := [], dest := none }

/-- The Stone and the safety task. `active` the active configuration's 51 words and `stored` what Shell flash holds with its CRC and version; `word` the last valid permit word's SLS bits and `rose` the bits
that have risen since the cut; `hbRun`, `hbLast` the run and the time of valid words, `hbLost` the time of the loss; ramp requests with their times and whether T_force still runs, T_force per outlet as passed, forced breaks,
the safety task's force-off mask for the frame of this pip and what it has decided in this pip for the next frame (R335), when each test-pulse output pulses next, and when its last pulse began and how many µs it lasts (R343); when HUB_STOP_N was asserted, the host's cause, whether another module drives the line low, the hub-stop request of the last valid word, and the test pulses in a row that each closed channel has missed. -/
structure SafeU where
  active : List Word
  stored : Option (List Word × Word × Word)
  pairs : Tab SPair
  conns : Tab SConn
  word : Nat
  rose : Nat
  hbRun : Nat
  hbLast : Nat
  hbLost : Option Nat
  ramp : Tab (Option (Nat × Bool))
  tForce : Tab Nat
  forced : Nat
  forceOff : Nat
  forceNext : Nat
  tpDue : List Nat
  tpPulse : Tab (Option (Nat × Nat))
  hubSince : Nat
  hubHost : Bool
  hubExt : Bool
  hubWord : Nat
  missed : Tab Nat
  deriving DecidableEq, Repr

/-- The Stone at POR, with no configuration stored. -/
def SafeU.reset : SafeU :=
  { active := [], stored := none, pairs := [], conns := [], word := 0, rose := 0, hbRun := 0, hbLast := 0, hbLost := none, ramp := [], tForce := [], forced := 0, forceOff := 0, forceNext := 0, tpDue := [], tpPulse := [], hubSince := 0,
    hubHost := false, hubExt := false, hubWord := 0, missed := [] }

/-! ### The switch die (12_load_switches.md) -/

/-- What a channel's output does: off, fully on, a duty as a fraction, or a regulated hold current in mA (R374 to R376). -/
inductive Drive where
  | off
  | full
  | duty (num den : Nat)
  | current (ma : Nat)
  deriving DecidableEq, Repr

/-- A channel of the switch die behind its registers: its target and duty from the last valid frame, the exponent of the next backoff, the backoff's pips left with the time since which it runs (none while paused), the time of
the last turn-on, and what it drives. Times of the switch die count periods of its own oscillator (`Dev.osc`, R369). -/
structure LChan where
  tgt : Bool
  k : Nat
  back : Nat
  backAt : Option Nat
  onAt : Nat
  drive : Drive
  duty : Nat
  deriving DecidableEq, Repr

/-- A channel at POR. -/
def LChan.reset : LChan := { tgt := false, k := 1, back := 0, backAt := none, onAt := 0, drive := .off, duty := 0 }

/-- The switch die, in times of its own oscillator: the last valid frame and its sequence (R370), the activation hold's end, since when the feed has been above 17.5 V, the next channel to restart, the last restart, the feed at the start of the PWM period in 10 mV (R376). -/
structure Lsw where
  chans : Tab LChan
  lastFrame : Nat
  holdTill : Option Nat
  uvGood : Option Nat
  restart : Option Nat
  restartPip : Nat
  seq : Nat
  feedAt : Nat
  deriving DecidableEq, Repr

/-- The switch die at POR. -/
def Lsw.reset : Lsw := { chans := [], lastFrame := 0, holdTill := none, uvGood := none, restart := none, restartPip := 0, seq := 0, feedAt := 0 }
/-! ### Twin operation (13_twin_operation.md) -/

/-- What a state copy carries of a lane (R406): its association (the matched RunID, and whether its station address, NID and NMK are loaded) and its receive ring's read position. -/
structure LaneCopy where
  matched : Option Bytes
  net : Bool
  rd : Nat
  deriving DecidableEq, Repr

/-- A lane's copy at reset. -/
def LaneCopy.reset : LaneCopy := { matched := none, net := false, rd := 0 }

/-- A state copy, whole (R403 to R406, R409): the pip and epoch it carries, whether it completes the bulk copy, whether it is the handover copy, and the copied state: registers and shadows of the copied blocks
as their differences, the outlets, BILL, the lanes, the mesh node (with the sender's oscillator count, from which its period is dated), the display's buffers, the FRAM, the in-flight table, the sequences of Stone transmit
connections and the session task's Kernel commands that the partner has not acknowledged, each with its pip; `owed` how many lines of the sessions, BILL, the lanes and the mesh stay pending after it. -/
structure CopyImage where
  pip : Nat
  epoch : Nat
  bulk : Bool
  handover : Bool
  regs : Tab Word
  shadow : Tab Word
  out : OutUnit
  bill : Bill
  lanes : Tab LaneCopy
  mesh : Mesh
  osc : Nat
  active : Tab Byte
  staging : Tab Byte
  fram : Tab Byte
  flights : List Flight
  seqs : Tab Nat
  kern : List (Nat × KCmd)
  owed : Nat
  deriving DecidableEq, Repr

/-- The copied state of a module that has copied nothing. -/
def CopyImage.empty : CopyImage :=
  { pip := 0, epoch := 0, bulk := false, handover := false, regs := [], shadow := [], out := OutUnit.reset, bill := Bill.reset, lanes := [], mesh := Mesh.reset, osc := 0, active := [], staging := [], fram := [],
    flights := [], seqs := [], kern := [], owed := 0 }

/-- What a state exchange tells of the partner (R397), with its copy format and its LSW_CFG.twin_hold (R413). -/
structure Peer where
  serial : Bytes
  role : Nat
  state : Nat
  epoch : Nat
  fmt : Nat
  cfgCrc : Nat
  keyMap : Bytes
  hold : Bool
  aligned : Bool
  pip : Nat
  deriving DecidableEq, Repr

/-- What a standby interface module forwards (R444): a presentation, a completed keypad entry, a key event. -/
inductive Fwd where
  | present (i : Ident) (src : Nat)
  | entry (kind : Nat) (digits : List Nat)
  | key (e : KeyEv)
  deriving DecidableEq, Repr

/-- What a Pod frame carries (R398): the sender's epoch, pip, twin state and tb1_aligned, the copy of an active module and whether a line of it was left out (R510), the acknowledgement of a standby, its Kernel comparison values by channel (R416; none where it has none), what an interface module forwards (R444). -/
structure PodOut where
  epoch : Nat
  pip : Nat
  state : Nat
  aligned : Bool
  copy : Option CopyImage
  short : Bool
  ack : Bool
  adv : List (Nat × Nat)
  fwd : List Fwd
  deriving DecidableEq, Repr

/-- A Pod frame with its CRC-32C (R398). -/
structure PodFrame where
  body : PodOut
  crc : Nat
  deriving DecidableEq, Repr

/-- The twin unit: what was heard in this pip and for how many pips each path has been silent; the last edge and notice (pip, state, epoch); notices sent (the last one and where it went are the model's own, log entry 10);
when the search began; the partner; the stored epoch; the copy that waits for the boundary with the pip in which it arrived, copies applied in a row, whether the bulk copy is whole, pips since a copy was applied; the last copy's in-flight table;
when it was promoted, commands to answer STALE_EPOCH; the level of TWIN_LIVE_OUT; a switch-over under way, and whether its reply is still to be sent from FAB_UDP_IP (R422); how far a tamper handover has come (R489); whether a line of this pip's copy could not be read (R510); the Pod frame of the last pip, the state exchange sent (R397), the last copy that the partner acknowledged with the Kernel commands that wait for that (R404), and the pip after the last whose Kernel commands it mirrored (R409); whether the lanes are deskewed and when the present step of training began (R397); how many changes of commanded state the latch of this pip made (R407); changes of commanded state held one pip more (R407); the pip of the last gratuitous ARP for FAB_UDP_IP (R418); pips unacknowledged; the energy snapshots of the last 4,000 pips, the partner's advances, the runs of
mismatching and matching pips by channel; what is forwarded. -/
structure TwinU where
  podHeard : Bool
  liveHeard : Bool
  podSilent : Nat
  liveSilent : Nat
  lastEdge : Option Nat
  notice : Option (Nat × Nat)
  noticeEpoch : Nat
  noticeAt : Nat
  noticeOut : Bytes
  noticeTo : Option (Nat × Nat)
  searchAt : Nat
  peer : Option Peer
  peerState : Nat
  stored : Nat
  copy : Option CopyImage
  copyAt : Nat
  run : Nat
  bulk : Bool
  lag : Nat
  inflight : List Flight
  promotedAt : Option Nat
  stale : List Cmd
  liveOut : Bool
  handover : Option Nat
  tamper : Nat
  copyUe : Bool
  lastReply : Bool
  podOut : Option PodFrame
  exchOut : Option Peer
  acked : Option CopyImage
  kernPend : List (Nat × KCmd)
  kernSeen : Nat
  deskew : Bool
  trainAt : Nat
  early : Nat
  held : List (Nat × Word)
  arpAt : Option Nat
  unacked : Nat
  adv : List (List (Nat × Nat))
  peerAdv : Option (List (Nat × Nat))
  runs : Tab (Nat × Nat)
  compared : Bool
  fwdIn : List Fwd
  fwdOut : List Fwd
  deriving DecidableEq, Repr

/-- The twin unit after a reset of the application cores; the stored epoch is in Shell flash. -/
def TwinU.reset : TwinU :=
  { podHeard := false, liveHeard := false, podSilent := 0, liveSilent := 0, lastEdge := none, notice := none, noticeEpoch := 0, noticeAt := 0, noticeOut := [], noticeTo := none, searchAt := 0, peer := none,
    peerState := 0, stored := 0, copy := none, copyAt := 0, run := 0, bulk := false, lag := 0, inflight := [], promotedAt := none, stale := [], liveOut := false, handover := none, tamper := 0, copyUe := false, lastReply := false, podOut := none, exchOut := none, acked := none, kernPend := [], kernSeen := 0, deskew := false, trainAt := 0, early := 0, held := [], arpAt := none, unacked := 0, adv := [],
    peerAdv := none, runs := [], compared := false, fwdIn := [], fwdOut := [] }

end Sys2Proof.Machine

namespace Sys2Proof.Config

/-- The bytes of a Pod frame before its CRC (R398 states what it carries and no layout; log entry 63). -/
opaque podBytes : Machine.PodOut → Bytes

end Sys2Proof.Config
end

