-- ==== Sys2Proof/Syntax.lean ====
section
/-!
DEFINITION. The commands of the block: one constructor of `Instr` per row of the spec's opcode table, with the operands the row carries. An opcode of the command fabric carries its
packet header and payload; a step of the block carries what the block finds from outside itself (pins, converters, frames, results of its tests).
-/
namespace Sys2Proof
open Sys2Proof.Machine

/-- The header fields of a command packet that a host chooses (R42), with the UDP source it came from where HOSTSEL is high (R81). The opcode is the command's own. -/
structure Hdr where
  queue : BitVec 8
  cls : BitVec 8
  tag : BitVec 16
  launch : BitVec 32
  epoch : BitVec 16
  ip : BitVec 32
  port : BitVec 16
  deriving DecidableEq, Repr

/-- What the converters of one outlet read in a PWM period (R119, R121): high plateau, low plateau and proximity codes. -/
structure PilotSample where
  outlet : Fin 32
  high : Nat
  low : Nat
  prox : Nat
  deriving DecidableEq, Repr

/-- A decoded vehicle request (R130): target voltage, current and state of charge, the vehicle's maxima, and its EVCC id where it carries one. -/
structure EvRequest where
  volt : Nat
  curr : Int
  soc : Nat
  maxV : Nat
  maxI : Nat
  maxP : Nat
  evcc : List Byte
  deriving DecidableEq, Repr

/-- What the safety task finds of a pair's function against the Stone (R340): whether it permits, and for how many µs it has differed. -/
structure CrossIn where
  pair : Fin 8
  cpu : Bool
  held : Nat
  deriving DecidableEq, Repr

/-- What one sample instant gives the Kernel: the bits that each of the 64 bitstreams has brought since the sample before, oldest first (R142, R144, R170), the sample window in 10 ns periods that the Kernel's trim aims at (R146, R159), the advance of legal time in µs, and METSEAL_B: a level, or none where the jumper joins it to METSEAL_A (R186). -/
structure KSampleIn where
  streams : List (List Bool)
  m : Nat
  us : Nat
  sealB : Option Bool
  deriving DecidableEq, Repr

/-- What a front end decodes of a frame control (R262): the short network identifier, the destination address (its 6 bytes as a number, the first highest), the announced payload in µs,
the mode (0 MINI-ROBO, 1 STD-ROBO, 2 HS-ROBO, 3 any other), and how many PHY blocks of how many octets follow (R259). -/
structure FcIn where
  lane : Fin 33
  sni : Nat
  dest : Nat
  us : Nat
  mode : Fin 4
  blocks : Nat
  octets : Nat
  deriving DecidableEq, Repr

/-- A frame whose decode has ended (R263, R267): whether its PHY block passed, its mean SNR in 0.25 dB, its received level in 0.25 dBFS, the magnitudes in 0.25 dBFS of the samples of each symbol,
and what the frame holds. -/
structure FrameIn where
  lane : Fin 33
  ok : Bool
  snr : Nat
  level : Int
  symbols : List (List Int)
  frame : Machine.PlcFrame
  deriving DecidableEq, Repr

/-- The capture of a preamble on a lane (R269): its start in 0.1 µs, 58 group attenuations in dB, and the RunID where the lane decoded the frame. -/
structure Capture where
  lane : Fin 32
  start : Nat
  groups : List Nat
  run : Option (List Byte)
  deriving DecidableEq, Repr

/-- What the front ends gather of sounding vehicles (R269): the first CM_START_ATTEN_CHAR.IND of a RunID, the lane that decoded it and the sounds it announces, or the captures of preambles. -/
inductive SoundIn where
  | start (lane : Fin 32) (run : List Byte) (announced : Nat)
  | sound (caps : List Capture)
  deriving DecidableEq, Repr

/-- What the front ends have when a slice of the Husk datapath is given (R261): the lanes on which a frame's last symbol has arrived, those with no buffered symbol, and whether HomePlug AV has the frame that the slice sends, if any, sent
again for want of a positive SACK (R259). -/
structure SliceIn where
  arrived : List (Fin 33)
  idle : List (Fin 33)
  again : Bool
  deriving DecidableEq, Repr

/-- What a front end measures over a 64 µs window: its RMS (R258) and the highest magnitude in it (R266), in 0.25 dBFS. -/
structure NoiseIn where
  rms : Int
  peak : Int
  deriving DecidableEq, Repr

/-- A level of a safety input and for how many µs the input has held it (R345). -/
structure HeldLevel where
  level : Bool
  held : Nat
  deriving DecidableEq, Repr

/-- A frame as the switch die receives it (R370): whether its CRC matches, and its sequence. -/
structure DieIn where
  crc : Bool
  seq : Nat
  deriving DecidableEq, Repr

/-- What a channel of the switch die measures of its load (R377, R379): the current in mA that the load would draw, and for how many µs it has done so. -/
structure ChanLoad where
  ch : Fin 80
  ma : Nat
  us : Nat
  deriving DecidableEq, Repr

/-- What a 10BASE-T1S port sees (R276, R277): a frame of a node (good: its FCS and address pass), a transmit opportunity that another node takes, its own transmit opportunity, silence of so many bit times since a
transmit opportunity of another node began, or energy on T1S_n_ED (its end is T1S_LINK_LOSS). -/
inductive T1sIn where
  | frame (good : Bool) (node : Nat)
  | opportunity (node : Nat)
  | own
  | silent (bits : Nat)
  | energy
  deriving DecidableEq, Repr

/-- A transmit opportunity of the mesh (R285, R292): an owned slot or the contention region. -/
inductive MeshOpp where
  | slot (s : Fin 64)
  | contention
  deriving DecidableEq, Repr

/-- What a card answers in an RDR_APDU exchange (R431): the ATQA to WUPA, the SAK to SELECT, the ATS to RATS with its FSCI and the FWI of its TB (none where TB is absent); R(ACK) to a chained I-block; an I-block of the response, with whether more follow; an S(WTX) with its WTXM. -/
inductive CardIn where
  | atqa
  | sak
  | ats (fsci : Nat) (fwi : Option Nat)
  | ack
  | block (more : Bool) (inf : List Byte)
  | wtx (m : Nat)
  deriving DecidableEq, Repr

/-- What a field reader sends to the tag port (R432 to R434): WUPA or REQA; SELECT by the full UID; RATS with its FSDI and CID; an I-block, with whether it carries a CID or a NAD, and its APDU; the response to an S(WTX). -/
inductive TagIn where
  | wake
  | select
  | rats (fsdi cid : Nat)
  | apdu (cid nad : Bool) (a : List Byte)
  | wtx
  deriving DecidableEq, Repr

/-- Who met an uncorrectable error (R510, R524): a host command in flight by queue and tag, an application core, the safety core pair, a Husk context by lane, the display scan, the twin's state copy. -/
inductive Requester where
  | host (queue : Fin 32) (tag : BitVec 16)
  | core
  | safety
  | husk (lane : Fin 33)
  | display
  | copy
  | none
  deriving DecidableEq, Repr

/-- What the pip boundary finds (R7): the feeds and VBAT (10 mV, 10 mV, mV), which ideal diodes conduct, the die temperature in 0.1 °C, the pilot converters' readings of the pip, the Guard converters'
samples of the pip by channel, whether another module drives HUB_STOP_N low, the levels of the strap pins, whether REFCLK is valid by R548. -/
structure PipIn where
  feedA : Nat
  feedB : Nat
  vbat : Nat
  diodeA : Bool
  diodeB : Bool
  temp : Int
  pilots : List PilotSample
  guards : List (Fin 32 × List Bool × List Bool)
  hubLow : Bool
  straps : Straps
  refOk : Bool
  deriving DecidableEq, Repr

/-- A step of Pod link training (R397): a lane is equalised, the two lanes are deskewed, the partner's state exchange has come. -/
inductive TrainIn where
  | lane (n : Fin 2)
  | deskew
  | exchange (p : Peer)
  deriving DecidableEq, Repr

/-- A measurement of the PTP task (R99, R103): the raw timestamps in ns of a Sync (`t1` the master's, `t2` this module's) and of a delay exchange (`t3` this module's request; `t4` its receipt by the master, or, peer to peer,
the response's receipt by this module, with `turn` the time it spent at the peer); the sequenceId of the request; the pip in which the exchange began; the PTP event messages that ETH0 and ETH1 have received since the
last measurement; currentUtcOffset where it is valid. -/
structure PtpMeas where
  t1 : Int
  t2 : Int
  t3 : Int
  t4 : Int
  turn : Int
  seq : Nat
  began : Nat
  events0 : Nat
  events1 : Nat
  utc : Option Nat
  deriving DecidableEq, Repr

/-- A transmit timestamp (R100): the MAC, seconds, nanoseconds, messageType, domainNumber, sequenceId. -/
structure TxStamp where
  mac : Fin 2
  sec : Nat
  ns : Nat
  typ : Nat
  domain : Nat
  seq : Nat
  deriving DecidableEq, Repr

/-- What BOOT finds: which banks' boot reads met an uncorrectable codeword (R524), the mask of blocks whose saved copy fails its CRC (R544), whether REFCLK is a logic input (R545), whether the reader finds its
antenna (R426), the repaired rows whose spare fails its test (R516), whether the carry image fails its CRC (R499), whether the tamper logic was unpowered and which inputs are tripped (R488). -/
structure BootIn where
  badA : Bool
  badB : Bool
  lost : Nat
  refInput : Bool
  antenna : Bool
  spareFails : List RowDefect
  carryBad : Bool
  unwatched : Bool
  tripped : Nat
  deriving DecidableEq, Repr

/-- What a chain's test answers (R518): the response signature, and where that differs from the expected one, the first failing bit position. -/
structure LbistSig where
  sig : Word
  bit : Nat
  deriving DecidableEq, Repr

/-- A firing of the burr line (R486): the inputs tripped, and on VBAT alone the microseconds that the VBAT-held legal clock has run since the Kernel's time stopped. -/
structure BurrIn where
  tripped : BitVec 5
  away : Nat
  deriving DecidableEq, Repr

/-- A whole packet (R46): the oldest full receive buffer of HOST_SPI, or a datagram on ETH0 with its source, the address and port it is sent to, and whether it came in fragments (R81). -/
inductive PacketIn where
  | spi
  | udp (ip : BitVec 32) (port : BitVec 16) (toIp : BitVec 32) (toPort : BitVec 16) (fragmented : Bool) (bytes : List Byte)
  deriving DecidableEq, Repr

/-- The commands: those with operands in the order of the opcode table, then those without. -/
inductive Instr where
  /-- COMMAND_PACKET_ARRIVAL (R46). -/
  | commandPacketArrival (i : PacketIn)
  /-- WRITE_PACKET (R77). -/
  | writePacket (b : List Byte)
  /-- READ_REPLY (R79). -/
  | readReply (n : Nat)
  /-- PIP_BOUNDARY (R7). -/
  | pipBoundary (i : PipIn)
  /-- SWITCH_DIE_FRAME (R370). -/
  | switchDieFrame (f : DieIn) (meas : List (Fin 80 × Nat × Int))
  /-- SYS_STATUS_GET (R16). -/
  | sysStatusGet (h : Hdr) (p : List Byte)
  /-- SYS_INFO (R16). -/
  | sysInfo (h : Hdr) (p : List Byte)
  /-- SYS_RESET (R556). -/
  | sysReset (h : Hdr) (p : List Byte)
  /-- SYS_FORCE_SEL (R552). -/
  | sysForceSel (h : Hdr) (p : List Byte)
  /-- SYS_SET_MODE (R18). -/
  | sysSetMode (h : Hdr) (p : List Byte)
  /-- SYS_CFG_SAVE (R544). -/
  | sysCfgSave (h : Hdr) (p : List Byte)
  /-- SYS_LOG_READ (R608). -/
  | sysLogRead (h : Hdr) (p : List Byte)
  /-- REG_READ (R601). -/
  | regRead (h : Hdr) (p : List Byte)
  /-- REG_WRITE (R602). -/
  | regWrite (h : Hdr) (p : List Byte)
  /-- REG_MODIFY (R605). -/
  | regModify (h : Hdr) (p : List Byte)
  /-- REG_READ_SHADOW (R69). -/
  | regReadShadow (h : Hdr) (p : List Byte)
  /-- FAB_COMMIT (R67). -/
  | fabCommit (h : Hdr) (p : List Byte)
  /-- FAB_DISCARD (R71). -/
  | fabDiscard (h : Hdr) (p : List Byte)
  /-- FAB_CANCEL (R65). -/
  | fabCancel (h : Hdr) (p : List Byte)
  /-- REPLY_RECALL (R83). -/
  | replyRecall (h : Hdr) (p : List Byte)
  /-- FAB_NOP (R45). -/
  | fabNop (h : Hdr) (p : List Byte)
  /-- OUT_STATUS_GET (R137). -/
  | outStatusGet (h : Hdr) (p : List Byte)
  /-- OUT_AUTHORISE (R129). -/
  | outAuthorise (h : Hdr) (p : List Byte)
  /-- OUT_START_REMOTE (R137). -/
  | outStartRemote (h : Hdr) (p : List Byte)
  /-- OUT_STOP (R124). -/
  | outStop (h : Hdr) (p : List Byte)
  /-- OUT_SET_AVAILABLE (R137). -/
  | outSetAvailable (h : Hdr) (p : List Byte)
  /-- OUT_CLEAR_FAULT (R124). -/
  | outClearFault (h : Hdr) (p : List Byte)
  /-- OUT_SESSION_INFO (R137). -/
  | outSessionInfo (h : Hdr) (p : List Byte)
  /-- OUT_EVENT_READ (R608). -/
  | outEventRead (h : Hdr) (p : List Byte)
  /-- LIST_UPDATE (R129). -/
  | listUpdate (h : Hdr) (p : List Byte)
  /-- LIST_QUERY (R129). -/
  | listQuery (h : Hdr) (p : List Byte)
  /-- OUT_CERT_RESPONSE (R128). -/
  | outCertResponse (h : Hdr) (p : List Byte)
  /-- KERN_STATUS (R28). -/
  | kernStatus (h : Hdr) (p : List Byte)
  /-- KERN_CERT_READ (R204). -/
  | kernCertRead (h : Hdr) (p : List Byte)
  /-- KERN_PUBKEY_READ (R204). -/
  | kernPubkeyRead (h : Hdr) (p : List Byte)
  /-- KERN_LEDGER_READ (R197). -/
  | kernLedgerRead (h : Hdr) (p : List Byte)
  /-- KERN_INTERVAL_WAIT (R200). -/
  | kernIntervalWait (h : Hdr) (p : List Byte)
  /-- KERN_RECEIPT_GET (R201). -/
  | kernReceiptGet (h : Hdr) (p : List Byte)
  /-- KERN_SET_CHANNEL (R153). -/
  | kernSetChannel (h : Hdr) (p : List Byte)
  /-- KERN_SET_CAL (R157). -/
  | kernSetCal (h : Hdr) (p : List Byte)
  /-- KERN_SET_MCLK (R172). -/
  | kernSetMclk (h : Hdr) (p : List Byte)
  /-- KERN_SET_PULSE (R176). -/
  | kernSetPulse (h : Hdr) (p : List Byte)
  /-- KERN_SET_BALANCE (R180). -/
  | kernSetBalance (h : Hdr) (p : List Byte)
  /-- KERN_SET_LIMITS (R213). -/
  | kernSetLimits (h : Hdr) (p : List Byte)
  /-- KERN_FW_BEGIN (R208). -/
  | kernFwBegin (h : Hdr) (p : List Byte)
  /-- KERN_FW_CHUNK (R208). -/
  | kernFwChunk (h : Hdr) (p : List Byte)
  /-- KERN_FW_END (R208). -/
  | kernFwEnd (h : Hdr) (p : List Byte)
  /-- KERN_FW_ACTIVATE (R208). -/
  | kernFwActivate (h : Hdr) (p : List Byte)
  /-- KERN_ARCHIVE_ACK (R195). -/
  | kernArchiveAck (h : Hdr) (p : List Byte)
  /-- KERN_CHECKPOINT (R203). -/
  | kernCheckpoint (h : Hdr) (p : List Byte)
  /-- KERNEL_SESSION_OPEN (R612). -/
  | kernelSessionOpen (n : Fin 32)
  /-- KERNEL_SESSION_CLOSE (R612). -/
  | kernelSessionClose (n : Fin 32)
  /-- I_BREAK_PASS (R175). -/
  | iBreakPass (n : Fin 32)
  /-- TARIFF_BEGIN (R222). -/
  | tariffBegin (h : Hdr) (p : List Byte)
  /-- TARIFF_CHUNK (R218). -/
  | tariffChunk (h : Hdr) (p : List Byte)
  /-- TARIFF_END (R219). -/
  | tariffEnd (h : Hdr) (p : List Byte)
  /-- TARIFF_ABORT (R222). -/
  | tariffAbort (h : Hdr) (p : List Byte)
  /-- TARIFF_READ (R218). -/
  | tariffRead (h : Hdr) (p : List Byte)
  /-- LEGAL_TIME_ADJUST (R212). -/
  | legalTimeAdjust (h : Hdr) (p : List Byte)
  /-- LEGAL_TIME_GET (R211). -/
  | legalTimeGet (h : Hdr) (p : List Byte)
  /-- ACCOUNT_SET (R246). -/
  | accountSet (h : Hdr) (p : List Byte)
  /-- ACCOUNT_ADJUST (R247). -/
  | accountAdjust (h : Hdr) (p : List Byte)
  /-- ACCOUNT_GET (R243). -/
  | accountGet (h : Hdr) (p : List Byte)
  /-- TXN_READ (R608). -/
  | txnRead (h : Hdr) (p : List Byte)
  /-- TOKEN_SUBMIT (R249). -/
  | tokenSubmit (h : Hdr) (p : List Byte)
  /-- TOKEN_LIST_READ (R250). -/
  | tokenListRead (h : Hdr) (p : List Byte)
  /-- HUSK_STATUS_GET (R265). -/
  | huskStatusGet (h : Hdr) (p : List Byte)
  /-- LANE_STATS_GET (R278). -/
  | laneStatsGet (h : Hdr) (p : List Byte)
  /-- SLAC_PROFILE_GET (R270). -/
  | slacProfileGet (h : Hdr) (p : List Byte)
  /-- LANE_RESET (R280). -/
  | laneReset (h : Hdr) (p : List Byte)
  /-- T1S_STATUS_GET (R277). -/
  | t1sStatusGet (h : Hdr) (p : List Byte)
  /-- LANE_TX_TEST (R257). -/
  | laneTxTest (h : Hdr) (p : List Byte)
  /-- TIME_GET (R91). -/
  | timeGet (h : Hdr) (p : List Byte)
  /-- TIME_SET_STATE (R103). -/
  | timeSetState (h : Hdr) (p : List Byte)
  /-- TIME_SET_TB0 (R609). -/
  | timeSetTb0 (h : Hdr) (p : List Byte)
  /-- TIME_PTP_STATUS (R97). -/
  | timePtpStatus (h : Hdr) (p : List Byte)
  /-- FWU_STATUS_GET (R494). -/
  | fwuStatusGet (h : Hdr) (p : List Byte)
  /-- FWU_BEGIN (R495). -/
  | fwuBegin (h : Hdr) (p : List Byte)
  /-- FWU_CHUNK (R494). -/
  | fwuChunk (h : Hdr) (p : List Byte)
  /-- FWU_END (R494). -/
  | fwuEnd (h : Hdr) (p : List Byte)
  /-- FWU_ACTIVATE (R497). -/
  | fwuActivate (h : Hdr) (p : List Byte)
  /-- FWU_CONFIRM (R503). -/
  | fwuConfirm (h : Hdr) (p : List Byte)
  /-- FWU_ABORT (R495). -/
  | fwuAbort (h : Hdr) (p : List Byte)
  /-- KEY_STATUS_GET (R490). -/
  | keyStatusGet (h : Hdr) (p : List Byte)
  /-- KEY_LOAD (R475). -/
  | keyLoad (h : Hdr) (p : List Byte)
  /-- KEY_CLEAR (R477). -/
  | keyClear (h : Hdr) (p : List Byte)
  /-- KEY_GENERATE (R480). -/
  | keyGenerate (h : Hdr) (p : List Byte)
  /-- KEY_IMPORT (R481). -/
  | keyImport (h : Hdr) (p : List Byte)
  /-- KEY_PUBKEY (R480). -/
  | keyPubkey (h : Hdr) (p : List Byte)
  /-- KEY_CSR (R482). -/
  | keyCsr (h : Hdr) (p : List Byte)
  /-- KEY_AEAD (R482). -/
  | keyAead (h : Hdr) (p : List Byte)
  /-- KEY_TAMPER_ARM (R485). -/
  | keyTamperArm (h : Hdr) (p : List Byte)
  /-- KEY_CHAIN_WRITE (R483). -/
  | keyChainWrite (h : Hdr) (p : List Byte)
  /-- DISP_STATUS_GET (R453). -/
  | dispStatusGet (h : Hdr) (p : List Byte)
  /-- DISP_WRITE (R467). -/
  | dispWrite (h : Hdr) (p : List Byte)
  /-- DISP_UPDATE (R463). -/
  | dispUpdate (h : Hdr) (p : List Byte)
  /-- DISP_STRESS_READ (R457). -/
  | dispStressRead (h : Hdr) (p : List Byte)
  /-- DISP_STRESS_RESET (R457). -/
  | dispStressReset (h : Hdr) (p : List Byte)
  /-- TAG_STATUS_GET (R426). -/
  | tagStatusGet (h : Hdr) (p : List Byte)
  /-- RDR_LIST (R429). -/
  | rdrList (h : Hdr) (p : List Byte)
  /-- RDR_APDU (R431). -/
  | rdrApdu (h : Hdr) (p : List Byte)
  /-- TAG_FRAM_READ (R437). -/
  | tagFramRead (h : Hdr) (p : List Byte)
  /-- TAG_FRAM_WRITE (R435). -/
  | tagFramWrite (h : Hdr) (p : List Byte)
  /-- TAG_FRAM_HOLD (R438). -/
  | tagFramHold (h : Hdr) (p : List Byte)
  /-- TAG_FRAM_RELEASE (R438). -/
  | tagFramRelease (h : Hdr) (p : List Byte)
  /-- TAG_KP_READ (R443). -/
  | tagKpRead (h : Hdr) (p : List Byte)
  /-- TWIN_STATUS_GET (R402). -/
  | twinStatusGet (h : Hdr) (p : List Byte)
  /-- TWIN_SWITCHOVER (R422). -/
  | twinSwitchover (h : Hdr) (p : List Byte)
  /-- TWIN_RESYNC (R402). -/
  | twinResync (h : Hdr) (p : List Byte)
  /-- TWIN_KCMP_GET (R416). -/
  | twinKcmpGet (h : Hdr) (p : List Byte)
  /-- MESH_STATUS_GET (R311). -/
  | meshStatusGet (h : Hdr) (p : List Byte)
  /-- MESH_NODE_TABLE (R291). -/
  | meshNodeTable (h : Hdr) (p : List Byte)
  /-- MESH_SEND (R305). -/
  | meshSend (h : Hdr) (p : List Byte)
  /-- MESH_RX_READ (R303). -/
  | meshRxRead (h : Hdr) (p : List Byte)
  /-- MESH_RESCAN (R306). -/
  | meshRescan (h : Hdr) (p : List Byte)
  /-- MESH_EVICT (R293). -/
  | meshEvict (h : Hdr) (p : List Byte)
  /-- SAFE_STATUS_GET (R334). -/
  | safeStatusGet (h : Hdr) (p : List Byte)
  /-- SAFE_RESET (R350). -/
  | safeReset (h : Hdr) (p : List Byte)
  /-- SAFE_CFG_CHECK (R360). -/
  | safeCfgCheck (h : Hdr) (p : List Byte)
  /-- SAFE_CFG_ACTIVATE (R361). -/
  | safeCfgActivate (h : Hdr) (p : List Byte)
  /-- SAFE_CFG_DISCARD (R368). -/
  | safeCfgDiscard (h : Hdr) (p : List Byte)
  /-- SAFE_HUB_STOP (R354). -/
  | safeHubStop (h : Hdr) (p : List Byte)
  /-- GUARD_STATUS_GET (R331). -/
  | guardStatusGet (h : Hdr) (p : List Byte)
  /-- GUARD_SELF_TEST (R330). -/
  | guardSelfTest (h : Hdr) (p : List Byte)
  /-- GUARD_CLEAR_FAULT (R329). -/
  | guardClearFault (h : Hdr) (p : List Byte)
  /-- LSW_STATUS_GET (R369). -/
  | lswStatusGet (h : Hdr) (p : List Byte)
  /-- LSW_SET (R373). -/
  | lswSet (h : Hdr) (p : List Byte)
  /-- LSW_SET_AX (R381). -/
  | lswSetAx (h : Hdr) (p : List Byte)
  /-- LSW_CLEAR (R380). -/
  | lswClear (h : Hdr) (p : List Byte)
  /-- MEM_STATUS_GET (R516). -/
  | memStatusGet (h : Hdr) (p : List Byte)
  /-- MEM_ECC_WRITE_RAW (R521). -/
  | memEccWriteRaw (h : Hdr) (p : List Byte)
  /-- MEM_ECC_READ (R521). -/
  | memEccRead (h : Hdr) (p : List Byte)
  /-- MEM_MBIST_RUN (R522). -/
  | memMbistRun (fails : List RowDefect) (h : Hdr) (p : List Byte)
  /-- MEM_REPAIR_ADD (R512). -/
  | memRepairAdd (h : Hdr) (p : List Byte)
  /-- MEM_REPAIR_LIST (R512). -/
  | memRepairList (h : Hdr) (p : List Byte)
  /-- GUARD_STATE_REQUEST (R316). -/
  | guardStateRequest (h : Hdr) (n : Fin 32) (v : Word)
  /-- LSW_CHANNEL_COMMAND (R371). -/
  | lswChannelCommand (h : Hdr) (ch : Fin 80) (v : Word)
  /-- MESH_ENABLE (R290). -/
  | meshEnable (h : Hdr)
  /-- MESH_DISABLE (R294). -/
  | meshDisable (h : Hdr)
  /-- TIME_PIP_OFFSET_WRITE (R610). -/
  | timePipOffsetWrite (h : Hdr) (v : Word)
  /-- TWIN_ENABLE (R402). -/
  | twinEnable (h : Hdr) (v : Word)
  /-- TWIN_DISABLE (R402). -/
  | twinDisable (h : Hdr) (v : Word)
  /-- DISP_VP_RESTART (R453). -/
  | dispVpRestart (h : Hdr) (v : Word) (on : Bool)
  /-- SYS_CLK_SEL_WRITE (R550). -/
  | sysClkSelWrite (h : Hdr) (v : Word)
  /-- PTP_OFFSET_MEASURED (R103). -/
  | ptpOffsetMeasured (m : PtpMeas)
  /-- BMCA_OTHER_MASTER (R103). -/
  | bmcaOtherMaster (i : PtpInfo)
  /-- PTP_EVENT_SENT (R100). -/
  | ptpEventSent (t : TxStamp)
  /-- KERNEL_SAMPLE (R159). -/
  | kernelSample (i : KSampleIn)
  /-- PIP_STROBE (R147). -/
  | pipStrobe (len : Option Nat)
  /-- MCLK_CLOCK_FAULT (R143). -/
  | mclkClockFault (n : Fin 4)
  /-- METER_FAULT_ENTRY (R206). -/
  | meterFaultEntry (cause : Fin 4)
  /-- KERNEL_POWER_ON (R236). -/
  | kernelPowerOn (us : Int) (kept : Bool) (slot0 : Bool) (slot1 : Bool)
  /-- BILL_METER_RECORD (R252). -/
  | billMeterRecord (n : Fin 32)
  /-- PILOT_STATE_ACCEPTED (R120). -/
  | pilotStateAccepted (n : Fin 32)
  /-- FAULT_PILOT_PROBE (R126): a step of the probe, with the CP_SENSE code of a sample taken then. -/
  | faultPilotProbe (n : Fin 32) (code : Option Nat)
  /-- LINK_UP (R124). -/
  | linkUp (n : Fin 32) (offered : List Nat)
  /-- LINK_TIMER_EXPIRY (R124). -/
  | linkTimerExpiry (n : Fin 32)
  /-- PAYMENT_SELECTION_COMPLETE (R124). -/
  | paymentSelectionComplete (n : Fin 32) (contract : Option (List Byte))
  /-- PROTOCOL_ERROR (R124). -/
  | protocolError (n : Fin 32)
  /-- AUTHORISATION_TIMER_EXPIRY (R124). -/
  | authorisationTimerExpiry (n : Fin 32)
  /-- HOST_WAIT_EXPIRY (R129). -/
  | hostWaitExpiry (n : Fin 32)
  /-- CABLE_CHECK_TIMER_EXPIRY (R124). -/
  | cableCheckTimerExpiry (n : Fin 32)
  /-- POWER_DELIVERY_REQUEST (R124). -/
  | powerDeliveryRequest (n : Fin 32) (bpt : Bool)
  /-- PRECHARGE_TIMER_EXPIRY (R124). -/
  | prechargeTimerExpiry (n : Fin 32)
  /-- VEHICLE_STOP_REQUEST (R124). -/
  | vehicleStopRequest (n : Fin 32)
  /-- CAN_RX_FRAME (R131). -/
  | canRxFrame (f : CanFrame)
  /-- CAN_TX_TEMPLATE (R131). -/
  | canTxTemplate (t : Fin 64)
  /-- T_FORCE_EXPIRY (R132). -/
  | tForceExpiry (n : Fin 32)
  /-- WELD_CHECK_TIMEOUT (R124). -/
  | weldCheckTimeout (n : Fin 32)
  /-- UNPLUGGED_TO_IDLE (R124). -/
  | unpluggedToIdle (n : Fin 32)
  /-- FC_DECODE (R262). -/
  | fcDecode (f : FcIn)
  /-- FRAME_DELIVERY (R263). -/
  | frameDelivery (f : FrameIn)
  /-- FRAME_LATE (R265). -/
  | frameLate (n : Fin 33)
  /-- HUSK_SLICE (R261). -/
  | huskSlice (l : SliceIn)
  /-- NOISE_WINDOW_END (R258). -/
  | noiseWindowEnd (n : Fin 33) (w : NoiseIn) (gain : Nat) (preamble : Bool)
  /-- SLAC_PARM_REQ (R268). -/
  | slacParmReq (n : Fin 32)
  /-- SOUND_CAPTURE (R269). -/
  | soundCapture (i : SoundIn)
  /-- SLAC_DECISION (R271). -/
  | slacDecision (run : List Byte)
  /-- SLAC_MATCH_REQ (R274). -/
  | slacMatchReq (n : Fin 32) (run : List Byte)
  /-- T1S_FRAME_RX (R277). -/
  | t1sFrameRx (t : Fin 8) (e : T1sIn)
  /-- T1S_LINK_LOSS (R277). -/
  | t1sLinkLoss (t : Fin 8) (energy : Bool)
  /-- MESH_BEACON_RX (R288). -/
  | meshBeaconRx (b : List Byte) (snr : Nat)
  /-- MESH_SLOT_FRAME_RX (R302). -/
  | meshSlotFrameRx (b : List Byte) (snr : Nat) (ok : Bool)
  /-- MESH_SACK_RX (R300). -/
  | meshSackRx (positive : Bool)
  /-- MESH_JOIN_REQ (R290). -/
  | meshJoinReq (ident : List Byte) (parent : Nat)
  /-- MESH_JOIN_ACK (R290). -/
  | meshJoinAck (ident : List Byte) (id : Nat) (epoch : Nat)
  /-- MESH_NODE_TIMEOUT (R293). -/
  | meshNodeTimeout (n : Fin 64)
  /-- RCM_STAGE_TRIP (R318). -/
  | rcmStageTrip (n : Fin 32)
  /-- IMD_WINDOW_START (R321). -/
  | imdWindowStart (n : Fin 32)
  /-- IMD_WINDOW_END (R322). -/
  | imdWindowEnd (n : Fin 32)
  /-- GUARD_STREAM_FAULT (R329). -/
  | guardStreamFault (n : Fin 32)
  /-- GUARD_SELF_TEST_END (R330). -/
  | guardSelfTestEnd (n : Fin 32)
  /-- SAFETY_INPUT_CHANGE (R345). -/
  | safetyInputChange (i : Fin 16) (level : HeldLevel)
  /-- DISCREPANCY_TIMEOUT (R347). -/
  | discrepancyTimeout (p : Fin 8)
  /-- ANTIVALENCE_TIMEOUT (R348). -/
  | antivalenceTimeout (p : Fin 8)
  /-- TEST_PULSE (R343). -/
  | testPulse (k : Fin 4) (low : List Nat)
  /-- RESET_BUTTON_RELEASE (R349). -/
  | resetButtonRelease (p : Fin 8)
  /-- CROSS_DISAGREEMENT (R340). -/
  | crossDisagreement (i : CrossIn)
  /-- PERMIT_WORD (R333). -/
  | permitWord (good : Bool)
  /-- STONE_FRAME_RX (R366). -/
  | stoneFrameRx (c : Fin 8) (f : List Byte)
  /-- STONE_FRAME_TX (R365). -/
  | stoneFrameTx (c : Fin 8)
  /-- OVERCURRENT_TRIP (R377). -/
  | overcurrentTrip (l : ChanLoad)
  /-- INRUSH_WINDOW_END (R377). -/
  | inrushWindowEnd (ch : Fin 80)
  /-- THERMAL_LATCH_SET (R378). -/
  | thermalLatchSet (ch : Fin 80)
  /-- THERMAL_LATCH_CLEAR (R378). -/
  | thermalLatchClear (ch : Fin 80)
  /-- RETRY_BACKOFF_ELAPSED (R380). -/
  | retryBackoffElapsed (ch : Fin 80)
  /-- RETRY_COUNTER_RELOAD (R380). -/
  | retryCounterReload (ch : Fin 80)
  /-- OPEN_LOAD_DETECT (R379). -/
  | openLoadDetect (l : ChanLoad)
  /-- PULL_IN_END (R374). -/
  | pullInEnd (ch : Fin 80)
  /-- POD_TRAINING_COMPLETE (R397). -/
  | podTrainingComplete (t : TrainIn)
  /-- POD_LANE_LOCK_LOSS (R397). -/
  | podLaneLockLoss (lane : Fin 2)
  /-- POD_FRAME_RX (R398). -/
  | podFrameRx (f : PodFrame)
  /-- EPOCH_NOTICE_RX (R401). -/
  | epochNoticeRx (ip : BitVec 32) (b : List Byte)
  /-- READER_POLL_CYCLE (R427). -/
  | readerPollCycle (cards : List CardSeen)
  /-- TAG_ACTIVATION (R433). -/
  | tagActivation (r : BitVec 24)
  /-- TAG_APDU (R434). -/
  | tagApdu (a : TagIn)
  /-- FRAM_HOLD_CUT (R438). -/
  | framHoldCut (lines : Nat)
  /-- KEYPAD_SCAN (R440). -/
  | keypadScan (keys : List (Fin 16))
  /-- DISP_FRAME_START (R449). -/
  | dispFrameStart (volt : Nat) (curr : Nat)
  /-- DISP_UPDATE_DONE (R462). -/
  | dispUpdateDone (r : Fin 8)
  /-- BURR_LINE_FIRE (R486). -/
  | burrLineFire (b : BurrIn)
  /-- MBIST_ROW_TEST (R513). -/
  | mbistRowTest (fail : Option (Fin 16 × Fin 72))
  /-- LBIST_CHAIN_TEST (R517). -/
  | lbistChainTest (free : Bool) (sig : Word) (bit : Nat)
  /-- LBIST_RETEST (R518). -/
  | lbistRetest (sig : LbistSig)
  /-- SRAM_CORRECTABLE_ERROR (R509). -/
  | sramCorrectableError (m : Fin 3) (addr : Nat)
  /-- SRAM_UNCORRECTABLE_ERROR (R510). -/
  | sramUncorrectableError (m : Fin 3) (addr : Nat) (r : Requester)
  /-- FLASH_UNCORRECTABLE (R524). -/
  | flashUncorrectable (block : Nat) (r : Requester)
  /-- POWER_ON_RESET (R530). -/
  | powerOnReset (good : Bool × Bool) (straps : Straps)
  /-- BOOT (R553). -/
  | boot (b : BootIn)
  /-- FEED_LOST (R529). -/
  | feedLost (f : Bool)
  /-- POWER_FAIL (R531). -/
  | powerFail (lines : Nat)
  /-- RESET_N_PIN (R540). -/
  | resetNPin (low : Bool)
  /-- CLK_MUX_HANG (R551). -/
  | clkMuxHang (i : Fin 7)
  /-- FEED_GOOD (R528). -/
  | feedGood (f : Bool)
  /-- KEY_OPERATION_COMPLETE (R478). -/
  | keyOperationComplete (n : Fin 64)
  /-- CARD_ANSWER (R431). -/
  | cardAnswer (a : CardIn)
  /-- MESH_TRANSMIT_OPPORTUNITY (R292). -/
  | meshTransmitOpportunity (o : MeshOpp)
  /-- VEHICLE_REQUEST_DECODED (R130). -/
  | vehicleRequestDecoded (n : Fin 32) (r : EvRequest)
  /-- CERTIFICATE_INSTALLATION_REQUEST (R128). -/
  | certificateInstallationRequest (n : Fin 32)
  /-- LSW_CFG_WRITE (R380). -/
  | lswCfgWrite (h : Hdr) (ch : Fin 80) (v : Word)
  /-- GUARD_MODE_WRITE (R316). -/
  | guardModeWrite (h : Hdr) (n : Fin 32) (v : Word)
  /-- OUTLET_TYPE_CHANGE (R116). -/
  | outletTypeChange (h : Hdr) (n : Fin 32) (v : Word)
  /-- FLASH_REFRESH (R523). -/
  | flashRefresh
  /-- READ_STATUS (R77). -/
  | readStatus
  /-- SPI_UNKNOWN_INSTRUCTION (R77). -/
  | spiUnknownInstruction
  /-- UDP_REPLY_SEND (R82). -/
  | udpReplySend
  /-- DEADLINE_MISS (R62). -/
  | deadlineMiss
  /-- STARTED_COMMAND_END (R63). -/
  | startedCommandEnd
  /-- QUIET_PIP_WINDOW_EXPIRY (R607). -/
  | quietPipWindowExpiry
  /-- SWITCH_DIE_WATCHDOG_EXPIRY (R385). -/
  | switchDieWatchdogExpiry
  /-- KERNEL_COMMAND_EXECUTE (R184). -/
  | kernelCommandExecute
  /-- ANNOUNCE_RECEIPT_TIMEOUT (R103). -/
  | announceReceiptTimeout
  /-- BMCA_SELECTS_SELF (R103). -/
  | bmcaSelectsSelf
  /-- HOLDOVER_LIMIT_REACHED (R103). -/
  | holdoverLimitReached
  /-- TB0_STEP (R105). -/
  | tb0Step
  /-- KERNEL_REALIGN_START (R147). -/
  | kernelRealignStart
  /-- KERNEL_ALIGNED (R146). -/
  | kernelAligned
  /-- NO_ZC (R168). -/
  | noZc
  /-- STREAM_RECOVERED (R170). -/
  | streamRecovered
  /-- MCLK_SETTLING_END (R172). -/
  | mclkSettlingEnd
  /-- PENDING_PULSE_EMIT (R179). -/
  | pendingPulseEmit
  /-- BALANCE_CHECK (R180). -/
  | balanceCheck
  /-- SEAL_OPEN (R187). -/
  | sealOpen
  /-- SEAL_CLOSE (R187). -/
  | sealClose
  /-- LEDGER_RECORD_PROGRAM (R194). -/
  | ledgerRecordProgram
  /-- CHECKPOINT_DUE (R199). -/
  | checkpointDue
  /-- INTERVAL_BOUNDARY (R234). -/
  | intervalBoundary
  /-- OFFSET_CHANGE (R225). -/
  | offsetChange
  /-- LEGAL_TIME_SLEW_TICK (R214). -/
  | legalTimeSlewTick
  /-- FRIENDLY_WINDOW_CLOSE (R245). -/
  | friendlyWindowClose
  /-- BILL_STATE_SAVE (R242). -/
  | billStateSave
  /-- TOKEN_MIDNIGHT_PURGE (R250). -/
  | tokenMidnightPurge
  /-- HOST_OFFLINE (R129). -/
  | hostOffline
  /-- PREAUTH_EXPIRY (R129). -/
  | preauthExpiry
  /-- FLOATING_PREAUTH_EXPIRY (R137). -/
  | floatingPreauthExpiry
  /-- PM_STATUS_TIMEOUT (R131). -/
  | pmStatusTimeout
  /-- MESH_PERIOD_START (R285). -/
  | meshPeriodStart
  /-- MESH_PERIOD_END (R306). -/
  | meshPeriodEnd
  /-- MESH_SCAN_END (R290). -/
  | meshScanEnd
  /-- MESH_JOIN_TIMEOUT (R290). -/
  | meshJoinTimeout
  /-- MESH_BACKUP_PROMOTION (R307). -/
  | meshBackupPromotion
  /-- MESH_ACTION_EXECUTE (R305). -/
  | meshActionExecute
  /-- STONE_SELF_FAULT (R341). -/
  | stoneSelfFault
  /-- HEARTBEAT_LOST (R357). -/
  | heartbeatLost
  /-- HEARTBEAT_VALID (R357). -/
  | heartbeatValid
  /-- HUB_STOP_HOLD_END (R354). -/
  | hubStopHoldEnd
  /-- STONE_CONN_WATCHDOG (R367). -/
  | stoneConnWatchdog
  /-- UNDER_VOLTAGE (R383). -/
  | underVoltage
  /-- UNDER_VOLTAGE_RESTORE (R383). -/
  | underVoltageRestore
  /-- ACT_HOLD_EXPIRY (R388). -/
  | actHoldExpiry
  /-- KCMP_MISMATCH_SET (R417). -/
  | kcmpMismatchSet
  /-- TWIN_LIVE_TOGGLE (R399). -/
  | twinLiveToggle
  /-- TWIN_SILENCE_PROMOTE (R418). -/
  | twinSilencePromote
  /-- PROMOTED_HUB_STOP_RAMPDOWN (R419). -/
  | promotedHubStopRampdown
  /-- POD_FAULT_DETECT (R402). -/
  | podFaultDetect
  /-- PARTNER_SILENT (R402). -/
  | partnerSilent
  /-- TWIN_COPY_LAG (R402). -/
  | twinCopyLag
  /-- TWIN_COPY_APPLY (R405). -/
  | twinCopyApply
  /-- TWIN_SYNC_COMPLETE (R413). -/
  | twinSyncComplete
  /-- TWIN_SEARCH_TIMEOUT (R402). -/
  | twinSearchTimeout
  /-- EPOCH_NOTICE_TX (R401). -/
  | epochNoticeTx
  /-- PASSPORT_WRITE (R436). -/
  | passportWrite
  /-- KEYPAD_ENTRY_TIMEOUT (R442). -/
  | keypadEntryTimeout
  /-- KEYPAD_SELECTION_EXPIRY (R442). -/
  | keypadSelectionExpiry
  /-- DISP_VP_FAULT (R453). -/
  | dispVpFault
  /-- DISP_STRESS_SAVE (R459). -/
  | dispStressSave
  /-- FWU_TRIAL_EXPIRY (R503). -/
  | fwuTrialExpiry
  /-- FEED_LOSS_CLEAR (R529). -/
  | feedLossClear
  /-- HOLDUP_COLLAPSE (R534). -/
  | holdupCollapse
  /-- POWER_FAIL_RESET (R535). -/
  | powerFailReset
  /-- INTERNAL_WATCHDOG_EXPIRY (R541). -/
  | internalWatchdogExpiry
  /-- LXO_STOP (R538). -/
  | lxoStop
  /-- KREF_FAIL (R539). -/
  | krefFail
  /-- REFCLK_FAIL (R548). -/
  | refclkFail
  /-- PLL_RELOCK (R548). -/
  | pllRelock
  /-- TWIN_LIVE_IN_EDGE (R400). -/
  | twinLiveInEdge
  /-- CFG_SAVE_COMPLETE (R544). -/
  | cfgSaveComplete
  /-- FWU_COMMAND_COMPLETE (R495). -/
  | fwuCommandComplete
  /-- HUSK_FRONT_ENDS_RUNNING (R282). -/
  | huskFrontEndsRunning
  /-- FRAM_ACCESS_COMPLETE (R437). -/
  | framAccessComplete
  /-- CARD_WAIT_EXPIRY (R431). -/
  | cardWaitExpiry
  /-- TAG_FIELD_DROP (R433). -/
  | tagFieldDrop
  deriving DecidableEq, Repr

end Sys2Proof
end

