-- ==== Sys2Proof/Decode.lean ====
section
/-!
DEFINITION. The decoder of command words. The spec's opcode table gives its rows no bits, so no word spells a command (log entry 1): a command packet is read by the fabric
(`Machine/Fabric.lean`), by the header of R42.
-/
namespace Sys2Proof

/-- The command that a word spells by the table's bits: none, because no row of the table has bits. -/
def decodeTableWord (_nbits _w : Nat) : Option Instr := none

end Sys2Proof
end

