-- ==== Sys2Proof/Machine/Crc.lean ====
section
/-!
DEFINITION. The cyclic redundancy checks the spec defines bit by bit: CRC-32C of packets and stored copies (R43), the safety CRC of Stone frames (R364)
and the CRC-16 of tokens (R248). All three are computed one bit at a time, as their polynomials are written.
-/
namespace Sys2Proof.Machine

/-- One bit of a reflected 32-bit CRC. -/
def crcBitR (poly : BitVec 32) (c : BitVec 32) : BitVec 32 :=
  if c.getLsbD 0 then (c >>> 1) ^^^ poly else c >>> 1

/-- One byte of a reflected 32-bit CRC. -/
def crcByteR (poly : BitVec 32) (c : BitVec 32) (b : Byte) : BitVec 32 :=
  Nat.repeat (crcBitR poly) 8 (c ^^^ b.setWidth 32)

/-- A reflected 32-bit CRC with initial value and final XOR of all ones. -/
def crcR (poly : BitVec 32) (bs : Bytes) : BitVec 32 :=
  bs.foldl (crcByteR poly) 0xFFFFFFFF ^^^ 0xFFFFFFFF

/-- CRC-32C (R43): polynomial 0x1EDC_6F41, reflected form 0x82F6_3B78. -/
def crc32c (bs : Bytes) : BitVec 32 := crcR 0x82F63B78 bs

/-- The polynomial 0xF4AC_FB13 in reflected form. -/
def safetyPolyR : BitVec 32 := 0xC8DF352F

/-- The safety CRC of Stone frames and the safety image (R364). -/
def crcSafety (bs : Bytes) : BitVec 32 := crcR safetyPolyR bs

/-- One bit of CRC-16 with polynomial 0x1021, most significant bit first. -/
def crc16Bit (c : BitVec 16) : BitVec 16 :=
  if c.getLsbD 15 then (c <<< 1) ^^^ 0x1021 else c <<< 1

/-- One byte of CRC-16. -/
def crc16Byte (c : BitVec 16) (b : Byte) : BitVec 16 :=
  Nat.repeat crc16Bit 8 (c ^^^ (b.setWidth 16 <<< 8))

/-- CRC-16 with polynomial 0x1021 and initial value 0xFFFF (R248). -/
def crc16 (bs : Bytes) : BitVec 16 := bs.foldl crc16Byte 0xFFFF

end Sys2Proof.Machine
end

