-- ==== Sys2Proof/Machine/Operands.lean ====
section
/-!
DEFINITION. Operand forms: the fields of payloads, replies and records, which are byte strings with the least significant byte of each field first (R5),
and the bit fields of registers (R4).
-/
namespace Sys2Proof.Machine

/-- The `k` low bytes of `n`, least significant first (R5). -/
def leN (n : Nat) : Nat → Bytes
  | 0 => []
  | k + 1 => byte n :: leN (n / 256) k

/-- The number that a byte string spells, least significant byte first (R5). -/
def leNat : Bytes → Nat
  | [] => 0
  | b :: bs => b.toNat + 256 * leNat bs

/-- The number of `k` bytes, most significant first: fields of published standards (R5). -/
def beN (n k : Nat) : Bytes := (leN n k).reverse

/-- The number that a byte string spells, most significant byte first. -/
def beNat (bs : Bytes) : Nat := leNat bs.reverse

/-- The field of `len` bytes at `off`. -/
def num (p : Bytes) (off len : Nat) : Nat := leNat ((p.drop off).take len)

/-- `n` as a signed number of `bits` bits. -/
def toSigned (bits n : Nat) : Int :=
  if n % 2 ^ bits < 2 ^ (bits - 1) then (n % 2 ^ bits : Nat) else ((n % 2 ^ bits : Nat) : Int) - (2 ^ bits : Nat)

/-- The two's-complement number of `bits` bits with the value of `i`. -/
def ofSigned (bits : Nat) (i : Int) : Nat := (i % (2 ^ bits : Nat)).toNat

/-- The signed field of `len` bytes at `off`. -/
def snum (p : Bytes) (off len : Nat) : Int := toSigned (8 * len) (num p off len)

/-- The `k` bytes of a signed number. -/
def leI (i : Int) (k : Nat) : Bytes := leN (ofSigned (8 * k) i) k

/-- `bs` filled with zero bytes to length `k`, or cut to it. -/
def padTo (k : Nat) (bs : Bytes) : Bytes := (bs ++ List.replicate k 0).take k

/-- `i` held within the range of a signed number of `bits` bits. -/
def satSigned (bits : Nat) (i : Int) : Int := max (-(2 ^ (bits - 1) : Nat)) (min i ((2 ^ (bits - 1) : Nat) - 1))

/-- The field `[hi:lo]` of a word (R4). -/
def wfld (w : Word) (hi lo : Nat) : Nat := w.toNat / 2 ^ lo % 2 ^ (hi + 1 - lo)

/-- The signed field `[hi:lo]` of a word. -/
def wsfld (w : Word) (hi lo : Nat) : Int := toSigned (hi + 1 - lo) (wfld w hi lo)

/-- The word with `v` in its field `[hi:lo]`. -/
def wput (w : Word) (hi lo v : Nat) : Word :=
  word (w.toNat - wfld w hi lo * 2 ^ lo + v % 2 ^ (hi + 1 - lo) * 2 ^ lo)

/-- Bit `i` of a word. -/
def wbit (w : Word) (i : Nat) : Bool := w.getLsbD i

/-- The bits of a mask below `n`, as a list of positions in rising order. -/
def maskBits (n m : Nat) : List Nat := (List.range n).filter (fun i => m.testBit i)

/-- The mask with the given positions set. -/
def bitsMask (l : List Nat) : Nat := l.foldl (fun m i => m ||| 2 ^ i) 0

/-- 1 for true, 0 for false. -/
def b2n (b : Bool) : Nat := if b then 1 else 0

/-- A quotient whose rounding the spec does not state: the floor, or one more where it is inexact and the free value `n` says so (log entry 5). -/
def divOpen (a b : Int) (n : Nat) : Int :=
  a / b + (if a % b = 0 then 0 else if Config.roundUp n then 1 else 0)

/-- `l` with its elements placed in rising order of `key`; equal keys keep their order. -/
def insertBy {α : Type} (key : α → Nat) (x : α) : List α → List α
  | [] => [x]
  | y :: l => if key x < key y then x :: y :: l else y :: insertBy key x l

/-- Stable insertion sort by `key`. -/
def sortBy {α : Type} (key : α → Nat) (l : List α) : List α := l.foldl (fun acc x => insertBy key x acc) []

end Sys2Proof.Machine
end

