-- ==== Sys2Proof/Machine/State.lean ====
section
/-!
DEFINITION. The state of the module as plain data: the queue of waiting commands, the command fabric, and the device (every block's registers and the
state behind them). Status words, configuration and counters that the register maps name are held once, in `Dev.regs`, keyed by byte address and read
through named accessors; what stands behind them and no register shows is held in one structure per block (`Parts.lean`).
-/
namespace Sys2Proof.Machine


/-! ### The device and the machine -/

/-- The device: everything but the command fabric and the queue. `pip` is TB1's pip number; `osc` counts periods of 250 µs by the oscillators that never stop (R33: those of the Stone and the switch die); `fresh` counts the free values taken (the model's own, log entry 6);
`regs` every register's difference from its Reset column and `shadow` the shadows' difference from live (R10); `live` the Live writes that wait for the next boundary;
`outbox` final replies the units have produced; `mirror` the Kernel as the last sample latch copied it (R28). -/
structure Dev where
  pip : Nat
  osc : Nat
  fresh : Nat
  regs : Tab Word
  shadow : Tab Word
  live : List LivePend
  outbox : List Done
  straps : Straps
  sys : Sys
  time : TimeU
  out : OutUnit
  kern : Kernel
  mirror : Kernel
  bill : Bill
  husk : Husk
  mesh : Mesh
  key : KeyUnit
  guard : Tab GChan
  safe : SafeU
  lsw : Lsw
  disp : DispU
  tag : TagU
  fwu : FwuU
  mem : MemU
  twin : TwinU
  deriving DecidableEq, Repr

/-- The device right after power-on, with factory contents in every flash. -/
def Dev.reset : Dev :=
  { pip := 0, osc := 0, fresh := 0, regs := [], shadow := [], live := [], outbox := [], straps := { role := false, sprout := false, hostsel := false },
    sys := Sys.reset, time := TimeU.reset, out := OutUnit.reset, kern := Kernel.factory, mirror := Kernel.factory, bill := Bill.reset, husk := Husk.reset, mesh := Mesh.reset,
    key := KeyUnit.factory, guard := [], safe := SafeU.reset, lsw := Lsw.reset, disp := DispU.reset,
    tag := TagU.reset, fwu := FwuU.factory, mem := MemU.reset, twin := TwinU.reset }

/-- The machine: the commands that wait, first in first out, the command fabric, and the device. -/
structure State where
  pending : List Instr
  fab : Fab
  dev : Dev
  deriving DecidableEq, Repr

/-- Why a command faults: no command of this block does. -/
inductive Fault where
  /-- Raised by no meaning: the spec gives every command of the block an effect. Safe. -/
  | none
  deriving DecidableEq, Repr

/-- Why a command is refused. -/
inductive Refusal where
  /-- The dispatcher's arm of a command without a meaning; no arm raises it. Safe. -/
  | notModelled (mnemonic : String)
  deriving DecidableEq, Repr

/-- The machine right after reset: mode BOOT, no command waiting, memory and registers as the maps' Reset columns give them. -/
def State.reset : State := { pending := [], fab := Fab.reset, dev := Dev.reset }

end Sys2Proof.Machine
end

