-- ==== Sys2Proof/Machine/Calendar.lean ====
section
/-!
DEFINITION. Local time, the tariff calendar and the tariff-table blob (R211, R218, R219, R223 to R227, R231, R232). Dates are the Gregorian calendar's (log entry 12).
-/
namespace Sys2Proof.Machine

/-- Days of a civil date since 1970-01-01. -/
def daysFromCivil (y m d : Int) : Int :=
  let y' := if m ≤ 2 then y - 1 else y
  let era := y' / 400
  let yoe := y' - era * 400
  let doy := (153 * (if m > 2 then m - 3 else m + 9) + 2) / 5 + d - 1
  let doe := yoe * 365 + yoe / 4 - yoe / 100 + doy
  era * 146097 + doe - 719468

/-- The civil date (year, month, day) of a day number since 1970-01-01. -/
def civilFromDays (z0 : Int) : Int × Nat × Nat :=
  let z := z0 + 719468
  let era := z / 146097
  let doe := z - era * 146097
  let yoe := (doe - doe / 1460 + doe / 36524 - doe / 146096) / 365
  let doy := doe - (365 * yoe + yoe / 4 - yoe / 100)
  let mp := (5 * doy + 2) / 153
  let d := doy - (153 * mp + 2) / 5 + 1
  let m := if mp < 10 then mp + 3 else mp - 9
  (yoe + era * 400 + (if m ≤ 2 then 1 else 0), m.toNat, d.toNat)

/-- Day of the week of a day number, Monday 0 to Sunday 6. -/
def weekday (z : Int) : Nat := ((z + 3) % 7).toNat

/-- The local offset in minutes at a UTC second (R211): the last change at or before it, or the standard offset. -/
def Tariff.offsetAt (t : Tariff) (utc : Int) : Int :=
  ((t.changes.filter fun c => c.1 ≤ utc).getLast?.map (·.2)).getD t.stdOfs

/-- Local seconds of a UTC second. -/
def Tariff.localSec (t : Tariff) (utc : Int) : Int := utc + t.offsetAt utc * 60

/-- The day type, whether by a special day, and the season of a local day number (R223). -/
def Tariff.dayOf (t : Tariff) (day : Int) : Nat × Bool × Nat :=
  let (y, m, d) := civilFromDays day
  let started := (List.range t.seasons.length).filter fun i =>
    match t.seasons[i]? with
    | some (sm, sd, _) => sm < m || (sm = m && sd ≤ d)
    | none => false
  let season := started.getLast?.getD (t.seasons.length - 1)
  match t.specials.find? fun s => (s.1 : Int) = y && s.2.1 = m && s.2.2.1 = d with
  | some s => (s.2.2.2, true, season)
  | none =>
    match t.specials.find? fun s => s.1 = 0 && s.2.1 = m && s.2.2.1 = d with
    | some s => (s.2.2.2, true, season)
    | none =>
      match t.seasons[season]? with
      | some (_, _, week) => (week.getD (weekday day) 0, false, season)
      | none => (0, false, season)

/-- The calendar's tariff at a UTC second (R224). -/
def Tariff.tariffAt (t : Tariff) (utc : Int) : Nat :=
  let loc := t.localSec utc
  let day := loc / 86400
  let minute := (loc % 86400 / 60).toNat
  let entries := t.dayTypes.getD (t.dayOf day).1 []
  ((entries.filter fun e => e.2 ≤ minute).getLast?.map (·.1)).getD 0

/-- The last demand-interval boundary at or before a UTC second, in UTC seconds (R227). -/
def Tariff.boundaryAt (t : Tariff) (utc : Int) : Int :=
  let loc := t.localSec utc
  let step : Int := t.len * 60
  utc - (loc % 86400) % step

/-- The first demand-interval boundary at or after a UTC second. -/
def Tariff.nextBoundary (t : Tariff) (utc : Int) : Int :=
  let b := t.boundaryAt utc
  if b = utc then b else b + (t.len * 60 : Nat)

/-- The calendar key of a local day and minute, in KERN_LAST_KEY's coding (R232); the register shows its low 32 bits. -/
def keyOf (day : Int) (minute : Nat) : Int :=
  let (y, m, d) := civilFromDays day
  (y - 2000) * 2 ^ 24 + (m * 2 ^ 20 + d * 2 ^ 15 + minute : Nat)

/-- Whether a billing boundary of the table falls on a local day at a minute (R218). -/
def Tariff.billsAt (t : Tariff) (day : Int) (minute : Nat) : Bool :=
  let (_, m, d) := civilFromDays day
  t.boundaries.any fun (kind, bm, bd, bmin) =>
    bmin = minute && (match kind with
      | 1 => bd = d
      | 2 => bm = m && bd = d
      | _ => bd = weekday day + 1)

/-- The billing-boundary occurrences with local second in `(a, b]`, in calendar order, as (local day, minute). -/
def Tariff.billsLocal (t : Tariff) (a b : Int) : List (Int × Nat) :=
  let d0 := a / 86400
  let mins := sortBy id ((t.boundaries.map fun x => x.2.2.2).eraseDups)
  (List.range ((b / 86400 - d0).toNat + 1)).flatMap fun (i : Nat) =>
    let day : Int := d0 + i
    (mins.filter fun mi => t.billsAt day mi && a < day * 86400 + mi * 60 && day * 86400 + mi * 60 ≤ b).map fun mi => (day, mi)

/-- The occurrences with UTC second in `(a, b]`, stretch by stretch between the offset changes from `a` on. -/
def Tariff.billsStretches (t : Tariff) (b : Int) : List Int → Int → List (Int × Nat)
  | [], a => t.billsLocal (t.localSec b - (b - a)) (t.localSec b)
  | c :: cs, a => t.billsLocal (t.localSec (c - 1) - (c - 1 - a)) (t.localSec (c - 1)) ++ t.billsStretches b cs (c - 1)

/-- The billing-boundary occurrences with UTC second in `(a, b]`, those of a repeated local hour twice, in calendar order (R217, R225, R236). -/
def Tariff.billsBetween (t : Tariff) (a b : Int) : List (Int × Nat) :=
  sortBy (fun o => (keyOf o.1 o.2 + 2 ^ 48).toNat) (t.billsStretches b ((t.changes.map (·.1)).filter fun c => a < c && c ≤ b) a)

/-! ### The tariff-table blob (R218, R219) -/

/-- Read `n` day types from a byte string: each a count, a zero byte and its entries. -/
def readDayTypes : Nat → Bytes → Option (List (List (Nat × Nat)) × Bytes)
  | 0, p => some ([], p)
  | n + 1, p =>
    let k := num p 0 1
    if k < 1 || 64 < k || num p 1 1 ≠ 0 || p.length < 2 + 2 * k then none
    else
      let es := (List.range k).map fun i => num p (2 + 2 * i) 2
      if es.any fun e => e.testBit 11 then none
      else match readDayTypes n (p.drop (2 + 2 * k)) with
        | some (l, r) => some ((es.map fun e => (e / 4096, e % 2048)) :: l, r)
        | none => none

/-- Read `n` fixed-size items. -/
def readItems {α : Type} (size : Nat) (f : Bytes → α) : Nat → Bytes → List α
  | 0, _ => []
  | n + 1, p => f (p.take size) :: readItems size f n (p.drop size)

/-- Whether a list is strictly ascending. -/
def ascending (l : List Int) : Bool := (l.zip l.tail).all fun (a, b) => a < b

/-- Parse a tariff table and make the checks of R219 but for the signature and the version. -/
def Tariff.parse (p : Bytes) : Option Tariff :=
  let n := num p 5 1
  let len := num p 6 1
  let dc := num p 7 1
  let std := snum p 20 2
  let s := num p 22 1
  let h := num p 23 1
  let b := num p 24 1
  let c := num p 25 1
  if p.length < 100 || 3304 < p.length || (p.take 4 ≠ [0x4B, 0x42, 0x54, 0x54]) || num p 4 1 ≠ 1 || n < 1 || 16 < n
     || !([1, 2, 3, 4, 5, 6, 10, 12, 15, 20, 30, 60].contains len) || dc < 1 || 16 < dc || std < -720 || 840 < std
     || s < 1 || 8 < s || 128 < h || b < 1 || 16 < b || 32 < c || num p 26 6 ≠ 0 then none
  else match readDayTypes dc (p.drop 32) with
    | none => none
    | some (dts, r) =>
      let seasons := readItems 9 (fun q => (num q 0 1, num q 1 1, (List.range 7).map fun i => num q (2 + i) 1)) s r
      let r1 := r.drop (9 * s)
      let specials := readItems 5 (fun q => (num q 0 2, num q 2 1, num q 3 1, num q 4 1)) h r1
      let r2 := r1.drop (5 * h)
      let bounds := readItems 6 (fun q => (num q 0 1, num q 1 1, num q 2 1, num q 4 2)) b r2
      let boundZero := (List.range b).all fun i => num r2 (6 * i + 3) 1 = 0
      let r3 := r2.drop (6 * b)
      let changes := readItems 10 (fun q => (snum q 0 8, snum q 8 2)) c r3
      let rest := r3.drop (10 * c)
      let badDt := dts.any fun es =>
        (es.head?.map (·.2)) ≠ some 0 || !ascending (es.map fun e => (e.2 : Int)) || es.any fun e => 1440 ≤ e.2 || n ≤ e.1 || e.2 % len ≠ 0
      let badSeason := !ascending (seasons.map fun x => (x.1 * 32 + x.2.1 : Int)) || seasons.any fun x => x.2.2.any fun d => dc ≤ d
      let badSpecial := specials.any fun x => dc ≤ x.2.2.2
      let badBound := !boundZero || bounds.any fun (k, m, d, mi) =>
        k < 1 || 3 < k || mi % len ≠ 0 || 1440 ≤ mi || (k = 1 && (m ≠ 0 || d < 1 || 28 < d)) || (k = 3 && (m ≠ 0 || d < 1 || 7 < d))
          || (k = 2 && (m < 1 || 12 < m || d < 1 || [31, 28, 31, 30, 31, 30, 31, 31, 30, 31, 30, 31].getD (m - 1) 0 < d))
      let badChange := !ascending (changes.map (·.1)) || changes.any fun x => x.2 < -720 || 840 < x.2 || (x.2 - std) % (len : Int) ≠ 0
      if rest.length ≠ 64 || badDt || badSeason || badSpecial || badBound || badChange then none
      else some { version := num p 8 4, n := n, len := len, activation := snum p 12 8, stdOfs := std, dayTypes := dts, seasons := seasons, specials := specials,
                  boundaries := bounds, changes := changes, raw := p }

end Sys2Proof.Machine
end

