-- ==== Sys2Proof/Machine/KernMeas.lean ====
section
/-!
DEFINITION. The Kernel's measurement (05_kernel_measurement.md): calibration, per-sample energy with its sorting by sign, zero crossings, stream faults, live-magnitude
flags, pulse outputs, hub balance and the sample latch, as functions on the Kernel alone: nothing else is in their reach (R25, R29).
-/
namespace Sys2Proof.Machine

/-- A channel of the Kernel. -/
def Kernel.ch (k : Kernel) (m : Nat) : KChan := tget KChan.reset k.chans m

/-- Change a channel. -/
def Kernel.setCh (k : Kernel) (m : Nat) (f : KChan → KChan) : Kernel := { k with chans := tset KChan.reset k.chans m (f (k.ch m)) }

/-- The accumulator unit: the 40 fraction bits of a µWh (R160). -/
def accUnit : Nat := 2 ^ 40

/-- The billing register of an accumulator in mWh (R161). -/
def mwh (acc : Nat) : Nat := acc / (accUnit * 1000)

/-- The 80 integer bits of an accumulator in µWh. -/
def uwh (acc : Nat) : Nat := acc / accUnit

/-- Whether MC_m leads a complete gang by the configurations that `f` picks (R153). -/
def Kernel.gangBy (k : Kernel) (f : KChan → KCfg) (m : Nat) : Bool :=
  let a := f (k.ch m)
  let b := f (k.ch (m + 1))
  let c := f (k.ch (m + 2))
  m ≤ 29 && a.gang = 0 && b.gang = 1 && c.gang = 2 && [a, b, c].all (fun x => x.kind = 1 && x.role = 1 && x.group = a.group)

/-- Whether MC_m leads a complete gang. -/
def Kernel.gang (k : Kernel) (m : Nat) : Bool := k.gangBy (·.act) m

/-- Whether OUT_n's three channels form a complete gang with the role OUTLET (04_outlets_and_sessions.md, after R117). -/
def Kernel.outletGang (k : Kernel) (n : Nat) : Bool := k.gang n

/-- The lead of the complete gang that MC_m belongs to. -/
def Kernel.leadOf (k : Kernel) (m : Nat) : Option Nat :=
  ([m, m - 1, m - 2].filter fun l => l ≤ m && m ≤ l + 2 && k.gang l).head?

/-- The engineering value of a code (R155), with 16 fraction bits; the rounding of the last bit is not stated. -/
def calibrate (c : Int) (ofs : Int) (gain : Nat) (free : Nat) : Int := divOpen ((c * 256 - ofs) * gain) 4194304 free

/-- The integer square root, rounded down, by `n` steps of bisection on bits. -/
def isqrtAux (v : Nat) : Nat → Nat → Nat
  | 0, r => r
  | n + 1, r => isqrtAux v n (if (r + 2 ^ n) * (r + 2 ^ n) ≤ v then r + 2 ^ n else r)

/-- The integer square root of a number below 2^128, rounded down. -/
def isqrt (v : Nat) : Nat := isqrtAux v 64 0

/-- The RMS window of R173 in samples. -/
def KCfg.window (c : KCfg) : Nat := if c.freq = 0 then 160 else 133

/-- The sum of the squares of a list. -/
def sumSq (l : List Int) : Nat := l.foldl (fun a x => a + (x * x).toNat) 0

/-- The sum of a list of integers. -/
def isum (l : List Int) : Int := l.foldl (· + ·) 0

/-- Whether the newest sample of a channel meets R173's test against I_break in 0.1 A: magnitude (DC) or RMS over the window (AC), strictly below. -/
def KChan.belowTest (c : KChan) (iBreak : Nat) : Bool :=
  let lim := iBreak * 100 * 65536
  if c.act.kind = 0 then (c.iHist.headD 0).natAbs < lim
  else
    let w := c.iHist.take c.act.window
    sumSq w < lim * lim * w.length

/-- One bit enters a sinc3 stage's integrators (R144): a 1 as +1, a 0 as −1 (DEDUCED, log entry 80). -/
def KDec.bit (d : KDec) (b : Bool) : KDec :=
  let i1 := d.i1 + (if b then 1 else -1)
  let i2 := d.i2 + i1
  { d with i1 := i1, i2 := i2, i3 := d.i3 + i2 }

/-- A sample window's bits go through the decimator (R144): the integrators at the bits' rate, the combs once, the newest outputs for the FIR. -/
def KDec.feed (d : KDec) (bits : List Bool) : KDec :=
  let d := bits.foldl KDec.bit d
  let u := d.i3 - d.c1
  let v := u - d.c2
  { d with c1 := d.i3, c2 := u, c3 := v, outs := ((v - d.c3).toInt :: d.outs).take 8 }

/-- The bits of a sample window pass: the run of equal bits after them, and whether a run of 1,024 was seen among them (R170). -/
def KStream.bits (s : KStream) (l : List Bool) : KStream × Bool :=
  l.foldl (fun (x : KStream × Bool) b =>
    let r := if b == x.1.last then x.1.run + 1 else 1
    ({ x.1 with run := r, last := b }, x.2 || decide (1024 ≤ r))) (s, false)

/-- One stream's state after a sample window's bits; `dead` where its clock is gone (R143, R170). -/
def KStream.step (s : KStream) (l : List Bool) (dead : Bool) : KStream :=
  let (t, hit) := s.bits l
  let t := { t with dec := t.dec.feed l }
  if hit || dead then { t with stuck := true, clean := 0 } else if t.stuck then { t with clean := t.clean + 1 } else t

/-- Whether the stream's value is taken as 0 at this sample: while stuck, and for 8 samples after the 80 clean ones (R170). -/
def KStream.zeroed (s : KStream) : Bool := s.stuck && s.clean ≤ 88

/-- The zero-crossing detector after one sample of voltage `v` at instant `t` in 10 ns periods (R167, R168); `v2` is 2 % of V_FS; a crossing is interpolated to 1 µs. -/
def KZc.step (z : KZc) (v : Int) (t : Nat) (v2 : Int) (free : Nat) : KZc :=
  let cross : Option Nat := if v ≥ 0 then (match z.cand with
      | some c => some c
      | none => if z.negT < t && z.armed then some (divOpen ((z.negT : Int) * (v - z.negV) + (t - z.negT : Nat) * (-z.negV)) (100 * (v - z.negV)) free).toNat else none)
    else none
  let z := { z with cand := cross, since := z.since + 1 }
  if z.armed && v ≥ v2 then
    let at_ := cross.getD (t / 100)
    let per := z.last.map fun l => at_ - l
    let good := per.any fun p => 45 * p ≤ 1000000 && 1000000 ≤ 65 * p
    let run := if good then z.goodRun + 1 else 0
    { z with armed := false, cand := none, last := some at_, since := 0, gap := false, goodRun := run, noZc := z.noZc && run < 2,
             periods := match per with
               | some p => (p :: z.periods).take 10
               | none => z.periods }
  else
    let z := if v ≤ -v2 then { z with armed := true } else z
    if v < 0 then { z with negV := v, negT := t } else z

/-- The periods held go, and with them the last crossing, so that the time across the gap or change is no period (R167, R168; DEDUCED, log entry 80). -/
def KZc.discard (z : KZc) : KZc := { z with periods := [], last := none }

/-- freq_valid (R167). -/
def KZc.valid (z : KZc) : Bool := z.periods.length = 10 && z.periods.all fun p => 45 * p ≤ 1000000 && 1000000 ≤ 65 * p

/-- The frequency in mHz: the mean of the periods held (R167), rounded down (R611). -/
def KZc.mHz (z : KZc) : Nat :=
  let s := z.periods.foldl (· + ·) 0
  if s = 0 then 0 else 1000000000 * z.periods.length / s

/-- The code a stream gives, held to 24-bit two's complement, and whether it saturates (R171). -/
def clipCode (c : Int) : Int × Bool := (max (-8388607) (min 8388607 c), c.natAbs ≥ 8388607)

/-- The current of a channel by its phase item (R156), from the newest calibrated samples, newest first: delayed by a positive phase. A negative phase, which advances the current against the voltage, delays the voltage by one
sample and the current by the rest (DESIGN CHOICE, log entry 9). -/
def phased (phase : Int) (rawI : List Int) : Int :=
  let p := if phase < 0 then 8192 + phase else phase
  if p = 0 then rawI.headD 0 else if p = 8192 then rawI.getD 1 0 else Config.fracDelay p rawI

/-- What one sample does to the views of a channel (R144, R155 to R158, R167, R170 to R173; the interpolation of a phase between 0 and a whole sample is open, log entry 9): the bits of its two streams, the oversampling ratio, whether their
clock is lost, settling, the I_break it is judged by. While the streams settle, the code that the decimator gives is judged for saturation although the sample shown is the repeated one (DESIGN CHOICE, log entry 80). -/
def KChan.sample (c : KChan) (bv bi : List Bool) (osr : Nat) (dead : Bool) (settle : Bool) (t free brk : Nat) : KChan :=
  let sv := c.sv.step bv dead
  let si := c.si.step bi dead
  let (kv, satV) := clipCode (Config.fir osr sv.dec.outs)
  let (ki, satI) := clipCode (Config.fir osr si.dec.outs)
  let a := c.act
  let rawI := ((if si.zeroed then 0 else if settle then c.rawI.headD 0 else calibrate ki a.ofsI a.gainI (free + 1)) :: c.rawI).take 4
  let rawV := ((if sv.zeroed then 0 else if settle then c.rawV.headD 0 else calibrate kv a.ofsV a.gainV free) :: c.rawV).take 2
  let v := if sv.zeroed then 0 else if a.phase < 0 then rawV.getD 1 0 else rawV.headD 0
  let i := if si.zeroed then 0 else phased a.phase rawI
  let zc := if a.kind = 1 then c.zc.step v t (a.vfs * 1000 * 65536 / 50 : Nat) (free + 2) else c.zc
  let c := { c with sv := sv, si := si, rawV := rawV, rawI := rawI, vHist := (v :: c.vHist).take 160, iHist := (i :: c.iHist).take 160, pHist := ((v * i) :: c.pHist).take 800, buf := (c.buf ++ [(v, i)]).take 8,
                    zc := zc, satVNow := c.satVNow || satV, satINow := c.satINow || satI, satCnt := (c.satCnt + b2n satV + b2n satI) % 2 ^ 32,
                    stuckCnt := (c.stuckCnt + b2n sv.zeroed + b2n si.zeroed) % 2 ^ 32 }
  { c with below := c.below && c.belowTest brk }

/-- The sorted power of the newest sample times 800, with 32 fraction bits in µW (R159). -/
def KChan.sorted800 (c : KChan) : Int := if c.act.kind = 0 then c.pHist.headD 0 * 800 else isum c.pHist

/-- Add an energy in accumulator units to a pair of accumulators by its sign, never netted (R159). -/
def sortIn (imp exp : Nat) (e : Int) : Nat × Nat := if e ≥ 0 then (imp + e.toNat, exp) else (imp, exp + (-e).toNat)

/-- Add an energy to the tariff registers of a channel (R226). -/
def KChan.addTariff (c : KChan) (t : Nat) (e : Int) : KChan :=
  if e ≥ 0 then { c with tImp := tset 0 c.tImp t (tget 0 c.tImp t + e.toNat) } else { c with tExp := tset 0 c.tExp t (tget 0 c.tExp t + (-e).toNat) }

/-- Set flags on the open interval and the open session of a channel. -/
def KChan.flag (c : KChan) (f : Nat) : KChan :=
  { c with open_ := c.open_.map fun i => { i with flags := i.flags ||| f }, session := c.session.map fun s => { s with flags := s.flags ||| f } }

/-- The energy in accumulator units of a sorted power over a window of `mk` timing-clock periods (R159, R160); the rounding of the last fraction bit is open (log entry 11). -/
def sampleEnergy (sorted800 : Int) (mk free : Nat) : Int := divOpen (sorted800 * mk * 256) (360000000000 * 800) free

/-- The newest sample's energy of channel `m`; `base` is the first draw of the sample's energies. -/
def Kernel.ownEnergy (k : Kernel) (mk base m : Nat) : Int := sampleEnergy (k.ch m).sorted800 mk (base + m)

/-- The newest sample's energy of the outlet that channel `m` leads (R162). -/
def Kernel.outEnergy (k : Kernel) (mk base m : Nat) : Int :=
  sampleEnergy ((k.ch m).sorted800 + (k.ch (m + 1)).sorted800 + (k.ch (m + 2)).sorted800) mk (base + 32 + m)

/-- The energy of the newest sample of channel `m` (R159, R162, R226): its own accumulators, and on the lead of a complete gang the outlet's. -/
def Kernel.energy (k : Kernel) (mk base : Nat) (m : Nat) : Kernel :=
  let c := k.ch m
  if c.act.role = 0 then k
  else
    let e := k.ownEnergy mk base m
    let (i, x) := sortIn c.accImp c.accExp e
    if k.gang m then
      let oe := k.outEnergy mk base m
      let (oi, ox) := sortIn c.oAccImp c.oAccExp oe
      k.setCh m fun c => ({ c with accImp := i, accExp := x, oAccImp := oi, oAccExp := ox }).addTariff k.tariffNow oe
    else k.setCh m fun c => ({ c with accImp := i, accExp := x }).addTariff k.tariffNow e

/-- The outlet accumulators of a channel: the gang's on its lead, else the channel's own (R162). -/
def Kernel.outAcc (k : Kernel) (m : Nat) : Nat × Nat :=
  let c := k.ch m
  if k.gang m then (c.oAccImp, c.oAccExp) else (c.accImp, c.accExp)

/-- The energy in the selected direction that the newest sample adds to a pulse output (R176, R177). -/
def Kernel.pulseEnergy (k : Kernel) (mk base : Nat) (cfg : Word) : Nat :=
  let m := wfld cfg 28 24
  if (k.ch m).act.role = 0 then 0
  else
    let e := if wbit cfg 29 && k.gang m then k.outEnergy mk base m else k.ownEnergy mk base m
    if wbit cfg 30 then (-e).toNat else e.toNat

/-- The threshold of a pulse output in accumulator units: 10⁹ / C µWh, rounded down to the µWh (R176). -/
def pulseThreshold (cfg : Word) : Nat := 1000000000 / wfld cfg 16 0 * accUnit

/-- The level of MPULSE_n at a sample (R178): high from the second sample (250 µs) after the pulse's for 20 samples; a disabled output is low. -/
def KPulse.show (p : KPulse) (now : Nat) : KPulse := { p with level := wbit p.cfg 31 && p.lastAt.any fun l => l + 2 ≤ now && now < l + 22 }

/-- What one sample adds to a pulse output (R177 to R179): each threshold reached is a pulse, emitted now or pending while the previous one is less than 40 samples away. -/
def KPulse.count1 (p : KPulse) (e now : Nat) : KPulse :=
  if !wbit p.cfg 31 || wfld p.cfg 16 0 = 0 then p
  else
    let r := p.residue + e
    let th := pulseThreshold p.cfg
    let n := r / th
    if n = 0 then { p with residue := r }
    else
      let free := p.pending = 0 && (p.lastAt.all fun l => l + 40 ≤ now)
      { p with residue := r % th, count := (p.count + b2n free) % 2 ^ 32, pending := p.pending + n - b2n free, lastAt := if free then some now else p.lastAt }

/-- One sample of a pulse output (R177 to R179). -/
def KPulse.step (p : KPulse) (e now : Nat) : KPulse := (p.count1 e now).show now

/-- Whether a modulator clock leaves its streams without a clock: a clock fault, or KREF lost (R143, R539). -/
def Kernel.clockDead (k : Kernel) (c : Nat) : Bool := k.krefFault || ((k.mclks[c]?).map (·.fault)).getD false

/-! ### The sample grid (R141, R144, R146, R147) -/

/-- The frequency of a modulator clock in MHz. -/
def KMclk.mhz (c : KMclk) : Nat := if c.rate = 1 then 5 else if c.rate = 2 then 10 else 20

/-- The oversampling ratio of the streams of a modulator clock (R144): its periods in 125 µs. -/
def KMclk.osr (c : KMclk) : Nat := c.mhz * 125

/-- Two modulator clock periods in timing-clock periods: of the slowest clock, since one window serves every stream (R146, R147; DEDUCED, log entry 80). -/
def Kernel.trim (k : Kernel) : Int := (k.mclks.foldl (fun a c => max a (200 / c.mhz)) 0 : Nat)

/-- `x` held within `lo` to `hi`. -/
def clampI (lo hi x : Int) : Int := max lo (min hi x)

/-- The length of a sample window in timing-clock periods: 12,500 in FREE; moved by two modulator clock periods towards the pip boundaries in REALIGNING; trimmed in ALIGNED by at most as much,
so that the samples stay within two periods of the boundaries (R146, R147). `m` is where the trim aims. -/
def Kernel.window (k : Kernel) (m : Nat) : Nat :=
  let t := k.trim
  match k.mode with
  | 1 => 12500
  | 2 => (12500 - clampI (-t) t k.phase).toNat
  | _ => (12500 + clampI (-t) t (clampI (-t - k.phase) (t - k.phase) ((m : Int) - 12500))).toNat

/-- A distance from the pip boundaries taken within half a sample. -/
def wrapPhase (x : Int) : Int := (x + 6249) % 12500 - 6249

/-- A sample instant: the legal clock, the sample grid, METSEAL_B against the bit driven at the same instant, and a new pseudo-random bit for the next (R186). -/
def Kernel.advance (k : Kernel) (s : KSampleIn) : Kernel :=
  let w := k.window s.m
  let same := s.sealB.getD k.sealA == k.sealA
  { k with us := k.us + s.us, lag := 0, sampleNo := k.sampleNo + 1, clk := k.clk + w, phase := wrapPhase (k.phase + w - 12500), sealWin := (same :: k.sealWin).take 8,
           sealRun := if same then k.sealRun + 1 else 0, sealA := Config.freeNat k.draws % 2 = 1, draws := k.draws + 1 }

/-- Legal time at the present instant (R211). -/
def Kernel.now (k : Kernel) : Int := k.us + k.lag

/-- Set legal time at the present instant. -/
def Kernel.setNow (k : Kernel) (t : Int) : Kernel := { k with us := t - k.lag }

/-- The instant is a pip boundary, before its first sample: legal time is that of the boundary, a sample's 125 µs after the last sample in ALIGNED (R146, R215, R235), rounded down to the µs of R211. -/
def Kernel.toBoundary (k : Kernel) : Kernel := { k with lag := ((if -k.trim ≤ k.phase then 12500 - k.phase else -k.phase) / 100).toNat }

/-- Whether the Kernel integrates: its firmware runs (R206), and the PFAIL pip has not ended (R235). -/
def Kernel.meters (k : Kernel) : Bool := k.mfault ≠ 5 && !k.pfail

/-- The sample itself over a window of `mk` timing-clock periods: views, energies, pulses (R155 to R162, R170 to R179). A Kernel that integrates no more still ends a pulse's high time (R178, R593). -/
def Kernel.integrate (k : Kernel) (s : KSampleIn) (mk : Nat) : Kernel :=
  if !k.meters then { k with pulses := k.pulses.map fun p => p.show k.sampleNo }
  else
    let k1 := (List.range 32).foldl (fun (k : Kernel) m =>
      let settle : Bool := ((k.mclks[m / 8]?).map fun c => decide (0 < c.settle)).getD false
      let dead := k.clockDead (m / 8)
      let osr := ((k.mclks[m / 8]?).map (·.osr)).getD 0
      let brk := (k.ch ((k.leadOf m).getD m)).iBreak.getD 0
      k.setCh m fun c =>
        let c := c.sample (s.streams.getD (2 * m) []) (s.streams.getD (2 * m + 1) []) osr dead settle k.clk (k.draws + 3 * m) brk
        let c := if settle || c.sv.stuck || c.si.stuck then c.flag 0x100 else c
        if k.sealOpen then c.flag 0x80 else c) k
    let k2 := (List.range 32).foldl (fun (k : Kernel) m => k.energy mk (k1.draws + 96) m) { k1 with draws := k1.draws + 160 }
    { k2 with nSince := k2.nSince + 1, pulses := k2.pulses.map fun p => p.step (k2.pulseEnergy mk (k1.draws + 96) p.cfg) k2.sampleNo,
              mclks := k2.mclks.map fun c => { c with settle := c.settle - 1 } }

/-- PENDING_PULSE_EMIT (R179): a waiting pulse is emitted once 40 samples have passed; one that waits when its output is disabled or assigned anew goes on waiting and is counted then (DESIGN CHOICE, log entry 80). -/
def Kernel.pendingPulse (k : Kernel) (n : Nat) : Kernel :=
  match k.pulses[n]? with
  | some p =>
    if 0 < p.pending && (p.lastAt.all fun l => l + 40 ≤ k.sampleNo) then
      { k with pulses := k.pulses.set n { p with pending := p.pending - 1, count := (p.count + 1) % 2 ^ 32, lastAt := some k.sampleNo } }
    else k
  | none => k

/-- The live-magnitude flag of OUT_n at a latch with at least one sample (R173, R175): true for "below". -/
def Kernel.liveFlag (k : Kernel) (n : Nat) : Bool :=
  let judged := if k.gang n then [n, n + 1, n + 2] else [n]
  k.mfault ≠ 5 && (k.ch n).act.role = 1 && (k.ch n).iBreak.isSome && judged.all fun m =>
    (k.ch m).below && !(k.ch m).si.stuck && !k.clockDead (m / 8)

/-- Whether a fault forces the flag to "above" whatever the samples (R175). -/
def Kernel.liveForced (k : Kernel) (n : Nat) : Bool :=
  let judged := if k.gang n then [n, n + 1, n + 2] else [n]
  k.mfault = 5 || (k.ch n).act.role ≠ 1 || (k.ch n).iBreak.isNone || judged.any fun m => (k.ch m).si.stuck || k.clockDead (m / 8)

/-- What the latch shows of a channel (R148): of the samples since the last latch the first eight, which the buffer holds; the mirror words hold the last two samples delivered. -/
def KChan.latch (c : KChan) (n : Nat) (flag : Bool) : KChan :=
  let shown := match c.buf.reverse with
    | [] => c.shown
    | [(v, i)] => (c.shown.2.1, v, c.shown.2.2.2, i)
    | (v, i) :: (v', i') :: _ => (v', v, i', i)
  let c := if n = 0 then c else { c with shown := shown, buf := [], satV := c.satVNow, satI := c.satINow }
  { c with liveBelow := flag, below := true, satVNow := false, satINow := false }

/-- The Kernel's part of the sample latch (R148, R173) at the pip boundary: views, flags, latch count. -/
def Kernel.latch (k : Kernel) : Kernel :=
  let k := k.toBoundary
  let flags := (List.range 32).map fun n => if k.liveForced n then false else if k.nSince = 0 then (k.ch n).liveBelow else k.liveFlag n
  let k' := (List.range 32).foldl (fun (k : Kernel) m => k.setCh m fun c => c.latch k.nSince (flags.getD m false)) k
  { k' with latchCount := min k.nSince 15, nSince := 0, latches := k.latches + 1, strobeAge := k.strobeAge + 1 }

/-- PIP_STROBE (R146, R147): the length in ns of the pip it ends, or none where it is missing. -/
def Kernel.strobe (k : Kernel) (len : Option Nat) : Kernel :=
  match len with
  | some l =>
    let k := { k with phase := wrapPhase (k.phase + (250000 - (l : Int)) / 10) }
    if 249800 ≤ l && l ≤ 250200 then { k with strobeAge := 0, regular := k.regular + 1 }
    else { k with strobeAge := 0, regular := 0, mode := 1, alignLost := (k.alignLost + (if k.mode = 1 then 0 else 1)) % 2 ^ 32 }
  | none => { k with regular := 0, mode := 1, alignLost := (k.alignLost + (if k.mode = 1 then 0 else 1)) % 2 ^ 32 }

/-- KERNEL_REALIGN_START (R147). -/
def Kernel.realign (k : Kernel) : Kernel := if k.mode = 1 && 16 ≤ k.regular then { k with mode := 2 } else k

/-- KERNEL_ALIGNED (R146, R147): from REALIGNING, once the sample phase has come within two modulator clock periods of the pip boundaries. -/
def Kernel.aligned (k : Kernel) : Kernel := if k.mode = 2 && k.phase.natAbs ≤ k.trim.natAbs then { k with mode := 0 } else k

/-- The net energy of a channel in accumulator units. -/
def KChan.net (c : KChan) : Int := (c.accImp : Int) - c.accExp

/-- Nine times 1 W for 1 s in accumulator units: 1 W s is 2,500/9 µWh. -/
def wattSecond9 : Nat := accUnit * 2500

/-- Whether the balance group of a channel is failing (R181). -/
def Kernel.balanceFailing (k : Kernel) (m : Nat) : Bool :=
  let c := (k.ch m).act
  c.role ≠ 0 && c.group ≠ 0 && ((k.bals[c.group - 1]?).map (·.failing)).getD false

/-- The check of one balance group (R180, R181): nine times its residual R in 10⁻⁴ accumulator units, failure when it exceeds the tolerance. Every failing check from the count-th on flags the intervals then open, those opened
since the count-th too (DESIGN CHOICE, log entry 80). -/
def Kernel.balanceOne (k : Kernel) (g : Nat) : Kernel :=
  match k.bals[g]? with
  | none => k
  | some b =>
    let members := (List.range 32).filter fun m => (k.ch m).act.group = g + 1 && (k.ch m).act.role ≠ 0
    if !(members.any fun m => (k.ch m).act.role = 2) then k
    else
      let adv := fun role => isum ((members.filter fun m => (k.ch m).act.role = role).map fun m => (k.ch m).net - (k.ch m).balBase)
      let eF := adv 2
      let eO := adv 1
      let r := 9 * ((eF - eO) * 10000 - wfld b.cfg 15 0 * eO) - (wfld b.cfg 31 16 * wattSecond9 * 10000 : Nat)
      let tol := wfld b.tol 11 0 * 10 * wattSecond9 * 10000 + 9 * wfld b.tol 23 12 * eF.natAbs
      let fail := tol < r.natAbs
      let cnt := wfld b.tol 31 24
      let runF := if fail then b.runFail + 1 else 0
      let runP := if fail then 0 else b.runPass + 1
      let b' := { b with result := r / (wattSecond9 * 10000 : Nat), failCnt := (b.failCnt + b2n fail) % 2 ^ 32, runFail := runF, runPass := runP,
                         failing := decide (cnt ≤ runF) || (b.failing && decide (runP < cnt)) }
      let k := { k with bals := k.bals.set g b' }
      if cnt ≤ runF then members.foldl (fun (k : Kernel) m => k.setCh m fun c => { c with open_ := c.open_.map fun i => { i with flags := i.flags ||| 0x10 } }) k else k

/-- BALANCE_CHECK (R180): once per second, at the latch of each pip that is a multiple of 4,000, or every 8,000 samples in FREE. -/
def Kernel.balanceCheck (k : Kernel) (pip : Nat) : Kernel :=
  if (k.mode ≠ 1 && pip % 4000 = 0 && k.lastBal ≠ some k.latches) || (k.mode = 1 && k.lastBalSample + 8000 ≤ k.sampleNo) then
    let k := (List.range 8).foldl (fun (k : Kernel) g => k.balanceOne g) k
    let k := (List.range 32).foldl (fun (k : Kernel) m => k.setCh m fun c => { c with balBase := c.net }) k
    { k with lastBal := some k.latches, lastBalSample := k.sampleNo }
  else k

end Sys2Proof.Machine
end

