-- ==== Sys2Proof/Machine/KernLedger.lean ====
section
/-!
DEFINITION. The Kernel's ledger (06_kernel_seal_and_ledger.md): record formats, the hash chain, signing, demand intervals, sessions and receipts, audit and checkpoint
records, programming and reclaiming.
-/
namespace Sys2Proof.Machine

/-- Truncate a count to 32 bits. -/
def wrap32 (n : Nat) : Nat := n % 2 ^ 32

/-- An element of a record: tag, length, value (R197). -/
def elem (tag : Nat) (v : Bytes) : Bytes := [byte tag, byte v.length] ++ v

/-- START_TIME or END_TIME: seconds (8), milliseconds (2), offset in minutes (2), from legal µs (R197, R211). -/
def timeVal (us ofs : Int) : Bytes := leI (us / 1000000) 8 ++ leN ((us % 1000000 / 1000).toNat) 2 ++ leI ofs 2

/-- The local offset in force at a legal time. -/
def Kernel.ofs (k : Kernel) (us : Int) : Int := k.tariff.offsetAt (us / 1000000)

/-- Whether the Kernel can sign (R205). -/
def Kernel.signing (k : Kernel) : Bool := k.signer = 0

/-- The FLAGS bits that the signer state adds to a record (R205). -/
def Kernel.signFlags (k : Kernel) : Nat := if k.signer = 0 then 0 else if k.signer = 1 then 0x60 else 0x20

/-- Put a record at the end of the chain (R192, R193, R197): `body` follows PREV_HASH; a signed record ends with SIGNATURE, 64 zero bytes where `zero` or where the Kernel cannot sign. -/
def Kernel.putRec (k : Kernel) (typ chan session : Nat) (body : Bytes) (signed zero : Bool) : Kernel :=
  let ctr := k.head + 1
  let prev := if k.head = 0 then padTo 32 (Config.sha256 Config.kernCert) else padTo 32 k.headHash
  let len := 50 + body.length + (if signed then 66 else 0)
  let pre := elem 0x01 ([byte typ, 1] ++ leN len 2) ++ elem 0x02 (leN ctr 8) ++ elem 0x03 prev ++ body
  let ok := signed && !zero && k.signing
  let sig := if ok then padTo 64 (Config.ecSign Config.kernKey (Config.sha256 pre) k.draws) else List.replicate 64 0
  let bytes := if signed then pre ++ elem 0x7F sig else pre
  { k with head := ctr, headHash := Config.sha256 bytes, buf := k.buf ++ [{ ctr := ctr, typ := typ, chan := chan, session := session, bytes := bytes, block := 0 }],
           draws := k.draws + 1, unsignedCnt := wrap32 (k.unsignedCnt + b2n (signed && !ok)),
           unsignedRun := if signed then 0 else k.unsignedRun + 1, firstUnsigned := if signed then none else some (k.firstUnsigned.getD ctr) }

/-- A CHECKPOINT record (R203). -/
def Kernel.checkpoint (k : Kernel) (pip : Nat) : Kernel :=
  k.putRec 4 0 0 (elem 0x30 (leN (k.firstUnsigned.getD (k.head + 1)) 8) ++ elem 0x31 (leN pip 8) ++ elem 0x10 ((List.range 12).map Config.serial)) true false

/-- Append a record, and a CHECKPOINT where it is the 256th unsigned record since the last signed one (R199). -/
def Kernel.addRec (k : Kernel) (typ chan session : Nat) (body : Bytes) (signed zero : Bool) : Kernel :=
  let k := k.putRec typ chan session body signed zero
  if 256 ≤ k.unsignedRun then k.checkpoint k.nowPip else k

/-- The bytes of a record that awaits programming. -/
def Kernel.recBytes (k : Kernel) (ctr : Nat) : Bytes := ((k.buf.find? (·.ctr = ctr)).map (·.bytes)).getD []

/-- An AUDIT record (R202). -/
def Kernel.audit (k : Kernel) (event origin result pip : Nat) (detail : Bytes) : Kernel :=
  k.addRec 3 0 0 (elem 0x40 (leN event 2 ++ [byte origin, byte result] ++ leN pip 8 ++ leN k.sealCount 4) ++ elem 0x13 (timeVal k.now (k.ofs k.now)) ++ elem 0x41 (detail.take 128)) false false

/-- CHECKPOINT_DUE (R199): after 256 unsigned records, or once at a pip that is a multiple of 3,600,000, also where the numbering has begun anew. -/
def Kernel.checkpointDue (k : Kernel) (pip : Nat) : Kernel :=
  let quarter := decide (pip % 3600000 = 0) && decide (k.lastCp ≠ some k.latches)
  if 256 ≤ k.unsignedRun || quarter then { k.checkpoint pip with lastCp := if quarter then some k.latches else k.lastCp } else k

/-- The CHANNEL element of a channel (R197): outlet, channel, phases, role. -/
def Kernel.chanElem (k : Kernel) (m : Nat) (phases : Nat) : Bytes :=
  let role := (k.ch m).act.role
  let outlet := if role = 1 then (k.leadOf m).getD m else 0xFF
  elem 0x11 [byte outlet, byte m, byte phases, byte role]

/-- The TARIFF element (R197). -/
def Kernel.tariffElem (k : Kernel) (t0 sw : Nat) : Bytes := elem 0x19 (leN k.tariff.version 4 ++ [byte t0, byte k.tariffNow, byte sw, 0])

/-- Whether the open interval meets R163: both accumulators have advanced by at least 1,000 µWh. -/
def KChan.reversed (c : KChan) : Bool :=
  match c.open_ with
  | some i => 1000 * accUnit ≤ c.accImp - i.accImp0 && 1000 * accUnit ≤ c.accExp - i.accExp0
  | none => false

/-- The body of an INTERVAL record (R200). -/
def Kernel.intervalBody (k : Kernel) (m phases : Nat) (i : KInterval) (endUs : Int) (endPip imp0 imp1 exp0 exp1 flags : Nat) : Bytes :=
  k.chanElem m phases ++ elem 0x20 (leN i.seq 4) ++ elem 0x13 (timeVal i.startUs i.startOfs) ++ elem 0x14 (timeVal endUs (k.ofs endUs))
    ++ elem 0x15 (leN i.startPip 8) ++ elem 0x16 (leN endPip 8) ++ elem 0x17 (leN imp0 8 ++ leN imp1 8) ++ elem 0x18 (leN exp0 8 ++ leN exp1 8)
    ++ k.tariffElem i.tariff0 i.switches ++ elem 0x1A (leN flags 4)

/-- The demand of an interval in W from its advance in mWh (R228). -/
def demandW (adv len : Nat) : Nat := adv * 60 / (len * 1000)

/-- Close the open interval of a channel (R200, R228, R229): its INTERVAL record, a second one for a ganged outlet, the maxima, and the replies of KERN_INTERVAL_WAIT. -/
def Kernel.closeInterval (k : Kernel) (m : Nat) (endUs : Int) (endPip extra : Nat) : Kernel :=
  match (k.ch m).open_ with
  | none => k
  | some i =>
    let c := k.ch m
    let base := i.flags ||| extra ||| k.signFlags
    let flags := base ||| (if c.reversed then 4 else 0)
    let k1 := k.addRec 1 m 0 (k.intervalBody m 1 i endUs endPip i.imp0 (mwh c.accImp) i.exp0 (mwh c.accExp) flags) false false
    let own := k.head + 1
    let bytes := k1.recBytes own
    let (oi, ox) := k.outAcc m
    let k2 := if k.gang m then
        let oflags := base ||| (if 1000 * accUnit ≤ oi - i.oImp0 && 1000 * accUnit ≤ ox - i.oExp0 then 4 else 0)
        k1.addRec 1 m 0 (k.intervalBody m 3 i endUs endPip (mwh i.oImp0) (mwh oi) (mwh i.oExp0) (mwh ox) oflags) false false
      else k1
    let dI := if k.gang m then demandW (mwh oi - mwh i.oImp0) k.tariff.len else demandW (mwh c.accImp - i.imp0) k.tariff.len
    let dX := if k.gang m then demandW (mwh ox - mwh i.oExp0) k.tariff.len else demandW (mwh c.accExp - i.exp0) k.tariff.len
    let t := i.tariff0
    let k3 := k2.setCh m fun c => { c with open_ := Option.none, lastInterval := own, mdImp := tset 0 c.mdImp t (max (tget 0 c.mdImp t) dI), mdExp := tset 0 c.mdExp t (max (tget 0 c.mdExp t) dX) }
    let mine := k3.waits.filter fun w => w.1 = m
    { k3 with waits := k3.waits.filter (fun w => w.1 ≠ m), done := k3.done ++ mine.map fun w => (w.2, 0, bytes) }

/-- Open a demand interval on a channel (R227): its sequence number rises by 1. -/
def Kernel.openInterval (k : Kernel) (m : Nat) (us : Int) (pip flags : Nat) : Kernel :=
  let c := k.ch m
  if c.act.role = 0 then k
  else
    let (oi, ox) := k.outAcc m
    let fl := flags ||| (if c.partialNext then 2 else 0) ||| (if k.sealOpen then 0x80 else 0)
    let iv : KInterval :=
      { seq := wrap32 (c.seq + 1), startUs := us, startOfs := k.ofs us, startPip := pip, imp0 := mwh c.accImp, exp0 := mwh c.accExp, oImp0 := oi, oExp0 := ox,
        accImp0 := c.accImp, accExp0 := c.accExp, tariff0 := k.tariffNow, switches := 0, flags := fl }
    k.setCh m fun c => { c with seq := iv.seq, partialNext := false, open_ := some iv }

/-- Close every open interval. -/
def Kernel.closeAll (k : Kernel) (us : Int) (pip extra : Nat) : Kernel := (List.range 32).foldl (fun (k : Kernel) m => k.closeInterval m us pip extra) k

/-- Open an interval on every OUTLET and FEEDER channel. -/
def Kernel.openAll (k : Kernel) (us : Int) (pip flags : Nat) : Kernel := (List.range 32).foldl (fun (k : Kernel) m => k.openInterval m us pip flags) k

/-! ### Kernel sessions (R201, R612) -/

/-- Whether a session is open on a channel, as a lead or as part of its gang (R612). -/
def Kernel.inSession (k : Kernel) (m : Nat) : Bool := (k.ch m).session.isSome || (k.ch m).gangSession ≠ 0

/-- Open a Kernel session on a channel for an outlet; refused and counted where one is open (R612). -/
def Kernel.sessionOpen (k : Kernel) (m outlet id pip : Nat) : Kernel :=
  if k.inSession m then { k with refusedCnt := wrap32 (k.refusedCnt + 1) }
  else
    let (oi, ox) := k.outAcc m
    let s : KSession := { id := id, outlet := outlet, startUs := k.now, startOfs := k.ofs k.now, startPip := pip, imp0 := mwh oi, exp0 := mwh ox, impAcc := oi, expAcc := ox, tImp0 := (k.ch m).tImp, tExp0 := (k.ch m).tExp, tariff0 := k.tariffNow, switches := 0,
                          flags := (if k.sealOpen then 0x80 else 0) ||| (if (k.ch m).sv.stuck || (k.ch m).si.stuck || (k.ch m).settling then 0x100 else 0) }
    let k := k.setCh m fun c => { c with session := some s }
    if k.gang m then (k.setCh (m + 1) fun c => { c with gangSession := id }).setCh (m + 2) fun c => { c with gangSession := id } else k

/-- Close the Kernel session of a channel and write its RECEIPT (R201); `zero` for one closed at power-fail, whose signature is deferred. -/
def Kernel.sessionClose (k : Kernel) (m pip extra : Nat) (endUs : Int) (zero : Bool) : Kernel :=
  match (k.ch m).session with
  | none => { k with refusedCnt := wrap32 (k.refusedCnt + 1) }
  | some s =>
    let (oi, ox) := k.outAcc m
    let rev := if 1000 * accUnit ≤ oi - s.impAcc && 1000 * accUnit ≤ ox - s.expAcc then 4 else 0
    let body := elem 0x10 ((List.range 12).map Config.serial) ++ elem 0x11 [byte s.outlet, byte m, byte (if k.gang m then 3 else 1), byte (k.ch m).act.role]
      ++ elem 0x12 (leN s.id 8) ++ elem 0x13 (timeVal s.startUs s.startOfs) ++ elem 0x14 (timeVal endUs (k.ofs endUs)) ++ elem 0x15 (leN s.startPip 8) ++ elem 0x16 (leN pip 8)
      ++ elem 0x17 (leN s.imp0 8 ++ leN (mwh oi) 8) ++ elem 0x18 (leN s.exp0 8 ++ leN (mwh ox) 8) ++ k.tariffElem s.tariff0 s.switches
      ++ elem 0x1A (leN (s.flags ||| extra ||| rev ||| k.signFlags) 4) ++ elem 0x1B (leN k.sealCount 4)
    let ctr := k.head + 1
    let k := k.addRec 2 m s.id body true zero
    let k := k.setCh m fun c => { c with session := none, lastReceipt := ctr, closeImp := c.tImp, closeExp := c.tExp, closeReg := mwh oi }
    (k.setCh (m + 1) fun c => if c.gangSession = s.id then { c with gangSession := 0 } else c).setCh (m + 2) fun c => if c.gangSession = s.id then { c with gangSession := 0 } else c

/-! ### Configuration copies (R188, R190, R191, R232) -/

/-- What the Kernel keeps in a configuration copy: the settings as accepted. -/
def Kernel.conf (k : Kernel) (seq : Nat) : KConf :=
  { seq := seq, hash := [], sealCount := k.sealCount, lastKey := k.lastKey, limitMs := (k.limNext.map (·.1)).getD k.limitMs,
    signerKey := match k.limNext with
      | some x => some x.2
      | none => k.signerKey,
    chans := (List.range 32).map fun m => (k.ch m).cfg, pulses := k.pulses.map fun p => p.next.getD p.cfg, bals := k.bals.map fun b => b.next.getD (b.cfg, b.tol), tariff := k.tariff }

/-- Write the older of the two configuration copies: they are written alternately, each with a sequence and a SHA-256 (R191). -/
def Kernel.saveConf (k : Kernel) : Kernel :=
  let c := (k.conf (max k.copyA.seq k.copyB.seq + 1)).sealed
  if k.copyA.seq ≤ k.copyB.seq then { k with copyA := c } else { k with copyB := c }

/-- The newest configuration copy whose SHA-256 is right. -/
def Kernel.newestConf (k : Kernel) : KConf :=
  if k.copyA.ok && (!k.copyB.ok || k.copyB.seq ≤ k.copyA.seq) then k.copyA else k.copyB

/-- The highest seal counter of the configuration copies and the audit records held (R188). -/
def Kernel.highestSeal (k : Kernel) : Nat :=
  (k.ring.filter (·.typ = 3)).foldl (fun a r => max a (num r.bytes 64 4)) (max k.copyA.sealCount k.copyB.sealCount)

/-! ### The seal (R186 to R189) -/

/-- SEAL_OPEN (R187): after 800 matching samples the counter rises (and never decreases, R188: at its highest value it stays), the change is audited and a CHECKPOINT follows (R199). -/
def Kernel.sealOpens (k : Kernel) (pip : Nat) : Kernel :=
  if !k.sealOpen && 800 ≤ k.sealRun then
    let k := { k with sealOpen := true, sealCount := min (k.sealCount + 1) 0xFFFFFFFF, sealLastPip := pip }.saveConf
    let k := (List.range 32).foldl (fun (k : Kernel) m => k.setCh m fun c => c.flag 0x80) k
    (k.audit 1 2 0 pip []).checkpoint pip
  else k

/-- SEAL_CLOSE (R186, R187): 4 of 8 samples disagree; an open firmware load ends with SEALED and is discarded. -/
def Kernel.sealCloses (k : Kernel) (pip : Nat) : Kernel :=
  if k.sealOpen && 4 ≤ (k.sealWin.filter (!·)).length then
    let k := { k with sealOpen := false, sealRun := 0, sealLastPip := pip }
    let k := (k.audit 2 2 0 pip []).checkpoint pip
    match k.fwLoad with
    | some l => { k with fwLoad := none }.audit 0x40 1 0x19 pip (leN l.version 4 ++ leN l.len 4)
    | none => k
  else k

/-! ### Programming and reclaiming (R194 to R196, R614) -/

/-- The erase block size and the number of blocks of the record ring (R191). -/
def blockBytes : Nat := 131072

def ringBlocks : Nat := 494

/-- A region of the Kernel ledger flash (R191). -/
inductive KRegion where
  | conf (b : Bool)
  | slot (n : Nat)
  | ring (block : Nat)
  deriving DecidableEq, Repr

/-- Where a region starts in the Kernel ledger flash (R191). -/
def KRegion.offset : KRegion → Nat
  | .conf b => if b then 0x20000 else 0
  | .slot n => 0x40000 + n * 0x100000
  | .ring b => 0x240000 + b % ringBlocks * blockBytes

/-- The counter of the oldest record held. -/
def Kernel.oldest (k : Kernel) : Nat :=
  match k.ring.getLast? with
  | some r => r.ctr
  | none => match k.buf.head? with
    | some r => r.ctr
    | none => k.head

/-- Blocks that are erased or hold only archived records (R614). -/
def Kernel.freeBlocks (k : Kernel) : Nat :=
  ringBlocks - ((k.ring.filter fun r => k.archived < r.ctr).map (·.block)).eraseDups.length

/-- Erase the oldest block where the block to be filled next is past the ring (R195): unarchived records lost are counted and audited. -/
def Kernel.reclaim (k : Kernel) (pip : Nat) : Kernel :=
  if k.blockNo < k.oldestBlock + ringBlocks then k
  else
    let gone := k.ring.filter fun r => r.block = k.oldestBlock
    let lost := gone.filter fun r => k.archived < r.ctr
    let k := { k with ring := k.ring.filter (fun r => r.block ≠ k.oldestBlock), oldestBlock := k.oldestBlock + 1, overwritten := wrap32 (k.overwritten + lost.length) }
    match lost.getLast?, lost.head? with
    | some a, some b => k.audit 0x52 0 0 pip (leN a.ctr 8 ++ leN b.ctr 8)
    | _, _ => k

/-- LEDGER_RECORD_PROGRAM (R194, R195, R614): the oldest record awaiting programming goes into the block being filled, or the next where it does not fit. -/
def Kernel.program (k : Kernel) (pip : Nat) : Kernel :=
  match k.buf with
  | [] => k
  | r :: rest =>
    let len := r.bytes.length
    let k := { k with buf := rest }
    let k := if k.blockUsed + len ≤ blockBytes then k else { k with blockNo := k.blockNo + 1, blockUsed := 0 }.reclaim pip
    let k := { k with ring := { r with block := k.blockNo } :: k.ring, blockUsed := k.blockUsed + len }
    let k := if r.typ = 2 then { k with stored := k.stored ++ [(num r.bytes 66 1, r.ctr, r.session)] } else k
    match k.snapPend with
    | some (s, last) => if last ≤ r.ctr then { k with snap := some s, snapPend := none, commitOk := true } else k
    | none => k

end Sys2Proof.Machine
end

