-- ==== Sys2Proof/Machine/KernTariff.lean ====
section
/-!
DEFINITION. Legal time, interval and billing boundaries, power failure and restore of the Kernel (R211 to R239).
-/
namespace Sys2Proof.Machine

/-- The legal time in UTC seconds. -/
def Kernel.utc (k : Kernel) : Int := k.now / 1000000

/-- Make `t` the current tariff of every channel; a change counts as one tariff switch in the open spans (R217, R224). -/
def Kernel.setTariff (k : Kernel) (t : Nat) (count : Bool) : Kernel :=
  let sw := b2n count
  let k := { k with tariffNow := t }
  (List.range 32).foldl (fun (k : Kernel) m => k.setCh m fun c =>
    { c with open_ := c.open_.map (fun i => { i with switches := i.switches + sw }), session := c.session.map fun s => { s with switches := s.switches + sw } }) k

/-- The calendar's tariff at a time; a real change is counted as a switch. -/
def Kernel.applyCalendar (k : Kernel) (utc : Int) : Kernel :=
  let t := k.tariff.tariffAt utc
  if t = k.tariffNow then k else k.setTariff t true

/-- The values of an 8-byte list over tariffs 0 to n − 1. -/
def perTariff (n : Nat) (f : Nat → Bytes) : Bytes := (List.range n).flatMap f

/-- The body of a SNAPSHOT of a channel (R238): kind 1 billing period, 2 power-fail. -/
def Kernel.snapshotBody (k : Kernel) (m kind : Nat) (us : Int) (pip flags : Nat) : Bytes :=
  let c := k.ch m
  let n := k.tariff.n
  let ps := (List.range 4).filter fun p => match k.pulses[p]? with
    | some q => wbit q.cfg 31 && wfld q.cfg 28 24 = m
    | none => false
  elem 0x50 ([byte kind, byte k.tariffNow, byte n, 0] ++ leN k.periodSeq 4 ++ leN k.tariff.version 4) ++ k.chanElem m 1
    ++ elem 0x13 (timeVal us (k.ofs us)) ++ elem 0x15 (leN pip 8) ++ elem 0x51 (leN (mwh c.accImp) 8 ++ leN (mwh c.accExp) 8)
    ++ elem 0x52 (perTariff n fun t => leN (mwh (tget 0 c.tImp t)) 8) ++ elem 0x53 (perTariff n fun t => leN (mwh (tget 0 c.tExp t)) 8)
    ++ elem 0x54 (perTariff n fun t => leN (tget 0 c.mdImp t) 4 ++ leN (tget 0 c.mdExp t) 4)
    ++ (if kind = 2 then elem 0x55 (leN (c.accImp * 2 ^ 40 / accUnit) 15 ++ leN (c.accExp * 2 ^ 40 / accUnit) 15)
          ++ (if ps = [] then [] else elem 0x56 (ps.flatMap fun p => [byte p, 0, 0, 0] ++ leN (((k.pulses[p]?).map (·.residue)).getD 0 / accUnit) 4)) else [])
    ++ elem 0x1A (leN (flags ||| k.signFlags) 4)

/-- A SNAPSHOT of every OUTLET and FEEDER channel. -/
def Kernel.snapshots (k : Kernel) (kind : Nat) (us : Int) (pip flags : Nat) : Kernel :=
  (List.range 32).foldl (fun (k : Kernel) m => if (k.ch m).act.role = 0 then k else k.addRec 5 m 0 (k.snapshotBody m kind us pip flags) false false) k

/-- Whether a key is later than the last one fired, of which there may be none (R232, R613). -/
def keyLater (last : Option Int) (key : Int) : Bool := last.all (· < key)

/-- How many of the occurrences fire, in order (R232). -/
def countFired (last : Option Int) : List Int → Nat
  | [] => 0
  | key :: l => if keyLater last key then 1 + countFired (some key) l else countFired last l

/-- One billing-boundary occurrence (R231 to R233): it fires only if its key is later than the last fired; otherwise it is counted and audited. -/
def Kernel.billOccurrence (k : Kernel) (day : Int) (minute : Nat) (us : Int) (pip : Nat) : Kernel :=
  let key := keyOf day minute
  if keyLater k.lastKey key then
    let k := k.snapshots 1 us pip 0
    let k := { k with periodSeq := wrap32 (k.periodSeq + 1), periodStart := us / 1000000, lastKey := some key }
    ((List.range 32).foldl (fun (k : Kernel) m => k.setCh m fun c => { c with mdImp := [], mdExp := [] }) k).saveConf
  else { k with repeatCnt := wrap32 (k.repeatCnt + 1) }.audit 0x24 0 0 pip (leI key 4)

/-- Activate a staged table that is due (R220), with its TARIFF_LOAD record. -/
def Kernel.activate (k : Kernel) (utc : Int) (pip : Nat) : Kernel :=
  match k.staged with
  | some t => if t.activation ≤ utc then
      { k with tariff := t, staged := none, stagedAt := 0 }.saveConf.audit 0x20 0 0 pip (leN t.version 4 ++ [1, 0, 0, 0])
    else k
  | none => k

/-- INTERVAL_BOUNDARY (R234): close intervals, fire a billing boundary, activate a staged table, apply the calendar, open intervals, at one legal instant. -/
def Kernel.intervalBoundary (k : Kernel) (pip : Nat) : Kernel :=
  let b := k.tariff.boundaryAt k.utc
  if b ≤ k.lastBoundary || k.pfail then k
  else
    let us := b * 1000000
    let k := k.closeAll us pip 0
    let loc := k.tariff.localSec b
    let minute := (loc % 86400 / 60).toNat
    let k := if k.tariff.billsAt (loc / 86400) minute then k.billOccurrence (loc / 86400) minute us pip else k
    let k := (k.activate b pip).applyCalendar b
    { k.openAll us pip 0 with lastBoundary := b }

/-- OFFSET_CHANGE (R225): a scheduled offset change applies without a step; the calendar moves to the tariff of the new local time. A demand-interval boundary that is due at the same instant comes first (R234). -/
def Kernel.offsetChange (k : Kernel) (pip : Nat) : Kernel :=
  if !k.pfail && k.tariff.changes.any fun c => c.1 = k.utc then (k.intervalBoundary pip).applyCalendar k.utc else k

/-- LEGAL_TIME_SLEW_TICK (R214): legal time moves by 1 µs every 8 samples while a slew remains. -/
def Kernel.slewStep (k : Kernel) : Kernel :=
  if k.slew ≠ 0 && k.slewTick + 8 ≤ k.sampleNo then
    let s : Int := if 0 < k.slew then 1 else -1
    { k with us := k.us + s, slew := k.slew - s, slewTick := k.sampleNo }
  else k

/-- A step of legal time (R215 to R217); a staged table whose boundary lies in the stretch that a forward step skips is activated at the step (R220). -/
def Kernel.timeStep (k : Kernel) (deltaUs : Int) (pip : Nat) : Kernel :=
  let pre := k.now
  let preOfs := k.ofs pre
  let post := pre + deltaUs
  let k := k.closeAll pre pip 1
  let k := (List.range 32).foldl (fun (k : Kernel) m => k.setCh m fun c => { c with session := c.session.map fun s => { s with flags := s.flags ||| 1 } }) k
  let occ := if 0 < deltaUs then k.tariff.billsBetween (pre / 1000000) (post / 1000000) else []
  let k := { k.setNow post with stepCnt := wrap32 (k.stepCnt + 1), lastStep := satSigned 32 (deltaUs / 1000) }
  let k := occ.foldl (fun (k : Kernel) o => k.billOccurrence o.1 o.2 post pip) k
  let k := if decide (0 < deltaUs) && decide (k.stagedAt ≤ post / 1000000) then k.activate (post / 1000000) pip else k
  let k := k.setTariff (k.tariff.tariffAt (post / 1000000)) true
  let k := k.openAll post pip 1
  let k := { k with lastBoundary := k.tariff.boundaryAt (post / 1000000) }
  k.audit 0x22 1 0 pip (timeVal pre preOfs ++ timeVal post (k.ofs post))

/-! ### Power failure and restore (R235 to R239) -/

/-- The structured power-fail snapshot: accumulators with 40 fraction bits, tariff registers in whole mWh (R236). -/
def Kernel.takeSnap (k : Kernel) (us : Int) (pip : Nat) : KSnap :=
  { us := us, pip := pip, pulses := k.pulses.map (·.residue),
    chans := (List.range 32).foldl (fun t m =>
      let c := k.ch m
      let a40 := fun x : Nat => x * 2 ^ 40 / accUnit
      tset KSnapChan.zero t m {
        imp := a40 c.accImp, exp := a40 c.accExp, oImp := a40 c.oAccImp, oExp := a40 c.oAccExp,
        tImp := c.tImp.map fun x => (x.1, mwh x.2), tExp := c.tExp.map fun x => (x.1, mwh x.2), mdImp := c.mdImp, mdExp := c.mdExp, seq := c.seq,
        lastInterval := c.lastInterval, lastReceipt := c.lastReceipt }) [] }

/-- The Kernel's power-fail work (R235), at the end of the PFAIL pip `pip`, with every sample of that pip integrated. -/
def Kernel.powerFail (k : Kernel) (pip : Nat) : Kernel :=
  if k.pfail then k
  else
    let k := k.toBoundary
    let us := k.now
    let k := { k with pfail := true, commitOk := false, outage := some (us, pip) }.audit 0x60 3 0 pip []
    let k := (List.range 32).foldl (fun (k : Kernel) m => if (k.ch m).session.isSome then k.sessionClose m pip 0x808 us true else k) k
    let b := k.tariff.boundaryAt (us / 1000000)
    let due := k.lastBoundary < b
    let k := if due then k.closeAll (b * 1000000) pip 0 else k.closeAll us pip 8
    let loc := k.tariff.localSec b
    let minute := (loc % 86400 / 60).toNat
    let k := if due && k.tariff.billsAt (loc / 86400) minute then k.billOccurrence (loc / 86400) minute (b * 1000000) pip else k
    let k := (if due then (k.activate b pip).applyCalendar b else k).applyCalendar (us / 1000000)
    let k := k.snapshots 2 us pip 8
    { k with snapPend := some (k.takeSnap us pip, k.head), lastBoundary := if due then b else k.lastBoundary }

/-- The commit buffer is lost (R190, R534): the chain ends at the newest record programmed, and what is counted from the last signed record is counted again from the ring. -/
def Kernel.dropBuf (k : Kernel) : Kernel :=
  if k.buf = [] then k
  else
    let last := ((k.ring.head?).map (·.ctr)).getD 0
    let run := k.ring.takeWhile fun r => r.typ ≠ 2 && r.typ ≠ 4
    { k with buf := [], head := last, headHash := ((k.ring.head?).map fun r => Config.sha256 r.bytes).getD [], snapPend := none, archived := min k.archived last,
             unsignedRun := run.length, firstUnsigned := (run.getLast?).map (·.ctr) }

/-- HOLDUP_COLLAPSE (R534): records not yet programmed are lost, whole, the snapshot with them where it was not complete; the Kernel measures no more. A session lost with them is taken as closed at that instant (R242; DEDUCED, log entry 43). -/
def Kernel.collapse (k : Kernel) (pip : Nat) : Kernel :=
  { k.dropBuf with snapPend := none, pfail := true, commitOk := false, outage := some (k.outage.getD (k.now, pip)),
                   chans := k.chans.map fun x =>
                     let c := if x.2.session.isSome then { x.2 with closeImp := x.2.tImp, closeExp := x.2.tExp, closeReg := mwh (k.outAcc x.1).1 } else x.2
                     (x.1, { c with session := none, gangSession := 0, open_ := none }) }

/-- A channel restored from a snapshot; its numbers only ever rise, so what the ring holds of later records counts (R192, R217). -/
def KChan.restore (c : KChan) (s : KSnapChan) : KChan :=
  { c with accImp := s.imp * accUnit / 2 ^ 40, accExp := s.exp * accUnit / 2 ^ 40, oAccImp := s.oImp * accUnit / 2 ^ 40, oAccExp := s.oExp * accUnit / 2 ^ 40,
           tImp := s.tImp.map fun x => (x.1, x.2 * 1000 * accUnit), tExp := s.tExp.map fun x => (x.1, x.2 * 1000 * accUnit), mdImp := s.mdImp, mdExp := s.mdExp,
           seq := max c.seq s.seq, lastInterval := s.lastInterval, lastReceipt := s.lastReceipt, session := none, gangSession := 0, open_ := none, partialNext := true }

/-- The restore of R236 and R237 from the newest complete power-fail snapshot (R534): the CHECKPOINT and, after a power failure, an OUTAGE record, the boundaries that fell within the outage,
the calendar's tariff, a TAMPER record that waits (R207), PARTIAL intervals. `us` is the legal time at the restore, `kept` whether the legal clock ran through the outage, and `endPip` the pip of the first latch after it. -/
def Kernel.restore (k : Kernel) (pip endPip : Nat) (us : Int) (kept : Bool) : Kernel :=
  let s := k.snap.getD { us := k.now, pip := pip, chans := [], pulses := [] }
  let now := if kept then us else if k.outage.isSome then s.us else k.now
  let complete := k.commitOk
  let out := k.outage
  let k := { k.setNow now with suspect := k.suspect || !kept, pfail := false, commitOk := true, outage := none, nowPip := pip }
  let k := (List.range 32).foldl (fun (k : Kernel) m => k.setCh m fun c => c.restore (tget KSnapChan.zero s.chans m)) k
  let k := (List.range 32).foldl (fun (k : Kernel) m => k.setCh m fun c => { c with balBase := c.net }) k
  let k := { k with pulses := k.pulses.zipIdx.map fun (x : KPulse × Nat) => { x.1 with residue := s.pulses.getD x.2 0 / accUnit * accUnit } }
  let k := k.checkpoint pip
  let k := match out with
    | none => k
    | some (us0, pip0) =>
      let occ := k.tariff.billsBetween (us0 / 1000000) (now / 1000000)
      let body := elem 0x13 (timeVal us0 (k.ofs us0)) ++ elem 0x14 (timeVal now (k.ofs now)) ++ elem 0x15 (leN pip0 8) ++ elem 0x16 (leN endPip 8)
        ++ elem 0x57 [byte (b2n kept), byte (countFired k.lastKey (occ.map fun (o : Int × Nat) => keyOf o.1 o.2)), byte (b2n complete), 0] ++ elem 0x1A (leN (8 ||| k.signFlags) 4)
      let k := { k.addRec 6 0 0 body false false with outageCnt := wrap32 (k.outageCnt + 1), lastOutage := min ((now - us0) / 1000000).toNat 0xFFFFFFFF }
      let k := occ.foldl (fun (k : Kernel) (o : Int × Nat) => k.billOccurrence o.1 o.2 now pip) k
      k.audit 0x61 3 0 pip []
  let k := { k with tariffNow := k.tariff.tariffAt (now / 1000000), lastBoundary := k.tariff.boundaryAt (now / 1000000) }
  let k := if k.tamperDue && k.mfault ≠ 5 then { k with tamperDue := false }.audit 0x51 4 0 pip [] else k
  k.openAll now pip 0

/-- A channel at the Kernel's power-on, with the configuration that the copy holds; what the "ledger" registers show stays, and the registers of its last session's close, which BILL charges to (R242). -/
def KChan.powerOn (c : KChan) (cfg : KCfg) : KChan := { KChan.reset with cfg := cfg, act := cfg, seq := c.seq, lastInterval := c.lastInterval, lastReceipt := c.lastReceipt, closeImp := c.closeImp, closeExp := c.closeExp, closeReg := c.closeReg }

/-- Everything of the Kernel that is not in its flash, at its power-on (R141, R149, R182, R190), and the settings reloaded from the newest configuration copy. The phase of the first sample is open. -/
def Kernel.clear (k : Kernel) : Kernel :=
  let k := k.dropBuf
  let c := k.newestConf
  { k with chans := (List.range 32).foldl (fun t m => tset KChan.reset t m ((k.ch m).powerOn (c.chans.getD m KCfg.reset))) [], mclks := [KMclk.reset, KMclk.reset, KMclk.reset, KMclk.reset],
           pulses := c.pulses.map fun w => { KPulse.reset with cfg := w }, bals := c.bals.map fun x => { KBal.reset with cfg := x.1, tol := x.2 }, limitMs := c.limitMs, signerKey := c.signerKey,
           limNext := none, tariff := c.tariff, lastKey := c.lastKey, sealCount := k.highestSeal, nSince := 0, latchCount := 0, mode := 1, regular := 0, strobeAge := 2, alignLost := 0,
           clk := 0, phase := wrapPhase (Config.freeNat k.draws), draws := k.draws + 1, lag := 0, lastBal := none, lastBalSample := k.sampleNo,
           sealRun := 0, sealWin := [], sealOpen := false, clockFault := false, krefFault := false, unsignedCnt := 0, refusedCnt := 0, inbox := [], waits := [], done := [], confirmed := [],
           slew := 0, load := none, staged := none, stagedAt := 0, fwLoad := none, lastCp := none }

/-- KERNEL_POWER_ON (R182, R190, R206, R209, R236): `slot0`, `slot1` whether each firmware slot verifies. -/
def Kernel.powerOn (k : Kernel) (pip : Nat) (us : Int) (kept slot0 slot1 : Bool) : Kernel :=
  let ok := fun n : Nat => (((k.slots[n]?).map (·.valid)).getD false) && (if n = 0 then slot0 else slot1)
  let want := k.slotNext.getD k.slotRun
  let other := 1 - want
  let boot := if ok want then some want else if ok other then some other else none
  let run := boot.getD want
  let k := { k.clear with signer := if k.signer = 2 then 2 else if boot.isNone then 1 else 0, mfault := if boot.isNone then 5 else 0, slotRun := run,
                          fwVerified := if run = k.slotRun then k.fwVerified else none }
  let k := k.restore pip (pip + 1) us kept
  match boot with
  | some b => if b = want then k else k.audit 0x42 0 0 pip ([byte want, byte b, 0, 0] ++ leN ((k.slots[b]?).map (·.version.toNat) |>.getD 0) 4)
  | none => k.audit 0x50 0 0 pip [5, 0, 0, 0]

/-- METER_FAULT_ENTRY (R206): the cause is recorded and audited; METER_FAULT persists until the next power-on. With no firmware running (cause 5), that cause stays. -/
def Kernel.meterFault (k : Kernel) (cause pip : Nat) : Kernel :=
  { k with signer := if k.signer = 2 then 2 else 1, mfault := if k.mfault = 5 then 5 else cause }.audit 0x50 0 0 pip [byte cause, 0, 0, 0]

/-- Whether a record is a receipt or checkpoint that was written because the Kernel could not sign (R205). -/
def KRec.unsigned (r : KRec) : Bool :=
  (r.typ = 2 && (num r.bytes 176 4).testBit 5) || (r.typ = 4 && r.bytes.drop (r.bytes.length - 64) = List.replicate 64 0)

/-- A signed record as it is written where its signing was cut short: a zero signature, and UNSIGNED in the FLAGS of a receipt (R205, R207). -/
def KRec.unsign (r : KRec) : KRec :=
  let b := r.bytes.take (r.bytes.length - 64) ++ List.replicate 64 0
  { r with bytes := if r.typ = 2 then b.take 176 ++ leN (num b 176 4 ||| 0x20) 4 ++ b.drop 180 else b }

/-- The newest record of the chain, where it is a signed one that is not yet programmed: whether its signing is still in progress at the burr line's event is open (R207; DESIGN CHOICE, log entry 80). -/
def Kernel.cutSigning (k : Kernel) : Kernel :=
  match k.buf.getLast? with
  | some r =>
    if k.signing && (r.typ = 2 || r.typ = 4) && r.bytes.drop (r.bytes.length - 64) ≠ List.replicate 64 0 && Config.freeNat k.draws % 2 = 1 then
      { k with buf := k.buf.dropLast ++ [r.unsign], headHash := Config.sha256 r.unsign.bytes, unsignedCnt := wrap32 (k.unsignedCnt + 1), draws := k.draws + 1 }
    else { k with draws := k.draws + 1 }
  | none => k

/-- The burr line zeroes the identity key (R207): UNSIGNED for good, with a TAMPER record, which a Kernel that does not run writes when it next does. -/
def Kernel.tamper (k : Kernel) (pip : Nat) : Kernel :=
  if k.meters then { k.cutSigning with signer := 2 }.audit 0x51 4 0 pip [] else { k with signer := 2, tamperDue := true }

/-- NO_ZC (R168), for each gap of 400 samples without a crossing. -/
def Kernel.noZc (k : Kernel) (m pip : Nat) : Kernel :=
  let c := k.ch m
  if c.act.kind = 1 && !c.zc.gap && 400 ≤ c.zc.since then
    (k.setCh m fun c => { c with noZcCnt := wrap32 (c.noZcCnt + 1), zc := { c.zc.discard with noZc := true, gap := true, goodRun := 0 } }).audit 0x30 0 0 pip [byte m, 0, 0, 0]
  else k

/-- The audit of a stream found stuck (R170). -/
def Kernel.stuckAudit (k : Kernel) (stream pip : Nat) : Kernel := k.audit 0x31 0 0 pip [byte (stream / 2), byte (stream % 2), 0, 0]

/-- The calendar at the offset changes after one UTC second and up to another (R225). -/
def Kernel.changesTo (k : Kernel) (a b : Int) : Kernel := if k.tariff.changes.any fun c => a < c.1 && c.1 ≤ b then k.applyCalendar b else k

/-- What legal time reaches between two samples (R224, R225, R227, R234): the offset changes before a demand-interval boundary, the boundary, and the changes at or after it, so that a sample at a boundary belongs to what the boundary opens. -/
def Kernel.timeWork (k : Kernel) (utc0 : Int) (pip : Nat) : Kernel :=
  if !k.meters then k
  else
    let b := max utc0 (min k.utc (k.tariff.boundaryAt k.utc - 1))
    ((k.changesTo utc0 b).intervalBoundary pip).changesTo b k.utc

/-- Whether a sample finds a stream stuck (R170): a stuck run, or its clock gone, while it is not stuck or has recovered. -/
def Kernel.findsStuck (k : Kernel) (i : KSampleIn) (s : Nat) : Bool :=
  let x := if s % 2 = 0 then (k.ch (s / 2)).sv else (k.ch (s / 2)).si
  ((x.bits (i.streams.getD s [])).2 || k.clockDead (s / 16)) && (!x.stuck || 80 ≤ x.clean)

/-- KERNEL_SAMPLE (R159, R170): the instant, what falls between the samples, the sample, and a STREAM_STUCK record for each stream that it finds stuck. -/
def Kernel.sampled (k : Kernel) (i : KSampleIn) (pip : Nat) : Kernel :=
  let w := k.window i.m
  let k := (k.advance i).timeWork (k.us / 1000000) pip
  let found := if k.meters then (List.range 64).filter fun s => k.findsStuck i s else []
  found.foldl (fun (k : Kernel) s => k.stuckAudit s pip) (k.integrate i w)

/-- STREAM_RECOVERED (R170): 80 and 8 clean samples have run. -/
def Kernel.streamRecovered (k : Kernel) (stream pip : Nat) : Kernel :=
  let m := stream / 2
  let c := k.ch m
  let s := if stream % 2 = 0 then c.sv else c.si
  if s.stuck && 88 < s.clean then
    (k.setCh m fun c => if stream % 2 = 0 then { c with sv := { c.sv with stuck := false, clean := 0 } } else { c with si := { c.si with stuck := false, clean := 0 } }).audit 0x32 0 0 pip [byte m, byte (stream % 2), 0, 0]
  else k

/-- MCLK_CLOCK_FAULT (R143): an input-mode clock is absent or out of tolerance. -/
def Kernel.mclkFault (k : Kernel) (n pip : Nat) : Kernel :=
  match k.mclks[n]? with
  | some c => if c.input && !c.fault then { k with mclks := k.mclks.set n { c with fault := true } }.audit 0x33 0 0 pip [byte n, 0, 0, 0] else k
  | none => k

/-- MCLK_SETTLING_END (R172): eight samples after the change. -/
def Kernel.settlingEnd (k : Kernel) (n : Nat) : Kernel :=
  match k.mclks[n]? with
  | some c => if c.settle = 0 then (List.range 8).foldl (fun (k : Kernel) i => k.setCh (8 * n + i) fun c => { c with settling := false }) k else k
  | none => k

/-- LXO_STOP (R538). -/
def Kernel.lxoStop (k : Kernel) (pip : Nat) : Kernel := { k with suspect := true }.audit 0x33 0 0 pip [5, 0, 0, 0]

/-- KREF_FAIL (R539). -/
def Kernel.krefFail (k : Kernel) (pip : Nat) : Kernel :=
  if k.krefFault then k else { k with krefFault := true }.audit 0x33 0 0 pip [4, 0, 0, 0]

end Sys2Proof.Machine
end

