-- ==== Sys2Proof/Machine/KernCmds.lean ====
section
/-!
DEFINITION. The Kernel commands (R184, R185): each is judged at a latch against the seal, the ranges and the Kernel's state, carried out or refused, and audited (R26, R202).
A result is the Kernel after it, a status and a reply payload. `pip` is the latch's pip; a change carried out takes effect from the next (R150), which is the pip of its audit record; so are KERN_FW_END's and KERN_FW_ACTIVATE's, while
KERN_FW_BEGIN's carries the latch's, whose record R26 wants before the erasing (R202 does not say; DESIGN CHOICE, log entry 80).
-/
namespace Sys2Proof.Machine

/-- What a Kernel command answers. -/
abbrev KRes := Kernel × Nat × Bytes

/-- A refusal (KERN_CMD_REFUSED_CNT). -/
def Kernel.refuse (k : Kernel) (st : Nat) : KRes := ({ k with refusedCnt := wrap32 (k.refusedCnt + 1) }, st, [])

/-- A refusal of a command that would change configuration or legal state: audited with the status code (R26, R202). -/
def Kernel.refuseAudit (k : Kernel) (st event pip : Nat) (detail : Bytes) : KRes := (k.audit event 1 st pip detail).refuse st

/-- Run the checks in order: the first that fails refuses with its status, through `no`. -/
def kcheck (checks : List (Bool × Nat)) (no : Nat → KRes) (ok : KRes) : KRes :=
  match checks.find? (·.1) with
  | some (_, st) => no st
  | none => ok

/-- The KERN_SET_CHANNEL payload of a configuration. -/
def KCfg.chanImage (c : KCfg) (m : Nat) : Bytes := [byte m, byte c.role, byte c.kind, byte c.gang, byte c.freq, byte c.group, 0, 0]

/-- The KERN_SET_CAL payload of a configuration. -/
def KCfg.calImage (c : KCfg) (m : Nat) : Bytes :=
  [byte m, 0, 0, 0] ++ leN c.gainV 4 ++ leN c.gainI 4 ++ leI c.ofsV 4 ++ leI c.ofsI 4 ++ leI c.phase 4 ++ leN c.vfs 2 ++ leN c.ifs 2

/-- The old image of an object that does not exist: open bytes (log entry 6). -/
def Kernel.openImage (k : Kernel) (len : Nat) : Bytes := (List.range len).map fun i => byte (Config.freeNat (k.draws + i))

/-- Whether the gang rules of R153 hold for a set of configurations. -/
def gangRules (f : Nat → KCfg) : Bool :=
  (List.range 32).all fun j =>
    let c := f j
    if c.gang = 1 then
      let p := f (j - 1)
      1 ≤ j && p.gang = 0 && p.kind = 1 && p.role = 1 && p.group = c.group
    else if c.gang = 2 then
      let p := f (j - 1)
      2 ≤ j && p.gang = 1 && p.kind = c.kind && p.role = c.role && p.group = c.group && (f (j - 2)).gang = 0
    else true

/-- KERN_SET_CHANNEL (R149, R151, R153), judged in the order of R153. -/
def Kernel.setChannel (k : Kernel) (p : Bytes) (pip : Nat) : KRes :=
  let m := num p 0 1
  let c := (k.ch m).cfg
  let n : KCfg := { c with role := num p 1 1, kind := num p 2 1, gang := num p 3 1, freq := num p 4 1, group := num p 5 1 }
  let old := if m < 32 then c.chanImage m else k.openImage 8
  kcheck [(num p 6 2 ≠ 0 || 31 < m || 2 < n.role || 1 < n.kind || 2 < n.gang || 1 < n.freq || 8 < n.group, 0x15),
          (n.role ≠ 0 && (c.gainV = 0 || c.gainI = 0), 0x15),
          (!gangRules (fun j => if j = m then n else (k.ch j).cfg), 0x15),
          (k.inSession m && (n.role ≠ c.role || n.kind ≠ c.kind || n.gang ≠ c.gang || n.freq ≠ c.freq), 0x11)]
    (fun st => k.refuseAudit st 0x10 pip (old ++ p))
    ((k.setCh m fun x => { x with cfg := n }).saveConf.audit 0x10 1 0 (pip + 1) (old ++ p), 0, leN (pip + 1) 8)

/-- Whether 1.2 times a full scale in mV or mA exceeds 7,969,177 codes by a gain (R157). -/
def overCodes (fs gain : Nat) : Bool := 7969177 * gain < 1200 * fs * 2 ^ 30

/-- KERN_SET_CAL (R155 to R157). -/
def Kernel.setCal (k : Kernel) (p : Bytes) (pip : Nat) : KRes :=
  let m := num p 0 1
  let c := (k.ch m).cfg
  let n : KCfg := { c with gainV := num p 4 4, gainI := num p 8 4, ofsV := snum p 12 4, ofsI := snum p 16 4, phase := snum p 20 4, vfs := num p 24 2, ifs := num p 26 2 }
  let old := if m < 32 then c.calImage m else k.openImage 28
  kcheck [(num p 1 3 ≠ 0 || 31 < m || n.gainV = 0 || n.gainI = 0 || n.phase < -8192 || 8192 < n.phase, 0x15),
          (n.vfs = 0 || 2000 < n.vfs || n.ifs = 0 || 6000 < n.ifs, 0x15), (!k.sealOpen, 0x19), (overCodes n.vfs n.gainV || overCodes n.ifs n.gainI, 0x15)]
    (fun st => k.refuseAudit st 0x11 pip (old ++ p))
    ((k.setCh m fun x => { x with cfg := n }).saveConf.audit 0x11 1 0 (pip + 1) (old ++ p), 0, leN (pip + 1) 8)

/-- KERN_SET_MCLK (R172). -/
def Kernel.setMclk (k : Kernel) (p : Bytes) (pip : Nat) : KRes :=
  let n := num p 0 1
  let rate := num p 1 1
  let inp := num p 2 1
  let old := match k.mclks[n]? with
    | some c => [byte n, byte c.rate, byte (b2n c.input), 0]
    | none => k.openImage 4
  kcheck [(num p 3 1 ≠ 0 || 3 < n || rate = 0 || 3 < rate || 1 < inp, 0x15), (!k.sealOpen, 0x19)]
    (fun st => k.refuseAudit st 0x12 pip (old ++ p))
    ({ k with mclks := k.mclks.modify n fun c => { c with next := some (rate, inp = 1) } }.audit 0x12 1 0 (pip + 1) (old ++ p), 0, leN (pip + 1) 8)

/-- KERN_SET_PULSE (R176, R177, R183). Where two settings are accepted at one latch, the old image of the second is the one in force here, in KERN_SET_MCLK, KERN_SET_BALANCE and KERN_SET_LIMITS, and the one commanded in KERN_SET_CHANNEL and
KERN_SET_CAL, which change fields of one configuration (R202 does not say; DESIGN CHOICE, log entry 80). -/
def Kernel.setPulse (k : Kernel) (p : Bytes) (pip : Nat) : KRes :=
  let n := num p 0 1
  let img := word (num p 4 4)
  let old := match k.pulses[n]? with
    | some c => [byte n, 0, 0, 0] ++ leN c.cfg.toNat 4
    | none => k.openImage 8
  kcheck [(num p 1 3 ≠ 0 || 3 < n || wfld img 16 0 = 0 || 100000 < wfld img 16 0 || wfld img 23 17 ≠ 0, 0x15), (!k.sealOpen, 0x19)]
    (fun st => k.refuseAudit st 0x13 pip (old ++ p))
    ({ k with pulses := k.pulses.modify n fun c => { c with next := some img } }.saveConf.audit 0x13 1 0 (pip + 1) (old ++ p), 0, leN (pip + 1) 8)

/-- KERN_SET_BALANCE (R180, R183). -/
def Kernel.setBalance (k : Kernel) (p : Bytes) (pip : Nat) : KRes :=
  let g := num p 0 1
  let cfg := word (num p 4 4)
  let tol := word (num p 8 4)
  let old := match k.bals[g]? with
    | some b => [byte g, 0, 0, 0] ++ leN b.cfg.toNat 4 ++ leN b.tol.toNat 4
    | none => k.openImage 12
  kcheck [(num p 1 3 ≠ 0 || 7 < g || 1000 < wfld cfg 15 0 || wfld tol 31 24 = 0 || 60 < wfld tol 31 24 || 1000 < wfld tol 23 12 || 4095 < wfld tol 11 0, 0x15)]
    (fun st => k.refuseAudit st 0x14 pip (old ++ p))
    ({ k with bals := k.bals.modify g fun b => { b with next := some (cfg, tol) } }.saveConf.audit 0x14 1 0 (pip + 1) (old ++ p), 0, leN (pip + 1) 8)

/-- The hash of a signer key, or 32 zero bytes for none (R202). -/
def keyHash (key : Option Bytes) : Bytes :=
  match key with
  | some x => padTo 32 (Config.sha256 x)
  | none => List.replicate 32 0

/-- KERN_SET_LIMITS (R185, R213). -/
def Kernel.setLimits (k : Kernel) (p : Bytes) (pip : Nat) : KRes :=
  let lim := num p 0 4
  let key := (p.drop 4).take 65
  let detail := leN k.limitMs 4 ++ leN lim 4 ++ keyHash k.signerKey ++ keyHash (some key)
  kcheck [(num p 69 3 ≠ 0 || 10000 < lim, 0x15), (!k.sealOpen, 0x19)]
    (fun st => k.refuseAudit st 0x15 pip detail)
    ({ k with limNext := some (lim, key) }.saveConf.audit 0x15 1 0 (pip + 1) detail, 0, leN (pip + 1) 8)

/-! ### Kernel firmware (R208) -/

/-- The slot that is not running. -/
def Kernel.otherSlot (k : Kernel) : Nat := 1 - k.slotRun

/-- Erase the slot that is not running. -/
def Kernel.eraseSlot (k : Kernel) : Kernel := { k with slots := k.slots.set k.otherSlot ⟨0, false⟩, fwVerified := none }

/-- DETAIL of FW_LOAD for the open load. -/
def Kernel.loadDetail (k : Kernel) : Bytes :=
  match k.fwLoad with
  | some l => leN l.version 4 ++ leN l.len 4
  | none => List.replicate 8 0

/-- KERN_FW_BEGIN: carried out, it erases the slot that is not running, which R26 has audited. -/
def Kernel.fwBegin (k : Kernel) (p : Bytes) (pip : Nat) : KRes :=
  let len := num p 0 4
  kcheck [(len = 0 || 1048576 < len, 0x15), (!k.sealOpen, 0x19), (k.fwLoad.isSome, 0x11)]
    (fun st => k.refuseAudit st 0x40 pip (leN (num p 4 4) 4 ++ leN len 4))
    ({ k.eraseSlot with fwLoad := some { len := len, version := num p 4 4, data := [] } }.audit 0x40 1 0 pip (leN (num p 4 4) 4 ++ leN len 4), 0, [])

/-- KERN_FW_CHUNK: carried out, it fills the slot that is not running, and is audited as its refusals are (R26), with the latch's pip (DESIGN CHOICE, log entry 80). -/
def Kernel.fwChunk (k : Kernel) (p : Bytes) (pip : Nat) : KRes :=
  let data := p.drop 4
  match k.fwLoad with
  | none => k.refuseAudit (if k.sealOpen then 0x43 else 0x19) 0x40 pip k.loadDetail
  | some l =>
    kcheck [(!k.sealOpen, 0x19), (num p 0 4 ≠ l.data.length, 0x43), (l.len < l.data.length + data.length, 0x15)]
      (fun st => k.refuseAudit st 0x40 pip k.loadDetail)
      ({ k with fwLoad := some { l with data := l.data ++ data } }.audit 0x40 1 0 pip k.loadDetail, 0, [])

/-- KERN_FW_END. -/
def Kernel.fwEnd (k : Kernel) (pip : Nat) : KRes :=
  if !k.sealOpen then k.refuseAudit 0x19 0x40 pip k.loadDetail
  else match k.fwLoad with
    | none => k.refuseAudit 0x42 0x40 pip k.loadDetail
    | some l =>
      let k := { k with fwLoad := none }
      let detail := leN l.version 4 ++ leN l.len 4
      if l.data.length = l.len && Config.kernImageOk l.data then
        ({ k with slots := k.slots.set k.otherSlot ⟨word l.version, true⟩, fwVerified := some l.version }.audit 0x40 1 0 (pip + 1) detail, 0, leN l.version 4)
      else k.eraseSlot.refuseAudit 0x42 0x40 pip detail

/-- KERN_FW_ACTIVATE: marks the slot that is not running, verified under that version, to boot at the next power-on. -/
def Kernel.fwActivate (k : Kernel) (p : Bytes) (pip : Nat) : KRes :=
  kcheck [(!k.sealOpen, 0x19), (k.fwVerified ≠ some (num p 0 4) || !(((k.slots[k.otherSlot]?).map (·.valid)).getD false), 0x43)]
    (fun st => k.refuseAudit st 0x41 pip p)
    ({ k with slotNext := some k.otherSlot }.audit 0x41 1 0 (pip + 1) p, 0, [])

/-! ### The ledger -/

/-- The records held, oldest first. -/
def Kernel.records (k : Kernel) : List KRec := k.ring.reverse ++ k.buf

/-- Take whole records while they fit 1,024 bytes and the count. -/
def takeFit : List KRec → Nat → Nat → List KRec
  | [], _, _ => []
  | r :: l, n, room => if n = 0 || room < r.bytes.length then [] else r :: takeFit l (n - 1) (room - r.bytes.length)

/-- KERN_LEDGER_READ. -/
def Kernel.ledgerRead (k : Kernel) (p : Bytes) : KRes :=
  let first := num p 0 8
  let n := num p 8 1
  let mask := num p 9 1
  if num p 10 2 ≠ 0 || first = 0 || n = 0 || 32 < n then k.refuse 0x15
  else if first < k.oldest then ((k.refuse 0x40).1, 0x40, leN k.oldest 8)
  else
    let rs := takeFit (k.records.filter fun r => first ≤ r.ctr && (mask = 0 || mask.testBit (r.typ - 1))) n 1024
    (k, if rs.any (·.unsigned) then 0x23 else 0, rs.flatMap (·.bytes))

/-- KERN_RECEIPT_GET: the receipt of a session in the ring. -/
def Kernel.receiptGet (k : Kernel) (p : Bytes) : KRes :=
  match k.ring.find? fun r => r.typ = 2 && r.session = num p 0 8 with
  | some r => (k, if r.unsigned then 0x23 else 0, r.bytes)
  | none => k.refuse 0x41

/-- KERN_ARCHIVE_ACK (R195). -/
def Kernel.archiveAck (k : Kernel) (p : Bytes) : KRes :=
  let n := num p 0 8
  if k.head < n || n < k.archived then k.refuse 0x15 else ({ k with archived := n }, 0, [])

/-- KERN_CHECKPOINT (R203). -/
def Kernel.checkpointNow (k : Kernel) (pip : Nat) : KRes :=
  let k := k.checkpoint pip
  (k, if k.signing then 0 else 0x23, ((k.buf.getLast?).map (·.bytes)).getD [])

/-! ### Tariff tables and legal time -/

/-- DETAIL of a TARIFF_LOAD that is refused. -/
def tariffDetail (version : Nat) : Bytes := leN version 4 ++ [0, 0, 0, 0]

/-- TARIFF_BEGIN (R222). -/
def Kernel.tariffBegin (k : Kernel) (p : Bytes) (pip : Nat) : KRes :=
  let len := num p 0 4
  kcheck [(len < 100 || 3304 < len, 0x15), (k.load.isSome || k.staged.isSome, 0x11)]
    (fun st => k.refuseAudit st 0x20 pip (tariffDetail (num p 4 4)))
    ({ k with load := some (len, num p 4 4, []) }, 0, [])

/-- TARIFF_CHUNK. -/
def Kernel.tariffChunk (k : Kernel) (p : Bytes) (pip : Nat) : KRes :=
  match k.load with
  | none => k.refuseAudit 0x42 0x20 pip (tariffDetail 0)
  | some (len, v, data) =>
    kcheck [(num p 0 4 ≠ data.length, 0x42), (len < data.length + (p.length - 4), 0x15)]
      (fun st => k.refuseAudit st 0x20 pip (tariffDetail v))
      ({ k with load := some (len, v, data ++ p.drop 4) }, 0, [])

/-- Whether the signature of a table verifies under the loaded tariff-signer key (R219). -/
def Kernel.tariffSigned (k : Kernel) (raw : Bytes) : Bool :=
  match k.signerKey with
  | some key => Config.ecVerify key (Config.sha256 (raw.take (raw.length - 64))) (raw.drop (raw.length - 64))
  | none => false

/-- TARIFF_END (R219, R220). -/
def Kernel.tariffEnd (k : Kernel) (pip : Nat) : KRes :=
  match k.load with
  | none => k.refuseAudit 0x42 0x20 pip (tariffDetail 0)
  | some (len, v, data) =>
    let k := { k with load := none }
    match (if data.length = len && k.tariffSigned data then Tariff.parse data else none) with
    | none => k.refuseAudit 0x40 0x20 pip (tariffDetail v)
    | some t =>
      if t.version ≤ k.tariff.version then k.refuseAudit 0x41 0x20 pip (tariffDetail t.version)
      else
        let at_ := k.tariff.nextBoundary (max t.activation (k.utc + 1))
        ({ k with staged := some t, stagedAt := at_ }.audit 0x20 1 0 (pip + 1) (tariffDetail t.version), 0, leN t.version 4 ++ leI at_ 8)

/-- TARIFF_ABORT (R222): what it discards is audited (R26) as a TARIFF_LOAD record of step 0 with the version discarded (DEDUCED, log entry 80). -/
def Kernel.tariffAbort (k : Kernel) (pip : Nat) : KRes :=
  let k' := { k with load := none, staged := none, stagedAt := 0 }
  match k.staged, k.load with
  | some t, _ => (k'.audit 0x20 1 0 pip (tariffDetail t.version), 0, [])
  | none, some (_, v, _) => (k'.audit 0x20 1 0 pip (tariffDetail v), 0, [])
  | none, none => (k', 0, [])

/-- TARIFF_READ. -/
def Kernel.tariffRead (k : Kernel) (p : Bytes) : KRes :=
  let off := num p 0 2
  let len := num p 2 2
  if len = 0 || 1024 < len || k.tariff.raw.length < off + len then k.refuse 0x15 else (k, 0, (k.tariff.raw.drop off).take len)

/-- LEGAL_TIME_ADJUST (R212, R215, R237). -/
def Kernel.timeAdjust (k : Kernel) (p : Bytes) (pip : Nat) : KRes :=
  let a := snum p 0 8
  if 2 ^ 40 < a.natAbs then k.refuseAudit 0x15 0x21 pip (leI a 8 ++ leI (divOpen (k.slew + a * 1000) 1000 k.draws) 8)
  else
    let total := k.slew + a * 1000
    let k := { k with suspect := false }
    if total.natAbs ≤ k.limitMs * 1000 then
      let k := { k with slew := total, slewTick := if k.slew = 0 then k.sampleNo else k.slewTick, slewCnt := wrap32 (k.slewCnt + 1) }
      let k := k.audit 0x21 1 0 pip (leI a 8 ++ leI (divOpen total 1000 k.draws) 8)
      (k, 0, [0, 0, 0, 0] ++ leN pip 8 ++ timeVal k.now (k.ofs k.now))
    else
      let k := { k with slew := 0 }.timeStep total pip
      (k, 0, [1, 0, 0, 0] ++ leN pip 8 ++ timeVal k.now (k.ofs k.now))

/-- Carry out or refuse the command of a host opcode. -/
def Kernel.command (k : Kernel) (op : Nat) (p : Bytes) (pip : Nat) : KRes :=
  match op with
  | 0x0303 => k.ledgerRead p
  | 0x0305 => k.receiptGet p
  | 0x0306 => k.setChannel p pip
  | 0x0307 => k.setCal p pip
  | 0x0308 => k.setMclk p pip
  | 0x0309 => k.setPulse p pip
  | 0x030A => k.setBalance p pip
  | 0x030B => k.setLimits p pip
  | 0x030C => k.fwBegin p pip
  | 0x030D => k.fwChunk p pip
  | 0x030E => k.fwEnd pip
  | 0x030F => k.fwActivate p pip
  | 0x0310 => k.archiveAck p
  | 0x0311 => k.checkpointNow pip
  | 0x0400 => k.tariffBegin p pip
  | 0x0401 => k.tariffChunk p pip
  | 0x0402 => k.tariffEnd pip
  | 0x0403 => k.tariffAbort pip
  | 0x0404 => k.tariffRead p
  | _ => k.timeAdjust p pip

/-- The Kernel takes an outlet's I_break and confirms it (R175). -/
def Kernel.takeBreak (k : Kernel) (n v : Nat) : Kernel := { k.setCh n fun c => { c with iBreak := some v } with confirmed := k.confirmed ++ [n] }

/-- KERNEL_COMMAND_EXECUTE (R184): the oldest waiting command that arrived before the last latch. -/
def Kernel.executeNext (k : Kernel) (pip : Nat) : Kernel :=
  match k.inbox with
  | [] => k
  | .host op p id arrival :: rest =>
    if arrival < k.latches then
      let (k', st, pl) := { k with inbox := rest }.command op p pip
      { k' with done := k'.done ++ [(id, st, pl)] }
    else k
  | .renumber l s arrival :: rest =>
    if arrival < k.latches then { k with inbox := rest }.audit 0x23 1 0 pip (leN l 8 ++ leN s 4) else k
  | .sessOpen n id arrival :: rest => if arrival < k.latches then { k with inbox := rest }.sessionOpen n n id pip else k
  | .sessClose n forced arrival :: rest => if arrival < k.latches then { k with inbox := rest }.sessionClose n pip (if forced then 0x200 else 0) k.now false else k
  | .iBreak n v arrival :: rest => if arrival < k.latches then { k with inbox := rest }.takeBreak n v else k

/-! ### Changes that take effect at a pip boundary (R150) -/

/-- A channel's commanded configuration takes effect: a change of role or kind restarts the power window and discards the periods held (R159, R167), no_zc staying on an AC channel until its second good crossing (R168), and opens or closes
the demand interval (R230); the open interval of a changed channel is flagged CAL_CHANGED. -/
def Kernel.applyChan (k : Kernel) (m pip : Nat) : Kernel :=
  let c := k.ch m
  if c.cfg = c.act then k
  else
    let roleKind := c.cfg.role ≠ c.act.role || c.cfg.kind ≠ c.act.kind
    let roleNew := c.cfg.role ≠ c.act.role
    let k := k.setCh m fun c => c.flag 0x400
    let k := if roleNew then k.closeInterval m k.now pip 0 else k
    let k := k.setCh m fun c => { c with act := c.cfg, pHist := if roleKind then [] else c.pHist, zc := if c.cfg.kind ≠ c.act.kind then KZc.reset else if roleKind then c.zc.discard else c.zc,
                                         partialNext := c.partialNext || roleNew }
    if roleNew then k.openInterval m k.now pip 0 else k

/-- The outlet accumulators of a lead whose gang has just become complete start from its own, which they equalled until then (R153, R162). -/
def Kernel.startGangs (k : Kernel) (before : List Bool) : Kernel :=
  (List.range 32).foldl (fun (k : Kernel) m =>
    if k.gang m && !before.getD m false then k.setCh m fun c => { c with oAccImp := c.accImp, oAccExp := c.accExp } else k) k

/-- A modulator clock's change takes effect: its streams settle for 8 samples (R172), and clock_fault clears; it stays set otherwise until the Kernel's power-on, also where the received clock is back (R143 gives no moment; DESIGN CHOICE, log entry 80). -/
def Kernel.applyMclk (k : Kernel) (n : Nat) : Kernel :=
  match k.mclks[n]? with
  | some c =>
    match c.next with
    | some (r, i) =>
      if r = c.rate && i = c.input then { k with mclks := k.mclks.set n { c with next := none } }
      else
        (List.range 8).foldl (fun (k : Kernel) j => k.setCh (8 * n + j) fun x => { x with settling := true })
          { k with mclks := k.mclks.set n { rate := r, input := i, fault := false, settle := 8, next := none } }
    | none => k
  | none => k

/-- A pulse output's image takes effect: a change of assignment or constant clears the residue (R177). -/
def KPulse.apply (p : KPulse) : KPulse :=
  match p.next with
  | some w => { p with cfg := w, next := none, residue := if (w ^^^ p.cfg) &&& 0x7FFFFFFF = 0 then p.residue else 0 }
  | none => p

/-- A balance group's images take effect. -/
def KBal.apply (b : KBal) : KBal :=
  match b.next with
  | some (c, t) => { b with cfg := c, tol := t, next := none }
  | none => b

/-- What the start of a pip does to the Kernel's configuration (R150). -/
def Kernel.applyNext (k : Kernel) (pip : Nat) : Kernel :=
  let k := { k with nowPip := pip }
  let before := (List.range 32).map k.gang
  let k := (List.range 32).foldl (fun (k : Kernel) m => k.applyChan m pip) k
  let k := k.startGangs before
  let k := (List.range 4).foldl (fun (k : Kernel) n => k.applyMclk n) k
  let k := { k with pulses := k.pulses.map KPulse.apply, bals := k.bals.map KBal.apply }
  match k.limNext with
  | some (l, key) => { k with limitMs := l, signerKey := some key, limNext := none }
  | none => k

end Sys2Proof.Machine
end

