-- ==== Sys2Proof/Machine/KernWords.lean ====
section
/-!
DEFINITION. The words of the KERN mirror (05, 06 and 07), computed from the copy of the Kernel that the last sample latch took (R28), and the replies of the
Kernel opcodes that read that copy. An offset is counted from the block's base 0x0020_0000; an offset that no register has answers none.
-/
namespace Sys2Proof.Machine

/-- The `i`-th 32-bit word of a number. -/
def wordOf (n i : Nat) : Word := word (n / 2 ^ (32 * i))

/-- A signed number as a word. -/
def wordI (i : Int) : Word := word (ofSigned 32 i)

/-- A channel has a clock fault or a stuck stream. -/
def Kernel.chFault (k : Kernel) (m : Nat) : Bool := (k.ch m).sv.stuck || (k.ch m).si.stuck || k.clockDead (m / 8)

/-- The session id a channel shows (R612). -/
def KChan.sessionId (c : KChan) : Nat := ((c.session.map (·.id)).getD c.gangSession)

/-- KERN_STATE. -/
def Kernel.stateWord (k : Kernel) : Word :=
  word (k.mfault * 4096 + b2n (k.freeBlocks < 50) * 256 + b2n (k.buf ≠ []) * 128 + b2n (k.slotNext ≠ some k.slotRun && k.slotNext.isSome) * 64
    + k.slotRun * 32 + b2n k.fwLoad.isSome * 16 + b2n k.sealOpen * 4 + k.signer)

/-- KERN_TIME_STATUS. -/
def Kernel.timeStatus (k : Kernel) : Nat := b2n k.suspect * 2 + b2n (k.slew ≠ 0)

/-- KERN_DAY. -/
def Kernel.dayWord (k : Kernel) : Word :=
  let (dt, special, season) := k.tariff.dayOf (k.tariff.localSec k.utc / 86400)
  word (b2n special * 65536 + season % 8 * 256 + dt % 16)

/-- KERN_MCLK_CFG. -/
def Kernel.mclkWord (k : Kernel) : Word :=
  word (((k.mclks.zip (List.range 4)).map fun (c, i) => (b2n c.fault * 8 + b2n c.input * 4 + c.rate) * 16 ^ i).foldl (· + ·) 0)

/-- KERN_MC_nn_STATUS. -/
def Kernel.chStatus (k : Kernel) (m : Nat) : Word :=
  let c := k.ch m
  word (b2n c.settling * 2048 + b2n c.reversed * 1024 + b2n (k.balanceFailing m) * 512 + b2n c.liveBelow * 256 + b2n (c.act.kind = 1 && c.zc.valid) * 128
    + b2n (c.act.kind = 1 && c.zc.noZc) * 64 + b2n c.satI * 32 + b2n c.satV * 16 + b2n c.si.stuck * 8 + b2n c.sv.stuck * 4
    + b2n (c.act.gainV ≠ 0 && c.act.gainI ≠ 0) * 2 + b2n (c.act.role ≠ 0))

/-- KERN_MC_nn_CFG. -/
def KCfg.word (c : KCfg) : Word := Sys2Proof.word (c.group * 65536 + c.gang * 256 + c.freq * 16 + c.kind * 4 + c.role)

/-- V_RMS or I_RMS (R611): on AC the RMS over R173's window, of the samples held; on DC the mean of the samples shown. -/
def rmsWord (c : KChan) (hist : List Int) (s0 s1 : Int) : Word :=
  if c.act.kind = 0 then wordI ((s0 + s1) / 131072)
  else
    let w := hist.take c.act.window
    if w = [] then 0 else word (isqrt (sumSq w / (w.length * 2 ^ 32)))

/-- The words of a channel's window. KERN_MC_nn_FREQ shows the low 16 bits of a frequency above 65,535 mHz (R167 does not say; DESIGN CHOICE, log entry 80). -/
def Kernel.chWord (k : Kernel) (m off : Nat) : Option Word :=
  let c := k.ch m
  let (oi, ox) := if c.act.role = 1 && c.act.gang = 0 then k.outAcc m else (0, 0)
  let (v0, v1, i0, i1) := c.shown
  match off with
  | 0x000 => some (k.chStatus m)
  | 0x004 => some c.act.word
  | 0x008 => some (wordI (v0 / 65536))
  | 0x00C => some (wordI (v1 / 65536))
  | 0x010 => some (wordI (i0 / 65536))
  | 0x014 => some (wordI (i1 / 65536))
  | 0x018 => some (rmsWord c c.vHist v0 v1)
  | 0x01C => some (rmsWord c c.iHist i0 i1)
  | 0x020 => some (wordI (isum c.pHist / (800 * 2 ^ 32 * 1000000 : Nat)))
  | 0x024 => some (word (b2n (c.act.kind = 1 && c.zc.valid) * 65536 + (if c.act.kind = 1 then c.zc.mHz % 65536 else 0)))
  | 0x028 => some (wordOf (uwh c.accImp) 0)
  | 0x02C => some (wordOf (uwh c.accImp) 1)
  | 0x030 => some (word (uwh c.accImp / 2 ^ 64 % 65536))
  | 0x034 => some (wordOf (uwh c.accExp) 0)
  | 0x038 => some (wordOf (uwh c.accExp) 1)
  | 0x03C => some (word (uwh c.accExp / 2 ^ 64 % 65536))
  | 0x040 => some (wordOf (mwh c.accImp) 0)
  | 0x044 => some (wordOf (mwh c.accImp) 1)
  | 0x048 => some (wordOf (mwh c.accExp) 0)
  | 0x04C => some (wordOf (mwh c.accExp) 1)
  | 0x050 => some (word c.satCnt)
  | 0x054 => some (word c.stuckCnt)
  | 0x058 => some (word c.noZcCnt)
  | 0x05C => some (word c.act.gainV)
  | 0x060 => some (word c.act.gainI)
  | 0x064 => some (wordI c.act.ofsV)
  | 0x068 => some (wordI c.act.ofsI)
  | 0x06C => some (wordI c.act.phase)
  | 0x070 => some (word (c.act.vfs * 65536 + c.act.ifs))
  | 0x080 => some (wordOf (uwh oi) 0)
  | 0x084 => some (wordOf (uwh oi) 1)
  | 0x088 => some (word (uwh oi / 2 ^ 64 % 65536))
  | 0x08C => some (wordOf (uwh ox) 0)
  | 0x090 => some (wordOf (uwh ox) 1)
  | 0x094 => some (word (uwh ox / 2 ^ 64 % 65536))
  | 0x098 => some (wordOf (mwh oi) 0)
  | 0x09C => some (wordOf (mwh oi) 1)
  | 0x0A0 => some (wordOf (mwh ox) 0)
  | 0x0A4 => some (wordOf (mwh ox) 1)
  | 0x100 => some (wordOf c.sessionId 0)
  | 0x104 => some (wordOf c.sessionId 1)
  | 0x108 => some (word c.seq)
  | 0x10C => some (word ((c.open_.map (·.flags)).getD 0))
  | 0x110 => some (wordOf c.lastInterval 0)
  | 0x114 => some (wordOf c.lastInterval 1)
  | 0x118 => some (wordOf c.lastReceipt 0)
  | 0x11C => some (wordOf c.lastReceipt 1)
  | 0x380 => some (word (k.tariffNow % 16))
  | 0x384 => some (word ((c.open_.map fun i => mwh c.accImp - i.imp0).getD 0))
  | 0x388 => some (word ((c.open_.map fun i => mwh c.accExp - i.exp0).getD 0))
  | 0x38C => some (word ((c.open_.map (·.startPip)).getD 0))
  | _ =>
    if 0x200 ≤ off && off < 0x300 && off % 4 = 0 then
      let t := (off - 0x200) / 16
      let acc := if off % 16 < 8 then tget 0 c.tImp t else tget 0 c.tExp t
      some (wordOf (mwh acc) (off / 4 % 2))
    else if 0x300 ≤ off && off < 0x380 && off % 4 = 0 then
      let t := (off - 0x300) / 8
      some (word (if off % 8 = 0 then tget 0 c.mdImp t else tget 0 c.mdExp t))
    else none

/-- The state of a tariff load (KERN_TARIFF_LOAD_STATE). -/
def Kernel.loadState (k : Kernel) : Nat := if k.staged.isSome then 2 else if k.load.isSome then 1 else 0

/-- The module-wide words of the seal, ledger and legal-time parts and of the measurement part. -/
def Kernel.wideWord (k : Kernel) (off : Nat) : Option Word :=
  match off with
  | 0x000 => some 0x00200001
  | 0x004 => some k.stateWord
  | 0x008 => some (word k.sealCount)
  | 0x00C => some (word k.sealLastPip)
  | 0x010 => some (wordOf k.head 0)
  | 0x014 => some (wordOf k.head 1)
  | 0x018 => some (wordOf k.oldest 0)
  | 0x01C => some (wordOf k.oldest 1)
  | 0x020 => some (wordOf k.archived 0)
  | 0x024 => some (wordOf k.archived 1)
  | 0x028 => some (word k.freeBlocks)
  | 0x02C => some (word k.overwritten)
  | 0x030 => some (word k.unsignedCnt)
  | 0x034 => some (word k.refusedCnt)
  | 0x038 => some (((k.slots[k.slotRun]?).map (·.version)).getD 0)
  | 0x03C => some ((k.slotNext.bind fun n => (k.slots[n]?).map (·.version)).getD 0)
  | 0x06C => some (word (Config.kernCert.length % 4096))
  | 0x070 => some (word k.limitMs)
  | 0x074 => some (word (k.buf.foldl (fun a r => a + r.bytes.length) 0))
  | 0x400 => some (word (ofSigned 64 k.utc))
  | 0x404 => some (wordOf (ofSigned 64 k.utc) 1)
  | 0x408 => some (word (k.now % 1000000).toNat)
  | 0x40C => some (word (ofSigned 16 (k.ofs k.now)))
  | 0x410 => some (word k.timeStatus)
  | 0x414 => some (wordI k.slew)
  | 0x418 => some (word k.slewCnt)
  | 0x41C => some (word k.stepCnt)
  | 0x420 => some (wordI k.lastStep)
  | 0x424 => some (word k.tariff.version)
  | 0x428 => some (word (k.tariff.len * 2 ^ 24 + k.tariff.n * 2 ^ 16 + k.tariff.dayTypes.length * 256 + k.tariff.seasons.length))
  | 0x42C => some (word k.loadState)
  | 0x430 => some (word ((k.staged.map (·.version)).getD 0))
  | 0x434 => some (word (ofSigned 64 k.stagedAt))
  | 0x438 => some (wordOf (ofSigned 64 k.stagedAt) 1)
  | 0x43C => some k.dayWord
  | 0x440 => some (word k.periodSeq)
  | 0x444 => some (word (ofSigned 64 k.periodStart))
  | 0x448 => some (wordOf (ofSigned 64 k.periodStart) 1)
  | 0x44C => some (wordI (k.lastKey.getD 0))
  | 0x450 => some (word k.repeatCnt)
  | 0x454 => some (word k.outageCnt)
  | 0x458 => some (word k.lastOutage)
  | 0x800 => some k.mclkWord
  | 0x804 => some (word (k.latchCount * 256 + b2n (k.strobeAge ≤ 1) * 4 + k.mode))
  | 0x808 => some (word (bitsMask ((List.range 32).filter fun n => (k.ch n).liveBelow)))
  | 0x80C => some (word (bitsMask ((List.range 32).filter fun m => k.chFault m)))
  | 0x810 => some (word k.alignLost)
  | _ =>
    if 0x040 ≤ off && off < 0x060 && off % 4 = 0 then some (word (beNat ((padTo 32 k.headHash).drop (off - 0x40) |>.take 4)))
    else if 0x060 ≤ off && off < 0x06C && off % 4 = 0 then some (word (leNat ((List.range 4).map fun i => Config.serial (off - 0x60 + i))))
    else if 0x820 ≤ off && off < 0x860 && off % 4 = 0 then
      (k.pulses[(off - 0x820) / 16]?).map fun p =>
        match off % 16 with
        | 0 => p.cfg
        | 4 => word p.count
        | 8 => word (p.residue / accUnit)
        | _ => word p.pending
    else if 0x880 ≤ off && off < 0x900 && off % 4 = 0 then
      (k.bals[(off - 0x880) / 16]?).map fun b =>
        match off % 16 with
        | 0 => b.cfg
        | 4 => b.tol
        | 8 => wordI b.result
        | _ => word b.failCnt
    else none

/-- The word at an offset of the KERN block. -/
def Kernel.word (k : Kernel) (off : Nat) : Option Word :=
  if off < 0x1000 then k.wideWord off
  else if off < 0x1000 + 32 * 0x400 then k.chWord ((off - 0x1000) / 0x400) ((off - 0x1000) % 0x400)
  else none

/-- KERN_STATUS's reply (R28). -/
def Kernel.statusReply (k : Kernel) : Bytes := leN k.stateWord.toNat 4 ++ leN k.sealCount 4 ++ leN k.head 8 ++ padTo 32 k.headHash

/-- LEGAL_TIME_GET's reply. -/
def Kernel.timeReply (k : Kernel) : Bytes :=
  leI k.utc 8 ++ leN (k.now % 1000000).toNat 4 ++ leI (k.ofs k.now) 2 ++ [0, 0] ++ leN k.timeStatus 4 ++ leI k.slew 4

end Sys2Proof.Machine
end

