-- ==== Sys2Proof/Machine/Flags.lean ====
section
/-!
DEFINITION. Status codes, rejection reasons and event bits: what the block has in place of a processor's flags. Each is a number that a reply, a record or an EVENT register carries.
-/
namespace Sys2Proof.Machine

/-- The status codes of R65; `f0` to `f5` are the first six codes of a family. -/
abbrev St.ok : Nat := 0x00
abbrev St.accepted : Nat := 0x01
abbrev St.notAdmitted : Nat := 0x10
abbrev St.busy : Nat := 0x11
abbrev St.locked : Nat := 0x12
abbrev St.badOpcode : Nat := 0x13
abbrev St.badLength : Nat := 0x14
abbrev St.badParam : Nat := 0x15
abbrev St.crcError : Nat := 0x16
abbrev St.staleEpoch : Nat := 0x17
abbrev St.denied : Nat := 0x18
abbrev St.sealed : Nat := 0x19
abbrev St.memoryFault : Nat := 0x20
abbrev St.deadlineMissed : Nat := 0x21
abbrev St.safetyHold : Nat := 0x22
abbrev St.unsigned : Nat := 0x23
abbrev St.notSynced : Nat := 0x24
abbrev St.f0 : Nat := 0x40
abbrev St.f1 : Nat := 0x41
abbrev St.f2 : Nat := 0x42
abbrev St.f3 : Nat := 0x43
abbrev St.f4 : Nat := 0x44
abbrev St.f5 : Nat := 0x45

/-- The reply payload of a rejection that carries a reason (R58). -/
def reason (r : Nat) : Bytes := [byte r, 0, 0, 0]

/-- The bits of FAB_EVENT. -/
abbrev FabEv.dlMiss : Nat := 1
abbrev FabEv.notAdmitted : Nat := 2
abbrev FabEv.rxOverrun : Nat := 4
abbrev FabEv.rejectDrop : Nat := 8

/-- The deadline of a class in pips (R60). -/
def classPips (c : Nat) : Nat := [2, 4, 40, 400].getD c 2

end Sys2Proof.Machine
end

