-- ==== Sys2Proof/Machine/RegNames.lean ====
section
/-!
DEFINITION. The byte address of every register of the blocks other than KERN, under its own name (R598 to R600).
-/
namespace Sys2Proof.Machine.Reg

/-- `FAB_ID` (R598). -/
abbrev FAB_ID : Nat := 0x10000

/-- `FAB_CTRL` (R598). -/
abbrev FAB_CTRL : Nat := 0x10004

/-- `FAB_EVENT` (R598). -/
abbrev FAB_EVENT : Nat := 0x10008

/-- `FAB_HOST_SEL` (R598). -/
abbrev FAB_HOST_SEL : Nat := 0x1000C

/-- `FAB_CLASS_LIMIT` (R598). -/
abbrev FAB_CLASS_LIMIT : Nat := 0x10010

/-- `FAB_CLASS_INUSE` (R598). -/
abbrev FAB_CLASS_INUSE : Nat := 0x10014

/-- `FAB_POOL_INUSE` (R598). -/
abbrev FAB_POOL_INUSE : Nat := 0x10018

/-- `FAB_Q_EN` (R598). -/
abbrev FAB_Q_EN : Nat := 0x1001C

/-- `FAB_UDP_IP` (R598). -/
abbrev FAB_UDP_IP : Nat := 0x10020

/-- `FAB_UDP_PORT` (R598). -/
abbrev FAB_UDP_PORT : Nat := 0x10024

/-- `FAB_UDP_PEER` (R598). -/
abbrev FAB_UDP_PEER : Nat := 0x10028

/-- `FAB_RX_SYNC_ERR` (R598). -/
abbrev FAB_RX_SYNC_ERR : Nat := 0x1002C

/-- `FAB_RX_OVERRUN` (R598). -/
abbrev FAB_RX_OVERRUN : Nat := 0x10030

/-- `FAB_REJECT_DROP` (R598). -/
abbrev FAB_REJECT_DROP : Nat := 0x10034

/-- `FAB_NOT_ADMITTED` (R598). -/
abbrev FAB_NOT_ADMITTED : Nat := 0x10038

/-- `FAB_DL_MISS_D0` (R598). -/
abbrev FAB_DL_MISS_D0 : Nat := 0x1003C

/-- `FAB_DL_MISS_D1` (R598). -/
abbrev FAB_DL_MISS_D1 : Nat := 0x10040

/-- `FAB_DL_MISS_D2` (R598). -/
abbrev FAB_DL_MISS_D2 : Nat := 0x10044

/-- `FAB_DL_MISS_D3` (R598). -/
abbrev FAB_DL_MISS_D3 : Nat := 0x10048

/-- `FAB_LAST_MISS` (R598). -/
abbrev FAB_LAST_MISS : Nat := 0x1004C

/-- `FAB_LAST_MISS_PIP` (R598). -/
abbrev FAB_LAST_MISS_PIP : Nat := 0x10050

/-- `FAB_ANSWER_LEVEL` (R598). -/
abbrev FAB_ANSWER_LEVEL : Nat := 0x10054

/-- `FAB_Q_nn_CFG` (R598 to R600). -/
def FAB_Q_CFG (n : Nat) : Nat := 0x10100 + 0x10 * n

/-- `FAB_Q_nn_STAT` (R598 to R600). -/
def FAB_Q_STAT (n : Nat) : Nat := 0x10104 + 0x10 * n

/-- `FAB_Q_nn_ACCEPTED` (R598 to R600). -/
def FAB_Q_ACCEPTED (n : Nat) : Nat := 0x10108 + 0x10 * n

/-- `FAB_Q_nn_DL_MISS` (R598 to R600). -/
def FAB_Q_DL_MISS (n : Nat) : Nat := 0x1010C + 0x10 * n

/-- `TIME_ID` (R598). -/
abbrev TIME_ID : Nat := 0x20000

/-- `TIME_STATUS` (R598). -/
abbrev TIME_STATUS : Nat := 0x20004

/-- `TIME_EVENT` (R598). -/
abbrev TIME_EVENT : Nat := 0x20008

/-- `TIME_PTP_CFG` (R598). -/
abbrev TIME_PTP_CFG : Nat := 0x2000C

/-- `TIME_PTP_INTERVALS` (R598). -/
abbrev TIME_PTP_INTERVALS : Nat := 0x20010

/-- `TIME_PTP_PRIO` (R598). -/
abbrev TIME_PTP_PRIO : Nat := 0x20014

/-- `TIME_JUMP_THRESH` (R598). -/
abbrev TIME_JUMP_THRESH : Nat := 0x20018

/-- `TIME_SLEW_MAX` (R598). -/
abbrev TIME_SLEW_MAX : Nat := 0x2001C

/-- `TIME_HOLDOVER_LIMIT` (R598). -/
abbrev TIME_HOLDOVER_LIMIT : Nat := 0x20020

/-- `TIME_PIP_OFFSET` (R598). -/
abbrev TIME_PIP_OFFSET : Nat := 0x20024

/-- `TIME_PIP_LO` (R598). -/
abbrev TIME_PIP_LO : Nat := 0x20028

/-- `TIME_PIP_HI` (R598). -/
abbrev TIME_PIP_HI : Nat := 0x2002C

/-- `TIME_TB0_SEC_LO` (R598). -/
abbrev TIME_TB0_SEC_LO : Nat := 0x20030

/-- `TIME_TB0_SEC_HI` (R598). -/
abbrev TIME_TB0_SEC_HI : Nat := 0x20034

/-- `TIME_TB0_NS` (R598). -/
abbrev TIME_TB0_NS : Nat := 0x20038

/-- `TIME_OFFSET` (R598). -/
abbrev TIME_OFFSET : Nat := 0x2003C

/-- `TIME_MEAN_DELAY` (R598). -/
abbrev TIME_MEAN_DELAY : Nat := 0x20040

/-- `TIME_RATE` (R598). -/
abbrev TIME_RATE : Nat := 0x20044

/-- `TIME_UTC_OFFSET` (R598). -/
abbrev TIME_UTC_OFFSET : Nat := 0x20048

/-- `TIME_HOLD_PIPS` (R598). -/
abbrev TIME_HOLD_PIPS : Nat := 0x2004C

/-- `TIME_JUMP_REFUSED_CNT` (R598). -/
abbrev TIME_JUMP_REFUSED_CNT : Nat := 0x20050

/-- `TIME_LAST_REFUSED` (R598). -/
abbrev TIME_LAST_REFUSED : Nat := 0x20054

/-- `TIME_RENUMBER_CNT` (R598). -/
abbrev TIME_RENUMBER_CNT : Nat := 0x20058

/-- `TIME_LAST_RENUMBER_PIP` (R598). -/
abbrev TIME_LAST_RENUMBER_PIP : Nat := 0x2005C

/-- `TIME_LAST_SKIP` (R598). -/
abbrev TIME_LAST_SKIP : Nat := 0x20060

/-- `TIME_UNALIGNED_LAUNCH` (R598). -/
abbrev TIME_UNALIGNED_LAUNCH : Nat := 0x20064

/-- `TIME_GM_ID_LO` (R598). -/
abbrev TIME_GM_ID_LO : Nat := 0x20068

/-- `TIME_GM_ID_HI` (R598). -/
abbrev TIME_GM_ID_HI : Nat := 0x2006C

/-- `TIME_ETHn_INGRESS_LAT` (R598 to R600). -/
def TIME_ETH_INGRESS_LAT (n : Nat) : Nat := 0x20100 + 0x20 * n

/-- `TIME_ETHn_EGRESS_LAT` (R598 to R600). -/
def TIME_ETH_EGRESS_LAT (n : Nat) : Nat := 0x20104 + 0x20 * n

/-- `TIME_ETHn_ASYM` (R598 to R600). -/
def TIME_ETH_ASYM (n : Nat) : Nat := 0x20108 + 0x20 * n

/-- `TIME_ETHn_TXTS_LEVEL` (R598 to R600). -/
def TIME_ETH_TXTS_LEVEL (n : Nat) : Nat := 0x2010C + 0x20 * n

/-- `TIME_ETHn_TXTS_DROP` (R598 to R600). -/
def TIME_ETH_TXTS_DROP (n : Nat) : Nat := 0x20110 + 0x20 * n

/-- `TIME_ETHn_RX_EVENT` (R598 to R600). -/
def TIME_ETH_RX_EVENT (n : Nat) : Nat := 0x20114 + 0x20 * n

/-- `TIME_ETHn_TX_EVENT` (R598 to R600). -/
def TIME_ETH_TX_EVENT (n : Nat) : Nat := 0x20118 + 0x20 * n

/-- `OUT_nn_CFG` (R598 to R600). -/
def OUT_CFG (n : Nat) : Nat := 0x100000 + 0x400 * n

/-- `OUT_nn_STATE` (R598 to R600). -/
def OUT_STATE (n : Nat) : Nat := 0x100004 + 0x400 * n

/-- `OUT_nn_EVENT` (R598 to R600). -/
def OUT_EVENT (n : Nat) : Nat := 0x100008 + 0x400 * n

/-- `OUT_nn_BREAK` (R598 to R600). -/
def OUT_BREAK (n : Nat) : Nat := 0x100010 + 0x400 * n

/-- `OUT_nn_TIMEOUTS` (R598 to R600). -/
def OUT_TIMEOUTS (n : Nat) : Nat := 0x100014 + 0x400 * n

/-- `OUT_nn_AUTH_CFG` (R598 to R600). -/
def OUT_AUTH_CFG (n : Nat) : Nat := 0x100018 + 0x400 * n

/-- `OUT_nn_LIMIT_P` (R598 to R600). -/
def OUT_LIMIT_P (n : Nat) : Nat := 0x10001C + 0x400 * n

/-- `OUT_nn_LIMIT_I` (R598 to R600). -/
def OUT_LIMIT_I (n : Nat) : Nat := 0x100020 + 0x400 * n

/-- `OUT_nn_LIMIT_V` (R598 to R600). -/
def OUT_LIMIT_V (n : Nat) : Nat := 0x100024 + 0x400 * n

/-- `OUT_nn_CP_CAL` (R598 to R600). -/
def OUT_CP_CAL (n : Nat) : Nat := 0x100028 + 0x400 * n

/-- `OUT_nn_PP_CAL` (R598 to R600). -/
def OUT_PP_CAL (n : Nat) : Nat := 0x10002C + 0x400 * n

/-- `OUT_nn_CP_STATUS` (R598 to R600). -/
def OUT_CP_STATUS (n : Nat) : Nat := 0x100030 + 0x400 * n

/-- `OUT_nn_CP_VOLT` (R598 to R600). -/
def OUT_CP_VOLT (n : Nat) : Nat := 0x100034 + 0x400 * n

/-- `OUT_nn_CP_DUTY` (R598 to R600). -/
def OUT_CP_DUTY (n : Nat) : Nat := 0x100038 + 0x400 * n

/-- `OUT_nn_PP_STATUS` (R598 to R600). -/
def OUT_PP_STATUS (n : Nat) : Nat := 0x10003C + 0x400 * n

/-- `OUT_nn_SP_MODE` (R598 to R600). -/
def OUT_SP_MODE (n : Nat) : Nat := 0x100040 + 0x400 * n

/-- `OUT_nn_SP_VOLT` (R598 to R600). -/
def OUT_SP_VOLT (n : Nat) : Nat := 0x100044 + 0x400 * n

/-- `OUT_nn_SP_CURR` (R598 to R600). -/
def OUT_SP_CURR (n : Nat) : Nat := 0x100048 + 0x400 * n

/-- `OUT_nn_SP_POWER` (R598 to R600). -/
def OUT_SP_POWER (n : Nat) : Nat := 0x10004C + 0x400 * n

/-- `OUT_nn_PM_STATUS` (R598 to R600). -/
def OUT_PM_STATUS (n : Nat) : Nat := 0x100050 + 0x400 * n

/-- `OUT_nn_PM_VOLT` (R598 to R600). -/
def OUT_PM_VOLT (n : Nat) : Nat := 0x100054 + 0x400 * n

/-- `OUT_nn_PM_CURR` (R598 to R600). -/
def OUT_PM_CURR (n : Nat) : Nat := 0x100058 + 0x400 * n

/-- `OUT_nn_EV_REQ_V` (R598 to R600). -/
def OUT_EV_REQ_V (n : Nat) : Nat := 0x100060 + 0x400 * n

/-- `OUT_nn_EV_REQ_I` (R598 to R600). -/
def OUT_EV_REQ_I (n : Nat) : Nat := 0x100064 + 0x400 * n

/-- `OUT_nn_EV_SOC` (R598 to R600). -/
def OUT_EV_SOC (n : Nat) : Nat := 0x100068 + 0x400 * n

/-- `OUT_nn_SESSION_ID_LO` (R598 to R600). -/
def OUT_SESSION_ID_LO (n : Nat) : Nat := 0x100070 + 0x400 * n

/-- `OUT_nn_SESSION_ID_HI` (R598 to R600). -/
def OUT_SESSION_ID_HI (n : Nat) : Nat := 0x100074 + 0x400 * n

/-- `OUT_nn_LAST_FAULT` (R598 to R600). -/
def OUT_LAST_FAULT (n : Nat) : Nat := 0x100080 + 0x400 * n

/-- `OUT_nn_FAULT_PIP` (R598 to R600). -/
def OUT_FAULT_PIP (n : Nat) : Nat := 0x100084 + 0x400 * n

/-- `OUT_nn_FORCED_BREAK_CNT` (R598 to R600). -/
def OUT_FORCED_BREAK_CNT (n : Nat) : Nat := 0x100088 + 0x400 * n

/-- `OUT_nn_WELD_CNT` (R598 to R600). -/
def OUT_WELD_CNT (n : Nat) : Nat := 0x10008C + 0x400 * n

/-- `OUT_nn_SESSION_CNT` (R598 to R600). -/
def OUT_SESSION_CNT (n : Nat) : Nat := 0x100090 + 0x400 * n

/-- `OUT_ID` (R598). -/
abbrev OUT_ID : Nat := 0x108000

/-- `OUT_HOST_WATCH` (R598). -/
abbrev OUT_HOST_WATCH : Nat := 0x108004

/-- `OUT_EVENT_HEAD` (R598). -/
abbrev OUT_EVENT_HEAD : Nat := 0x108008

/-- `OUT_LIST_COUNT` (R598). -/
abbrev OUT_LIST_COUNT : Nat := 0x10800C

/-- `OUT_LIST_VERSION` (R598). -/
abbrev OUT_LIST_VERSION : Nat := 0x108010

/-- `OUT_ENERGY_MASK` (R598). -/
abbrev OUT_ENERGY_MASK : Nat := 0x108014

/-- `OUT_FAULT_MASK` (R598). -/
abbrev OUT_FAULT_MASK : Nat := 0x108018

/-- `OUT_STATUS` (R598). -/
abbrev OUT_STATUS : Nat := 0x10801C

/-- `OUT_TPL_tt_CFG` (R598 to R600). -/
def OUT_TPL_CFG (n : Nat) : Nat := 0x109000 + 0x100 * n

/-- `OUT_TPL_tt_CANID` (R598 to R600). -/
def OUT_TPL_CANID (n : Nat) : Nat := 0x109004 + 0x100 * n

/-- `OUT_TPL_tt_COUNT` (R598 to R600). -/
def OUT_TPL_COUNT (n : Nat) : Nat := 0x109008 + 0x100 * n

/-- `OUT_TPL_tt_FPOS_ff` (R598 to R600). -/
def OUT_TPL_FPOS (tt ff : Nat) : Nat := 0x109040 + 0x100 * tt + 8 * ff

/-- `OUT_TPL_tt_FOFS_ff` (R598 to R600). -/
def OUT_TPL_FOFS (tt ff : Nat) : Nat := 0x109044 + 0x100 * tt + 8 * ff

/-- `BILL_ID` (R598). -/
abbrev BILL_ID : Nat := 0x300000

/-- `BILL_CTRL` (R598). -/
abbrev BILL_CTRL : Nat := 0x300004

/-- `BILL_EVENT` (R598). -/
abbrev BILL_EVENT : Nat := 0x300008

/-- `BILL_STATUS` (R598). -/
abbrev BILL_STATUS : Nat := 0x30000C

/-- `BILL_MIN_START` (R598). -/
abbrev BILL_MIN_START : Nat := 0x300010

/-- `BILL_WARN_LEVEL` (R598). -/
abbrev BILL_WARN_LEVEL : Nat := 0x300014

/-- `BILL_METER_INTERVAL` (R598). -/
abbrev BILL_METER_INTERVAL : Nat := 0x300018

/-- `BILL_TOKEN_CFG` (R598). -/
abbrev BILL_TOKEN_CFG : Nat := 0x30001C

/-- `BILL_TOKEN_TWEAK` (R598). -/
abbrev BILL_TOKEN_TWEAK : Nat := 0x300020

/-- `BILL_TOKEN_EPOCH` (R598). -/
abbrev BILL_TOKEN_EPOCH : Nat := 0x300024

/-- `BILL_TOKEN_FLOOR` (R598). -/
abbrev BILL_TOKEN_FLOOR : Nat := 0x300028

/-- `BILL_TOKEN_USED` (R598). -/
abbrev BILL_TOKEN_USED : Nat := 0x30002C

/-- `BILL_TOKEN_ACCEPT_CNT` (R598). -/
abbrev BILL_TOKEN_ACCEPT_CNT : Nat := 0x300030

/-- `BILL_TOKEN_REFUSE_CNT` (R598). -/
abbrev BILL_TOKEN_REFUSE_CNT : Nat := 0x300034

/-- `BILL_CREDIT_STOP_CNT` (R598). -/
abbrev BILL_CREDIT_STOP_CNT : Nat := 0x300038

/-- `BILL_TXN_HEAD` (R598). -/
abbrev BILL_TXN_HEAD : Nat := 0x30003C

/-- `BILL_ACCOUNT_COUNT` (R598). -/
abbrev BILL_ACCOUNT_COUNT : Nat := 0x300040

/-- `BILL_PRICE_t_IMP` (R598 to R600). -/
def BILL_PRICE_IMP (n : Nat) : Nat := 0x300100 + 0x8 * n

/-- `BILL_PRICE_t_EXP` (R598 to R600). -/
def BILL_PRICE_EXP (n : Nat) : Nat := 0x300104 + 0x8 * n

/-- `BILL_FH_w_CFG` (R598 to R600). -/
def BILL_FH_CFG (n : Nat) : Nat := 0x300200 + 0x4 * n

/-- `BILL_OUT_nn_CLASS` (R598 to R600). -/
def BILL_OUT_CLASS (n : Nat) : Nat := 0x300400 + 0x10 * n

/-- `BILL_OUT_nn_CREDIT_LO` (R598 to R600). -/
def BILL_OUT_CREDIT_LO (n : Nat) : Nat := 0x300404 + 0x10 * n

/-- `BILL_OUT_nn_CREDIT_HI` (R598 to R600). -/
def BILL_OUT_CREDIT_HI (n : Nat) : Nat := 0x300408 + 0x10 * n

/-- `BILL_OUT_nn_COST` (R598 to R600). -/
def BILL_OUT_COST (n : Nat) : Nat := 0x30040C + 0x10 * n

/-- `HUSK_ID` (R598). -/
abbrev HUSK_ID : Nat := 0xD0000

/-- `HUSK_STATUS` (R598). -/
abbrev HUSK_STATUS : Nat := 0xD0004

/-- `HUSK_EVENT` (R598). -/
abbrev HUSK_EVENT : Nat := 0xD0008

/-- `HUSK_CTX_CFG` (R598). -/
abbrev HUSK_CTX_CFG : Nat := 0xD000C

/-- `HUSK_SLAC_CFG` (R598). -/
abbrev HUSK_SLAC_CFG : Nat := 0xD0010

/-- `HUSK_LATE_CNT` (R598). -/
abbrev HUSK_LATE_CNT : Nat := 0xD0014

/-- `HUSK_LAST_LATE` (R598). -/
abbrev HUSK_LAST_LATE : Nat := 0xD0018

/-- `HUSK_LAST_LATE_PIP` (R598). -/
abbrev HUSK_LAST_LATE_PIP : Nat := 0xD001C

/-- `HUSK_CTX_FULL_PIPS` (R598). -/
abbrev HUSK_CTX_FULL_PIPS : Nat := 0xD0020

/-- `HUSK_SLAC_DECIDED_CNT` (R598). -/
abbrev HUSK_SLAC_DECIDED_CNT : Nat := 0xD0024

/-- `HUSK_SLAC_AMBIG_CNT` (R598). -/
abbrev HUSK_SLAC_AMBIG_CNT : Nat := 0xD0028

/-- `HUSK_SLAC_WITHHELD_CNT` (R598). -/
abbrev HUSK_SLAC_WITHHELD_CNT : Nat := 0xD002C

/-- `T1S_n_CFG` (R598 to R600). -/
def T1S_CFG (n : Nat) : Nat := 0xD0800 + 0x40 * n

/-- `T1S_n_STATUS` (R598 to R600). -/
def T1S_STATUS (n : Nat) : Nat := 0xD0804 + 0x40 * n

/-- `T1S_n_RX_FRAMES` (R598 to R600). -/
def T1S_RX_FRAMES (n : Nat) : Nat := 0xD0808 + 0x40 * n

/-- `T1S_n_TX_FRAMES` (R598 to R600). -/
def T1S_TX_FRAMES (n : Nat) : Nat := 0xD080C + 0x40 * n

/-- `T1S_n_RX_ERR` (R598 to R600). -/
def T1S_RX_ERR (n : Nat) : Nat := 0xD0810 + 0x40 * n

/-- `T1S_n_PLCA_MISS` (R598 to R600). -/
def T1S_PLCA_MISS (n : Nat) : Nat := 0xD0814 + 0x40 * n

/-- `LANE_nn_CFG` (R598 to R600). -/
def LANE_CFG (n : Nat) : Nat := 0xD1000 + 0x100 * n

/-- `LANE_nn_STATUS` (R598 to R600). -/
def LANE_STATUS (n : Nat) : Nat := 0xD1004 + 0x100 * n

/-- `LANE_nn_EVENT` (R598 to R600). -/
def LANE_EVENT (n : Nat) : Nat := 0xD1008 + 0x100 * n

/-- `LANE_nn_BLANK_CFG` (R598 to R600). -/
def LANE_BLANK_CFG (n : Nat) : Nat := 0xD100C + 0x100 * n

/-- `LANE_nn_NOISE` (R598 to R600). -/
def LANE_NOISE (n : Nat) : Nat := 0xD1010 + 0x100 * n

/-- `LANE_nn_SNR` (R598 to R600). -/
def LANE_SNR (n : Nat) : Nat := 0xD1014 + 0x100 * n

/-- `LANE_nn_FC_DETECT` (R598 to R600). -/
def LANE_FC_DETECT (n : Nat) : Nat := 0xD1018 + 0x100 * n

/-- `LANE_nn_FILTERED` (R598 to R600). -/
def LANE_FILTERED (n : Nat) : Nat := 0xD101C + 0x100 * n

/-- `LANE_nn_ACCEPTED` (R598 to R600). -/
def LANE_ACCEPTED (n : Nat) : Nat := 0xD1020 + 0x100 * n

/-- `LANE_nn_DELIVERED` (R598 to R600). -/
def LANE_DELIVERED (n : Nat) : Nat := 0xD1024 + 0x100 * n

/-- `LANE_nn_DROP_NO_CONTEXT` (R598 to R600). -/
def LANE_DROP_NO_CONTEXT (n : Nat) : Nat := 0xD1028 + 0x100 * n

/-- `LANE_nn_DROP_NO_BUFFER` (R598 to R600). -/
def LANE_DROP_NO_BUFFER (n : Nat) : Nat := 0xD102C + 0x100 * n

/-- `LANE_nn_CRC_FAIL` (R598 to R600). -/
def LANE_CRC_FAIL (n : Nat) : Nat := 0xD1030 + 0x100 * n

/-- `LANE_nn_LATE` (R598 to R600). -/
def LANE_LATE (n : Nat) : Nat := 0xD1034 + 0x100 * n

/-- `LANE_nn_ERASED_SYM` (R598 to R600). -/
def LANE_ERASED_SYM (n : Nat) : Nat := 0xD1038 + 0x100 * n

/-- `LANE_nn_BLANK_SYM` (R598 to R600). -/
def LANE_BLANK_SYM (n : Nat) : Nat := 0xD103C + 0x100 * n

/-- `LANE_nn_TX_FRAMES` (R598 to R600). -/
def LANE_TX_FRAMES (n : Nat) : Nat := 0xD1040 + 0x100 * n

/-- `LANE_nn_TX_RETRY` (R598 to R600). -/
def LANE_TX_RETRY (n : Nat) : Nat := 0xD1044 + 0x100 * n

/-- `LANE_nn_SLAC` (R598 to R600). -/
def LANE_SLAC (n : Nat) : Nat := 0xD1048 + 0x100 * n

/-- `LANE_nn_LOST_RESET` (R598 to R600). -/
def LANE_LOST_RESET (n : Nat) : Nat := 0xD104C + 0x100 * n

/-- `LANE_nn_MAC_LO` (R598 to R600). -/
def LANE_MAC_LO (n : Nat) : Nat := 0xD1050 + 0x100 * n

/-- `LANE_nn_MAC_HI` (R598 to R600). -/
def LANE_MAC_HI (n : Nat) : Nat := 0xD1054 + 0x100 * n

/-- `MESH_ID` (R598). -/
abbrev MESH_ID : Nat := 0xC0000

/-- `MESH_CTRL` (R598). -/
abbrev MESH_CTRL : Nat := 0xC0004

/-- `MESH_CFG` (R598). -/
abbrev MESH_CFG : Nat := 0xC0008

/-- `MESH_STATUS` (R598). -/
abbrev MESH_STATUS : Nat := 0xC000C

/-- `MESH_EVENT` (R598). -/
abbrev MESH_EVENT : Nat := 0xC0010

/-- `MESH_NETWORK_ID` (R598). -/
abbrev MESH_NETWORK_ID : Nat := 0xC0014

/-- `MESH_EPOCH` (R598). -/
abbrev MESH_EPOCH : Nat := 0xC0018

/-- `MESH_PERIOD` (R598). -/
abbrev MESH_PERIOD : Nat := 0xC001C

/-- `MESH_JOIN_CFG` (R598). -/
abbrev MESH_JOIN_CFG : Nat := 0xC0020

/-- `MESH_ROUTE_CFG` (R598). -/
abbrev MESH_ROUTE_CFG : Nat := 0xC0024

/-- `MESH_NODE_TIMEOUT` (R598). -/
abbrev MESH_NODE_TIMEOUT : Nat := 0xC0028

/-- `MESH_SINK` (R598). -/
abbrev MESH_SINK : Nat := 0xC002C

/-- `MESH_ACTION_SRC_LO` (R598). -/
abbrev MESH_ACTION_SRC_LO : Nat := 0xC0030

/-- `MESH_ACTION_SRC_HI` (R598). -/
abbrev MESH_ACTION_SRC_HI : Nat := 0xC0034

/-- `MESH_PATH_COST` (R598). -/
abbrev MESH_PATH_COST : Nat := 0xC0038

/-- `MESH_NODES` (R598). -/
abbrev MESH_NODES : Nat := 0xC003C

/-- `MESH_MAP_VERSION` (R598). -/
abbrev MESH_MAP_VERSION : Nat := 0xC0040

/-- `MESH_TXQ_LEVEL` (R598). -/
abbrev MESH_TXQ_LEVEL : Nat := 0xC0044

/-- `MESH_RXQ_LEVEL` (R598). -/
abbrev MESH_RXQ_LEVEL : Nat := 0xC0048

/-- `MESH_TX_FRAMES` (R598). -/
abbrev MESH_TX_FRAMES : Nat := 0xC0050

/-- `MESH_RETX_CNT` (R598). -/
abbrev MESH_RETX_CNT : Nat := 0xC0054

/-- `MESH_DROP_RETRY_CNT` (R598). -/
abbrev MESH_DROP_RETRY_CNT : Nat := 0xC0058

/-- `MESH_FWD_DROP_CNT` (R598). -/
abbrev MESH_FWD_DROP_CNT : Nat := 0xC005C

/-- `MESH_RX_DROP_CNT` (R598). -/
abbrev MESH_RX_DROP_CNT : Nat := 0xC0060

/-- `MESH_STALE_CNT` (R598). -/
abbrev MESH_STALE_CNT : Nat := 0xC0064

/-- `MESH_DUP_CNT` (R598). -/
abbrev MESH_DUP_CNT : Nat := 0xC0068

/-- `MESH_BEACON_MISS_CNT` (R598). -/
abbrev MESH_BEACON_MISS_CNT : Nat := 0xC006C

/-- `MESH_RESCAN_CNT` (R598). -/
abbrev MESH_RESCAN_CNT : Nat := 0xC0070

/-- `MESH_PROMOTE_CNT` (R598). -/
abbrev MESH_PROMOTE_CNT : Nat := 0xC0074

/-- `MESH_ACTION_CNT` (R598). -/
abbrev MESH_ACTION_CNT : Nat := 0xC0078

/-- `MESH_EVENT_DROP_CNT` (R598). -/
abbrev MESH_EVENT_DROP_CNT : Nat := 0xC007C

/-- `MESH_NODE_nn_LINK` (R598 to R600). -/
def MESH_NODE_LINK (n : Nat) : Nat := 0xC0100 + 0x4 * n

/-- `GUARD_nn_CFG` (R598 to R600). -/
def GUARD_CH_CFG (n : Nat) : Nat := 0xA0000 + 0x40 * n

/-- `GUARD_nn_CTRL` (R598 to R600). -/
def GUARD_CH_CTRL (n : Nat) : Nat := 0xA0004 + 0x40 * n

/-- `GUARD_nn_STATUS` (R598 to R600). -/
def GUARD_CH_STATUS (n : Nat) : Nat := 0xA0008 + 0x40 * n

/-- `GUARD_nn_EVENT` (R598 to R600). -/
def GUARD_CH_EVENT (n : Nat) : Nat := 0xA000C + 0x40 * n

/-- `GUARD_nn_CAL` (R598 to R600). -/
def GUARD_CH_CAL (n : Nat) : Nat := 0xA0010 + 0x40 * n

/-- `GUARD_nn_RCM_DC1` (R598 to R600). -/
def GUARD_CH_RCM_DC1 (n : Nat) : Nat := 0xA0014 + 0x40 * n

/-- `GUARD_nn_RCM_DC2` (R598 to R600). -/
def GUARD_CH_RCM_DC2 (n : Nat) : Nat := 0xA0018 + 0x40 * n

/-- `GUARD_nn_RCM_DC3` (R598 to R600). -/
def GUARD_CH_RCM_DC3 (n : Nat) : Nat := 0xA001C + 0x40 * n

/-- `GUARD_nn_RCM_AC1` (R598 to R600). -/
def GUARD_CH_RCM_AC1 (n : Nat) : Nat := 0xA0020 + 0x40 * n

/-- `GUARD_nn_RCM_AC2` (R598 to R600). -/
def GUARD_CH_RCM_AC2 (n : Nat) : Nat := 0xA0024 + 0x40 * n

/-- `GUARD_nn_RCM_WARN` (R598 to R600). -/
def GUARD_CH_RCM_WARN (n : Nat) : Nat := 0xA0028 + 0x40 * n

/-- `GUARD_nn_IMD_CFG` (R598 to R600). -/
def GUARD_CH_IMD_CFG (n : Nat) : Nat := 0xA002C + 0x40 * n

/-- `GUARD_nn_IMD_THRESH` (R598 to R600). -/
def GUARD_CH_IMD_THRESH (n : Nat) : Nat := 0xA0030 + 0x40 * n

/-- `GUARD_nn_RCM_VALUE` (R598 to R600). -/
def GUARD_CH_RCM_VALUE (n : Nat) : Nat := 0xA0034 + 0x40 * n

/-- `GUARD_nn_TRIP_CNT` (R598 to R600). -/
def GUARD_CH_TRIP_CNT (n : Nat) : Nat := 0xA0038 + 0x40 * n

/-- `GUARD_nn_IMD_RESULT` (R598 to R600). -/
def GUARD_CH_IMD_RESULT (n : Nat) : Nat := 0xA003C + 0x40 * n

/-- `GUARD_ID` (R598). -/
abbrev GUARD_ID : Nat := 0xA0800

/-- `GUARD_STATUS` (R598). -/
abbrev GUARD_STATUS : Nat := 0xA0804

/-- `GUARD_EVENT` (R598). -/
abbrev GUARD_EVENT : Nat := 0xA0808

/-- `GUARD_GCLK_CFG` (R598). -/
abbrev GUARD_GCLK_CFG : Nat := 0xA080C

/-- `GUARD_TRIP_MASK` (R598). -/
abbrev GUARD_TRIP_MASK : Nat := 0xA0810

/-- `GUARD_WARN_MASK` (R598). -/
abbrev GUARD_WARN_MASK : Nat := 0xA0814

/-- `GUARD_FAULT_MASK` (R598). -/
abbrev GUARD_FAULT_MASK : Nat := 0xA0818

/-- `GUARD_LAST_TRIP` (R598). -/
abbrev GUARD_LAST_TRIP : Nat := 0xA081C

/-- `GUARD_LAST_TRIP_PIP` (R598). -/
abbrev GUARD_LAST_TRIP_PIP : Nat := 0xA0820

/-- `SAFE_ID` (R598). -/
abbrev SAFE_ID : Nat := 0x90000

/-- `SAFE_STATUS` (R598). -/
abbrev SAFE_STATUS : Nat := 0x90004

/-- `SAFE_EVENT` (R598). -/
abbrev SAFE_EVENT : Nat := 0x90008

/-- `SAFE_SLS_MASK` (R598). -/
abbrev SAFE_SLS_MASK : Nat := 0x9000C

/-- `SAFE_PERMIT_MASK` (R598). -/
abbrev SAFE_PERMIT_MASK : Nat := 0x90010

/-- `SAFE_STONE_CUT_MASK` (R598). -/
abbrev SAFE_STONE_CUT_MASK : Nat := 0x90014

/-- `SAFE_CPU_CUT_MASK` (R598). -/
abbrev SAFE_CPU_CUT_MASK : Nat := 0x90018

/-- `SAFE_TFORCE_MASK` (R598). -/
abbrev SAFE_TFORCE_MASK : Nat := 0x9001C

/-- `SAFE_HUB_CAUSE` (R598). -/
abbrev SAFE_HUB_CAUSE : Nat := 0x90020

/-- `SAFE_HUB_CFG` (R598). -/
abbrev SAFE_HUB_CFG : Nat := 0x90024

/-- `SAFE_TP_CFG` (R598). -/
abbrev SAFE_TP_CFG : Nat := 0x90028

/-- `SAFE_UDP_PORT` (R598). -/
abbrev SAFE_UDP_PORT : Nat := 0x9002C

/-- `SAFE_CFG_VERSION` (R598). -/
abbrev SAFE_CFG_VERSION : Nat := 0x90030

/-- `SAFE_CFG_CRC` (R598). -/
abbrev SAFE_CFG_CRC : Nat := 0x90034

/-- `SAFE_STAGE_CRC` (R598). -/
abbrev SAFE_STAGE_CRC : Nat := 0x90038

/-- `SAFE_HB_LOSS_CNT` (R598). -/
abbrev SAFE_HB_LOSS_CNT : Nat := 0x9003C

/-- `SAFE_CUT_CNT` (R598). -/
abbrev SAFE_CUT_CNT : Nat := 0x90040

/-- `SAFE_PAIR_FAULT_CNT` (R598). -/
abbrev SAFE_PAIR_FAULT_CNT : Nat := 0x90044

/-- `SAFE_FORCED_CNT` (R598). -/
abbrev SAFE_FORCED_CNT : Nat := 0x90048

/-- `SAFE_LAST_CUT` (R598). -/
abbrev SAFE_LAST_CUT : Nat := 0x9004C

/-- `SAFE_LAST_CUT_PIP` (R598). -/
abbrev SAFE_LAST_CUT_PIP : Nat := 0x90050

/-- `SAFE_PAIR_p_CFG` (R598 to R600). -/
def SAFE_PAIR_CFG (n : Nat) : Nat := 0x90100 + 0x10 * n

/-- `SAFE_PAIR_p_OUT` (R598 to R600). -/
def SAFE_PAIR_OUT (n : Nat) : Nat := 0x90104 + 0x10 * n

/-- `SAFE_PAIR_p_STATUS` (R598 to R600). -/
def SAFE_PAIR_STATUS (n : Nat) : Nat := 0x90108 + 0x10 * n

/-- `SAFE_PAIR_p_DEMAND_CNT` (R598 to R600). -/
def SAFE_PAIR_DEMAND_CNT (n : Nat) : Nat := 0x9010C + 0x10 * n

/-- `SAFE_CONN_c_CFG` (R598 to R600). -/
def SAFE_CONN_CFG (n : Nat) : Nat := 0x90200 + 0x20 * n

/-- `SAFE_CONN_c_ID` (R598 to R600). -/
def SAFE_CONN_ID (n : Nat) : Nat := 0x90204 + 0x20 * n

/-- `SAFE_CONN_c_PEER` (R598 to R600). -/
def SAFE_CONN_PEER (n : Nat) : Nat := 0x90208 + 0x20 * n

/-- `SAFE_CONN_c_OUT` (R598 to R600). -/
def SAFE_CONN_OUT (n : Nat) : Nat := 0x9020C + 0x20 * n

/-- `SAFE_CONN_c_STATUS` (R598 to R600). -/
def SAFE_CONN_STATUS (n : Nat) : Nat := 0x90210 + 0x20 * n

/-- `SAFE_CONN_c_ERR_CNT` (R598 to R600). -/
def SAFE_CONN_ERR_CNT (n : Nat) : Nat := 0x90214 + 0x20 * n

/-- `SAFE_CONN_c_WD_CNT` (R598 to R600). -/
def SAFE_CONN_WD_CNT (n : Nat) : Nat := 0x90218 + 0x20 * n

/-- `LSW_ch_CFG` (R598 to R600). -/
def LSW_CH_CFG (n : Nat) : Nat := 0x80000 + 0x40 * n

/-- `LSW_ch_CMD` (R598 to R600). -/
def LSW_CH_CMD (n : Nat) : Nat := 0x80004 + 0x40 * n

/-- `LSW_ch_HOLD` (R598 to R600). -/
def LSW_CH_HOLD (n : Nat) : Nat := 0x80008 + 0x40 * n

/-- `LSW_ch_STATUS` (R598 to R600). -/
def LSW_CH_STATUS (n : Nat) : Nat := 0x8000C + 0x40 * n

/-- `LSW_ch_EVENT` (R598 to R600). -/
def LSW_CH_EVENT (n : Nat) : Nat := 0x80010 + 0x40 * n

/-- `LSW_ch_MEAS` (R598 to R600). -/
def LSW_CH_MEAS (n : Nat) : Nat := 0x80014 + 0x40 * n

/-- `LSW_ch_TRIP_CNT` (R598 to R600). -/
def LSW_CH_TRIP_CNT (n : Nat) : Nat := 0x80018 + 0x40 * n

/-- `LSW_ch_THERM_CNT` (R598 to R600). -/
def LSW_CH_THERM_CNT (n : Nat) : Nat := 0x8001C + 0x40 * n

/-- `LSW_ch_RETRY_CNT` (R598 to R600). -/
def LSW_CH_RETRY_CNT (n : Nat) : Nat := 0x80020 + 0x40 * n

/-- `LSW_ch_LOCKOUT_CNT` (R598 to R600). -/
def LSW_CH_LOCKOUT_CNT (n : Nat) : Nat := 0x80024 + 0x40 * n

/-- `LSW_ID` (R598). -/
abbrev LSW_ID : Nat := 0x81800

/-- `LSW_CFG` (R598). -/
abbrev LSW_CFG : Nat := 0x81804

/-- `LSW_WD_CFG` (R598). -/
abbrev LSW_WD_CFG : Nat := 0x81808

/-- `LSW_STATUS` (R598). -/
abbrev LSW_STATUS : Nat := 0x8180C

/-- `LSW_EVENT` (R598). -/
abbrev LSW_EVENT : Nat := 0x81810

/-- `LSW_FEED` (R598). -/
abbrev LSW_FEED : Nat := 0x81814

/-- `LSW_CL_ON_LO` (R598). -/
abbrev LSW_CL_ON_LO : Nat := 0x81818

/-- `LSW_CL_ON_HI` (R598). -/
abbrev LSW_CL_ON_HI : Nat := 0x8181C

/-- `LSW_AX_ON` (R598). -/
abbrev LSW_AX_ON : Nat := 0x81820

/-- `LSW_CL_LOCKOUT_LO` (R598). -/
abbrev LSW_CL_LOCKOUT_LO : Nat := 0x81824

/-- `LSW_CL_LOCKOUT_HI` (R598). -/
abbrev LSW_CL_LOCKOUT_HI : Nat := 0x81828

/-- `LSW_AX_LOCKOUT` (R598). -/
abbrev LSW_AX_LOCKOUT : Nat := 0x8182C

/-- `LSW_UV_CNT` (R598). -/
abbrev LSW_UV_CNT : Nat := 0x81830

/-- `LSW_FAILSAFE_CNT` (R598). -/
abbrev LSW_FAILSAFE_CNT : Nat := 0x81834

/-- `LSW_FRAME_ERR_CNT` (R598). -/
abbrev LSW_FRAME_ERR_CNT : Nat := 0x81838

/-- `LSW_SAFETY_HOLD_CNT` (R598). -/
abbrev LSW_SAFETY_HOLD_CNT : Nat := 0x8183C

/-- `TWIN_ID` (R598). -/
abbrev TWIN_ID : Nat := 0xB0000

/-- `TWIN_CFG` (R598). -/
abbrev TWIN_CFG : Nat := 0xB0004

/-- `TWIN_STATUS` (R598). -/
abbrev TWIN_STATUS : Nat := 0xB0008

/-- `TWIN_EVENT` (R598). -/
abbrev TWIN_EVENT : Nat := 0xB000C

/-- `TWIN_EPOCH` (R598). -/
abbrev TWIN_EPOCH : Nat := 0xB0010

/-- `TWIN_PEER_EPOCH` (R598). -/
abbrev TWIN_PEER_EPOCH : Nat := 0xB0014

/-- `TWIN_OWN_IP` (R598). -/
abbrev TWIN_OWN_IP : Nat := 0xB0018

/-- `TWIN_PEER_IP` (R598). -/
abbrev TWIN_PEER_IP : Nat := 0xB001C

/-- `TWIN_UDP_PORT` (R598). -/
abbrev TWIN_UDP_PORT : Nat := 0xB0020

/-- `TWIN_KCMP_CFG` (R598). -/
abbrev TWIN_KCMP_CFG : Nat := 0xB0024

/-- `TWIN_KCMP_MASK` (R598). -/
abbrev TWIN_KCMP_MASK : Nat := 0xB0028

/-- `TWIN_POD_STATUS` (R598). -/
abbrev TWIN_POD_STATUS : Nat := 0xB002C

/-- `TWIN_COPY_LAST` (R598). -/
abbrev TWIN_COPY_LAST : Nat := 0xB0030

/-- `TWIN_LAST_CHANGE_PIP` (R598). -/
abbrev TWIN_LAST_CHANGE_PIP : Nat := 0xB0034

/-- `TWIN_PROMOTE_CNT` (R598). -/
abbrev TWIN_PROMOTE_CNT : Nat := 0xB0038

/-- `TWIN_DEMOTE_CNT` (R598). -/
abbrev TWIN_DEMOTE_CNT : Nat := 0xB003C

/-- `TWIN_SWITCHOVER_CNT` (R598). -/
abbrev TWIN_SWITCHOVER_CNT : Nat := 0xB0040

/-- `TWIN_POD_FAULT_CNT` (R598). -/
abbrev TWIN_POD_FAULT_CNT : Nat := 0xB0044

/-- `TWIN_SYNC_LOST_CNT` (R598). -/
abbrev TWIN_SYNC_LOST_CNT : Nat := 0xB0048

/-- `TWIN_COPY_RESEND_CNT` (R598). -/
abbrev TWIN_COPY_RESEND_CNT : Nat := 0xB004C

/-- `TWIN_POD_CRC_ERR_CNT` (R598). -/
abbrev TWIN_POD_CRC_ERR_CNT : Nat := 0xB0050

/-- `TWIN_STALE_CNT` (R598). -/
abbrev TWIN_STALE_CNT : Nat := 0xB0054

/-- `TWIN_KCMP_nn_DIFF` (R598 to R600). -/
def TWIN_KCMP_DIFF (n : Nat) : Nat := 0xB0100 + 0x4 * n

/-- `TAG_ID` (R598). -/
abbrev TAG_ID : Nat := 0x70000

/-- `TAG_CTRL` (R598). -/
abbrev TAG_CTRL : Nat := 0x70004

/-- `TAG_STATUS` (R598). -/
abbrev TAG_STATUS : Nat := 0x70008

/-- `TAG_EVENT` (R598). -/
abbrev TAG_EVENT : Nat := 0x7000C

/-- `TAG_RDR_CFG` (R598). -/
abbrev TAG_RDR_CFG : Nat := 0x70010

/-- `TAG_RDR_PRESENT` (R598). -/
abbrev TAG_RDR_PRESENT : Nat := 0x70014

/-- `TAG_RDR_POLL_CNT` (R598). -/
abbrev TAG_RDR_POLL_CNT : Nat := 0x70018

/-- `TAG_RDR_CARD_CNT` (R598). -/
abbrev TAG_RDR_CARD_CNT : Nat := 0x7001C

/-- `TAG_RDR_COLL_CNT` (R598). -/
abbrev TAG_RDR_COLL_CNT : Nat := 0x70020

/-- `TAG_RDR_TIMEOUT_CNT` (R598). -/
abbrev TAG_RDR_TIMEOUT_CNT : Nat := 0x70024

/-- `TAG_RDR_RANDOM_CNT` (R598). -/
abbrev TAG_RDR_RANDOM_CNT : Nat := 0x70028

/-- `TAG_EMU_CFG` (R598). -/
abbrev TAG_EMU_CFG : Nat := 0x70040

/-- `TAG_EMU_UID` (R598). -/
abbrev TAG_EMU_UID : Nat := 0x70044

/-- `TAG_EMU_ACT_CNT` (R598). -/
abbrev TAG_EMU_ACT_CNT : Nat := 0x70048

/-- `TAG_EMU_WTX_CNT` (R598). -/
abbrev TAG_EMU_WTX_CNT : Nat := 0x7004C

/-- `TAG_FRAM_HOLD_STATUS` (R598). -/
abbrev TAG_FRAM_HOLD_STATUS : Nat := 0x70050

/-- `TAG_FRAM_CUT_CNT` (R598). -/
abbrev TAG_FRAM_CUT_CNT : Nat := 0x70054

/-- `TAG_KP_CFG` (R598). -/
abbrev TAG_KP_CFG : Nat := 0x70060

/-- `TAG_KP_STATUS` (R598). -/
abbrev TAG_KP_STATUS : Nat := 0x70064

/-- `TAG_KP_KEY_CNT` (R598). -/
abbrev TAG_KP_KEY_CNT : Nat := 0x70068

/-- `TAG_KP_GHOST_CNT` (R598). -/
abbrev TAG_KP_GHOST_CNT : Nat := 0x7006C

/-- `TAG_KP_DROP_CNT` (R598). -/
abbrev TAG_KP_DROP_CNT : Nat := 0x70070

/-- `DISP_ID` (R598). -/
abbrev DISP_ID : Nat := 0x60000

/-- `DISP_CTRL` (R598). -/
abbrev DISP_CTRL : Nat := 0x60004

/-- `DISP_STATUS` (R598). -/
abbrev DISP_STATUS : Nat := 0x60008

/-- `DISP_EVENT` (R598). -/
abbrev DISP_EVENT : Nat := 0x6000C

/-- `DISP_CFG` (R598). -/
abbrev DISP_CFG : Nat := 0x60010

/-- `DISP_IREF` (R598). -/
abbrev DISP_IREF : Nat := 0x60014

/-- `DISP_TEMP_HOST` (R598). -/
abbrev DISP_TEMP_HOST : Nat := 0x60018

/-- `DISP_TEMP` (R598). -/
abbrev DISP_TEMP : Nat := 0x6001C

/-- `DISP_FRAME_CNT` (R598). -/
abbrev DISP_FRAME_CNT : Nat := 0x60020

/-- `DISP_LINES_WRITTEN_CNT` (R598). -/
abbrev DISP_LINES_WRITTEN_CNT : Nat := 0x60024

/-- `DISP_SUPERSEDED_CNT` (R598). -/
abbrev DISP_SUPERSEDED_CNT : Nat := 0x60028

/-- `DISP_VP_FAULT_CNT` (R598). -/
abbrev DISP_VP_FAULT_CNT : Nat := 0x6002C

/-- `DISP_VPANEL_MEAS` (R598). -/
abbrev DISP_VPANEL_MEAS : Nat := 0x60030

/-- `DISP_BAND_b_CFG` (R598 to R600). -/
def DISP_BAND_CFG (n : Nat) : Nat := 0x60040 + 0x4 * n

/-- `DISP_REGION_r_CFG` (R598 to R600). -/
def DISP_REGION_CFG (n : Nat) : Nat := 0x60080 + 0x4 * n

/-- `DISP_REGION_r_STATUS` (R598 to R600). -/
def DISP_REGION_STATUS (n : Nat) : Nat := 0x600A0 + 0x4 * n

/-- `DISP_AGE_k` (R598 to R600). -/
def DISP_AGE (n : Nat) : Nat := 0x60100 + 0x4 * n

/-- `KEY_ID` (R598). -/
abbrev KEY_ID : Nat := 0x40000

/-- `KEY_STATUS` (R598). -/
abbrev KEY_STATUS : Nat := 0x40004

/-- `KEY_EVENT` (R598). -/
abbrev KEY_EVENT : Nat := 0x40008

/-- `KEY_TAMPER_ARMED` (R598). -/
abbrev KEY_TAMPER_ARMED : Nat := 0x4000C

/-- `KEY_TAMPER_STATUS` (R598). -/
abbrev KEY_TAMPER_STATUS : Nat := 0x40010

/-- `KEY_TAMPER_TIME` (R598). -/
abbrev KEY_TAMPER_TIME : Nat := 0x40014

/-- `KEY_SECC_SLOT` (R598). -/
abbrev KEY_SECC_SLOT : Nat := 0x40018

/-- `KEY_HOST_LO` (R598). -/
abbrev KEY_HOST_LO : Nat := 0x4001C

/-- `KEY_HOST_HI` (R598). -/
abbrev KEY_HOST_HI : Nat := 0x40020

/-- `KEY_KEK_GEN` (R598). -/
abbrev KEY_KEK_GEN : Nat := 0x40024

/-- `KEY_LOAD_CNT` (R598). -/
abbrev KEY_LOAD_CNT : Nat := 0x40028

/-- `KEY_USE_DENIED_CNT` (R598). -/
abbrev KEY_USE_DENIED_CNT : Nat := 0x4002C

/-- `KEY_BLOB_FAIL_CNT` (R598). -/
abbrev KEY_BLOB_FAIL_CNT : Nat := 0x40030

/-- `KEY_SLOT_nn_INFO` (R598 to R600). -/
def KEY_SLOT_INFO (n : Nat) : Nat := 0x40100 + 0x10 * n

/-- `KEY_SLOT_nn_LABEL` (R598 to R600). -/
def KEY_SLOT_LABEL (n : Nat) : Nat := 0x40104 + 0x10 * n

/-- `KEY_SLOT_nn_VERSION` (R598 to R600). -/
def KEY_SLOT_VERSION (n : Nat) : Nat := 0x40108 + 0x10 * n

/-- `KEY_SLOT_nn_USE_CNT` (R598 to R600). -/
def KEY_SLOT_USE_CNT (n : Nat) : Nat := 0x4010C + 0x10 * n

/-- `FWU_ID` (R598). -/
abbrev FWU_ID : Nat := 0x50000

/-- `FWU_CFG` (R598). -/
abbrev FWU_CFG : Nat := 0x50004

/-- `FWU_STATUS` (R598). -/
abbrev FWU_STATUS : Nat := 0x50008

/-- `FWU_EVENT` (R598). -/
abbrev FWU_EVENT : Nat := 0x5000C

/-- `FWU_BOOT_STATUS` (R598). -/
abbrev FWU_BOOT_STATUS : Nat := 0x50010

/-- `FWU_BANK_A_VERSION` (R598). -/
abbrev FWU_BANK_A_VERSION : Nat := 0x50014

/-- `FWU_BANK_B_VERSION` (R598). -/
abbrev FWU_BANK_B_VERSION : Nat := 0x50018

/-- `FWU_LOADED` (R598). -/
abbrev FWU_LOADED : Nat := 0x5001C

/-- `FWU_ROLLBACK` (R598). -/
abbrev FWU_ROLLBACK : Nat := 0x50020

/-- `FWU_LAST_PAUSE` (R598). -/
abbrev FWU_LAST_PAUSE : Nat := 0x50024

/-- `FWU_SAFETY_VERSION` (R598). -/
abbrev FWU_SAFETY_VERSION : Nat := 0x50028

/-- `FWU_ACTIVATE_CNT` (R598). -/
abbrev FWU_ACTIVATE_CNT : Nat := 0x5002C

/-- `FWU_FALLBACK_CNT` (R598). -/
abbrev FWU_FALLBACK_CNT : Nat := 0x50030

/-- `MEM_ID` (R598). -/
abbrev MEM_ID : Nat := 0x30000

/-- `MEM_CTRL` (R598). -/
abbrev MEM_CTRL : Nat := 0x30004

/-- `MEM_STATUS` (R598). -/
abbrev MEM_STATUS : Nat := 0x30008

/-- `MEM_EVENT` (R598). -/
abbrev MEM_EVENT : Nat := 0x3000C

/-- `MEM_LBIST_CFG` (R598). -/
abbrev MEM_LBIST_CFG : Nat := 0x30010

/-- `MEM_MBIST_CFG` (R598). -/
abbrev MEM_MBIST_CFG : Nat := 0x30014

/-- `MEM_FLASH_CFG` (R598). -/
abbrev MEM_FLASH_CFG : Nat := 0x30018

/-- `MEM_LBIST_POS` (R598). -/
abbrev MEM_LBIST_POS : Nat := 0x3001C

/-- `MEM_LBIST_FAIL` (R598). -/
abbrev MEM_LBIST_FAIL : Nat := 0x30020

/-- `MEM_LBIST_SIG` (R598). -/
abbrev MEM_LBIST_SIG : Nat := 0x30024

/-- `MEM_LBIST_FAIL_CNT` (R598). -/
abbrev MEM_LBIST_FAIL_CNT : Nat := 0x30028

/-- `MEM_LBIST_DEFER_CNT` (R598). -/
abbrev MEM_LBIST_DEFER_CNT : Nat := 0x3002C

/-- `MEM_LBIST_CYCLE_CNT` (R598). -/
abbrev MEM_LBIST_CYCLE_CNT : Nat := 0x30030

/-- `MEM_MBIST_POS` (R598). -/
abbrev MEM_MBIST_POS : Nat := 0x30034

/-- `MEM_MBIST_FAIL_ADDR` (R598). -/
abbrev MEM_MBIST_FAIL_ADDR : Nat := 0x30038

/-- `MEM_MBIST_FAIL_BIT` (R598). -/
abbrev MEM_MBIST_FAIL_BIT : Nat := 0x3003C

/-- `MEM_MBIST_FAIL_CNT` (R598). -/
abbrev MEM_MBIST_FAIL_CNT : Nat := 0x30040

/-- `MEM_REPAIR_USED` (R598). -/
abbrev MEM_REPAIR_USED : Nat := 0x30044

/-- `MEM_CORE_UE_RESET_CNT` (R598). -/
abbrev MEM_CORE_UE_RESET_CNT : Nat := 0x30048

/-- `MEM_FLASH_REFRESH_CNT` (R598). -/
abbrev MEM_FLASH_REFRESH_CNT : Nat := 0x3004C

/-- `MEM_FLASH_UE_CNT` (R598). -/
abbrev MEM_FLASH_UE_CNT : Nat := 0x30050

/-- `MEM_FLASH_LAST_UE_BLOCK` (R598). -/
abbrev MEM_FLASH_LAST_UE_BLOCK : Nat := 0x30054

/-- `MEM_RAMm_CE_CNT` (R598 to R600). -/
def MEM_RAM_CE_CNT (n : Nat) : Nat := 0x30100 + 0x20 * n

/-- `MEM_RAMm_UE_CNT` (R598 to R600). -/
def MEM_RAM_UE_CNT (n : Nat) : Nat := 0x30104 + 0x20 * n

/-- `MEM_RAMm_LAST_CE_ADDR` (R598 to R600). -/
def MEM_RAM_LAST_CE_ADDR (n : Nat) : Nat := 0x30108 + 0x20 * n

/-- `MEM_RAMm_LAST_UE_ADDR` (R598 to R600). -/
def MEM_RAM_LAST_UE_ADDR (n : Nat) : Nat := 0x3010C + 0x20 * n

/-- `MEM_RAMm_SPARES` (R598 to R600). -/
def MEM_RAM_SPARES (n : Nat) : Nat := 0x30110 + 0x20 * n

/-- `SYS_ID` (R598). -/
abbrev SYS_ID : Nat := 0x00000

/-- `SYS_MODE` (R598). -/
abbrev SYS_MODE : Nat := 0x00004

/-- `SYS_DEGRADE_CAUSE` (R598). -/
abbrev SYS_DEGRADE_CAUSE : Nat := 0x00008

/-- `SYS_EVENT` (R598). -/
abbrev SYS_EVENT : Nat := 0x0000C

/-- `SYS_RESET_CAUSE` (R598). -/
abbrev SYS_RESET_CAUSE : Nat := 0x00010

/-- `SYS_STRAPS` (R598). -/
abbrev SYS_STRAPS : Nat := 0x00014

/-- `SYS_POWER_STATUS` (R598). -/
abbrev SYS_POWER_STATUS : Nat := 0x00018

/-- `SYS_FEED_CFG` (R598). -/
abbrev SYS_FEED_CFG : Nat := 0x0001C

/-- `SYS_FEED_A` (R598). -/
abbrev SYS_FEED_A : Nat := 0x00020

/-- `SYS_FEED_B` (R598). -/
abbrev SYS_FEED_B : Nat := 0x00024

/-- `SYS_VBAT` (R598). -/
abbrev SYS_VBAT : Nat := 0x00028

/-- `SYS_TEMP` (R598). -/
abbrev SYS_TEMP : Nat := 0x0002C

/-- `SYS_CLK_STATUS` (R598). -/
abbrev SYS_CLK_STATUS : Nat := 0x00030

/-- `SYS_CLK_SEL` (R598). -/
abbrev SYS_CLK_SEL : Nat := 0x00034

/-- `SYS_WDT_CFG` (R598). -/
abbrev SYS_WDT_CFG : Nat := 0x00038

/-- `SYS_BOOT_PIPS` (R598). -/
abbrev SYS_BOOT_PIPS : Nat := 0x0003C

/-- `SYS_LOG_HEAD` (R598). -/
abbrev SYS_LOG_HEAD : Nat := 0x00040

/-- `SYS_PFAIL_CNT` (R598). -/
abbrev SYS_PFAIL_CNT : Nat := 0x00044

/-- `SYS_FEED_LOSS_CNT` (R598). -/
abbrev SYS_FEED_LOSS_CNT : Nat := 0x00048

/-- `SYS_WDT_RESET_CNT` (R598). -/
abbrev SYS_WDT_RESET_CNT : Nat := 0x0004C

/-- `SYS_CMD_RESET_CNT` (R598). -/
abbrev SYS_CMD_RESET_CNT : Nat := 0x00050

/-- `SYS_COAST_CNT` (R598). -/
abbrev SYS_COAST_CNT : Nat := 0x00054

/-- `SYS_MUX_HANG_CNT` (R598). -/
abbrev SYS_MUX_HANG_CNT : Nat := 0x00058

end Sys2Proof.Machine.Reg
end

