-- ==== Sys2Proof/Machine/RegTable.lean ====
section
/-!
DEFINITION. The register map of every block but KERN, as the chapters' register maps and the Register Index (R598 to R600) give it: one row
per register or repeated set, with its access code (R9), class (R10), reset value, the bits that are fields (all others are reserved, R12, R14),
and the stated ranges of its fields; of a read-only register only the bits that its field table or summary calls reserved are. KERN words are computed from the mirror (`KernWords.lean`).
A reset value that the maps give as strap, fuse, flash, latch or key cell stands here as 0: those words are kept or computed elsewhere (`Regs.lean`).
-/
namespace Sys2Proof.Machine

/-- The access codes of R9 that the maps use. -/
inductive Access where
  | ro | rw | w1c
  deriving DecidableEq, Repr

/-- The register classes of R10. -/
inductive RegClass where
  | live | framed | idle
  deriving DecidableEq, Repr

/-- A stated range of the field `[hi:lo]`, read as signed where `signed`. -/
structure FieldRange where
  hi : Nat
  lo : Nat
  min : Int
  max : Int
  signed : Bool
  deriving DecidableEq, Repr

/-- One row of a register map: instances at `base + stride * i + stride2 * j` for `i < count`, `j < count2`. -/
structure RegRow where
  name : String
  base : Nat
  stride : Nat
  count : Nat
  stride2 : Nat
  count2 : Nat
  access : Access
  cls : RegClass
  reset : BitVec 32
  fields : BitVec 32
  ranges : List FieldRange
  deriving DecidableEq, Repr

/-- Register map rows of the FAB block. -/
def regsFab : List RegRow := [
  ⟨"FAB_ID", 0x10000, 0, 1, 0, 1, .ro, .live, 0x00010001, 0xFFFFFFFF, []⟩,
  ⟨"FAB_CTRL", 0x10004, 0, 1, 0, 1, .rw, .framed, 0x00000000, 0x00000001, []⟩,
  ⟨"FAB_EVENT", 0x10008, 0, 1, 0, 1, .w1c, .live, 0x00000000, 0x0000000F, []⟩,
  ⟨"FAB_HOST_SEL", 0x1000C, 0, 1, 0, 1, .ro, .live, 0x00000000, 0x00000001, []⟩,
  ⟨"FAB_CLASS_LIMIT", 0x10010, 0, 1, 0, 1, .rw, .framed, 0x20302010, 0xFFFFFFFF, [⟨31, 24, 0, 128, false⟩, ⟨23, 16, 0, 128, false⟩, ⟨15, 8, 0, 128, false⟩, ⟨7, 0, 0, 128, false⟩]⟩,
  ⟨"FAB_CLASS_INUSE", 0x10014, 0, 1, 0, 1, .ro, .live, 0x00000000, 0xFFFFFFFF, []⟩,
  ⟨"FAB_POOL_INUSE", 0x10018, 0, 1, 0, 1, .ro, .live, 0x00000000, 0xFFFFFFFF, []⟩,
  ⟨"FAB_Q_EN", 0x1001C, 0, 1, 0, 1, .rw, .live, 0xFFFFFFFF, 0xFFFFFFFF, []⟩,
  ⟨"FAB_UDP_IP", 0x10020, 0, 1, 0, 1, .rw, .framed, 0x00000000, 0xFFFFFFFF, []⟩,
  ⟨"FAB_UDP_PORT", 0x10024, 0, 1, 0, 1, .rw, .framed, 0x0000B540, 0x0000FFFF, []⟩,
  ⟨"FAB_UDP_PEER", 0x10028, 0, 1, 0, 1, .rw, .framed, 0x00000000, 0xFFFFFFFF, []⟩,
  ⟨"FAB_RX_SYNC_ERR", 0x1002C, 0, 1, 0, 1, .ro, .live, 0x00000000, 0xFFFFFFFF, []⟩,
  ⟨"FAB_RX_OVERRUN", 0x10030, 0, 1, 0, 1, .ro, .live, 0x00000000, 0xFFFFFFFF, []⟩,
  ⟨"FAB_REJECT_DROP", 0x10034, 0, 1, 0, 1, .ro, .live, 0x00000000, 0xFFFFFFFF, []⟩,
  ⟨"FAB_NOT_ADMITTED", 0x10038, 0, 1, 0, 1, .ro, .live, 0x00000000, 0xFFFFFFFF, []⟩,
  ⟨"FAB_DL_MISS_D0", 0x1003C, 0, 1, 0, 1, .ro, .live, 0x00000000, 0xFFFFFFFF, []⟩,
  ⟨"FAB_DL_MISS_D1", 0x10040, 0, 1, 0, 1, .ro, .live, 0x00000000, 0xFFFFFFFF, []⟩,
  ⟨"FAB_DL_MISS_D2", 0x10044, 0, 1, 0, 1, .ro, .live, 0x00000000, 0xFFFFFFFF, []⟩,
  ⟨"FAB_DL_MISS_D3", 0x10048, 0, 1, 0, 1, .ro, .live, 0x00000000, 0xFFFFFFFF, []⟩,
  ⟨"FAB_LAST_MISS", 0x1004C, 0, 1, 0, 1, .ro, .live, 0x00000000, 0xFFFFFFFF, []⟩,
  ⟨"FAB_LAST_MISS_PIP", 0x10050, 0, 1, 0, 1, .ro, .live, 0x00000000, 0xFFFFFFFF, []⟩,
  ⟨"FAB_ANSWER_LEVEL", 0x10054, 0, 1, 0, 1, .ro, .live, 0x00000000, 0xFFFFFFFF, []⟩,
  ⟨"FAB_Q_nn_CFG", 0x10100, 0x10, 32, 0, 1, .rw, .idle, 0x00000F04, 0x00000F1F, [⟨4, 0, 1, 16, false⟩]⟩,
  ⟨"FAB_Q_nn_STAT", 0x10104, 0x10, 32, 0, 1, .ro, .live, 0x00000000, 0xFFFFFFFF, []⟩,
  ⟨"FAB_Q_nn_ACCEPTED", 0x10108, 0x10, 32, 0, 1, .ro, .live, 0x00000000, 0xFFFFFFFF, []⟩,
  ⟨"FAB_Q_nn_DL_MISS", 0x1010C, 0x10, 32, 0, 1, .ro, .live, 0x00000000, 0xFFFFFFFF, []⟩]

/-- Register map rows of the TIME block. -/
def regsTime : List RegRow := [
  ⟨"TIME_ID", 0x20000, 0, 1, 0, 1, .ro, .live, 0x00030001, 0xFFFFFFFF, []⟩,
  ⟨"TIME_STATUS", 0x20004, 0, 1, 0, 1, .ro, .live, 0x00000000, 0x00000F07, []⟩,
  ⟨"TIME_EVENT", 0x20008, 0, 1, 0, 1, .w1c, .live, 0x00000000, 0x000000FF, []⟩,
  ⟨"TIME_PTP_CFG", 0x2000C, 0, 1, 0, 1, .rw, .framed, 0x00000001, 0xFF000B03, [⟨31, 24, 0, 127, false⟩]⟩,
  ⟨"TIME_PTP_INTERVALS", 0x20010, 0, 1, 0, 1, .rw, .framed, 0x03000100, 0xFFFFFFFF, [⟨31, 24, 2, 10, false⟩, ⟨23, 16, -4, 5, true⟩, ⟨15, 8, -3, 3, true⟩, ⟨7, 0, -4, 1, true⟩]⟩,
  ⟨"TIME_PTP_PRIO", 0x20014, 0, 1, 0, 1, .rw, .framed, 0x00008080, 0x0000FFFF, []⟩,
  ⟨"TIME_JUMP_THRESH", 0x20018, 0, 1, 0, 1, .rw, .framed, 0x00002710, 0xFFFFFFFF, [⟨31, 0, 1000, 1000000, false⟩]⟩,
  ⟨"TIME_SLEW_MAX", 0x2001C, 0, 1, 0, 1, .rw, .framed, 0x00000064, 0x000001FF, [⟨8, 0, 1, 500, false⟩]⟩,
  ⟨"TIME_HOLDOVER_LIMIT", 0x20020, 0, 1, 0, 1, .rw, .framed, 0x0003A980, 0xFFFFFFFF, [⟨31, 0, 0, 14400000, false⟩]⟩,
  ⟨"TIME_PIP_OFFSET", 0x20024, 0, 1, 0, 1, .rw, .idle, 0x00000000, 0xFFFFFFFF, []⟩,
  ⟨"TIME_PIP_LO", 0x20028, 0, 1, 0, 1, .ro, .live, 0x00000000, 0xFFFFFFFF, []⟩,
  ⟨"TIME_PIP_HI", 0x2002C, 0, 1, 0, 1, .ro, .live, 0x00000000, 0xFFFFFFFF, []⟩,
  ⟨"TIME_TB0_SEC_LO", 0x20030, 0, 1, 0, 1, .ro, .live, 0x00000000, 0xFFFFFFFF, []⟩,
  ⟨"TIME_TB0_SEC_HI", 0x20034, 0, 1, 0, 1, .ro, .live, 0x00000000, 0xFFFFFFFF, []⟩,
  ⟨"TIME_TB0_NS", 0x20038, 0, 1, 0, 1, .ro, .live, 0x00000000, 0xFFFFFFFF, []⟩,
  ⟨"TIME_OFFSET", 0x2003C, 0, 1, 0, 1, .ro, .live, 0x00000000, 0xFFFFFFFF, []⟩,
  ⟨"TIME_MEAN_DELAY", 0x20040, 0, 1, 0, 1, .ro, .live, 0x00000000, 0xFFFFFFFF, []⟩,
  ⟨"TIME_RATE", 0x20044, 0, 1, 0, 1, .ro, .live, 0x00000000, 0xFFFFFFFF, []⟩,
  ⟨"TIME_UTC_OFFSET", 0x20048, 0, 1, 0, 1, .ro, .live, 0x00000000, 0xFFFFFFFF, []⟩,
  ⟨"TIME_HOLD_PIPS", 0x2004C, 0, 1, 0, 1, .ro, .live, 0x00000000, 0xFFFFFFFF, []⟩,
  ⟨"TIME_JUMP_REFUSED_CNT", 0x20050, 0, 1, 0, 1, .ro, .live, 0x00000000, 0xFFFFFFFF, []⟩,
  ⟨"TIME_LAST_REFUSED", 0x20054, 0, 1, 0, 1, .ro, .live, 0x00000000, 0xFFFFFFFF, []⟩,
  ⟨"TIME_RENUMBER_CNT", 0x20058, 0, 1, 0, 1, .ro, .live, 0x00000000, 0xFFFFFFFF, []⟩,
  ⟨"TIME_LAST_RENUMBER_PIP", 0x2005C, 0, 1, 0, 1, .ro, .live, 0x00000000, 0xFFFFFFFF, []⟩,
  ⟨"TIME_LAST_SKIP", 0x20060, 0, 1, 0, 1, .ro, .live, 0x00000000, 0xFFFFFFFF, []⟩,
  ⟨"TIME_UNALIGNED_LAUNCH", 0x20064, 0, 1, 0, 1, .ro, .live, 0x00000000, 0xFFFFFFFF, []⟩,
  ⟨"TIME_GM_ID_LO", 0x20068, 0, 1, 0, 1, .ro, .live, 0x00000000, 0xFFFFFFFF, []⟩,
  ⟨"TIME_GM_ID_HI", 0x2006C, 0, 1, 0, 1, .ro, .live, 0x00000000, 0xFFFFFFFF, []⟩,
  ⟨"TIME_ETHn_INGRESS_LAT", 0x20100, 0x20, 2, 0, 1, .rw, .framed, 0x00000000, 0xFFFFFFFF, []⟩,
  ⟨"TIME_ETHn_EGRESS_LAT", 0x20104, 0x20, 2, 0, 1, .rw, .framed, 0x00000000, 0xFFFFFFFF, []⟩,
  ⟨"TIME_ETHn_ASYM", 0x20108, 0x20, 2, 0, 1, .rw, .framed, 0x00000000, 0xFFFFFFFF, []⟩,
  ⟨"TIME_ETHn_TXTS_LEVEL", 0x2010C, 0x20, 2, 0, 1, .ro, .live, 0x00000000, 0xFFFFFFFF, []⟩,
  ⟨"TIME_ETHn_TXTS_DROP", 0x20110, 0x20, 2, 0, 1, .ro, .live, 0x00000000, 0xFFFFFFFF, []⟩,
  ⟨"TIME_ETHn_RX_EVENT", 0x20114, 0x20, 2, 0, 1, .ro, .live, 0x00000000, 0xFFFFFFFF, []⟩,
  ⟨"TIME_ETHn_TX_EVENT", 0x20118, 0x20, 2, 0, 1, .ro, .live, 0x00000000, 0xFFFFFFFF, []⟩]

/-- Register map rows of the OUT block. -/
def regsOut0 : List RegRow := [
  ⟨"OUT_nn_CFG", 0x100000, 0x400, 32, 0, 1, .rw, .idle, 0x00000700, 0x00001F07, [⟨2, 0, 0, 3, false⟩]⟩,
  ⟨"OUT_nn_STATE", 0x100004, 0x400, 32, 0, 1, .ro, .live, 0x00080000, 0xFF0F0F0F, []⟩,
  ⟨"OUT_nn_EVENT", 0x100008, 0x400, 32, 0, 1, .w1c, .live, 0x00000000, 0x00000007, []⟩,
  ⟨"OUT_nn_BREAK", 0x100010, 0x400, 32, 0, 1, .rw, .idle, 0x01900014, 0x07FF00FF, [⟨26, 16, 80, 2000, false⟩, ⟨7, 0, 5, 200, false⟩]⟩,
  ⟨"OUT_nn_TIMEOUTS", 0x100014, 0x400, 32, 0, 1, .rw, .idle, 0x46261400, 0xFFFFFF00, [⟨31, 24, 10, 250, false⟩, ⟨23, 16, 5, 60, false⟩, ⟨15, 8, 5, 60, false⟩]⟩,
  ⟨"OUT_nn_AUTH_CFG", 0x100018, 0x400, 32, 0, 1, .rw, .idle, 0x3C0A00F0, 0xFFFF01F3, [⟨23, 16, 1, 60, false⟩]⟩,
  ⟨"OUT_nn_LIMIT_P", 0x10001C, 0x400, 32, 0, 1, .rw, .framed, 0x00000000, 0x0000FFFF, []⟩,
  ⟨"OUT_nn_LIMIT_I", 0x100020, 0x400, 32, 0, 1, .rw, .framed, 0x00000000, 0x0000FFFF, []⟩,
  ⟨"OUT_nn_LIMIT_V", 0x100024, 0x400, 32, 0, 1, .rw, .framed, 0x00000000, 0x0000FFFF, []⟩,
  ⟨"OUT_nn_CP_CAL", 0x100028, 0x400, 32, 0, 1, .rw, .idle, 0x00000000, 0xFFFFFFFF, []⟩,
  ⟨"OUT_nn_PP_CAL", 0x10002C, 0x400, 32, 0, 1, .rw, .idle, 0x0000014A, 0x0000FFFF, []⟩,
  ⟨"OUT_nn_CP_STATUS", 0x100030, 0x400, 32, 0, 1, .ro, .live, 0x00000000, 0xFFFFFFFF, []⟩,
  ⟨"OUT_nn_CP_VOLT", 0x100034, 0x400, 32, 0, 1, .ro, .live, 0x00000000, 0xFFFFFFFF, []⟩,
  ⟨"OUT_nn_CP_DUTY", 0x100038, 0x400, 32, 0, 1, .ro, .live, 0x000003E8, 0xFFFFFFFF, []⟩,
  ⟨"OUT_nn_PP_STATUS", 0x10003C, 0x400, 32, 0, 1, .ro, .live, 0xFFFF0000, 0xFFFFFFFF, []⟩,
  ⟨"OUT_nn_SP_MODE", 0x100040, 0x400, 32, 0, 1, .ro, .live, 0x00000000, 0xFFFFFFFF, []⟩,
  ⟨"OUT_nn_SP_VOLT", 0x100044, 0x400, 32, 0, 1, .ro, .live, 0x00000000, 0xFFFFFFFF, []⟩,
  ⟨"OUT_nn_SP_CURR", 0x100048, 0x400, 32, 0, 1, .ro, .live, 0x00000000, 0xFFFFFFFF, []⟩,
  ⟨"OUT_nn_SP_POWER", 0x10004C, 0x400, 32, 0, 1, .ro, .live, 0x00000000, 0xFFFFFFFF, []⟩,
  ⟨"OUT_nn_PM_STATUS", 0x100050, 0x400, 32, 0, 1, .ro, .live, 0xFFFF0000, 0xFFFFFFFF, []⟩,
  ⟨"OUT_nn_PM_VOLT", 0x100054, 0x400, 32, 0, 1, .ro, .live, 0x00000000, 0xFFFFFFFF, []⟩,
  ⟨"OUT_nn_PM_CURR", 0x100058, 0x400, 32, 0, 1, .ro, .live, 0x00000000, 0xFFFFFFFF, []⟩,
  ⟨"OUT_nn_EV_REQ_V", 0x100060, 0x400, 32, 0, 1, .ro, .live, 0x00000000, 0xFFFFFFFF, []⟩,
  ⟨"OUT_nn_EV_REQ_I", 0x100064, 0x400, 32, 0, 1, .ro, .live, 0x00000000, 0xFFFFFFFF, []⟩,
  ⟨"OUT_nn_EV_SOC", 0x100068, 0x400, 32, 0, 1, .ro, .live, 0x000000FF, 0xFFFFFFFF, []⟩,
  ⟨"OUT_nn_SESSION_ID_LO", 0x100070, 0x400, 32, 0, 1, .ro, .live, 0x00000000, 0xFFFFFFFF, []⟩,
  ⟨"OUT_nn_SESSION_ID_HI", 0x100074, 0x400, 32, 0, 1, .ro, .live, 0x00000000, 0xFFFFFFFF, []⟩,
  ⟨"OUT_nn_LAST_FAULT", 0x100080, 0x400, 32, 0, 1, .ro, .live, 0x00000000, 0xFFFFFFFF, []⟩,
  ⟨"OUT_nn_FAULT_PIP", 0x100084, 0x400, 32, 0, 1, .ro, .live, 0x00000000, 0xFFFFFFFF, []⟩,
  ⟨"OUT_nn_FORCED_BREAK_CNT", 0x100088, 0x400, 32, 0, 1, .ro, .live, 0x00000000, 0xFFFFFFFF, []⟩,
  ⟨"OUT_nn_WELD_CNT", 0x10008C, 0x400, 32, 0, 1, .ro, .live, 0x00000000, 0xFFFFFFFF, []⟩,
  ⟨"OUT_nn_SESSION_CNT", 0x100090, 0x400, 32, 0, 1, .ro, .live, 0x00000000, 0xFFFFFFFF, []⟩,
  ⟨"OUT_ID", 0x108000, 0, 1, 0, 1, .ro, .live, 0x00100001, 0xFFFFFFFF, []⟩,
  ⟨"OUT_HOST_WATCH", 0x108004, 0, 1, 0, 1, .rw, .framed, 0x00009C40, 0xFFFFFFFF, [⟨31, 0, 400, 4000000, false⟩]⟩,
  ⟨"OUT_EVENT_HEAD", 0x108008, 0, 1, 0, 1, .ro, .live, 0x00000000, 0xFFFFFFFF, []⟩,
  ⟨"OUT_LIST_COUNT", 0x10800C, 0, 1, 0, 1, .ro, .live, 0x00000000, 0xFFFFFFFF, []⟩,
  ⟨"OUT_LIST_VERSION", 0x108010, 0, 1, 0, 1, .ro, .live, 0x00000000, 0xFFFFFFFF, []⟩,
  ⟨"OUT_ENERGY_MASK", 0x108014, 0, 1, 0, 1, .ro, .live, 0x00000000, 0xFFFFFFFF, []⟩,
  ⟨"OUT_FAULT_MASK", 0x108018, 0, 1, 0, 1, .ro, .live, 0x00000000, 0xFFFFFFFF, []⟩,
  ⟨"OUT_STATUS", 0x10801C, 0, 1, 0, 1, .ro, .live, 0x00000000, 0xFFFFFFFF, []⟩]

/-- Register map rows of the OUT block. -/
def regsOut1 : List RegRow := [
  ⟨"OUT_TPL_tt_CFG", 0x109000, 0x100, 64, 0, 1, .rw, .idle, 0x00000000, 0xFFFFFFFF, [⟨11, 0, 1, 4000, false⟩]⟩,
  ⟨"OUT_TPL_tt_CANID", 0x109004, 0x100, 64, 0, 1, .rw, .idle, 0x00000000, 0x1FFFFFFF, []⟩,
  ⟨"OUT_TPL_tt_COUNT", 0x109008, 0x100, 64, 0, 1, .ro, .live, 0x00000000, 0xFFFFFFFF, []⟩,
  ⟨"OUT_TPL_tt_FPOS_ff", 0x109040, 0x100, 64, 8, 16, .rw, .idle, 0x00000000, 0xFFFFFF00, [⟨24, 16, 0, 511, false⟩, ⟨10, 8, 0, 4, false⟩]⟩,
  ⟨"OUT_TPL_tt_FOFS_ff", 0x109044, 0x100, 64, 8, 16, .rw, .idle, 0x00000000, 0xFFFFFFFF, []⟩]

/-- Register map rows of the BILL block. -/
def regsBill : List RegRow := [
  ⟨"BILL_ID", 0x300000, 0, 1, 0, 1, .ro, .live, 0x00300001, 0xFFFFFFFF, []⟩,
  ⟨"BILL_CTRL", 0x300004, 0, 1, 0, 1, .rw, .framed, 0x00000000, 0x00000003, []⟩,
  ⟨"BILL_EVENT", 0x300008, 0, 1, 0, 1, .w1c, .live, 0x00000000, 0x00000007, []⟩,
  ⟨"BILL_STATUS", 0x30000C, 0, 1, 0, 1, .ro, .live, 0x00000000, 0xFFFFFFFF, []⟩,
  ⟨"BILL_MIN_START", 0x300010, 0, 1, 0, 1, .rw, .framed, 0x00000000, 0xFFFFFFFF, []⟩,
  ⟨"BILL_WARN_LEVEL", 0x300014, 0, 1, 0, 1, .rw, .framed, 0x00000000, 0xFFFFFFFF, []⟩,
  ⟨"BILL_METER_INTERVAL", 0x300018, 0, 1, 0, 1, .rw, .framed, 0x0003A980, 0xFFFFFFFF, []⟩,
  ⟨"BILL_TOKEN_CFG", 0x30001C, 0, 1, 0, 1, .rw, .idle, 0x00000000, 0x0000003F, []⟩,
  ⟨"BILL_TOKEN_TWEAK", 0x300020, 0, 1, 0, 1, .rw, .idle, 0x00000000, 0xFFFFFFFF, []⟩,
  ⟨"BILL_TOKEN_EPOCH", 0x300024, 0, 1, 0, 1, .rw, .idle, 0x00000000, 0xFFFFFFFF, []⟩,
  ⟨"BILL_TOKEN_FLOOR", 0x300028, 0, 1, 0, 1, .ro, .live, 0x00000000, 0xFFFFFFFF, []⟩,
  ⟨"BILL_TOKEN_USED", 0x30002C, 0, 1, 0, 1, .ro, .live, 0x00000000, 0xFFFFFFFF, []⟩,
  ⟨"BILL_TOKEN_ACCEPT_CNT", 0x300030, 0, 1, 0, 1, .ro, .live, 0x00000000, 0xFFFFFFFF, []⟩,
  ⟨"BILL_TOKEN_REFUSE_CNT", 0x300034, 0, 1, 0, 1, .ro, .live, 0x00000000, 0xFFFFFFFF, []⟩,
  ⟨"BILL_CREDIT_STOP_CNT", 0x300038, 0, 1, 0, 1, .ro, .live, 0x00000000, 0xFFFFFFFF, []⟩,
  ⟨"BILL_TXN_HEAD", 0x30003C, 0, 1, 0, 1, .ro, .live, 0x00000000, 0xFFFFFFFF, []⟩,
  ⟨"BILL_ACCOUNT_COUNT", 0x300040, 0, 1, 0, 1, .ro, .live, 0x00000000, 0xFFFFFFFF, []⟩,
  ⟨"BILL_PRICE_t_IMP", 0x300100, 0x8, 16, 0, 1, .rw, .framed, 0x00000000, 0xFFFFFFFF, []⟩,
  ⟨"BILL_PRICE_t_EXP", 0x300104, 0x8, 16, 0, 1, .rw, .framed, 0x00000000, 0xFFFFFFFF, []⟩,
  ⟨"BILL_FH_w_CFG", 0x300200, 0x4, 8, 0, 1, .rw, .framed, 0x00000000, 0xFF3FFFFF, [⟨21, 11, 0, 1439, false⟩, ⟨10, 0, 0, 1439, false⟩]⟩,
  ⟨"BILL_OUT_nn_CLASS", 0x300400, 0x10, 32, 0, 1, .ro, .live, 0x0000FFFF, 0x0000FFFF, []⟩,
  ⟨"BILL_OUT_nn_CREDIT_LO", 0x300404, 0x10, 32, 0, 1, .ro, .live, 0x00000000, 0xFFFFFFFF, []⟩,
  ⟨"BILL_OUT_nn_CREDIT_HI", 0x300408, 0x10, 32, 0, 1, .ro, .live, 0x00000000, 0xFFFFFFFF, []⟩,
  ⟨"BILL_OUT_nn_COST", 0x30040C, 0x10, 32, 0, 1, .ro, .live, 0x00000000, 0xFFFFFFFF, []⟩]

/-- Register map rows of the HUSK block. -/
def regsHusk : List RegRow := [
  ⟨"HUSK_ID", 0xD0000, 0, 1, 0, 1, .ro, .live, 0x000D0001, 0xFFFFFFFF, []⟩,
  ⟨"HUSK_STATUS", 0xD0004, 0, 1, 0, 1, .ro, .live, 0x00000000, 0xFFFFFFFF, []⟩,
  ⟨"HUSK_EVENT", 0xD0008, 0, 1, 0, 1, .w1c, .live, 0x00000000, 0x00000007, []⟩,
  ⟨"HUSK_CTX_CFG", 0xD000C, 0, 1, 0, 1, .rw, .idle, 0x00000002, 0x00000007, [⟨2, 0, 0, 4, false⟩]⟩,
  ⟨"HUSK_SLAC_CFG", 0xD0010, 0, 1, 0, 1, .rw, .framed, 0x0A061E01, 0xFFFFFF01, [⟨31, 24, 0, 40, false⟩, ⟨23, 16, 1, 30, false⟩, ⟨15, 8, 5, 60, false⟩]⟩,
  ⟨"HUSK_LATE_CNT", 0xD0014, 0, 1, 0, 1, .ro, .live, 0x00000000, 0xFFFFFFFF, []⟩,
  ⟨"HUSK_LAST_LATE", 0xD0018, 0, 1, 0, 1, .ro, .live, 0x00000000, 0xFFFFFFFF, []⟩,
  ⟨"HUSK_LAST_LATE_PIP", 0xD001C, 0, 1, 0, 1, .ro, .live, 0x00000000, 0xFFFFFFFF, []⟩,
  ⟨"HUSK_CTX_FULL_PIPS", 0xD0020, 0, 1, 0, 1, .ro, .live, 0x00000000, 0xFFFFFFFF, []⟩,
  ⟨"HUSK_SLAC_DECIDED_CNT", 0xD0024, 0, 1, 0, 1, .ro, .live, 0x00000000, 0xFFFFFFFF, []⟩,
  ⟨"HUSK_SLAC_AMBIG_CNT", 0xD0028, 0, 1, 0, 1, .ro, .live, 0x00000000, 0xFFFFFFFF, []⟩,
  ⟨"HUSK_SLAC_WITHHELD_CNT", 0xD002C, 0, 1, 0, 1, .ro, .live, 0x00000000, 0xFFFFFFFF, []⟩,
  ⟨"T1S_n_CFG", 0xD0800, 0x40, 8, 0, 1, .rw, .idle, 0x00022007, 0x00FFF0FF, [⟨23, 16, 1, 255, false⟩, ⟨15, 12, 1, 15, false⟩, ⟨7, 2, 1, 7, false⟩]⟩,
  ⟨"T1S_n_STATUS", 0xD0804, 0x40, 8, 0, 1, .ro, .live, 0x00000000, 0xFFFFFFFF, []⟩,
  ⟨"T1S_n_RX_FRAMES", 0xD0808, 0x40, 8, 0, 1, .ro, .live, 0x00000000, 0xFFFFFFFF, []⟩,
  ⟨"T1S_n_TX_FRAMES", 0xD080C, 0x40, 8, 0, 1, .ro, .live, 0x00000000, 0xFFFFFFFF, []⟩,
  ⟨"T1S_n_RX_ERR", 0xD0810, 0x40, 8, 0, 1, .ro, .live, 0x00000000, 0xFFFFFFFF, []⟩,
  ⟨"T1S_n_PLCA_MISS", 0xD0814, 0x40, 8, 0, 1, .ro, .live, 0x00000000, 0xFFFFFFFF, []⟩,
  ⟨"LANE_nn_CFG", 0xD1000, 0x100, 33, 0, 1, .rw, .idle, 0x00000011, 0x00003F11, [⟨13, 8, 0, 60, false⟩]⟩,
  ⟨"LANE_nn_STATUS", 0xD1004, 0x100, 33, 0, 1, .ro, .live, 0x00000003, 0x00000F1F, []⟩,
  ⟨"LANE_nn_EVENT", 0xD1008, 0x100, 33, 0, 1, .w1c, .live, 0x00000000, 0x00000007, []⟩,
  ⟨"LANE_nn_BLANK_CFG", 0xD100C, 0x100, 33, 0, 1, .rw, .framed, 0x00001801, 0x0000FF03, [⟨15, 8, 0, 120, false⟩, ⟨1, 0, 0, 2, false⟩]⟩,
  ⟨"LANE_nn_NOISE", 0xD1010, 0x100, 33, 0, 1, .ro, .live, 0x00000000, 0xFFFFFFFF, []⟩,
  ⟨"LANE_nn_SNR", 0xD1014, 0x100, 33, 0, 1, .ro, .live, 0x00000000, 0xFFFFFFFF, []⟩,
  ⟨"LANE_nn_FC_DETECT", 0xD1018, 0x100, 33, 0, 1, .ro, .live, 0x00000000, 0xFFFFFFFF, []⟩,
  ⟨"LANE_nn_FILTERED", 0xD101C, 0x100, 33, 0, 1, .ro, .live, 0x00000000, 0xFFFFFFFF, []⟩,
  ⟨"LANE_nn_ACCEPTED", 0xD1020, 0x100, 33, 0, 1, .ro, .live, 0x00000000, 0xFFFFFFFF, []⟩,
  ⟨"LANE_nn_DELIVERED", 0xD1024, 0x100, 33, 0, 1, .ro, .live, 0x00000000, 0xFFFFFFFF, []⟩,
  ⟨"LANE_nn_DROP_NO_CONTEXT", 0xD1028, 0x100, 33, 0, 1, .ro, .live, 0x00000000, 0xFFFFFFFF, []⟩,
  ⟨"LANE_nn_DROP_NO_BUFFER", 0xD102C, 0x100, 33, 0, 1, .ro, .live, 0x00000000, 0xFFFFFFFF, []⟩,
  ⟨"LANE_nn_CRC_FAIL", 0xD1030, 0x100, 33, 0, 1, .ro, .live, 0x00000000, 0xFFFFFFFF, []⟩,
  ⟨"LANE_nn_LATE", 0xD1034, 0x100, 33, 0, 1, .ro, .live, 0x00000000, 0xFFFFFFFF, []⟩,
  ⟨"LANE_nn_ERASED_SYM", 0xD1038, 0x100, 33, 0, 1, .ro, .live, 0x00000000, 0xFFFFFFFF, []⟩,
  ⟨"LANE_nn_BLANK_SYM", 0xD103C, 0x100, 33, 0, 1, .ro, .live, 0x00000000, 0xFFFFFFFF, []⟩,
  ⟨"LANE_nn_TX_FRAMES", 0xD1040, 0x100, 33, 0, 1, .ro, .live, 0x00000000, 0xFFFFFFFF, []⟩,
  ⟨"LANE_nn_TX_RETRY", 0xD1044, 0x100, 33, 0, 1, .ro, .live, 0x00000000, 0xFFFFFFFF, []⟩,
  ⟨"LANE_nn_SLAC", 0xD1048, 0x100, 33, 0, 1, .ro, .live, 0x00000000, 0xFFFFFFFF, []⟩,
  ⟨"LANE_nn_LOST_RESET", 0xD104C, 0x100, 33, 0, 1, .ro, .live, 0x00000000, 0xFFFFFFFF, []⟩,
  ⟨"LANE_nn_MAC_LO", 0xD1050, 0x100, 33, 0, 1, .rw, .idle, 0x00000000, 0xFFFFFFFF, []⟩,
  ⟨"LANE_nn_MAC_HI", 0xD1054, 0x100, 33, 0, 1, .rw, .idle, 0x00000000, 0x0000FFFF, []⟩]

/-- Register map rows of the MESH block. -/
def regsMesh : List RegRow := [
  ⟨"MESH_ID", 0xC0000, 0, 1, 0, 1, .ro, .live, 0x000C0001, 0xFFFFFFFF, []⟩,
  ⟨"MESH_CTRL", 0xC0004, 0, 1, 0, 1, .rw, .live, 0x00000000, 0x00000001, []⟩,
  ⟨"MESH_CFG", 0xC0008, 0, 1, 0, 1, .rw, .idle, 0x00030000, 0x3F070313, [⟨1, 0, 0, 2, false⟩]⟩,
  ⟨"MESH_STATUS", 0xC000C, 0, 1, 0, 1, .ro, .live, 0x00FFFF00, 0x0FFFFF1F, []⟩,
  ⟨"MESH_EVENT", 0xC0010, 0, 1, 0, 1, .w1c, .live, 0x00000000, 0x0000001F, []⟩,
  ⟨"MESH_NETWORK_ID", 0xC0014, 0, 1, 0, 1, .rw, .idle, 0x00000000, 0xFFFFFFFF, []⟩,
  ⟨"MESH_EPOCH", 0xC0018, 0, 1, 0, 1, .ro, .live, 0x00000000, 0xFFFFFFFF, []⟩,
  ⟨"MESH_PERIOD", 0xC001C, 0, 1, 0, 1, .ro, .live, 0x00000000, 0xFFFFFFFF, []⟩,
  ⟨"MESH_JOIN_CFG", 0xC0020, 0, 1, 0, 1, .rw, .framed, 0x00000004, 0x0000073F, [⟨5, 0, 2, 32, false⟩]⟩,
  ⟨"MESH_ROUTE_CFG", 0xC0024, 0, 1, 0, 1, .rw, .framed, 0x00091408, 0x00FFFFFF, [⟨23, 16, 0, 40, false⟩, ⟨15, 8, 1, 255, false⟩, ⟨7, 0, 1, 63, false⟩]⟩,
  ⟨"MESH_NODE_TIMEOUT", 0xC0028, 0, 1, 0, 1, .rw, .framed, 0x00000014, 0x000000FF, [⟨7, 0, 4, 255, false⟩]⟩,
  ⟨"MESH_SINK", 0xC002C, 0, 1, 0, 1, .rw, .framed, 0x00000000, 0x0000003F, []⟩,
  ⟨"MESH_ACTION_SRC_LO", 0xC0030, 0, 1, 0, 1, .rw, .framed, 0x00000000, 0xFFFFFFFF, []⟩,
  ⟨"MESH_ACTION_SRC_HI", 0xC0034, 0, 1, 0, 1, .rw, .framed, 0x00000000, 0xFFFFFFFF, []⟩,
  ⟨"MESH_PATH_COST", 0xC0038, 0, 1, 0, 1, .ro, .live, 0x000000FF, 0xFFFFFFFF, []⟩,
  ⟨"MESH_NODES", 0xC003C, 0, 1, 0, 1, .ro, .live, 0x00000000, 0xFFFFFFFF, []⟩,
  ⟨"MESH_MAP_VERSION", 0xC0040, 0, 1, 0, 1, .ro, .live, 0x00000000, 0xFFFFFFFF, []⟩,
  ⟨"MESH_TXQ_LEVEL", 0xC0044, 0, 1, 0, 1, .ro, .live, 0x00000000, 0xFFFFFFFF, []⟩,
  ⟨"MESH_RXQ_LEVEL", 0xC0048, 0, 1, 0, 1, .ro, .live, 0x00000000, 0xFFFFFFFF, []⟩,
  ⟨"MESH_TX_FRAMES", 0xC0050, 0, 1, 0, 1, .ro, .live, 0x00000000, 0xFFFFFFFF, []⟩,
  ⟨"MESH_RETX_CNT", 0xC0054, 0, 1, 0, 1, .ro, .live, 0x00000000, 0xFFFFFFFF, []⟩,
  ⟨"MESH_DROP_RETRY_CNT", 0xC0058, 0, 1, 0, 1, .ro, .live, 0x00000000, 0xFFFFFFFF, []⟩,
  ⟨"MESH_FWD_DROP_CNT", 0xC005C, 0, 1, 0, 1, .ro, .live, 0x00000000, 0xFFFFFFFF, []⟩,
  ⟨"MESH_RX_DROP_CNT", 0xC0060, 0, 1, 0, 1, .ro, .live, 0x00000000, 0xFFFFFFFF, []⟩,
  ⟨"MESH_STALE_CNT", 0xC0064, 0, 1, 0, 1, .ro, .live, 0x00000000, 0xFFFFFFFF, []⟩,
  ⟨"MESH_DUP_CNT", 0xC0068, 0, 1, 0, 1, .ro, .live, 0x00000000, 0xFFFFFFFF, []⟩,
  ⟨"MESH_BEACON_MISS_CNT", 0xC006C, 0, 1, 0, 1, .ro, .live, 0x00000000, 0xFFFFFFFF, []⟩,
  ⟨"MESH_RESCAN_CNT", 0xC0070, 0, 1, 0, 1, .ro, .live, 0x00000000, 0xFFFFFFFF, []⟩,
  ⟨"MESH_PROMOTE_CNT", 0xC0074, 0, 1, 0, 1, .ro, .live, 0x00000000, 0xFFFFFFFF, []⟩,
  ⟨"MESH_ACTION_CNT", 0xC0078, 0, 1, 0, 1, .ro, .live, 0x00000000, 0xFFFFFFFF, []⟩,
  ⟨"MESH_EVENT_DROP_CNT", 0xC007C, 0, 1, 0, 1, .ro, .live, 0x00000000, 0xFFFFFFFF, []⟩,
  ⟨"MESH_NODE_nn_LINK", 0xC0100, 0x4, 64, 0, 1, .ro, .live, 0xFF000000, 0xFF3FFF7F, []⟩]

/-- Register map rows of the GUARD block. -/
def regsGuard : List RegRow := [
  ⟨"GUARD_nn_CFG", 0xA0000, 0x40, 32, 0, 1, .rw, .idle, 0x00000064, 0x000303FF, [⟨17, 16, 0, 2, false⟩, ⟨9, 0, 10, 1000, false⟩]⟩,
  ⟨"GUARD_nn_CTRL", 0xA0004, 0x40, 32, 0, 1, .rw, .live, 0x00000000, 0x00000103, [⟨1, 0, 0, 2, false⟩]⟩,
  ⟨"GUARD_nn_STATUS", 0xA0008, 0x40, 32, 0, 1, .ro, .live, 0x00000000, 0xFF030F1F, []⟩,
  ⟨"GUARD_nn_EVENT", 0xA000C, 0x40, 32, 0, 1, .w1c, .live, 0x00000000, 0x00000007, []⟩,
  ⟨"GUARD_nn_CAL", 0xA0010, 0x40, 32, 0, 1, .rw, .idle, 0x00000000, 0xFFFFFFFF, []⟩,
  ⟨"GUARD_nn_RCM_DC1", 0xA0014, 0x40, 32, 0, 1, .rw, .framed, 0x003C2710, 0xFFFFFFFF, [⟨31, 16, 0, 5000, false⟩, ⟨15, 0, 0, 10000, false⟩]⟩,
  ⟨"GUARD_nn_RCM_DC2", 0xA0018, 0x40, 32, 0, 1, .rw, .framed, 0x0258012C, 0xFFFFFFFF, [⟨31, 16, 0, 5000, false⟩, ⟨15, 0, 0, 10000, false⟩]⟩,
  ⟨"GUARD_nn_RCM_DC3", 0xA001C, 0x40, 32, 0, 1, .rw, .framed, 0x07D00064, 0xFFFFFFFF, [⟨31, 16, 0, 5000, false⟩, ⟨15, 0, 0, 10000, false⟩]⟩,
  ⟨"GUARD_nn_RCM_AC1", 0xA0020, 0x40, 32, 0, 1, .rw, .framed, 0x012C012C, 0xFFFFFFFF, [⟨31, 16, 0, 5000, false⟩, ⟨15, 0, 0, 10000, false⟩]⟩,
  ⟨"GUARD_nn_RCM_AC2", 0xA0024, 0x40, 32, 0, 1, .rw, .framed, 0x05DC0028, 0xFFFFFFFF, [⟨31, 16, 0, 5000, false⟩, ⟨15, 0, 0, 10000, false⟩]⟩,
  ⟨"GUARD_nn_RCM_WARN", 0xA0028, 0x40, 32, 0, 1, .rw, .framed, 0x001E0096, 0xFFFFFFFF, []⟩,
  ⟨"GUARD_nn_IMD_CFG", 0xA002C, 0x200, 4, 0, 1, .rw, .idle, 0x00C80064, 0x7FFF03FF, [⟨9, 0, 10, 1000, false⟩]⟩,
  ⟨"GUARD_nn_IMD_CFG", 0xA006C, 0x200, 4, 0, 1, .rw, .idle, 0x10C80064, 0x7FFF03FF, [⟨9, 0, 10, 1000, false⟩]⟩,
  ⟨"GUARD_nn_IMD_CFG", 0xA00AC, 0x200, 4, 0, 1, .rw, .idle, 0x20C80064, 0x7FFF03FF, [⟨9, 0, 10, 1000, false⟩]⟩,
  ⟨"GUARD_nn_IMD_CFG", 0xA00EC, 0x200, 4, 0, 1, .rw, .idle, 0x30C80064, 0x7FFF03FF, [⟨9, 0, 10, 1000, false⟩]⟩,
  ⟨"GUARD_nn_IMD_CFG", 0xA012C, 0x200, 4, 0, 1, .rw, .idle, 0x40C80064, 0x7FFF03FF, [⟨9, 0, 10, 1000, false⟩]⟩,
  ⟨"GUARD_nn_IMD_CFG", 0xA016C, 0x200, 4, 0, 1, .rw, .idle, 0x50C80064, 0x7FFF03FF, [⟨9, 0, 10, 1000, false⟩]⟩,
  ⟨"GUARD_nn_IMD_CFG", 0xA01AC, 0x200, 4, 0, 1, .rw, .idle, 0x60C80064, 0x7FFF03FF, [⟨9, 0, 10, 1000, false⟩]⟩,
  ⟨"GUARD_nn_IMD_CFG", 0xA01EC, 0x200, 4, 0, 1, .rw, .idle, 0x70C80064, 0x7FFF03FF, [⟨9, 0, 10, 1000, false⟩]⟩,
  ⟨"GUARD_nn_IMD_THRESH", 0xA0030, 0x40, 32, 0, 1, .rw, .framed, 0x01F40064, 0xFFFFFFFF, [⟨31, 16, 1, 10000, false⟩, ⟨15, 0, 1, 10000, false⟩]⟩,
  ⟨"GUARD_nn_RCM_VALUE", 0xA0034, 0x40, 32, 0, 1, .ro, .live, 0x00000000, 0xFFFFFFFF, []⟩,
  ⟨"GUARD_nn_TRIP_CNT", 0xA0038, 0x40, 32, 0, 1, .ro, .live, 0x00000000, 0xFFFFFFFF, []⟩,
  ⟨"GUARD_nn_IMD_RESULT", 0xA003C, 0x40, 32, 0, 1, .ro, .live, 0x0000FFFF, 0xFFFFFFFF, []⟩,
  ⟨"GUARD_ID", 0xA0800, 0, 1, 0, 1, .ro, .live, 0x000A0001, 0xFFFFFFFF, []⟩,
  ⟨"GUARD_STATUS", 0xA0804, 0, 1, 0, 1, .ro, .live, 0x00000000, 0xFFFFFFFF, []⟩,
  ⟨"GUARD_EVENT", 0xA0808, 0, 1, 0, 1, .w1c, .live, 0x00000000, 0x00000007, []⟩,
  ⟨"GUARD_GCLK_CFG", 0xA080C, 0, 1, 0, 1, .rw, .idle, 0x00000011, 0x00000011, []⟩,
  ⟨"GUARD_TRIP_MASK", 0xA0810, 0, 1, 0, 1, .ro, .live, 0x00000000, 0xFFFFFFFF, []⟩,
  ⟨"GUARD_WARN_MASK", 0xA0814, 0, 1, 0, 1, .ro, .live, 0x00000000, 0xFFFFFFFF, []⟩,
  ⟨"GUARD_FAULT_MASK", 0xA0818, 0, 1, 0, 1, .ro, .live, 0x00000000, 0xFFFFFFFF, []⟩,
  ⟨"GUARD_LAST_TRIP", 0xA081C, 0, 1, 0, 1, .ro, .live, 0x00000000, 0xFFFFFFFF, []⟩,
  ⟨"GUARD_LAST_TRIP_PIP", 0xA0820, 0, 1, 0, 1, .ro, .live, 0x00000000, 0xFFFFFFFF, []⟩]

/-- Register map rows of the SAFE block. -/
def regsSafe : List RegRow := [
  ⟨"SAFE_ID", 0x90000, 0, 1, 0, 1, .ro, .live, 0x00090001, 0xFFFFFFFF, []⟩,
  ⟨"SAFE_STATUS", 0x90004, 0, 1, 0, 1, .ro, .live, 0x0000000C, 0x000000FC, []⟩,
  ⟨"SAFE_EVENT", 0x90008, 0, 1, 0, 1, .w1c, .live, 0x00000000, 0x0000001F, []⟩,
  ⟨"SAFE_SLS_MASK", 0x9000C, 0, 1, 0, 1, .ro, .live, 0x00000000, 0xFFFFFFFF, []⟩,
  ⟨"SAFE_PERMIT_MASK", 0x90010, 0, 1, 0, 1, .ro, .live, 0x00000000, 0xFFFFFFFF, []⟩,
  ⟨"SAFE_STONE_CUT_MASK", 0x90014, 0, 1, 0, 1, .ro, .live, 0xFFFFFFFF, 0xFFFFFFFF, []⟩,
  ⟨"SAFE_CPU_CUT_MASK", 0x90018, 0, 1, 0, 1, .ro, .live, 0xFFFFFFFF, 0xFFFFFFFF, []⟩,
  ⟨"SAFE_TFORCE_MASK", 0x9001C, 0, 1, 0, 1, .ro, .live, 0x00000000, 0xFFFFFFFF, []⟩,
  ⟨"SAFE_HUB_CAUSE", 0x90020, 0, 1, 0, 1, .ro, .live, 0x00000006, 0xFFFFFFFF, []⟩,
  ⟨"SAFE_HUB_CFG", 0x90024, 0, 1, 0, 1, .rw, .live, 0x00000001, 0x00000001, []⟩,
  ⟨"SAFE_TP_CFG", 0x90028, 0, 1, 0, 1, .rw, .live, 0x0000144F, 0x0000FFFF, [⟨15, 8, 10, 100, false⟩, ⟨7, 4, 2, 10, false⟩]⟩,
  ⟨"SAFE_UDP_PORT", 0x9002C, 0, 1, 0, 1, .rw, .live, 0x0000B542, 0x0000FFFF, []⟩,
  ⟨"SAFE_CFG_VERSION", 0x90030, 0, 1, 0, 1, .ro, .live, 0x00000000, 0xFFFFFFFF, []⟩,
  ⟨"SAFE_CFG_CRC", 0x90034, 0, 1, 0, 1, .ro, .live, 0x00000000, 0xFFFFFFFF, []⟩,
  ⟨"SAFE_STAGE_CRC", 0x90038, 0, 1, 0, 1, .ro, .live, 0x00000000, 0xFFFFFFFF, []⟩,
  ⟨"SAFE_HB_LOSS_CNT", 0x9003C, 0, 1, 0, 1, .ro, .live, 0x00000000, 0xFFFFFFFF, []⟩,
  ⟨"SAFE_CUT_CNT", 0x90040, 0, 1, 0, 1, .ro, .live, 0x00000000, 0xFFFFFFFF, []⟩,
  ⟨"SAFE_PAIR_FAULT_CNT", 0x90044, 0, 1, 0, 1, .ro, .live, 0x00000000, 0xFFFFFFFF, []⟩,
  ⟨"SAFE_FORCED_CNT", 0x90048, 0, 1, 0, 1, .ro, .live, 0x00000000, 0xFFFFFFFF, []⟩,
  ⟨"SAFE_LAST_CUT", 0x9004C, 0, 1, 0, 1, .ro, .live, 0x00000000, 0xFFFFFFFF, []⟩,
  ⟨"SAFE_LAST_CUT_PIP", 0x90050, 0, 1, 0, 1, .ro, .live, 0x00000000, 0xFFFFFFFF, []⟩,
  ⟨"SAFE_PAIR_p_CFG", 0x90100, 0x10, 8, 0, 1, .rw, .live, 0x00901906, 0xFFFEFF3F, [⟨31, 28, 0, 5, false⟩, ⟨25, 24, 0, 1, false⟩, ⟨23, 21, 0, 4, false⟩, ⟨20, 18, 0, 4, false⟩, ⟨15, 8, 5, 250, false⟩, ⟨5, 0, 1, 40, false⟩]⟩,
  ⟨"SAFE_PAIR_p_OUT", 0x90104, 0x10, 8, 0, 1, .rw, .live, 0x00000000, 0xFFFFFFFF, []⟩,
  ⟨"SAFE_PAIR_p_STATUS", 0x90108, 0x10, 8, 0, 1, .ro, .live, 0x00000000, 0x0000F70F, []⟩,
  ⟨"SAFE_PAIR_p_DEMAND_CNT", 0x9010C, 0x10, 8, 0, 1, .ro, .live, 0x00000000, 0xFFFFFFFF, []⟩,
  ⟨"SAFE_CONN_c_CFG", 0x90200, 0x20, 8, 0, 1, .rw, .live, 0x00000028, 0xFDFFFFFF, []⟩,
  ⟨"SAFE_CONN_c_ID", 0x90204, 0x20, 8, 0, 1, .rw, .live, 0x00000000, 0xFFFFFFFF, []⟩,
  ⟨"SAFE_CONN_c_PEER", 0x90208, 0x20, 8, 0, 1, .rw, .live, 0x00000000, 0xFFFFFFFF, []⟩,
  ⟨"SAFE_CONN_c_OUT", 0x9020C, 0x20, 8, 0, 1, .rw, .live, 0x00000000, 0xFFFFFFFF, []⟩,
  ⟨"SAFE_CONN_c_STATUS", 0x90210, 0x20, 8, 0, 1, .ro, .live, 0x00000000, 0xFFFFFFFF, []⟩,
  ⟨"SAFE_CONN_c_ERR_CNT", 0x90214, 0x20, 8, 0, 1, .ro, .live, 0x00000000, 0xFFFFFFFF, []⟩,
  ⟨"SAFE_CONN_c_WD_CNT", 0x90218, 0x20, 8, 0, 1, .ro, .live, 0x00000000, 0xFFFFFFFF, []⟩]

/-- Register map rows of the LSW block. -/
def regsLsw : List RegRow := [
  ⟨"LSW_ch_CFG", 0x80000, 0x40, 64, 0, 1, .rw, .idle, 0x930A640A, 0xFFFFFFFF, []⟩,
  ⟨"LSW_ch_CFG", 0x81000, 0x40, 16, 0, 1, .rw, .idle, 0x030A3200, 0xFFFFFFFF, []⟩,
  ⟨"LSW_ch_CMD", 0x80004, 0x40, 80, 0, 1, .rw, .live, 0x00000000, 0x800003FF, [⟨9, 0, 0, 1000, false⟩]⟩,
  ⟨"LSW_ch_HOLD", 0x80008, 0x40, 64, 0, 1, .rw, .framed, 0x00600190, 0x03FF03FF, []⟩,
  ⟨"LSW_ch_HOLD", 0x81008, 0x40, 16, 0, 1, .rw, .framed, 0x00F00000, 0x03FF03FF, []⟩,
  ⟨"LSW_ch_STATUS", 0x8000C, 0x40, 80, 0, 1, .ro, .live, 0x03000000, 0x0F007F07, []⟩,
  ⟨"LSW_ch_EVENT", 0x80010, 0x40, 80, 0, 1, .w1c, .live, 0x00000000, 0x0000001F, []⟩,
  ⟨"LSW_ch_MEAS", 0x80014, 0x40, 80, 0, 1, .ro, .live, 0x00000000, 0xFFFFFFFF, []⟩,
  ⟨"LSW_ch_TRIP_CNT", 0x80018, 0x40, 80, 0, 1, .ro, .live, 0x00000000, 0xFFFFFFFF, []⟩,
  ⟨"LSW_ch_THERM_CNT", 0x8001C, 0x40, 80, 0, 1, .ro, .live, 0x00000000, 0xFFFFFFFF, []⟩,
  ⟨"LSW_ch_RETRY_CNT", 0x80020, 0x40, 80, 0, 1, .ro, .live, 0x00000000, 0xFFFFFFFF, []⟩,
  ⟨"LSW_ch_LOCKOUT_CNT", 0x80024, 0x40, 80, 0, 1, .ro, .live, 0x00000000, 0xFFFFFFFF, []⟩,
  ⟨"LSW_ID", 0x81800, 0, 1, 0, 1, .ro, .live, 0x00080001, 0xFFFFFFFF, []⟩,
  ⟨"LSW_CFG", 0x81804, 0, 1, 0, 1, .rw, .idle, 0x00000000, 0x00000003, []⟩,
  ⟨"LSW_WD_CFG", 0x81808, 0, 1, 0, 1, .rw, .idle, 0x05780190, 0x07FF0FFF, [⟨26, 16, 400, 2000, false⟩, ⟨11, 0, 4, 4000, false⟩]⟩,
  ⟨"LSW_STATUS", 0x8180C, 0, 1, 0, 1, .ro, .live, 0x00000000, 0xFFFFFFFF, []⟩,
  ⟨"LSW_EVENT", 0x81810, 0, 1, 0, 1, .w1c, .live, 0x00000000, 0x0000000F, []⟩,
  ⟨"LSW_FEED", 0x81814, 0, 1, 0, 1, .ro, .live, 0x00000000, 0xFFFFFFFF, []⟩,
  ⟨"LSW_CL_ON_LO", 0x81818, 0, 1, 0, 1, .ro, .live, 0x00000000, 0xFFFFFFFF, []⟩,
  ⟨"LSW_CL_ON_HI", 0x8181C, 0, 1, 0, 1, .ro, .live, 0x00000000, 0xFFFFFFFF, []⟩,
  ⟨"LSW_AX_ON", 0x81820, 0, 1, 0, 1, .ro, .live, 0x00000000, 0xFFFFFFFF, []⟩,
  ⟨"LSW_CL_LOCKOUT_LO", 0x81824, 0, 1, 0, 1, .ro, .live, 0x00000000, 0xFFFFFFFF, []⟩,
  ⟨"LSW_CL_LOCKOUT_HI", 0x81828, 0, 1, 0, 1, .ro, .live, 0x00000000, 0xFFFFFFFF, []⟩,
  ⟨"LSW_AX_LOCKOUT", 0x8182C, 0, 1, 0, 1, .ro, .live, 0x00000000, 0xFFFFFFFF, []⟩,
  ⟨"LSW_UV_CNT", 0x81830, 0, 1, 0, 1, .ro, .live, 0x00000000, 0xFFFFFFFF, []⟩,
  ⟨"LSW_FAILSAFE_CNT", 0x81834, 0, 1, 0, 1, .ro, .live, 0x00000000, 0xFFFFFFFF, []⟩,
  ⟨"LSW_FRAME_ERR_CNT", 0x81838, 0, 1, 0, 1, .ro, .live, 0x00000000, 0xFFFFFFFF, []⟩,
  ⟨"LSW_SAFETY_HOLD_CNT", 0x8183C, 0, 1, 0, 1, .ro, .live, 0x00000000, 0xFFFFFFFF, []⟩]

/-- Register map rows of the TWIN block. -/
def regsTwin : List RegRow := [
  ⟨"TWIN_ID", 0xB0000, 0, 1, 0, 1, .ro, .live, 0x000B0001, 0xFFFFFFFF, []⟩,
  ⟨"TWIN_CFG", 0xB0004, 0, 1, 0, 1, .rw, .idle, 0x00020FA0, 0x0003FFFF, [⟨15, 0, 400, 40000, false⟩]⟩,
  ⟨"TWIN_STATUS", 0xB0008, 0, 1, 0, 1, .ro, .live, 0x00000000, 0xFF000BE7, []⟩,
  ⟨"TWIN_EVENT", 0xB000C, 0, 1, 0, 1, .w1c, .live, 0x00000000, 0x000000FF, []⟩,
  ⟨"TWIN_EPOCH", 0xB0010, 0, 1, 0, 1, .ro, .live, 0x00000000, 0xFFFFFFFF, []⟩,
  ⟨"TWIN_PEER_EPOCH", 0xB0014, 0, 1, 0, 1, .ro, .live, 0x00000000, 0xFFFFFFFF, []⟩,
  ⟨"TWIN_OWN_IP", 0xB0018, 0, 1, 0, 1, .rw, .framed, 0x00000000, 0xFFFFFFFF, []⟩,
  ⟨"TWIN_PEER_IP", 0xB001C, 0, 1, 0, 1, .rw, .framed, 0x00000000, 0xFFFFFFFF, []⟩,
  ⟨"TWIN_UDP_PORT", 0xB0020, 0, 1, 0, 1, .rw, .framed, 0x0000B544, 0x0000FFFF, []⟩,
  ⟨"TWIN_KCMP_CFG", 0xB0024, 0, 1, 0, 1, .rw, .framed, 0x1900A005, 0xFFFFFFFF, [⟨31, 20, 1, 4000, false⟩, ⟨19, 12, 1, 255, false⟩]⟩,
  ⟨"TWIN_KCMP_MASK", 0xB0028, 0, 1, 0, 1, .ro, .live, 0x00000000, 0xFFFFFFFF, []⟩,
  ⟨"TWIN_POD_STATUS", 0xB002C, 0, 1, 0, 1, .ro, .live, 0x00000000, 0xFFFFFFFF, []⟩,
  ⟨"TWIN_COPY_LAST", 0xB0030, 0, 1, 0, 1, .ro, .live, 0x00000000, 0xFFFFFFFF, []⟩,
  ⟨"TWIN_LAST_CHANGE_PIP", 0xB0034, 0, 1, 0, 1, .ro, .live, 0x00000000, 0xFFFFFFFF, []⟩,
  ⟨"TWIN_PROMOTE_CNT", 0xB0038, 0, 1, 0, 1, .ro, .live, 0x00000000, 0xFFFFFFFF, []⟩,
  ⟨"TWIN_DEMOTE_CNT", 0xB003C, 0, 1, 0, 1, .ro, .live, 0x00000000, 0xFFFFFFFF, []⟩,
  ⟨"TWIN_SWITCHOVER_CNT", 0xB0040, 0, 1, 0, 1, .ro, .live, 0x00000000, 0xFFFFFFFF, []⟩,
  ⟨"TWIN_POD_FAULT_CNT", 0xB0044, 0, 1, 0, 1, .ro, .live, 0x00000000, 0xFFFFFFFF, []⟩,
  ⟨"TWIN_SYNC_LOST_CNT", 0xB0048, 0, 1, 0, 1, .ro, .live, 0x00000000, 0xFFFFFFFF, []⟩,
  ⟨"TWIN_COPY_RESEND_CNT", 0xB004C, 0, 1, 0, 1, .ro, .live, 0x00000000, 0xFFFFFFFF, []⟩,
  ⟨"TWIN_POD_CRC_ERR_CNT", 0xB0050, 0, 1, 0, 1, .ro, .live, 0x00000000, 0xFFFFFFFF, []⟩,
  ⟨"TWIN_STALE_CNT", 0xB0054, 0, 1, 0, 1, .ro, .live, 0x00000000, 0xFFFFFFFF, []⟩,
  ⟨"TWIN_KCMP_nn_DIFF", 0xB0100, 0x4, 32, 0, 1, .ro, .live, 0x00000000, 0xFFFFFFFF, []⟩]

/-- Register map rows of the TAG block. -/
def regsTag : List RegRow := [
  ⟨"TAG_ID", 0x70000, 0, 1, 0, 1, .ro, .live, 0x00070001, 0xFFFFFFFF, []⟩,
  ⟨"TAG_CTRL", 0x70004, 0, 1, 0, 1, .rw, .live, 0x00000007, 0x00000007, []⟩,
  ⟨"TAG_STATUS", 0x70008, 0, 1, 0, 1, .ro, .live, 0x00000000, 0x000001E7, []⟩,
  ⟨"TAG_EVENT", 0x7000C, 0, 1, 0, 1, .w1c, .live, 0x00000000, 0x0000001F, []⟩,
  ⟨"TAG_RDR_CFG", 0x70010, 0, 1, 0, 1, .rw, .idle, 0x04000320, 0x0F000FFF, [⟨27, 24, 1, 8, false⟩, ⟨11, 0, 400, 4000, false⟩]⟩,
  ⟨"TAG_RDR_PRESENT", 0x70014, 0, 1, 0, 1, .ro, .live, 0x00000000, 0xFFFFFFFF, []⟩,
  ⟨"TAG_RDR_POLL_CNT", 0x70018, 0, 1, 0, 1, .ro, .live, 0x00000000, 0xFFFFFFFF, []⟩,
  ⟨"TAG_RDR_CARD_CNT", 0x7001C, 0, 1, 0, 1, .ro, .live, 0x00000000, 0xFFFFFFFF, []⟩,
  ⟨"TAG_RDR_COLL_CNT", 0x70020, 0, 1, 0, 1, .ro, .live, 0x00000000, 0xFFFFFFFF, []⟩,
  ⟨"TAG_RDR_TIMEOUT_CNT", 0x70024, 0, 1, 0, 1, .ro, .live, 0x00000000, 0xFFFFFFFF, []⟩,
  ⟨"TAG_RDR_RANDOM_CNT", 0x70028, 0, 1, 0, 1, .ro, .live, 0x00000000, 0xFFFFFFFF, []⟩,
  ⟨"TAG_EMU_CFG", 0x70040, 0, 1, 0, 1, .rw, .idle, 0x00000804, 0x00000F0F, [⟨11, 8, 0, 8, false⟩, ⟨3, 0, 0, 8, false⟩]⟩,
  ⟨"TAG_EMU_UID", 0x70044, 0, 1, 0, 1, .ro, .live, 0x00000000, 0xFFFFFFFF, []⟩,
  ⟨"TAG_EMU_ACT_CNT", 0x70048, 0, 1, 0, 1, .ro, .live, 0x00000000, 0xFFFFFFFF, []⟩,
  ⟨"TAG_EMU_WTX_CNT", 0x7004C, 0, 1, 0, 1, .ro, .live, 0x00000000, 0xFFFFFFFF, []⟩,
  ⟨"TAG_FRAM_HOLD_STATUS", 0x70050, 0, 1, 0, 1, .ro, .live, 0x00000000, 0xFFFFFFFF, []⟩,
  ⟨"TAG_FRAM_CUT_CNT", 0x70054, 0, 1, 0, 1, .ro, .live, 0x00000000, 0xFFFFFFFF, []⟩,
  ⟨"TAG_KP_CFG", 0x70060, 0, 1, 0, 1, .rw, .idle, 0x00001E05, 0x1000FF0F, [⟨15, 8, 5, 120, false⟩, ⟨3, 0, 2, 8, false⟩]⟩,
  ⟨"TAG_KP_STATUS", 0x70064, 0, 1, 0, 1, .ro, .live, 0x00FF0000, 0x00FFFF03, []⟩,
  ⟨"TAG_KP_KEY_CNT", 0x70068, 0, 1, 0, 1, .ro, .live, 0x00000000, 0xFFFFFFFF, []⟩,
  ⟨"TAG_KP_GHOST_CNT", 0x7006C, 0, 1, 0, 1, .ro, .live, 0x00000000, 0xFFFFFFFF, []⟩,
  ⟨"TAG_KP_DROP_CNT", 0x70070, 0, 1, 0, 1, .ro, .live, 0x00000000, 0xFFFFFFFF, []⟩]

/-- Register map rows of the DISP block. -/
def regsDisp : List RegRow := [
  ⟨"DISP_ID", 0x60000, 0, 1, 0, 1, .ro, .live, 0x00060001, 0xFFFFFFFF, []⟩,
  ⟨"DISP_CTRL", 0x60004, 0, 1, 0, 1, .rw, .live, 0x00000000, 0x00000007, []⟩,
  ⟨"DISP_STATUS", 0x60008, 0, 1, 0, 1, .ro, .live, 0x00000000, 0x0000071F, []⟩,
  ⟨"DISP_EVENT", 0x6000C, 0, 1, 0, 1, .w1c, .live, 0x00000000, 0x00000007, []⟩,
  ⟨"DISP_CFG", 0x60010, 0, 1, 0, 1, .rw, .idle, 0x00000004, 0x0000010F, []⟩,
  ⟨"DISP_IREF", 0x60014, 0, 1, 0, 1, .rw, .framed, 0x000000A0, 0x000001FF, [⟨8, 0, 0, 256, false⟩]⟩,
  ⟨"DISP_TEMP_HOST", 0x60018, 0, 1, 0, 1, .rw, .live, 0x000000FA, 0x0000FFFF, []⟩,
  ⟨"DISP_TEMP", 0x6001C, 0, 1, 0, 1, .ro, .live, 0x00000000, 0xFFFFFFFF, []⟩,
  ⟨"DISP_FRAME_CNT", 0x60020, 0, 1, 0, 1, .ro, .live, 0x00000000, 0xFFFFFFFF, []⟩,
  ⟨"DISP_LINES_WRITTEN_CNT", 0x60024, 0, 1, 0, 1, .ro, .live, 0x00000000, 0xFFFFFFFF, []⟩,
  ⟨"DISP_SUPERSEDED_CNT", 0x60028, 0, 1, 0, 1, .ro, .live, 0x00000000, 0xFFFFFFFF, []⟩,
  ⟨"DISP_VP_FAULT_CNT", 0x6002C, 0, 1, 0, 1, .ro, .live, 0x00000000, 0xFFFFFFFF, []⟩,
  ⟨"DISP_VPANEL_MEAS", 0x60030, 0, 1, 0, 1, .ro, .live, 0x00000000, 0xFFFFFFFF, []⟩,
  ⟨"DISP_BAND_b_CFG", 0x60040, 0, 1, 0, 1, .rw, .framed, 0xECB40100, 0xFFFF01FF, [⟨23, 16, 80, 180, false⟩, ⟨8, 0, 64, 511, false⟩]⟩,
  ⟨"DISP_BAND_b_CFG", 0x60044, 0, 1, 0, 1, .rw, .framed, 0xFBA50100, 0xFFFF01FF, [⟨23, 16, 80, 180, false⟩, ⟨8, 0, 64, 511, false⟩]⟩,
  ⟨"DISP_BAND_b_CFG", 0x60048, 0, 1, 0, 1, .rw, .framed, 0x0A960100, 0xFFFF01FF, [⟨23, 16, 80, 180, false⟩, ⟨8, 0, 64, 511, false⟩]⟩,
  ⟨"DISP_BAND_b_CFG", 0x6004C, 0, 1, 0, 1, .rw, .framed, 0x19870100, 0xFFFF01FF, [⟨23, 16, 80, 180, false⟩, ⟨8, 0, 64, 511, false⟩]⟩,
  ⟨"DISP_BAND_b_CFG", 0x60050, 0, 1, 0, 1, .rw, .framed, 0x28780100, 0xFFFF01FF, [⟨23, 16, 80, 180, false⟩, ⟨8, 0, 64, 511, false⟩]⟩,
  ⟨"DISP_BAND_b_CFG", 0x60054, 0, 1, 0, 1, .rw, .framed, 0x376E0100, 0xFFFF01FF, [⟨23, 16, 80, 180, false⟩, ⟨8, 0, 64, 511, false⟩]⟩,
  ⟨"DISP_BAND_b_CFG", 0x60058, 0, 1, 0, 1, .rw, .framed, 0x46640100, 0xFFFF01FF, [⟨23, 16, 80, 180, false⟩, ⟨8, 0, 64, 511, false⟩]⟩,
  ⟨"DISP_BAND_b_CFG", 0x6005C, 0, 1, 0, 1, .rw, .framed, 0x7F5A0100, 0xFFFF01FF, [⟨23, 16, 80, 180, false⟩, ⟨8, 0, 64, 511, false⟩]⟩,
  ⟨"DISP_REGION_r_CFG", 0x60080, 0x4, 8, 0, 1, .rw, .idle, 0x00000000, 0xFF7F3F3F, []⟩,
  ⟨"DISP_REGION_r_STATUS", 0x600A0, 0x4, 8, 0, 1, .ro, .live, 0x00000000, 0xFFFFFFFF, []⟩,
  ⟨"DISP_AGE_k", 0x60100, 0x4, 16, 0, 1, .rw, .framed, 0x00000000, 0xFFFF03FF, []⟩]

/-- Register map rows of the KEY block. -/
def regsKey : List RegRow := [
  ⟨"KEY_ID", 0x40000, 0, 1, 0, 1, .ro, .live, 0x00040001, 0xFFFFFFFF, []⟩,
  ⟨"KEY_STATUS", 0x40004, 0, 1, 0, 1, .ro, .live, 0x00000000, 0xFFFFFFFF, []⟩,
  ⟨"KEY_EVENT", 0x40008, 0, 1, 0, 1, .w1c, .live, 0x00000000, 0x0000000F, []⟩,
  ⟨"KEY_TAMPER_ARMED", 0x4000C, 0, 1, 0, 1, .ro, .live, 0x00000000, 0xFFFFFFFF, []⟩,
  ⟨"KEY_TAMPER_STATUS", 0x40010, 0, 1, 0, 1, .ro, .live, 0x00000000, 0x000000DF, []⟩,
  ⟨"KEY_TAMPER_TIME", 0x40014, 0, 1, 0, 1, .ro, .live, 0x00000000, 0xFFFFFFFF, []⟩,
  ⟨"KEY_SECC_SLOT", 0x40018, 0, 1, 0, 1, .rw, .framed, 0x00000201, 0x00003F3F, []⟩,
  ⟨"KEY_HOST_LO", 0x4001C, 0, 1, 0, 1, .rw, .framed, 0x00000000, 0xFFFFFFFF, []⟩,
  ⟨"KEY_HOST_HI", 0x40020, 0, 1, 0, 1, .rw, .framed, 0x00000000, 0xFFFFFFFF, []⟩,
  ⟨"KEY_KEK_GEN", 0x40024, 0, 1, 0, 1, .ro, .live, 0x00000000, 0xFFFFFFFF, []⟩,
  ⟨"KEY_LOAD_CNT", 0x40028, 0, 1, 0, 1, .ro, .live, 0x00000000, 0xFFFFFFFF, []⟩,
  ⟨"KEY_USE_DENIED_CNT", 0x4002C, 0, 1, 0, 1, .ro, .live, 0x00000000, 0xFFFFFFFF, []⟩,
  ⟨"KEY_BLOB_FAIL_CNT", 0x40030, 0, 1, 0, 1, .ro, .live, 0x00000000, 0xFFFFFFFF, []⟩,
  ⟨"KEY_SLOT_nn_INFO", 0x40100, 0x10, 64, 0, 1, .ro, .live, 0x00000000, 0x00000FFF, []⟩,
  ⟨"KEY_SLOT_nn_LABEL", 0x40104, 0x10, 64, 0, 1, .ro, .live, 0x00000000, 0xFFFFFFFF, []⟩,
  ⟨"KEY_SLOT_nn_VERSION", 0x40108, 0x10, 64, 0, 1, .ro, .live, 0x00000000, 0xFFFFFFFF, []⟩,
  ⟨"KEY_SLOT_nn_USE_CNT", 0x4010C, 0x10, 64, 0, 1, .ro, .live, 0x00000000, 0xFFFFFFFF, []⟩]

/-- Register map rows of the FWU block. -/
def regsFwu : List RegRow := [
  ⟨"FWU_ID", 0x50000, 0, 1, 0, 1, .ro, .live, 0x00050001, 0xFFFFFFFF, []⟩,
  ⟨"FWU_CFG", 0x50004, 0, 1, 0, 1, .rw, .idle, 0x00249F00, 0x00FFFFFF, []⟩,
  ⟨"FWU_STATUS", 0x50008, 0, 1, 0, 1, .ro, .live, 0x00000000, 0x0000003B, []⟩,
  ⟨"FWU_EVENT", 0x5000C, 0, 1, 0, 1, .w1c, .live, 0x00000000, 0x00000007, []⟩,
  ⟨"FWU_BOOT_STATUS", 0x50010, 0, 1, 0, 1, .ro, .live, 0x00000000, 0x000FFFF1, []⟩,
  ⟨"FWU_BANK_A_VERSION", 0x50014, 0, 1, 0, 1, .ro, .live, 0x00000000, 0xFFFFFFFF, []⟩,
  ⟨"FWU_BANK_B_VERSION", 0x50018, 0, 1, 0, 1, .ro, .live, 0x00000000, 0xFFFFFFFF, []⟩,
  ⟨"FWU_LOADED", 0x5001C, 0, 1, 0, 1, .ro, .live, 0x00000000, 0xFFFFFFFF, []⟩,
  ⟨"FWU_ROLLBACK", 0x50020, 0, 1, 0, 1, .ro, .live, 0x00000000, 0xFFFFFFFF, []⟩,
  ⟨"FWU_LAST_PAUSE", 0x50024, 0, 1, 0, 1, .ro, .live, 0x00000000, 0xFFFFFFFF, []⟩,
  ⟨"FWU_SAFETY_VERSION", 0x50028, 0, 1, 0, 1, .ro, .live, 0x00000000, 0xFFFFFFFF, []⟩,
  ⟨"FWU_ACTIVATE_CNT", 0x5002C, 0, 1, 0, 1, .ro, .live, 0x00000000, 0xFFFFFFFF, []⟩,
  ⟨"FWU_FALLBACK_CNT", 0x50030, 0, 1, 0, 1, .ro, .live, 0x00000000, 0xFFFFFFFF, []⟩]

/-- Register map rows of the MEM block. -/
def regsMem : List RegRow := [
  ⟨"MEM_ID", 0x30000, 0, 1, 0, 1, .ro, .live, 0x00030001, 0xFFFFFFFF, []⟩,
  ⟨"MEM_CTRL", 0x30004, 0, 1, 0, 1, .rw, .live, 0x00000003, 0x00000003, []⟩,
  ⟨"MEM_STATUS", 0x30008, 0, 1, 0, 1, .ro, .live, 0x00000000, 0x00000003, []⟩,
  ⟨"MEM_EVENT", 0x3000C, 0, 1, 0, 1, .w1c, .live, 0x00000000, 0x0000000F, []⟩,
  ⟨"MEM_LBIST_CFG", 0x30010, 0, 1, 0, 1, .rw, .framed, 0x000003E8, 0x0000FFFF, [⟨15, 0, 400, 40000, false⟩]⟩,
  ⟨"MEM_MBIST_CFG", 0x30014, 0, 1, 0, 1, .rw, .framed, 0x0000000A, 0x000000FF, [⟨7, 0, 1, 255, false⟩]⟩,
  ⟨"MEM_FLASH_CFG", 0x30018, 0, 1, 0, 1, .rw, .framed, 0x00000018, 0x0000003F, [⟨5, 0, 8, 40, false⟩]⟩,
  ⟨"MEM_LBIST_POS", 0x3001C, 0, 1, 0, 1, .ro, .live, 0x00000000, 0xFFFFFFFF, []⟩,
  ⟨"MEM_LBIST_FAIL", 0x30020, 0, 1, 0, 1, .ro, .live, 0x00000000, 0xFFFFFFFF, []⟩,
  ⟨"MEM_LBIST_SIG", 0x30024, 0, 1, 0, 1, .ro, .live, 0x00000000, 0xFFFFFFFF, []⟩,
  ⟨"MEM_LBIST_FAIL_CNT", 0x30028, 0, 1, 0, 1, .ro, .live, 0x00000000, 0xFFFFFFFF, []⟩,
  ⟨"MEM_LBIST_DEFER_CNT", 0x3002C, 0, 1, 0, 1, .ro, .live, 0x00000000, 0xFFFFFFFF, []⟩,
  ⟨"MEM_LBIST_CYCLE_CNT", 0x30030, 0, 1, 0, 1, .ro, .live, 0x00000000, 0xFFFFFFFF, []⟩,
  ⟨"MEM_MBIST_POS", 0x30034, 0, 1, 0, 1, .ro, .live, 0x00000000, 0xFFFFFFFF, []⟩,
  ⟨"MEM_MBIST_FAIL_ADDR", 0x30038, 0, 1, 0, 1, .ro, .live, 0x00000000, 0xFFFFFFFF, []⟩,
  ⟨"MEM_MBIST_FAIL_BIT", 0x3003C, 0, 1, 0, 1, .ro, .live, 0x00000000, 0xFFFFFFFF, []⟩,
  ⟨"MEM_MBIST_FAIL_CNT", 0x30040, 0, 1, 0, 1, .ro, .live, 0x00000000, 0xFFFFFFFF, []⟩,
  ⟨"MEM_REPAIR_USED", 0x30044, 0, 1, 0, 1, .ro, .live, 0x00000000, 0xFFFFFFFF, []⟩,
  ⟨"MEM_CORE_UE_RESET_CNT", 0x30048, 0, 1, 0, 1, .ro, .live, 0x00000000, 0xFFFFFFFF, []⟩,
  ⟨"MEM_FLASH_REFRESH_CNT", 0x3004C, 0, 1, 0, 1, .ro, .live, 0x00000000, 0xFFFFFFFF, []⟩,
  ⟨"MEM_FLASH_UE_CNT", 0x30050, 0, 1, 0, 1, .ro, .live, 0x00000000, 0xFFFFFFFF, []⟩,
  ⟨"MEM_FLASH_LAST_UE_BLOCK", 0x30054, 0, 1, 0, 1, .ro, .live, 0x00000000, 0xFFFFFFFF, []⟩,
  ⟨"MEM_RAMm_CE_CNT", 0x30100, 0x20, 3, 0, 1, .ro, .live, 0x00000000, 0xFFFFFFFF, []⟩,
  ⟨"MEM_RAMm_UE_CNT", 0x30104, 0x20, 3, 0, 1, .ro, .live, 0x00000000, 0xFFFFFFFF, []⟩,
  ⟨"MEM_RAMm_LAST_CE_ADDR", 0x30108, 0x20, 3, 0, 1, .ro, .live, 0x00000000, 0xFFFFFFFF, []⟩,
  ⟨"MEM_RAMm_LAST_UE_ADDR", 0x3010C, 0x20, 3, 0, 1, .ro, .live, 0x00000000, 0xFFFFFFFF, []⟩,
  ⟨"MEM_RAMm_SPARES", 0x30110, 0x20, 3, 0, 1, .ro, .live, 0x00000000, 0xFFFFFFFF, []⟩]

/-- Register map rows of the SYS block. -/
def regsSys : List RegRow := [
  ⟨"SYS_ID", 0x00000, 0, 1, 0, 1, .ro, .live, 0x00000001, 0xFFFFFFFF, []⟩,
  ⟨"SYS_MODE", 0x00004, 0, 1, 0, 1, .ro, .live, 0x00000000, 0xFFFFFFFF, []⟩,
  ⟨"SYS_DEGRADE_CAUSE", 0x00008, 0, 1, 0, 1, .ro, .live, 0x00000000, 0x000007FF, []⟩,
  ⟨"SYS_EVENT", 0x0000C, 0, 1, 0, 1, .w1c, .live, 0x00000000, 0x0000003F, []⟩,
  ⟨"SYS_RESET_CAUSE", 0x00010, 0, 1, 0, 1, .ro, .live, 0x00000000, 0x0000000F, []⟩,
  ⟨"SYS_STRAPS", 0x00014, 0, 1, 0, 1, .ro, .live, 0x00000000, 0xFFFFFFFF, []⟩,
  ⟨"SYS_POWER_STATUS", 0x00018, 0, 1, 0, 1, .ro, .live, 0x00000000, 0x0000007F, []⟩,
  ⟨"SYS_FEED_CFG", 0x0001C, 0, 1, 0, 1, .rw, .framed, 0x00000003, 0x00000003, []⟩,
  ⟨"SYS_FEED_A", 0x00020, 0, 1, 0, 1, .ro, .live, 0x00000000, 0xFFFFFFFF, []⟩,
  ⟨"SYS_FEED_B", 0x00024, 0, 1, 0, 1, .ro, .live, 0x00000000, 0xFFFFFFFF, []⟩,
  ⟨"SYS_VBAT", 0x00028, 0, 1, 0, 1, .ro, .live, 0x00000000, 0xFFFFFFFF, []⟩,
  ⟨"SYS_TEMP", 0x0002C, 0, 1, 0, 1, .ro, .live, 0x00000000, 0xFFFFFFFF, []⟩,
  ⟨"SYS_CLK_STATUS", 0x00030, 0, 1, 0, 1, .ro, .live, 0x00000000, 0xF07F3FFF, []⟩,
  ⟨"SYS_CLK_SEL", 0x00034, 0, 1, 0, 1, .rw, .idle, 0x00000000, 0x00003FFF, []⟩,
  ⟨"SYS_WDT_CFG", 0x00038, 0, 1, 0, 1, .rw, .idle, 0x00000028, 0x00000FFF, [⟨11, 0, 4, 4000, false⟩]⟩,
  ⟨"SYS_BOOT_PIPS", 0x0003C, 0, 1, 0, 1, .ro, .live, 0x00000000, 0xFFFFFFFF, []⟩,
  ⟨"SYS_LOG_HEAD", 0x00040, 0, 1, 0, 1, .ro, .live, 0x00000000, 0xFFFFFFFF, []⟩,
  ⟨"SYS_PFAIL_CNT", 0x00044, 0, 1, 0, 1, .ro, .live, 0x00000000, 0xFFFFFFFF, []⟩,
  ⟨"SYS_FEED_LOSS_CNT", 0x00048, 0, 1, 0, 1, .ro, .live, 0x00000000, 0xFFFFFFFF, []⟩,
  ⟨"SYS_WDT_RESET_CNT", 0x0004C, 0, 1, 0, 1, .ro, .live, 0x00000000, 0xFFFFFFFF, []⟩,
  ⟨"SYS_CMD_RESET_CNT", 0x00050, 0, 1, 0, 1, .ro, .live, 0x00000000, 0xFFFFFFFF, []⟩,
  ⟨"SYS_COAST_CNT", 0x00054, 0, 1, 0, 1, .ro, .live, 0x00000000, 0xFFFFFFFF, []⟩,
  ⟨"SYS_MUX_HANG_CNT", 0x00058, 0, 1, 0, 1, .ro, .live, 0x00000000, 0xFFFFFFFF, []⟩]

/-- The rows of the block whose span holds `a`, by R598. -/
def regRowsAt (a : Nat) : List RegRow :=
  match a / 0x10000 with
  | 1 => regsFab
  | 2 => regsTime
  | 16 => regsOut0 ++ regsOut1
  | 48 => regsBill
  | 13 => regsHusk
  | 12 => regsMesh
  | 10 => regsGuard
  | 9 => regsSafe
  | 8 => regsLsw
  | 11 => regsTwin
  | 7 => regsTag
  | 6 => regsDisp
  | 4 => regsKey
  | 5 => regsFwu
  | 3 => regsMem
  | 0 => regsSys
  | _ => []

end Sys2Proof.Machine
end

