-- ==== Sys2Proof/Machine/Ops.lean ====
section
/-!
DEFINITION. The named operations over the device's registers, event log and command answers, which every block's meanings are written in.
Registers are held as their difference from the Reset column, so that a register nothing has written has no entry.
-/
namespace Sys2Proof.Machine

/-! ### Registers -/

/-- Whether a map row has an instance at address `a`. -/
def RegRow.hits (r : RegRow) (a : Nat) : Bool :=
  if a < r.base then false
  else
    let d := a - r.base
    if r.stride = 0 then d = 0
    else if r.stride2 = 0 then d % r.stride = 0 && d / r.stride < r.count
    else d / r.stride < r.count && d % r.stride % r.stride2 = 0 && d % r.stride / r.stride2 < r.count2

/-- The row of the register at `a`, if one is defined there. -/
def regAt (a : Nat) : Option RegRow := (regRowsAt a).find? (·.hits a)

/-- The Reset column of the register at `a`. -/
def resetOf (a : Nat) : Word :=
  match regAt a with
  | some r => r.reset
  | none => 0

/-- Whether a field's value lies in its stated range. -/
def FieldRange.ok (r : FieldRange) (v : Word) : Bool :=
  let x : Int := if r.signed then wsfld v r.hi r.lo else (wfld v r.hi r.lo : Nat)
  decide (r.min ≤ x) && decide (x ≤ r.max)

/-- Whether every field of a value lies in its stated range. -/
def RegRow.inRange (r : RegRow) (v : Word) : Bool := r.ranges.all (·.ok v)

/-- The live value of the register at `a`. -/
def Dev.rd (d : Dev) (a : Nat) : Word := tget 0 d.regs a ^^^ resetOf a

/-- Set the live value of the register at `a`. -/
def Dev.wr (d : Dev) (a : Nat) (v : Word) : Dev := { d with regs := tset 0 d.regs a (v ^^^ resetOf a) }

/-- The live value as a number. -/
def Dev.rn (d : Dev) (a : Nat) : Nat := (d.rd a).toNat

/-- Set a register to a number, modulo 2^32. -/
def Dev.wn (d : Dev) (a n : Nat) : Dev := d.wr a (word n)

/-- Set a register to a signed number. -/
def Dev.wi (d : Dev) (a : Nat) (i : Int) : Dev := d.wr a (word (ofSigned 32 i))

/-- The field `[hi:lo]` of a register. -/
def Dev.fld (d : Dev) (a hi lo : Nat) : Nat := wfld (d.rd a) hi lo

/-- The signed field `[hi:lo]` of a register. -/
def Dev.sfld (d : Dev) (a hi lo : Nat) : Int := wsfld (d.rd a) hi lo

/-- Bit `i` of a register. -/
def Dev.rbit (d : Dev) (a i : Nat) : Bool := wbit (d.rd a) i

/-- Set the field `[hi:lo]` of a register. -/
def Dev.setFld (d : Dev) (a hi lo v : Nat) : Dev := d.wr a (wput (d.rd a) hi lo v)

/-- Set bit `i` of a register. -/
def Dev.setBit (d : Dev) (a i : Nat) (b : Bool) : Dev := d.wr a (if b then d.rd a ||| (1#32 <<< i) else d.rd a &&& ~~~(1#32 <<< i))

/-- Add 1 to a counter, which wraps from 0xFFFF_FFFF to 0. -/
def Dev.inc (d : Dev) (a : Nat) : Dev := d.wr a (d.rd a + 1)

/-- Add `n` to a counter. -/
def Dev.incBy (d : Dev) (a n : Nat) : Dev := d.wr a (d.rd a + word n)

/-- Set sticky bits of an EVENT register. -/
def Dev.raise (d : Dev) (a mask : Nat) : Dev := d.wr a (d.rd a ||| word mask)

/-- The bytes of the registers at the given addresses, least significant byte first. -/
def Dev.regBytes (d : Dev) (l : List Nat) : Bytes := l.flatMap fun a => leN (d.rn a) 4

/-- The shadow of a Framed register (R10, R69): the live value where no write has changed it. -/
def Dev.shadowAt (d : Dev) (a : Nat) : Word := tget 0 d.shadow a ^^^ d.rd a

/-- Set the shadow of a Framed register. -/
def Dev.setShadow (d : Dev) (a : Nat) (v : Word) : Dev := { d with shadow := tset 0 d.shadow a (v ^^^ d.rd a) }

/-- Take `n` free values: later draws differ. -/
def Dev.draw (d : Dev) (n : Nat) : Dev := { d with fresh := d.fresh + n }

/-- The value that a Live register is to take: its last pending value, or the one it has. -/
def Dev.pended (d : Dev) (a : Nat) : Word :=
  d.live.foldl (fun (v : Word) (p : LivePend) => match p with | .set b x _ => if b = a then x else v | .clear _ _ => v)
    (d.twin.held.foldl (fun (v : Word) e => if e.1 = a then e.2 else v) (d.rd a))

/-- The value that a write of a Live register builds on (R605): the one that a REG_WRITE or REG_MODIFY of this pip has left pending, or the live value. -/
def Dev.hostPended (d : Dev) (a : Nat) : Word :=
  d.live.foldl (fun (v : Word) (p : LivePend) => match p with | .set b x host => if b = a && host then x else v | .clear _ _ => v) (d.rd a)

/-- Leave a value pending for a Live register; of several in one pip the last is in effect from the next boundary (R35, R85). -/
def Dev.pendAs (d : Dev) (a : Nat) (v : Word) (host : Bool) : Dev :=
  { d with live := (d.live.filter fun (p : LivePend) => match p with | .set b _ _ => b ≠ a | .clear _ _ => true) ++ [.set a v host] }

/-- A REG_WRITE or REG_MODIFY leaves a value pending for a Live register. -/
def Dev.pendSet (d : Dev) (a : Nat) (v : Word) : Dev := d.pendAs a v true

/-- What waits for the next boundary for the Live registers that `f` selects is dropped: a later command of the same pip has written them at once (R85). -/
def Dev.dropPend (d : Dev) (f : Nat → Bool) : Dev :=
  { d with live := d.live.filter fun (p : LivePend) => match p with | .set b _ _ => !f b | .clear _ _ => true }

/-! ### Mode, degrade causes and the event log -/

/-- The module mode (SYS_MODE, R16). -/
def Dev.mode (d : Dev) : Mode :=
  match d.fld Reg.SYS_MODE 2 0 with
  | 0 => .boot
  | 1 => .sprout
  | 2 => .maintenance
  | 3 => .service
  | _ => .degraded

/-- The code of a mode in SYS_MODE. -/
def Mode.code : Mode → Nat
  | .boot => 0
  | .sprout => 1
  | .maintenance => 2
  | .service => 3
  | .degraded => 4

/-- Enter a mode. -/
def Dev.setMode (d : Dev) (m : Mode) : Dev := d.wn Reg.SYS_MODE m.code

/-- A degrade cause appears (R16, R19, R20). -/
def Dev.degrade (d : Dev) (cause : Nat) : Dev :=
  let d := d.setBit Reg.SYS_DEGRADE_CAUSE cause true
  if d.mode = .service then d.setMode .degraded else d

/-- A degrade cause clears; with the last one DEGRADED returns to SERVICE (R16). -/
def Dev.undegrade (d : Dev) (cause : Nat) : Dev :=
  let d := d.setBit Reg.SYS_DEGRADE_CAUSE cause false
  if d.mode = .degraded && d.rn Reg.SYS_DEGRADE_CAUSE = 0 then d.setMode .service else d

/-- The capacity of the Shell event log in records. -/
def logCapacity : Nat := 262144

/-- Write a record to the Shell event log (R555). -/
def Dev.log (d : Dev) (source kind : Nat) (data : Bytes) : Dev :=
  let seq := d.rn Reg.SYS_LOG_HEAD + 1
  let r : LogRec := { seq := seq, pip := d.pip, source := source, kind := kind, data := padTo 20 data }
  { d with sys := { d.sys with log := (r :: d.sys.log).take logCapacity } }.wn Reg.SYS_LOG_HEAD seq

/-- The 32 bytes of a log record (R555). -/
def LogRec.bytes (r : LogRec) : Bytes := leN r.seq 4 ++ leN r.pip 6 ++ [byte r.source, byte r.kind] ++ padTo 20 r.data

/-! ### Which parts run -/

/-- Whether a clock domain has its clock (R551). -/
def Dev.domainRuns (d : Dev) (i : Nat) : Bool := !d.rbit Reg.SYS_CLK_STATUS (16 + i)

/-- Whether the Shell's tasks run: in no reset, out of BOOT and SPROUT, CORE not hung. -/
def Dev.shellRuns (d : Dev) : Bool := !d.sys.inReset && d.mode != .boot && d.mode != .sprout && d.domainRuns 0

/-- Whether the Ethernet ports work: ETH not hung, and no PLL_COAST, in which they are stopped (R549, R551). -/
def Dev.ethRuns (d : Dev) : Bool := d.domainRuns 3 && !d.rbit Reg.SYS_CLK_STATUS 28

/-- Whether the PTP task works (R97, R551). -/
def Dev.ptpRuns (d : Dev) : Bool := d.shellRuns && d.domainRuns 3 && d.domainRuns 4

/-- Whether the safety core pair runs: not halted or held in reset, SAFE not hung (R333, R552). -/
def Dev.safetyRuns (d : Dev) : Bool := !d.sys.safetyHalt && !d.sys.inReset && d.domainRuns 1

/-- The twin state (TWIN_STATUS.state). -/
def Dev.twinState (d : Dev) : Nat := d.fld Reg.TWIN_STATUS 2 0

/-- Whether the module does not act for the twin: SEARCH, SYNCING or STANDBY. -/
def Dev.passive (d : Dev) : Bool := d.twinState = 1 || d.twinState = 2 || d.twinState = 3

/-! ### Commands -/

/-- What a unit answers to a command it starts: a final reply at once, or none yet. -/
inductive Ans where
  | done (status : Nat) (payload : Bytes)
  | running
  deriving DecidableEq, Repr

/-- Run the checks in order: the first that holds completes the command with its status, with nothing done (R606). -/
def check (d : Dev) (l : List (Bool × Nat)) (k : Dev × Ans) : Dev × Ans :=
  match l.find? (·.1) with
  | some (_, st) => (d, .done st [])
  | none => k

/-- A unit produces the final reply of command `id`. -/
def Dev.finish (d : Dev) (id st : Nat) (pl : Bytes) : Dev := { d with outbox := d.outbox ++ [{ id := id, status := st, payload := pl, pip := d.pip }] }

/-- Whether an optional due pip has come. -/
def due (t : Option Nat) (pip : Nat) : Bool := t.any (· ≤ pip)

/-- An opcode: its number, its Class column, whether it is immediate (R45), the source index of its final reply (R72) as a function of its payload, and what it does when it starts (none: it acts on the fabric itself). -/
structure OpSpec where
  opcode : Nat
  classes : List Nat
  immediate : Bool
  source : Bytes → Nat
  run : Option (Dev → Cmd → Dev × Ans)

/-- Records of a log or ring held newest first, from a first sequence, up to a count (R608). -/
def logRead (d : Dev) (head : Nat) (oldest first count : Nat) (gone : Nat) (bytesOf : Nat → Bytes) : Dev × Ans :=
  if first = 0 then (d, .done St.badParam [])
  else if first < oldest then (d, .done gone (leN oldest 4))
  else (d, .done St.ok (((List.range count).filter (fun k => first + k ≤ head)).flatMap (fun k => bytesOf (first + k))))

/-! ### Outlet accessors -/

/-- What stands behind OUT_n. -/
def Dev.o (d : Dev) (n : Nat) : Outlet := tget Outlet.reset d.out.outs n

/-- Change what stands behind OUT_n. -/
def Dev.setO (d : Dev) (n : Nat) (f : Outlet → Outlet) : Dev := { d with out := { d.out with outs := tset Outlet.reset d.out.outs n (f (d.o n)) } }

/-- The code of an outlet state in OUT_nn_STATE. -/
def OState.code : OState → Nat
  | .idle => 0
  | .plugged => 1
  | .linking => 2
  | .negotiating => 3
  | .authorising => 4
  | .cableCheck => 5
  | .precharge => 6
  | .energy => 7
  | .rampdown => 8
  | .weldCheck => 9
  | .unplugged => 10
  | .fault => 11

/-- The state of OUT_n. -/
def Dev.ost (d : Dev) (n : Nat) : OState :=
  match d.fld (Reg.OUT_STATE n) 3 0 with
  | 0 => .idle
  | 1 => .plugged
  | 2 => .linking
  | 3 => .negotiating
  | 4 => .authorising
  | 5 => .cableCheck
  | 6 => .precharge
  | 7 => .energy
  | 8 => .rampdown
  | 9 => .weldCheck
  | 10 => .unplugged
  | _ => .fault

/-- The session id of OUT_n (R127). -/
def Dev.sessionId (d : Dev) (n : Nat) : Nat := d.rn (Reg.OUT_SESSION_ID_LO n) + 2 ^ 32 * d.rn (Reg.OUT_SESSION_ID_HI n)

/-! ### The banks of Shell firmware (R492) -/

/-- Bank B (true) or A. -/
def Dev.bank (d : Dev) (b : Bool) : Option FwuBank := if b then d.fwu.bankB else d.fwu.bankA

/-- The bank running. -/
def Dev.bankRuns (d : Dev) : Bool := d.rbit Reg.FWU_STATUS 3

/-- What FWU_BANK_x_VERSION reads: 0 for a bank that is not valid. -/
def Dev.bankVersion (d : Dev) (b : Bool) : Nat := ((d.bank b).map (·.version)).getD 0

end Sys2Proof.Machine
end

