-- ==== Sys2Proof/Machine/Husk.lean ====
section
/-!
DEFINITION. Vehicle links and the Husk engine (08_vehicle_links_husk.md): contexts and slices, acceptance and delivery, 10BASE-T1S ports, and the 0x05xx opcodes.
-/
namespace Sys2Proof.Machine

/-- The type of OUT_n. -/
def Dev.outType (d : Dev) (n : Nat) : Nat := d.fld (Reg.OUT_CFG n) 2 0

/-- A lane of the Husk. -/
def Dev.lane (d : Dev) (n : Nat) : HLane := tget HLane.reset d.husk.lanes n

/-- Change a lane of the Husk. -/
def Dev.setLane (d : Dev) (n : Nat) (f : HLane → HLane) : Dev := { d with husk := { d.husk with lanes := tset HLane.reset d.husk.lanes n (f (d.lane n)) } }

/-- Whether a lane carries traffic (R256). -/
def Dev.laneActive (d : Dev) (n : Nat) : Bool :=
  d.rbit (Reg.LANE_CFG n) 0 && !(d.lane n).down && !d.husk.resetting && (n = 32 || d.outType n = 1 || d.outType n = 2)

/-- Contexts encoding. -/
def Husk.txBusy (h : Husk) : Nat := (h.ctxs.filter fun c => !c.rx).length

/-- Set the contexts: HUSK_STATUS and rx_busy of the lane concerned follow. -/
def Dev.setCtxs (d : Dev) (lane : Nat) (l : List HCtx) : Dev :=
  let d := { d with husk := { d.husk with ctxs := l, full := d.husk.full || decide (8 ≤ l.length) } }
  (d.wn Reg.HUSK_STATUS (d.husk.txBusy * 256 + l.length)).setBit (Reg.LANE_STATUS lane) 3 (l.any fun c => c.rx && c.lane = lane)

/-- Reserve a context for a lane: a receive frame, or a frame to send. -/
def Dev.reserve (d : Dev) (lane : Nat) (rx : Bool) (msg : Option LaneMsg) : Dev :=
  let c : HCtx := { lane := lane, rx := rx, acc := d.pip, seq := d.husk.nextSeq, lastSym := false, sack := false, late := false, served := 0, msg := msg }
  { d with husk := { d.husk with nextSeq := d.husk.nextSeq + 1 } }.setCtxs lane (d.husk.ctxs ++ [c])

/-- The bytes a receive frame reserves, and the size of a receive ring (R262). -/
def rxReserve : Nat := 1536

def rxRing : Nat := 16384

/-- The contexts the Husk may use: 8, or 2 while PLL_COAST is present (R260, R549). -/
def Dev.ctxMax (d : Dev) : Nat := if d.rbit Reg.SYS_CLK_STATUS 28 then 2 else 8

/-! ### Sending (R256, R260) -/

/-- Whether a transmit frame may take a context: one is free, and fewer than tx_max encode (R260). -/
def Dev.txRoom (d : Dev) : Bool := !d.husk.resetting && d.husk.ctxs.length < d.ctxMax && d.husk.txBusy < d.fld Reg.HUSK_CTX_CFG 2 0

/-- The transmit requests that wait take contexts in request order as far as there is room; the others go on waiting. -/
def Dev.txPump (d : Dev) : Dev :=
  d.husk.txq.foldl (fun (d : Dev) r =>
    if d.txRoom && !(d.lane r.1).down then ({ d with husk := { d.husk with txq := d.husk.txq.erase r } } : Dev).reserve r.1 false (some r.2) else d) d

/-- A lane is asked to send a frame. An idle lane's transmitter is high-impedance (R256), and so are those of a module that does not act for its twin (R406): nothing is sent there. -/
def Dev.laneSend (d : Dev) (n : Nat) (msg : LaneMsg) : Dev :=
  if d.laneActive n && !d.passive then ({ d with husk := { d.husk with txq := d.husk.txq ++ [(n, msg)] } } : Dev).txPump else d

/-- A context's frame has been encoded and sent (R260): the lane's count, the context free again for the next request. One that is to be sent again on a pilot lane (R259) keeps its context and is counted in LANE_nn_TX_RETRY. -/
def Dev.laneSent (d : Dev) (c : HCtx) (again : Bool) : Dev :=
  if again && c.lane < 32 && d.laneActive c.lane && !d.passive then d.inc (Reg.LANE_TX_RETRY c.lane)
  else
  let d := d.setCtxs c.lane (d.husk.ctxs.filter fun x => x.seq ≠ c.seq)
  let d := if d.laneActive c.lane && !d.passive then
      let d := (d.inc (Reg.LANE_TX_FRAMES c.lane)).setLane c.lane fun l => { l with sent := c.msg }
      match c.msg with
      | some (.test _) => { d with husk := { d.husk with tests := d.husk.tests.map fun (t : TxTest) => if t.lane = c.lane then { t with sent := t.sent + 1 } else t } }
      | _ => d
    else d
  d.txPump

/-! ### Receiving (R259, R262 to R267) -/

/-- The station address of a lane as a number, its first byte highest. -/
def Dev.laneMac (d : Dev) (n : Nat) : Nat := d.fld (Reg.LANE_MAC_HI n) 15 0 * 2 ^ 32 + d.rn (Reg.LANE_MAC_LO n)

/-- The NID and NMK of a lane, once the Shell has loaded them. -/
def Dev.laneNid (d : Dev) (n : Nat) : Bytes := if (d.lane n).net then Config.laneNid n else []

def Dev.laneNmk (d : Dev) (n : Nat) : Bytes := if (d.lane n).net then Config.laneNmk n else []

/-- Whether a short network identifier is the lane's or the unassociated value (R262). -/
def Dev.sniOk (d : Dev) (n sni : Nat) : Bool := ((d.lane n).net && sni = Config.laneSni n) || sni = Config.unassociated

/-- Whether a frame's destination is the lane station or broadcast (R262). -/
def Dev.destOk (d : Dev) (n dest : Nat) : Bool := dest = d.laneMac n || dest = 2 ^ 48 - 1

/-- The bytes by which a delivered frame advances its ring's write index (DESIGN CHOICE, log entry 81): what it reserved. -/
def ringNext (wr : Nat) : Nat := (wr + rxReserve) % rxRing

/-- Whether R259 supports a frame: a ROBO mode, at most 1,200 µs, and on a pilot lane one PHY block of 136 or 520 octets; R262 names no fate of a frame that has other blocks, which is filtered (DESIGN CHOICE, log entry 81). -/
def fcSupported (f : FcIn) : Bool := f.mode ≠ 3 && f.us ≤ 1200 && (f.lane.val = 32 || (f.blocks = 1 && (f.octets = 136 || f.octets = 520)))

/-- FC_DECODE (R262): filter, accept or drop. -/
def Dev.fcDecode (d : Dev) (f : FcIn) : Dev :=
  let n := f.lane.val
  if !d.laneActive n then d
  else
    let d := d.inc (Reg.LANE_FC_DETECT n)
    if !fcSupported f || !d.destOk n f.dest || !d.sniOk n f.sni then d.inc (Reg.LANE_FILTERED n)
    else if d.ctxMax ≤ d.husk.ctxs.length then (d.inc (Reg.LANE_DROP_NO_CONTEXT n)).raise (Reg.LANE_EVENT n) 1
    else if rxRing < (d.lane n).ring + rxReserve then (d.inc (Reg.LANE_DROP_NO_BUFFER n)).raise (Reg.LANE_EVENT n) 2
    else
      let d := ((d.inc (Reg.LANE_ACCEPTED n)).setFld (Reg.LANE_STATUS n) 1 0 f.mode.val).setLane n fun l => { l with ring := l.ring + rxReserve }
      d.reserve n true none

/-- The oldest receive context of a lane. -/
def Husk.oldestRx (h : Husk) (n : Nat) : Option HCtx := h.ctxs.find? fun c => c.rx && c.lane = n

/-- The blanking threshold of a lane in 0.25 dBFS (R266): none in mode off; fixed_thresh below full scale; else 12 dB above the reference, which is the noise floor while no frame is present and the received level during one. -/
def Dev.blankThresh (d : Dev) (n : Nat) (ref : Int) : Option Int :=
  match d.fld (Reg.LANE_BLANK_CFG n) 1 0 with
  | 0 => none
  | 2 => some (-2 * (d.fld (Reg.LANE_BLANK_CFG n) 15 8 : Int))
  | _ => some (ref + 48)

/-- The samples of a symbol that exceed the threshold: they are set to zero. -/
def blankedOf (thresh : Option Int) (samples : List Int) : Nat :=
  match thresh with
  | some t => (samples.filter fun x => decide (t < x)).length
  | none => 0

/-- The symbols with any blanked sample, and those with more than 20 % blanked, which are erased (R267). -/
def blankedSyms (thresh : Option Int) (l : List (List Int)) : Nat := (l.filter fun s => 0 < blankedOf thresh s).length

def erasedSyms (thresh : Option Int) (l : List (List Int)) : Nat := (l.filter fun s => s.length < 5 * blankedOf thresh s).length

/-- FRAME_DELIVERY (R259, R263, R264, R266, R267): the oldest accepted frame of the lane ends its decode: it is written into the ring, which advances its write index, or, its check failed, counted, with a SACK that says which;
a standby's lanes and an idle one send none. A management message outside R259's table is counted as filtered and discarded. -/
def Dev.frameDelivery (d : Dev) (f : FrameIn) : Dev :=
  let n := f.lane.val
  match d.husk.oldestRx n with
  | none => d
  | some c =>
    let d := d.setCtxs n (d.husk.ctxs.filter fun x => x.seq ≠ c.seq)
    let t := d.blankThresh n f.level
    let d := (d.incBy (Reg.LANE_ERASED_SYM n) (erasedSyms t f.symbols)).incBy (Reg.LANE_BLANK_SYM n) (blankedSyms t f.symbols)
    let d := d.setLane n fun l => { l with blank := l.blank || decide (0 < blankedSyms t f.symbols), sack := if d.passive || !d.laneActive n then none else some f.ok }
    let d := if !f.ok then (d.inc (Reg.LANE_CRC_FAIL n)).setLane n fun l => { l with ring := l.ring - rxReserve }
      else if f.frame = .other && n < 32 then (d.inc (Reg.LANE_FILTERED n)).setLane n fun l => { l with ring := l.ring - rxReserve }
      else ((d.inc (Reg.LANE_DELIVERED n)).wn (Reg.LANE_SNR n) (f.snr % 65536)).setLane n fun l => { l with frames := l.frames ++ [(f.frame, c.late)], wr := ringNext l.wr }
    d.txPump

/-- FRAME_LATE (R265): at the boundary of pip A + 8 the miss is counted, marked and logged. -/
def Dev.frameLate (d : Dev) (n : Nat) : Dev :=
  match d.husk.ctxs.find? fun c => c.rx && c.lane = n && !c.late && c.acc + 8 ≤ d.pip with
  | none => d
  | some c =>
    let d := { d with husk := { d.husk with ctxs := d.husk.ctxs.map fun (x : HCtx) => if x.seq = c.seq then { x with late := true } else x } }
    let d := (((d.inc (Reg.LANE_LATE n)).inc Reg.HUSK_LATE_CNT).wn Reg.HUSK_LAST_LATE n).wn Reg.HUSK_LAST_LATE_PIP (c.acc + 8)
    ((d.raise Reg.HUSK_EVENT 1).raise (Reg.LANE_EVENT n) 4).log 66 0 (byte n :: leN (c.acc + 8) 6)

/-- The precedence of a context (R261). -/
def HCtx.prec (c : HCtx) : Nat := if c.rx then (if c.lastSym && !c.sack then 0 else 1) else 2

/-- The least context by precedence, then by the slice it last had, then by its order. -/
def bestCtx : List HCtx → Option HCtx
  | [] => none
  | c :: l =>
    match bestCtx l with
    | none => some c
    | some b => if c.prec < b.prec || (c.prec = b.prec && (c.served < b.served || (c.served = b.served && c.seq ≤ b.seq))) then some c else some b

/-- The last symbol of one frame of each of the given lanes has arrived: of the lane's oldest frame that still waited for it. -/
def markLast : List HCtx → List Nat → List HCtx
  | [], _ => []
  | c :: l, a => if c.rx && !c.lastSym && a.contains c.lane then { c with lastSym := true } :: markLast l (a.erase c.lane) else c :: markLast l a

/-- Whether a context has work (R261): a frame to send; a frame whose SACK is to be decided; any other receive frame but on a lane whose buffer holds no symbol to work on. -/
def HCtx.works (idle : List Nat) (c : HCtx) : Bool := !c.rx || (c.lastSym && !c.sack) || !idle.contains c.lane

/-- HUSK_SLICE (R261): one 10 µs slice goes to one context that has work; `arrived` the lanes on which a frame's last symbol has arrived, `idle` those with no buffered symbol. A context of the first precedence has its SACK decided in its slice.
DESIGN CHOICE (log entry 81): one slice encodes and sends a transmit context's frame. -/
def Dev.huskSlice (d : Dev) (arrived idle : List (Fin 33)) (again : Bool) : Dev :=
  let l := markLast d.husk.ctxs (arrived.map (·.val))
  let no := d.husk.sliceNo + 1
  match bestCtx (l.filter (HCtx.works (idle.map (·.val)))) with
  | none => { d with husk := { d.husk with sliceNo := no, ctxs := l } }
  | some b =>
    let d : Dev := { d with husk := { d.husk with sliceNo := no, ctxs := l.map fun c => if c.seq = b.seq then { c with served := no, sack := c.sack || (c.rx && c.lastSym) } else c } }
    if b.rx then d else d.laneSent b again

/-- NOISE_WINDOW_END (R256, R258, R266): RMS and highest magnitude in 0.25 dBFS, AGC gain in dB; a front end that is idle detects nothing. -/
def Dev.noiseWindow (d : Dev) (n : Nat) (rms : Int) (gain : Nat) (peak : Int) (preamble : Bool) : Dev :=
  if preamble || !d.laneActive n then d
  else
    let blanked : Bool := (d.blankThresh n (d.sfld (Reg.LANE_NOISE n) 15 0)).any fun t => decide (t < peak)
    let d := d.setLane n fun l => { l with noise := (rms :: l.noise).take 16, blank := l.blank || blanked }
    let floor := (d.lane n).noise.foldl min rms
    d.wn (Reg.LANE_NOISE n) (gain % 256 * 65536 + ofSigned 16 floor)

/-! ### 10BASE-T1S ports (R275 to R277) -/

/-- The port's T1S unit is in use: its outlet is MCS-DC and the port is enabled. -/
def Dev.t1sUsed (d : Dev) (t : Nat) : Bool := d.outType (24 + t) = 3 && d.rbit (Reg.T1S_CFG t) 0

/-- Whether the port runs PLCA as its coordinator; otherwise CSMA/CD (R276). -/
def Dev.plca (d : Dev) (t : Nat) : Bool := d.rbit (Reg.T1S_CFG t) 1

/-- Whether node 1 was heard within the last 40 pips. -/
def Dev.node1Heard (d : Dev) (t : Nat) : Bool := tget 0 d.husk.node1 t ≠ 0 && d.pip ≤ tget 0 d.husk.node1 t - 1 + 40

/-- A link comes up where R277's condition holds: energy, and under PLCA node 1 heard. -/
def Dev.t1sLink (d : Dev) (t : Nat) : Dev :=
  if d.rbit (Reg.T1S_STATUS t) 1 && (!d.plca t || d.node1Heard t) then d.setBit (Reg.T1S_STATUS t) 0 true else d

/-- Node 1 is heard, in this PLCA cycle. -/
def Dev.hearNode1 (d : Dev) (t : Nat) : Dev :=
  { d with husk := { d.husk with node1 := tset 0 d.husk.node1 t (d.pip + 1), cycle1 := tset false d.husk.cycle1 t true } }

/-- A port sends `n` frames; the transmitters of a module that does not act for its twin are off (R406). -/
def Dev.t1sTx (d : Dev) (t n : Nat) : Dev := if d.passive then d else d.incBy (Reg.T1S_TX_FRAMES t) n

/-- The Shell gives a port a frame to send (R276): it waits for the port's own transmit opportunity under PLCA, and goes out at once under CSMA/CD. -/
def Dev.t1sSend (d : Dev) (t : Nat) : Dev :=
  if !d.t1sUsed t then d
  else if d.plca t then { d with husk := { d.husk with t1sq := tset 0 d.husk.t1sq t (tget 0 d.husk.t1sq t + 1) } }
  else d.t1sTx t 1

/-- The transmit opportunity that runs ends (R276): the next node's of the segment, whose ids end at node_count, follows, and after the last a cycle ends, counted where node 1 was not heard in it. -/
def Dev.t1sNext (d : Dev) (t : Nat) : Dev :=
  let cur := tget 0 d.husk.t1sNode t
  if cur < d.fld (Reg.T1S_CFG t) 7 2 then { d with husk := { d.husk with t1sNode := tset 0 d.husk.t1sNode t (cur + 1) } }
  else
    let d := if tget false d.husk.cycle1 t then d else d.inc (Reg.T1S_PLCA_MISS t)
    { d with husk := { d.husk with cycle1 := tset false d.husk.cycle1 t false, t1sNode := tset 0 d.husk.t1sNode t 0 } }

/-- T1S_FRAME_RX (R276, R277): a frame; under PLCA the opportunity of the node whose turn it is, taken, or passed over after to_timer × 16 silent bit times; the port's own, with which a cycle begins, with up to burst_max frames; or energy. -/
def Dev.t1sRx (d : Dev) (t : Nat) (e : T1sIn) : Dev :=
  if !d.t1sUsed t then d
  else
    match e with
    | .frame good node =>
      let d := if good then d.inc (Reg.T1S_RX_FRAMES t) else d.inc (Reg.T1S_RX_ERR t)
      (if good && node = 1 then d.hearNode1 t else d).t1sLink t
    | .opportunity node => if d.plca t && 1 ≤ node && node = tget 0 d.husk.t1sNode t then ((if node = 1 then d.hearNode1 t else d).t1sLink t).t1sNext t else d
    | .own =>
      if d.plca t && tget 0 d.husk.t1sNode t = 0 then
        let n := min (d.fld (Reg.T1S_CFG t) 15 12) (tget 0 d.husk.t1sq t)
        (({ d with husk := { d.husk with t1sq := tset 0 d.husk.t1sq t (tget 0 d.husk.t1sq t - n) } } : Dev).t1sTx t n).t1sNext t
      else d
    | .silent bits => if d.plca t && 1 ≤ tget 0 d.husk.t1sNode t && d.fld (Reg.T1S_CFG t) 23 16 * 16 ≤ bits then d.t1sNext t else d
    | .energy => (d.setBit (Reg.T1S_STATUS t) 1 true).t1sLink t

/-- Whether T1S_LINK_LOSS applies (R277): no energy, or under PLCA nothing of node 1 within the last 40 pips. -/
def Dev.t1sLost (d : Dev) (t : Nat) (energy : Bool) : Bool :=
  d.t1sUsed t && d.rbit (Reg.T1S_STATUS t) 0 && (!energy || (d.plca t && !d.node1Heard t))

/-- The part of a port in every pip (R275, R276): one whose outlet is not MCS-DC is idle, its transmit line low; plca_active shows whether the port runs PLCA. -/
def Dev.t1sTick (d : Dev) (t : Nat) : Dev :=
  if d.t1sUsed t then d.setBit (Reg.T1S_STATUS t) 2 (d.plca t)
  else { d with husk := { d.husk with t1sq := tset 0 d.husk.t1sq t 0, node1 := tset 0 d.husk.node1 t 0, cycle1 := tset false d.husk.cycle1 t false, t1sNode := tset 0 d.husk.t1sNode t 0 } }.wn (Reg.T1S_STATUS t) 0

/-- The module answers a message of an outlet's vehicle with one frame over its link (DESIGN CHOICE, log entry 81): the T1S port of an MCS outlet, the lane of a CCS outlet. -/
def Dev.answerVehicle (d : Dev) (n : Nat) : Dev :=
  if !(d.o n).linkUp then d else if d.outType n = 3 then d.t1sSend (n - 24) else d.laneSend n .data

/-! ### Resets -/

/-- The counters of a lane, FC_DETECT to LOST_RESET but for the SLAC word (R280). -/
def laneCounters (n : Nat) : List Nat := (List.range 12).map (fun k => Reg.LANE_FC_DETECT n + 4 * k) ++ [Reg.LANE_LOST_RESET n]

/-- Clear a lane's counters. -/
def Dev.clearLane (d : Dev) (n : Nat) : Dev := (laneCounters n).foldl (fun (d : Dev) a => d.wn a 0) d

/-- Free a lane's contexts, counting the frames in decode or transmission in LANE_nn_LOST_RESET; its ring is empty. -/
def Dev.loseLane (d : Dev) (n : Nat) : Dev :=
  let lost := (d.husk.ctxs.filter fun c => c.lane = n).length
  ((d.setCtxs n (d.husk.ctxs.filter fun c => c.lane ≠ n)).incBy (Reg.LANE_LOST_RESET n) lost).setLane n fun l => { l with ring := 0, frames := [], wr := 0 }

/-- What every reset of the Husk does to the engine (R280 and "When the Husk is reset"): counters cleared, contexts freed and counted as lost, front ends down. -/
def Dev.huskReset (d : Dev) : Dev :=
  let d := (List.range 33).foldl (fun (d : Dev) n => (d.clearLane n).loseLane n) d
  let d := (((d.wn Reg.HUSK_LATE_CNT 0).wn Reg.HUSK_CTX_FULL_PIPS 0).wn Reg.HUSK_SLAC_DECIDED_CNT 0).wn Reg.HUSK_SLAC_AMBIG_CNT 0 |>.wn Reg.HUSK_SLAC_WITHHELD_CNT 0
  { d with husk := { d.husk with resetting := true, full := false, tests := [] } }

/-- The Shell loads a lane's station address, NID and NMK again ("When the Husk is reset"). -/
def Dev.loadNet (d : Dev) (n : Nat) : Dev := if (d.lane n).net then d else d.setLane n fun l => { l with net := true }

/-- HUSK_FRONT_ENDS_RUNNING (R282): the front ends run again, and the resets that wait complete. -/
def Dev.frontEndsRun (d : Dev) : Dev :=
  let waits := d.husk.resetWaits
  let d := { d with husk := { d.husk with resetting := false, resetWaits := [] } }
  let d := (List.range 33).foldl (fun (d : Dev) n => (if (d.lane n).down then d.setLane n fun l => { l with down := false } else d).loadNet n) d
  waits.foldl (fun (d : Dev) id => d.finish id St.ok []) d

/-! ### Work of every pip -/

/-- The part of a transmit test in every pip: its next frame is requested once the last has been sent (R260); at its time the test ends with the number of frames sent, and a frame that still waits is not sent. -/
def Dev.txTestTick (d : Dev) (t : TxTest) : Dev :=
  let has := (d.husk.ctxs.any fun c => !c.rx && c.lane = t.lane) || d.husk.txq.any fun r => r.1 = t.lane
  if d.pip < t.till then (if has then d else d.laneSend t.lane (.test t.mode))
  else
    ({ d with husk := { d.husk with tests := d.husk.tests.filter (fun x => x.id ≠ t.id), txq := d.husk.txq.filter fun r => r ≠ (t.lane, .test t.mode) } } : Dev).finish t.id St.ok (leN t.sent 4)

/-- The Shell takes a delivered frame out of a ring, a late one like any other (R265): CM_VALIDATE and CM_SET_KEY are answered on a pilot lane (R259); there is no SLAC on the mesh's (R283). -/
def Dev.takeFrame (d : Dev) (n : Nat) (f : PlcFrame) : Dev :=
  if 32 ≤ n then d else
  match f with
  | .validate => d.laneSend n .notRequired
  | .setKey => d.laneSend n .setKeyCnf
  | .data _ | .slac | .other => d

/-- The Shell empties the receive rings; what is in decode keeps what it has reserved. -/
def Dev.emptyRings (d : Dev) : Dev :=
  d.husk.lanes.foldl (fun (d : Dev) x =>
    (x.2.frames.foldl (fun (d : Dev) f => d.takeFrame x.1 f.1) d).setLane x.1 fun l => { l with frames := [], ring := rxReserve * (d.husk.ctxs.filter fun c => c.rx && c.lane = x.1).length }) d

/-- The Husk's part of a pip boundary: the count of full pips, the blanking bits, the rings that the application cores have emptied while they run, the tests. -/
def Dev.huskTick (d : Dev) : Dev :=
  let d := if d.husk.full then (d.inc Reg.HUSK_CTX_FULL_PIPS).raise Reg.HUSK_EVENT 4 else d
  let d := { d with husk := { d.husk with full := decide (8 ≤ d.husk.ctxs.length) } }
  let d := d.husk.lanes.foldl (fun (d : Dev) x => (d.setBit (Reg.LANE_STATUS x.1) 2 x.2.blank).setLane x.1 fun l => { l with blank := false }) d
  let d := if d.shellRuns && !d.passive then d.emptyRings else d
  d.husk.tests.foldl (fun (d : Dev) t => d.txTestTick t) d

/-! ### Opcodes of the 0x05xx family -/

/-- HUSK_STATUS_GET (0x0500). -/
def opHuskStatus (d : Dev) (c : Cmd) : Dev × Ans :=
  check d [(c.payload ≠ [], St.badLength)] (d, .done St.ok (d.regBytes [Reg.HUSK_STATUS, Reg.HUSK_LATE_CNT, Reg.HUSK_CTX_FULL_PIPS] ++ [0, 0, 0, 0]))

/-- LANE_STATS_GET (0x0501). -/
def opLaneStats (d : Dev) (c : Cmd) : Dev × Ans :=
  let n := num c.payload 0 1
  check d [(c.payload.length ≠ 4, St.badLength), (num c.payload 1 3 ≠ 0, St.badParam), (32 < n, St.badParam)]
    (d, .done St.ok (d.regBytes (Reg.LANE_STATUS n :: (List.range 14).map fun k => Reg.LANE_FC_DETECT n + 4 * k)))

/-- LANE_RESET (0x0503). -/
def opLaneReset (d : Dev) (c : Cmd) : Dev × Ans :=
  let n := num c.payload 0 1
  let s := d.ost n
  check d [(c.payload.length ≠ 4, St.badLength), (num c.payload 1 3 ≠ 0, St.badParam), (32 < n, St.badParam),
           (n < 32 && s ≠ .idle && s ≠ .unplugged && s ≠ .fault, St.f0), (n = 32 && d.rbit Reg.MESH_CTRL 0, St.f0)] <|
    let d := (d.clearLane n).loseLane n
    let d := (d.setFld (Reg.LANE_STATUS n) 11 0 3).setLane n fun l => { l with down := true, matched := none }
    ({ d with husk := { d.husk with resetWaits := d.husk.resetWaits ++ [c.id] } }, .running)

/-- T1S_STATUS_GET (0x0504). -/
def opT1sStatus (d : Dev) (c : Cmd) : Dev × Ans :=
  let n := num c.payload 0 1
  check d [(c.payload.length ≠ 4, St.badLength), (num c.payload 1 3 ≠ 0, St.badParam), (7 < n, St.badParam), (d.outType (24 + n) ≠ 3, St.f2)]
    (d, .done St.ok (d.regBytes [Reg.T1S_STATUS n, Reg.T1S_RX_FRAMES n, Reg.T1S_TX_FRAMES n, Reg.T1S_RX_ERR n, Reg.T1S_PLCA_MISS n]))

/-- LANE_TX_TEST (0x0505). -/
def opLaneTxTest (d : Dev) (c : Cmd) : Dev × Ans :=
  let p := c.payload
  let n := num p 0 1
  let dur := num p 4 4
  check d [(p.length ≠ 8, St.badLength), (num p 2 2 ≠ 0, St.badParam), (31 < n || 2 < num p 1 1 || dur = 0 || 40000 < dur, St.badParam),
           (d.mode ≠ .maintenance, St.denied), (d.ost n ≠ .idle || d.husk.tests.any (fun t => t.lane = n), St.f0)] <|
    ({ d with husk := { d.husk with tests := d.husk.tests ++ [{ lane := n, mode := num p 1 1, till := d.pip + dur, id := c.id, sent := 0 }] } }, .running)

end Sys2Proof.Machine
end

