-- ==== Sys2Proof/Machine/Keys.lean ====
section
/-!
DEFINITION. The key store and tamper response (16_keys_and_tamper.md): slots, blobs, the 0x08xx opcodes and the burr line.
-/
namespace Sys2Proof.Machine

/-- Key bytes of an algorithm (R471). -/
def keyLen (alg : Nat) : Nat := [0, 16, 32, 16, 32, 32, 32, 32, 66, 57].getD alg 0

/-- Whether a use and an algorithm form a combination of R471. -/
def keyCombo (use alg : Nat) : Bool :=
  ((use = 1 || use = 2) && 1 ≤ alg && alg ≤ 4) || (use = 3 && alg = 5) || (use = 4 && alg = 6) || (use = 5 && 7 ≤ alg && alg ≤ 9)

/-- Length of the wrapped part (R473). -/
def wrappedLen (alg : Nat) : Nat := 8 * ((16 + keyLen alg + 7) / 8) + 8

/-- The key in a slot. -/
def Dev.slot (d : Dev) (n : Nat) : KeySlot := tget KeySlot.empty d.key.slots n

/-- Whether a slot holds a key. -/
def KeySlot.loaded (k : KeySlot) : Bool := k.use ≠ 0

/-- A slot's byte of the key-slot map (R490). -/
def KeySlot.mapByte (k : KeySlot) : Nat := if k.loaded then 128 + k.use * 16 + k.alg else 0

/-- Show a slot in its registers. -/
def Dev.keyShow (d : Dev) (n : Nat) : Dev :=
  let k := d.slot n
  let busy := d.key.ops.any (·.1 = n)
  let st := if busy then 1 else if k.loaded then 2 else 0
  let pers := (d.key.persist.any (·.1 = n))
  let d := ((d.wn (Reg.KEY_SLOT_INFO n) (st * 1024 + b2n pers * 512 + b2n (k.origin = 2) * 256 + k.mapByte)).wn (Reg.KEY_SLOT_LABEL n) k.label).wn (Reg.KEY_SLOT_VERSION n) k.version
  d.wn Reg.KEY_STATUS ((List.range 64).filter fun i => (d.slot i).loaded).length

/-- Put a key in a slot. -/
def Dev.setSlot (d : Dev) (n : Nat) (k : KeySlot) : Dev := { d with key := { d.key with slots := tset KeySlot.empty d.key.slots n k } }

/-- The wrapping of a key under the KEK: its blob (R473). -/
def Dev.blobOf (d : Dev) (k : KeySlot) : Bytes := keyHeader k ++ padTo (wrappedLen k.alg) (Config.kwpWrap (Config.kek d.key.kekGen) (keyHeader k ++ k.key))

/-- Read a header and wrapped part under a wrapping key (R474). -/
def openBlob (kek : Bytes) (b : Bytes) : Option KeySlot :=
  let use := num b 5 1
  let alg := num b 6 1
  if b.take 5 ≠ [0x4B, 0x42, 0x4B, 0x42, 1] || b.length ≠ 16 + wrappedLen alg || !keyCombo use alg then none
  else match Config.kwpUnwrap kek (b.drop 16) with
    | none => none
    | some p => if p.take 16 = b.take 16 && p.length = 16 + keyLen alg then
        some { use := use, alg := alg, origin := num b 7 1, label := num b 8 4, version := num b 12 4, key := p.drop 16 } else none

/-- Whether the KEK is absent or the tamper latch set (R470, R487). -/
def Dev.noKek (d : Dev) : Bool := d.key.kekGen = 0 || d.rbit Reg.KEY_TAMPER_STATUS 7

/-- Whether a slot's own load, clear, generation or import has not completed (R478). -/
def Dev.slotBusy (d : Dev) (n : Nat) : Bool := d.key.ops.any (·.1 = n)

/-- Start an operation on a slot. -/
def Dev.keyStart (d : Dev) (n : Nat) (op : KeyOp) : Dev := { d with key := { d.key with ops := d.key.ops ++ [(n, op)] } }.keyShow n

/-- KEY_OPERATION_COMPLETE (R475, R477, R478): the slot takes the new key or none, and the reply is produced. -/
def Dev.keyComplete (d : Dev) (n : Nat) : Dev :=
  match d.key.ops.find? (·.1 = n) with
  | none => d
  | some (_, op) =>
    let pers := match op.blob with
      | some b => tset [] d.key.persist n b
      | none => if op.forget then terase d.key.persist n else d.key.persist
    let d := { d with key := { d.key with ops := d.key.ops.filter (fun x => x.1 ≠ n), persist := pers } }
    let d := d.setSlot n op.key
    let d := if op.load then d.inc Reg.KEY_LOAD_CNT else d
    (d.keyShow n).finish op.id St.ok op.reply

/-- The loads and clears whose bound ends at this pip have completed: a load within 4 pips of its start, a clear within 1 (R475, R477). -/
def Dev.keyDue (d : Dev) : Dev := (d.key.ops.filter fun x => due x.2.due d.pip).foldl (fun (d : Dev) x => d.keyComplete x.1) d

/-- A use that the key's attribute does not permit (R472). -/
def Dev.useDenied (d : Dev) : Dev := d.inc Reg.KEY_USE_DENIED_CNT

/-- Count an operation performed with a slot's key. -/
def Dev.useKey (d : Dev) (n : Nat) : Dev := d.inc (Reg.KEY_SLOT_USE_CNT n)

/-- Whether a host opcode may use a slot (R482). -/
def Dev.hostSlot (d : Dev) (n : Nat) : Bool := if n < 32 then d.rbit Reg.KEY_HOST_LO n else d.rbit Reg.KEY_HOST_HI (n - 32)

/-- Whether the mesh can read and send frames: its key slot holds a DERIVE key (R284, R472). -/
def Dev.meshKeyOk (d : Dev) : Bool := let k := d.slot (d.fld Reg.MESH_CFG 29 24); k.use = 4 && k.alg = 6

/-- The public key of a SIGN key, at its length: SEC1 65 or 133 bytes, or raw 57. -/
def KeySlot.public (k : KeySlot) : Bytes := padTo (if k.alg = 7 then 65 else if k.alg = 8 then 133 else 57) (Config.pubKey k.alg k.key)

/-- KEY_STATUS_GET (0x0800). -/
def opKeyStatus (d : Dev) (c : Cmd) : Dev × Ans :=
  check d [(c.payload ≠ [], St.badLength)]
    (d, .done St.ok (d.regBytes [Reg.KEY_STATUS, Reg.KEY_TAMPER_STATUS, Reg.KEY_KEK_GEN] ++ (List.range 64).map fun n => byte (d.slot n).mapByte))

/-- KEY_LOAD (0x0801, R474, R475, R478). -/
def opKeyLoad (d : Dev) (c : Cmd) : Dev × Ans :=
  let p := c.payload
  let n := num p 0 1
  let b := p.drop 4
  check d [(b.length < 56 || 112 < b.length || p.length < 4, St.badLength), (num p 2 2 ≠ 0, St.badParam), (63 < n || 1 < num p 1 1, St.badParam), (d.slotBusy n, St.busy), (d.noKek, St.f1)] <|
    match openBlob (Config.kek d.key.kekGen) b with
    | none => (d.inc Reg.KEY_BLOB_FAIL_CNT, .done St.f0 [])
    | some k => (d.keyStart n { id := c.id, key := k, blob := if num p 1 1 = 1 then some b else none, forget := false, reply := [], load := true, due := some (d.pip + 4) }, .running)

/-- KEY_CLEAR (0x0802, R477). -/
def opKeyClear (d : Dev) (c : Cmd) : Dev × Ans :=
  let p := c.payload
  let n := num p 0 1
  check d [(p.length ≠ 4, St.badLength), (num p 2 2 ≠ 0, St.badParam), (63 < n || 1 < num p 1 1, St.badParam), (d.slotBusy n, St.busy)] <|
    (d.keyStart n { id := c.id, key := KeySlot.empty, blob := none, forget := num p 1 1 = 1, reply := [], load := false, due := some (d.pip + 1) }, .running)

/-- KEY_GENERATE (0x0803, R480). -/
def opKeyGenerate (d : Dev) (c : Cmd) : Dev × Ans :=
  let p := c.payload
  let n := num p 0 1
  let alg := num p 2 1
  check d [(p.length ≠ 12, St.badLength), (63 < n || 1 < num p 3 1, St.badParam), (!keyCombo (num p 1 1) alg, St.badParam), (d.slotBusy n, St.busy), (d.noKek, St.f1)] <|
    let k : KeySlot := { use := num p 1 1, alg := alg, origin := 1, label := num p 4 4, version := num p 8 4, key := padTo (keyLen alg) (Config.randomKey alg d.key.draws) }
    let d := { d with key := { d.key with draws := d.key.draws + 1 } }
    let b := d.blobOf k
    (d.keyStart n { id := c.id, key := k, blob := if num p 3 1 = 1 then some b else none, forget := false, reply := b ++ (if k.use = 5 then k.public else []), load := true, due := none }, .running)

/-- KEY_IMPORT (0x0804, R481). -/
def opKeyImport (d : Dev) (c : Cmd) : Dev × Ans :=
  let p := c.payload
  let w := num p 0 1
  let n := num p 1 1
  check d [(p.length < 20, St.badLength), (num p 3 1 ≠ 0, St.badParam), (63 < w || 63 < n || 1 < num p 2 1, St.badParam), (!keyCombo (num p 9 1) (num p 10 1), St.badParam),
           (d.slotBusy w || d.slotBusy n, St.busy), (d.noKek, St.f1)] <|
    if (d.slot w).use ≠ 3 then (d.useDenied, .done St.f2 [])
    else match openBlob (d.slot w).key (p.drop 4) with
      | none => (d.inc Reg.KEY_BLOB_FAIL_CNT, .done St.f0 [])
      | some k0 =>
        let k := { k0 with origin := 2 }
        let b := d.blobOf k
        ((d.useKey w).keyStart n { id := c.id, key := k, blob := if num p 2 1 = 1 then some b else none, forget := false, reply := b, load := true, due := none }, .running)

/-- KEY_PUBKEY (0x0805). -/
def opKeyPubkey (d : Dev) (c : Cmd) : Dev × Ans :=
  let n := num c.payload 0 1
  check d [(c.payload.length ≠ 4, St.badLength), (num c.payload 1 3 ≠ 0, St.badParam), (63 < n, St.badParam), (!(d.slot n).loaded, St.f3)] <|
    if (d.slot n).use = 5 then (d, .done St.ok (d.slot n).public) else (d.useDenied, .done St.f2 [])

/-- KEY_CSR (0x0806, R482). -/
def opKeyCsr (d : Dev) (c : Cmd) : Dev × Ans :=
  let p := c.payload
  let n := num p 0 1
  let len := num p 2 2
  check d [(p.length < 4 || p.length ≠ 4 + len, St.badLength), (num p 1 1 ≠ 0, St.badParam), (63 < n || len = 0 || 64 < len, St.badParam), (d.noKek, St.f1), (!d.hostSlot n, St.denied),
           (!(d.slot n).loaded, St.f3)] <|
    if (d.slot n).use = 5 then
      ({ d with key := { d.key with draws := d.key.draws + 1 } }.useKey n, .done St.ok ((Config.csrDer (d.slot n).key (p.drop 4) d.key.draws).take 1024))
    else (d.useDenied, .done St.f2 [])

/-- KEY_AEAD (0x0807, R482). -/
def opKeyAead (d : Dev) (c : Cmd) : Dev × Ans :=
  let p := c.payload
  let n := num p 0 1
  let aad := num p 2 2
  let data := p.drop (16 + aad)
  let k := d.slot n
  check d [(p.length < 17 + aad || 736 < data.length, St.badLength), (num p 1 1 ≠ 0, St.badParam), (63 < n || 256 < aad, St.badParam), (d.noKek, St.f1), (!d.hostSlot n, St.denied), (!k.loaded, St.f3)] <|
    let iv := (p.drop 4).take 12
    let ad := (p.drop 16).take aad
    if (k.alg ≠ 1 && k.alg ≠ 2) || (k.use ≠ 1 && k.use ≠ 2) then (d.useDenied, .done St.f2 [])
    else if k.use = 1 then
      let (ct, tag) := Config.gcmSeal k.key iv ad data
      (d.useKey n, .done St.ok (padTo data.length ct ++ padTo 16 tag))
    else
      match (if data.length < 16 then none else Config.gcmOpen k.key iv ad (data.take (data.length - 16)) (data.drop (data.length - 16))) with
      | some pt => (d.useKey n, .done St.ok (padTo (data.length - 16) pt))
      | none => (d.useKey n, .done St.f4 [])

/-- KEY_TAMPER_ARM (0x0808, R485): arms only. -/
def opTamperArm (d : Dev) (c : Cmd) : Dev × Ans :=
  let m := num c.payload 0 1
  check d [(c.payload.length ≠ 4, St.badLength), (num c.payload 1 3 ≠ 0, St.badParam), (31 < m, St.badParam), (d.rbit Reg.KEY_TAMPER_STATUS 7, St.f1)] <|
    let d := d.raise Reg.KEY_TAMPER_ARMED m
    (d, .done St.ok [byte (d.rn Reg.KEY_TAMPER_ARMED), 0, 0, 0])

/-- Whether the leaf of a SECC chain differs from the key of its slot (R483). -/
def Dev.chainMismatch (d : Dev) (set : Nat) (chain : Bytes) : Bool :=
  let n := if set = 0 then d.fld Reg.KEY_SECC_SLOT 5 0 else d.fld Reg.KEY_SECC_SLOT 13 8
  set < 2 && (d.slot n).use = 5 && Config.leafKey chain ≠ (d.slot n).public

/-- Whether a TLS handshake with the SECC chain of a set can be carried out (R472, R483): its slot holds a SIGN key of the algorithm that the protocol uses, the set is written, and its leaf is that key's (DESIGN CHOICE for an empty set, log entry 87). -/
def Dev.tlsReady (d : Dev) (set : Nat) : Bool :=
  let k := d.slot (if set = 0 then d.fld Reg.KEY_SECC_SLOT 5 0 else d.fld Reg.KEY_SECC_SLOT 13 8)
  let alg := if set = 0 then k.alg = 7 else k.alg = 8 || k.alg = 9
  k.use = 5 && alg && decide (d.key.chains.getD set [] ≠ []) && !d.chainMismatch set (d.key.chains.getD set [])

/-- A TLS handshake: one that fails because leaf and slot differ sets KEY_EVENT.chain_mismatch (R483), and one that is made is an operation with the SECC key (R491). -/
def Dev.tlsTry (d : Dev) (set : Nat) : Dev :=
  let c := d.key.chains.getD set []
  if c ≠ [] && d.chainMismatch set c then d.raise Reg.KEY_EVENT 4
  else if d.tlsReady set then d.useKey (if set = 0 then d.fld Reg.KEY_SECC_SLOT 5 0 else d.fld Reg.KEY_SECC_SLOT 13 8)
  else d

/-- KEY_CHAIN_WRITE (0x0809, R483). -/
def opChainWrite (d : Dev) (c : Cmd) : Dev × Ans :=
  let p := c.payload
  let set := num p 0 1
  let off := num p 4 2
  let data := p.drop 8
  check d [(p.length < 9 || 1008 < data.length, St.badLength), (num p 2 2 ≠ 0 || num p 6 2 ≠ 0, St.badParam), (3 < set || 1 < num p 1 1, St.badParam), (8192 < off + data.length, St.badParam)] <|
    let old := d.key.staging.getD set []
    let new := padTo off old ++ data ++ old.drop (off + data.length)
    if num p 1 1 = 1 then
      let chain := new.take (off + data.length)
      let d := { d with key := { d.key with staging := d.key.staging.set set [], chains := d.key.chains.set set chain } }
      (if d.chainMismatch set chain then d.raise Reg.KEY_EVENT 4 else d, .done St.ok [])
    else ({ d with key := { d.key with staging := d.key.staging.set set new } }, .done St.ok [])

/-- What the burr line does to the key store (R486, R487): KEK and slots zeroed, latch set with the tripped inputs and the legal seconds, inputs disarmed, operations ended with NO_KEK. -/
def Dev.burr (d : Dev) (tripped : Nat) (legal : Int) : Dev :=
  let ops := d.key.ops
  let d := { d with key := { d.key with kekGen := 0, slots := [], ops := [] } }
  let d := (d.wn Reg.KEY_KEK_GEN 0).wr Reg.KEY_TAMPER_STATUS (word (b2n (d.rbit Reg.KEY_TAMPER_STATUS 6) * 64 + 128 + tripped % 32))
  let d := (d.wn Reg.KEY_TAMPER_TIME (ofSigned 32 legal)).wn Reg.KEY_TAMPER_ARMED 0
  let d := (List.range 64).foldl (fun (d : Dev) n => d.keyShow n) d
  let d := ops.foldl (fun (d : Dev) x => d.finish x.2.id St.f1 []) d
  (d.raise Reg.KEY_EVENT 1).degrade 10

/-- BOOT after POR or the power-fail reset (R475): every persisted blob is loaded; one that fails leaves its slot empty. -/
def Dev.keyBoot (d : Dev) : Dev :=
  d.key.persist.foldl (fun (d : Dev) x =>
    match (if d.noKek then none else openBlob (Config.kek d.key.kekGen) x.2) with
    | some k => ((d.setSlot x.1 k).inc Reg.KEY_LOAD_CNT).keyShow x.1
    | none => ((d.raise Reg.KEY_EVENT 2).inc Reg.KEY_BLOB_FAIL_CNT).keyShow x.1) d

/-- The reset of the key store (R476, R491): slots and operations go, registers but those of R487 and the armed inputs take their Reset column. -/
def Dev.keyReset (d : Dev) : Dev :=
  { d with key := { d.key with slots := [], ops := [], staging := [[], [], [], []] } }

end Sys2Proof.Machine
end

