-- ==== Sys2Proof/Machine/Mesh.lean ====
section
/-!
DEFINITION. The depot mesh over LANE_32 (09_depot_mesh.md): map and routing, joining, slot frames, delivery, and the 0x0Cxx opcodes.
-/
namespace Sys2Proof.Machine

/-! ### The map -/

/-- The parent of a node id in a map. -/
def MeshMap.parentOf (m : MeshMap) (n : Nat) : Nat := m.parents.getD n 0xFF

/-- Whether a node id is in a map. -/
def MeshMap.used (m : MeshMap) (n : Nat) : Bool := n < 64 && m.parentOf n ≠ 0xFF

/-- The path from a node up to the coordinator, itself first, within `fuel` hops. -/
def MeshMap.path (m : MeshMap) : Nat → Nat → List Nat
  | 0, _ => []
  | f + 1, n => if !m.used n then [] else if m.parentOf n = 0xFE then [n] else n :: m.path f (m.parentOf n)

/-- The depth of a node: hops from the coordinator. -/
def MeshMap.depth (m : MeshMap) (n : Nat) : Nat := (m.path 64 n).length - 1

/-- Whether `n` is `a` or lies below it. -/
def MeshMap.below (m : MeshMap) (a n : Nat) : Bool := (m.path 64 n).contains a

/-- Descendants of a node. -/
def MeshMap.descendants (m : MeshMap) (a : Nat) : Nat := ((List.range 64).filter fun n => n ≠ a && m.below a n).length

/-- The coordinator's node id in a map. -/
def MeshMap.coord (m : MeshMap) : Option Nat := (List.range 64).find? fun n => m.parentOf n = 0xFE

/-- Whether a node has a child. -/
def MeshMap.relay (m : MeshMap) (a : Nat) : Bool := m.parents.contains a

/-- Slot owners (R291): each used id owns its slot; the free slots go round by round to the relays in descending order of descendants, ties to the lower id. -/
def MeshMap.assign (m : MeshMap) : MeshMap :=
  let relays := sortBy (fun n => (64 - m.descendants n) * 64 + n) ((List.range 64).filter fun n => m.used n && m.relay n)
  let free := (List.range 64).filter fun n => !m.used n
  let owner := fun s => if m.used s then s else
    match free.findIdx? (· = s), relays with
    | some i, _ :: _ => (relays[i % relays.length]?).getD 0xFF
    | _, _ => 0xFF
  { m with owners := (List.range 64).map owner }

/-- A changed map: slots given out again and the version raised by 1 (R288). -/
def MeshMap.bump (m : MeshMap) : MeshMap := { m.assign with version := (m.version + 1) % 65536 }

/-- Whether no node lies deeper than 8 (R297). -/
def MeshMap.shallow (m : MeshMap) : Bool := (List.range 64).all fun n => !m.used n || m.depth n ≤ 8

/-- Set a node's parent. -/
def MeshMap.setParent (m : MeshMap) (n p : Nat) : MeshMap := { m with parents := m.parents.set n p }

/-- The 136 bytes of the map (bytes 36 to 171 of a beacon, R288): reassigned mask, slot owners, parents. -/
def MeshMap.bytes (m : MeshMap) : Bytes := leN m.reassigned 8 ++ padTo 64 (m.owners.map byte) ++ padTo 64 (m.parents.map byte)

/-- A map from its 136 bytes. -/
def meshMapOf (b : Bytes) (version : Nat) (ident : Bytes) : MeshMap :=
  { version := version, ident := ident, reassigned := num b 0 8, owners := (List.range 64).map fun i => num b (8 + i) 1, parents := (List.range 64).map fun i => num b (72 + i) 1 }

/-! ### Registers -/

/-- The code of a state in MESH_STATUS. -/
def MeshSt.code : MeshSt → Nat
  | .off => 0
  | .scanning => 1
  | .joining => 2
  | .member => 3
  | .coordinator => 4

/-- A neighbour. -/
def Mesh.nbr (m : Mesh) (n : Nat) : MeshNbr := tget MeshNbr.none m.nbrs n

/-- SNR readings of the last 8 periods. -/
def Mesh.snrs (m : Mesh) (n : Nat) : List Nat := ((m.nbr n).snrs.filter fun x => m.count < x.1 + 8).map (·.2)

/-- The retransmissions among the last 64 frames to a neighbour (r of R295). -/
def MeshNbr.r (b : MeshNbr) : Nat := (b.tx.filter id).length

/-- The link cost to a neighbour, capped at 63 (R295); 0 where it was not heard. -/
def Mesh.linkCost (m : Mesh) (n : Nat) : Nat :=
  let s := m.snrs n
  if s = [] then 0
  else
    let k := s.length
    min 63 (1 + (24 * k - s.foldl (· + ·) 0 + 2 * k - 1) / (2 * k) + (m.nbr n).r / 2)

/-- Whether the link to a neighbour is usable (R295). -/
def Mesh.usable (m : Mesh) (minSnr n : Nat) : Bool :=
  let s := m.snrs n
  s ≠ [] && m.linkCost n < 63 && minSnr * s.length ≤ s.foldl (· + ·) 0 && (m.nbr n).r ≤ 32

/-- The mean SNR of a neighbour in whole dB; the rounding is not stated. -/
def Mesh.snrShown (m : Mesh) (n free : Nat) : Nat :=
  let s := m.snrs n
  if s = [] then 0 else (divOpen (s.foldl (· + ·) 0 : Nat) s.length free).toNat

/-- Own depth in the map. -/
def Mesh.depth (m : Mesh) : Nat := if m.st = .member then m.map.depth m.node else 0

/-- Whether the module is MEMBER or COORDINATOR. -/
def Mesh.joined (m : Mesh) : Bool := m.st = .member || m.st = .coordinator

/-- The frame's messages of the node's own; a MAP is none of them (R289). -/
def Mesh.ownSent (m : Mesh) : List MeshMsg := (m.flight.map fun f => (f.msgs.filter fun x => x.2 && x.1.typ ≠ 7).map (·.1)).getD []

/-- Take a node id; messages that still wait go out under it (R298). -/
def Mesh.renumber (m : Mesh) (n : Nat) : Mesh := { m with node := n, own := m.own.map fun x => { x with src := n } }

/-- Store the mesh and show it in the registers. -/
def Dev.setMesh (d : Dev) (m : Mesh) : Dev :=
  let d := { d with mesh := m }
  let d := d.wn Reg.MESH_STATUS (m.depth % 16 * 2 ^ 24 + m.parent % 256 * 2 ^ 16 + m.node % 256 * 256 + m.missed % 4 * 8 + m.st.code)
  let d := ((d.wn Reg.MESH_EPOCH m.epoch).wn Reg.MESH_PERIOD m.period).wn Reg.MESH_PATH_COST (if m.joined then m.pathCost else 255)
  let d := (d.wn Reg.MESH_NODES ((List.range 64).filter m.map.used).length).wn Reg.MESH_MAP_VERSION m.map.version
  let ownN := m.own.length + m.ownSent.length
  let traN := m.transit.length + ((m.flight.map fun f => (f.msgs.filter fun x => !x.2).length).getD 0)
  let d := (d.wn Reg.MESH_TXQ_LEVEL (traN % 128 * 256 + ownN % 64)).wn Reg.MESH_RXQ_LEVEL m.rx.length
  (List.range 64).foldl (fun (d : Dev) n =>
    d.wn (Reg.MESH_NODE_LINK n) (m.map.parentOf n * 2 ^ 24 + m.linkCost n * 2 ^ 16 + m.snrShown n d.fresh % 256 * 256 + (m.nbr n).r)) d

/-- The LANE_32 station MAC address: the module's mesh identity. -/
def Dev.meshIdent (d : Dev) : Bytes :=
  (leN (d.fld (Reg.LANE_MAC_HI 32) 15 0) 2).reverse ++ (leN (d.rn (Reg.LANE_MAC_LO 32)) 4).reverse

/-- The role in force: MESH_CFG.role, or backup where R308 or R310 made it one. -/
def Dev.meshRole (d : Dev) : Nat := if d.mesh.backup then 2 else d.fld Reg.MESH_CFG 1 0

/-- The backup rank in force (R307, R308, R310). -/
def Dev.meshRank (d : Dev) : Nat := if d.mesh.backup then 0 else d.fld Reg.MESH_JOIN_CFG 10 8

/-! ### States -/

/-- Start scanning (R290). -/
def Mesh.scan (m : Mesh) : Mesh :=
  { m with st := .scanning, scanFrom := m.count, quietFrom := m.count, heardNet := false, missed := 0, joinTries := 0, refAge := none, parent := 0xFF, hold := none }

/-- Change epoch: transit messages are discarded, own messages that the first hop has not acknowledged are kept (R302). -/
def Mesh.setEpoch (m : Mesh) (e : Nat) : Mesh :=
  { m with epoch := e % 2 ^ 32, transit := [], own := (m.ownSent ++ m.own).map (fun x => { x with epoch := e % 2 ^ 32 }), flight := none }

/-- Scan again where no candidate was found (R290 step 2): what was heard so far stands. -/
def Mesh.scanAgain (m : Mesh) : Mesh := { m with st := .scanning, scanFrom := m.count }

/-- Become coordinator (R307, R308): the epoch is stored in flash. -/
def Mesh.lead (m : Mesh) (node epoch : Nat) (ident : Bytes) (map : MeshMap) : Mesh :=
  let m := (m.setEpoch epoch).renumber node
  { m with st := .coordinator, parent := 0xFF, pathCost := 0, missed := 0, storedEpoch := epoch % 2 ^ 32, hold := none, backup := false,
           map := ({ map with ident := ident }.setParent node 0xFE).bump, idents := (ident, node) :: m.idents.filter (fun x => x.2 ≠ node) }

/-- MESH_CTRL.en takes the value 1 (R290). -/
def Dev.meshEnable (d : Dev) : Dev :=
  if d.mesh.st = .off then d.setMesh { d.mesh with leaving := false, count := 0, nbrs := [], backup := false }.scan else d.setMesh { d.mesh with leaving := false }

/-- Stop the mesh. -/
def Mesh.stop (m : Mesh) : Mesh := { Mesh.reset with storedEpoch := m.storedEpoch, rx := m.rx, nextSeq := m.nextSeq }

/-- MESH_CTRL.en takes the value 0 (R294): a member sends a leaving frame first; any other state stops at once. -/
def Dev.meshDisable (d : Dev) : Dev :=
  if d.mesh.st = .member then d.setMesh { d.mesh with leaving := true } else d.setMesh d.mesh.stop

/-- The coordinator removes a node (R293): epoch raised, reassigned bit set, id and slots freed. -/
def Dev.meshRemove (d : Dev) (n : Nat) : Dev :=
  let m := d.mesh.setEpoch (d.mesh.epoch + 1)
  let map := ({ m.map with reassigned := 2 ^ n }.setParent n 0xFF).bump
  (d.setMesh { m with map := map, storedEpoch := m.epoch, idents := m.idents.filter fun x => x.2 ≠ n }).raise Reg.MESH_EVENT 8

/-! ### Routing (R296, R297) -/

/-- Candidate parents: usable neighbours at depth at most 7, in the map where one is held, that are not descendants. -/
def Dev.meshCandidates (d : Dev) : List Nat :=
  let m := d.mesh
  (List.range 64).filter fun n => n ≠ m.node && m.usable (d.fld Reg.MESH_ROUTE_CFG 23 16) n && (m.map.coord = none || m.map.used n) && m.map.depth n ≤ 7 && !(m.node < 64 && m.map.below m.node n) && (m.nbr n).cost ≠ 255

/-- The path cost through a neighbour (R296). -/
def Mesh.costVia (m : Mesh) (n : Nat) : Nat := min 254 ((m.nbr n).cost + m.linkCost n)

/-- The cheapest candidate; ties to the lower id. -/
def Dev.meshBest (d : Dev) : Option Nat := (sortBy d.mesh.costVia d.meshCandidates).head?

/-- The parent in the current map, where messages climb (R297). -/
def Mesh.up (m : Mesh) : Option Nat := if m.map.used m.node && m.map.parentOf m.node < 64 then some (m.map.parentOf m.node) else none

/-- The next hop of a message along the tree (R297): toward the child that holds the destination, else the parent; none at the destination. -/
def Mesh.nextHop (m : Mesh) (dst : Nat) : Option Nat :=
  if dst = m.node then none
  else if m.map.below m.node dst then ((m.map.path 64 dst).filter fun x => m.map.parentOf x = m.node).head?
  else m.up

/-- The next hop of `a` toward `dst` by the map alone. -/
def MeshMap.hopOf (m : MeshMap) (a dst : Nat) : Nat :=
  if m.below a dst then (((m.path 64 dst).filter fun x => m.parentOf x = a).head?).getD a else m.parentOf a

/-! ### Messages -/

/-- The bytes of a message (R298). -/
def MeshMsg.bytes (x : MeshMsg) : Bytes := [byte x.typ, byte x.flags, byte x.src, byte x.dst] ++ leN x.seq 2 ++ leN x.payload.length 2 ++ [byte x.hops, 0, 0, 0] ++ x.payload

/-- The precedence of a type (R299). -/
def meshPrec (t : Nat) : Nat :=
  match t with
  | 6 => 1
  | 7 => 2
  | 8 => 3
  | 9 => 3
  | 4 => 4
  | 5 => 4
  | 2 => 5
  | 3 => 6
  | _ => 7

/-- Queue a message of the node's own; false where 32 are queued already (R301). -/
def Mesh.originate (m : Mesh) (typ flags dst : Nat) (payload : Bytes) : Mesh × Bool :=
  if 32 ≤ m.own.length + m.ownSent.length then (m, false)
  else
    let seq := (m.nextSeq + 1) % 65536
    ({ m with nextSeq := seq, own := m.own ++ [{ typ := typ, flags := flags, src := m.node, dst := dst, seq := seq, hops := 16, payload := payload, epoch := m.epoch, up := true }] }, true)

/-- Send a record to the event sink (R304): 32 bytes an outlet event, 64 a transaction record. -/
def Dev.meshForward (d : Dev) (rec : Bytes) : Dev :=
  let m := d.mesh
  if m.st = .off || !d.rbit Reg.MESH_CFG 8 || m.node = d.fld Reg.MESH_SINK 5 0 then d
  else
    let (m', ok) := m.originate 3 0 (d.fld Reg.MESH_SINK 5 0) ([if rec.length = 32 then 1 else 2, 0, 0, 0] ++ rec)
    if ok then d.setMesh m' else d.inc Reg.MESH_EVENT_DROP_CNT

/-- The 16-byte frame header (R287). -/
def Mesh.header (m : Mesh) (slot flags : Nat) : Bytes :=
  leN m.epoch 4 ++ leN m.period 4 ++ leN m.map.version 2 ++ [byte m.node, byte slot, byte (if m.st = .coordinator then 0xFF else m.parent), byte m.pathCost, byte m.missed, byte flags]

/-- The MAP message that a node owes for a newer map, where the map lists it as a parent (R289); it takes the node's next sequence number and is no part of the queue. -/
def Mesh.mapMsg (m : Mesh) : Option MeshMsg :=
  if m.sendMap && m.map.relay m.node then
    some { typ := 7, flags := 0, src := m.node, dst := 0xFF, seq := (m.nextSeq + 1) % 65536, hops := 16, payload := m.map.bytes, epoch := m.epoch, up := false }
  else none

/-- Whether the node can send on LANE_32: the lane is enabled, its key is the network's (R284), and a transmit context is free (R260). -/
def Dev.meshCan (d : Dev) : Bool := d.laneActive 32 && !d.passive && d.meshKeyOk && d.txRoom

/-- Pips since the period began. -/
def Dev.meshOffset (d : Dev) : Nat := d.osc - d.mesh.periodAt

/-- The messages that wait, in the order in which a frame is filled (R299): precedence, then forwarded before own, then queue order; own ones, and a MAP that is owed, are marked. -/
def Mesh.ordered (m : Mesh) : List (MeshMsg × Bool) :=
  sortBy (fun x => meshPrec x.1.typ * 2 + b2n x.2) (m.transit.map (fun x => (x, false)) ++ (m.mapMsg.toList ++ m.own).map fun x => (x, true))

/-- Where a message goes next: 0xFF for a MAP and for a flood below this node. -/
def Mesh.hopFor (m : Mesh) (x : MeshMsg) : Option Nat :=
  if x.dst = 0xFF then (if x.typ = 7 || m.st = .coordinator || !x.up then some 0xFF else m.up) else m.nextHop x.dst

/-- Fill a frame with whole messages for one next hop, up to 504 bytes; a MAP goes in any frame, since every child hears it. -/
def fillFrame (hop : Nat) (m : Mesh) : List (MeshMsg × Bool) → Nat → List (MeshMsg × Bool)
  | [], _ => []
  | x :: l, room =>
    if m.hopFor x.1 ≠ some hop && x.1.typ ≠ 7 then fillFrame hop m l room
    else if room < 12 + x.1.payload.length then []
    else x :: fillFrame hop m l (room - (12 + x.1.payload.length))

/-- Whether slot `s` is the node's to send in now (R285, R289, R291, R309): it owns the slot, which runs from pip 6 + 3s to pip 8 + 3s of the period and holds one frame, and it may send. -/
def Dev.slotOpen (d : Dev) (s : Nat) : Bool :=
  let m := d.mesh
  m.joined && m.map.owners.getD s 0xFF = m.node && m.hold.isNone && m.map.used m.node && !m.slotsSent.contains s
    && m.periodAt ≤ d.osc && 6 + 3 * s ≤ d.meshOffset && d.meshOffset ≤ 8 + 3 * s && d.meshCan

/-- MESH_TRANSMIT_OPPORTUNITY in an owned slot (R289, R292, R298 to R300): the unacknowledged frame again, or a new one, whose next hop its first message gives. -/
def Dev.meshSlot (d : Dev) (s : Nat) : Dev :=
  if !d.slotOpen s then d
  else if d.mesh.leaving then
    ((d.setMesh { d.mesh.stop with lastFrame := d.mesh.header s 2 }).inc Reg.MESH_TX_FRAMES).laneSend 32 .mesh
  else
    let m := { d.mesh with slotsSent := s :: d.mesh.slotsSent }
    let d := (d.inc Reg.MESH_TX_FRAMES).laneSend 32 .mesh
    let retx := fun (m : Mesh) (hop : Nat) (again : Bool) => if hop < 64 then { m with nbrs := tset MeshNbr.none m.nbrs hop { m.nbr hop with tx := (again :: (m.nbr hop).tx).take 64 } } else m
    match m.flight with
    | some f =>
      let m := retx { m with lastFrame := m.header s 0 ++ f.msgs.flatMap fun x => x.1.bytes } f.hop true
      ((d.setMesh m).inc Reg.MESH_RETX_CNT).inc (Reg.LANE_TX_RETRY 32)
    | none =>
      match (m.ordered.filterMap fun x => m.hopFor x.1).head? with
      | none => d.setMesh { m with lastFrame := m.header s 0 }
      | some hop =>
        let l := fillFrame hop m m.ordered 504
        let gone := fun (x : MeshMsg) (own : Bool) => l.contains (x, own)
        let map := l.find? fun x => x.1.typ = 7
        let m := { m with nextSeq := (map.map (·.1.seq)).getD m.nextSeq, sendMap := m.sendMap && map.isNone, own := m.own.filter (fun x => !gone x true), transit := m.transit.filter (fun x => !gone x false), flight := some { msgs := l, hop := hop, tries := 0 },
                          lastFrame := m.header s 0 ++ l.flatMap fun x => x.1.bytes }
        d.setMesh (retx m hop false)

/-- MESH_TRANSMIT_OPPORTUNITY in the contention region (R290): the JOIN_REQ in the period chosen. -/
def Dev.meshContention (d : Dev) : Dev :=
  let m := d.mesh
  if m.st = .joining && m.joinAt = m.count && m.joinSent ≠ m.count && m.hold.isNone && m.periodAt ≤ d.osc && 198 ≤ d.meshOffset && d.meshOffset ≤ 199 && d.meshCan then
    let req := d.meshIdent ++ [byte m.joinParent, byte (d.fld Reg.MESH_CFG 1 0)]
    (d.setMesh { m with joinSent := m.count, joinTries := m.joinTries + 1, lastFrame := m.header 0xFE 0 ++ req }).laneSend 32 .mesh
  else d

/-- MESH_SACK_RX (R300): a positive SACK ends the frame; a missing or negative one resends it up to retry_max times. -/
def Dev.meshSack (d : Dev) (positive : Bool) : Dev :=
  let m := d.mesh
  match m.flight with
  | none => d
  | some f =>
    if positive then d.setMesh { m with flight := none }
    else if f.tries < d.fld Reg.MESH_CFG 18 16 then d.setMesh { m with flight := some { f with tries := f.tries + 1 } }
    else (d.setMesh { m with flight := none }).incBy Reg.MESH_DROP_RETRY_CNT f.msgs.length

/-! ### Periods, scanning, joining -/

/-- The beacon of the coordinator (R288). -/
def Dev.meshBeacon (d : Dev) : Bytes :=
  let m := d.mesh
  m.header 0xFF 1 ++ leN (d.rn Reg.MESH_NETWORK_ID) 4 ++ padTo 6 d.meshIdent ++ [0, 0] ++ leN d.pip 8 ++ m.map.bytes

/-- MESH_PERIOD_START (R285, R286): 200 pips after the last, the period number rises; leavers are freed (R294); the coordinator sends its beacon; a commanded rescan starts (MESH_RESCAN). A member's period goes on from the start that its reference dated. -/
def Dev.meshPeriodStart (d : Dev) : Dev :=
  let m := d.mesh
  if m.st = .off then d
  else if d.osc < m.periodAt + 200 && m.count ≠ 0 then d
  else
    let at_ := if m.st = .coordinator || m.count = 0 then d.osc else m.periodAt + 200
    let m := { m with period := (m.period + 1) % 2 ^ 32, count := m.count + 1, periodAt := at_, slotsSent := [], ended := false }
    if m.st = .coordinator then
      let map := if m.leavers = [] then m.map else (m.leavers.foldl (fun (x : MeshMap) n => x.setParent n 0xFF) m.map).bump
      let m := { m with map := map, leavers := [], idents := m.idents.filter fun x => !m.leavers.contains x.2 }
      let d := d.setMesh m
      if d.meshCan then (d.setMesh { m with lastFrame := d.meshBeacon }).laneSend 32 .mesh else d
    else if m.rescan && m.st = .member then d.setMesh { m with rescan := false }.scan
    else d.setMesh m

/-- Step 2 and 3 of R290: choose a parent and the period of the JOIN_REQ, 1 to 8 periods ahead at random. -/
def Dev.meshChoose (d : Dev) : Dev :=
  match d.meshBest with
  | some p => (d.setMesh { d.mesh with st := .joining, joinParent := p, joinAt := d.mesh.count + 1 + Config.freeNat d.fresh % 8, joinSent := 0 }).draw 1
  | none => d.setMesh d.mesh.scanAgain

/-- MESH_SCAN_END (R284, R290, R308): a module without the network's key does not join; after scan periods a role-1 module leads unless it heard its network at its stored epoch or above, whatever lower epoch it heard of; any other module chooses a parent. -/
def Dev.meshScanEnd (d : Dev) : Dev :=
  let m := d.mesh
  if m.st ≠ .scanning || m.count < m.scanFrom + d.fld Reg.MESH_JOIN_CFG 5 0 || m.count < m.waitTill || (m.hold.isSome && !(d.meshRole = 1 && !m.heardNet)) || !d.meshKeyOk then d
  else if d.meshRole = 1 then
    if m.heardNet then { d with mesh := { m with backup := true } }.meshChoose
    else d.setMesh (m.lead 0 (m.storedEpoch + 1) d.meshIdent MeshMap.empty)
  else d.meshChoose

/-- MESH_BACKUP_PROMOTION (R307): the old coordinator leaves the map and its bit is set; a module that never held an id takes the lowest free one. -/
def Dev.meshPromote (d : Dev) : Dev :=
  let m := d.mesh
  if m.st = .scanning && d.meshRole = 2 && d.meshKeyOk && m.quietFrom + d.fld Reg.MESH_JOIN_CFG 5 0 + 4 * d.meshRank ≤ m.count then
    let old := m.map.coord
    let map := match old with
      | some c => { m.map with reassigned := 2 ^ c }.setParent c 0xFF
      | none => { m.map with reassigned := 0 }
    let node := if m.node < 64 then m.node else ((List.range 64).find? fun n => !map.used n).getD 0
    ((d.setMesh (m.lead node (m.epoch + 1) d.meshIdent map)).inc Reg.MESH_PROMOTE_CNT).raise Reg.MESH_EVENT 24
  else d

/-- The id for an identity: the one listed, else the lowest free one. -/
def Mesh.idFor (m : Mesh) (ident : Bytes) : Option Nat :=
  match m.idents.find? fun x => x.1 = ident with
  | some x => some x.2
  | none => (List.range 64).find? fun n => !m.map.used n

/-- The coordinator's answer to a JOIN_REQ (R290 step 5): the id listed for the identity, else the lowest free one, else a refusal (0xFF). A parent that the map does not list, or that would put a node below depth 8 (R297), gets no answer. -/
def Dev.meshJoinReq (d : Dev) (ident : Bytes) (parent : Nat) : Dev :=
  let m := d.mesh
  if m.st ≠ .coordinator || !d.meshKeyOk then d
  else
    let id := m.idFor ident
    if !(m.map.used parent && (id.all fun n => (m.map.setParent n parent).shallow)) then d else
    let m := match id with
      | some n => { m with idents := (ident, n) :: m.idents.filter (fun x => x.2 ≠ n), map := if m.map.parentOf n = parent then m.map else (m.map.setParent n parent).bump,
                           nbrs := tset MeshNbr.none m.nbrs n { m.nbr n with heard := m.count } }
      | none => m
    d.setMesh (m.originate 9 0 0xFF (padTo 6 ident ++ [byte (id.getD 0xFF), 0] ++ leN m.epoch 4)).1

/-- A JOIN_ACK that carries this module's identity (R290 step 6). -/
def Dev.meshJoinAck (d : Dev) (ident : Bytes) (id epoch : Nat) : Dev :=
  let m := d.mesh
  if m.st ≠ .joining || padTo 6 ident ≠ padTo 6 d.meshIdent || !d.meshKeyOk then d
  else if 64 ≤ id then d.setMesh { m.scan with waitTill := m.count + 80, scanFrom := m.count + 80 }
  else
    let m := (m.setEpoch epoch).renumber id
    d.setMesh { m with st := .member, parent := m.joinParent, pathCost := m.costVia m.joinParent, missed := 0, lastChange := m.count }

/-- MESH_JOIN_TIMEOUT (R290): no JOIN_ACK within 16 periods of the one in which the request was sent. A try whose chosen period brought no transmission counts from that period and as a try (DESIGN CHOICE, log entry 82). -/
def Dev.meshJoinTimeout (d : Dev) : Dev :=
  let m := d.mesh
  let unsent := m.joinSent = 0
  let tries := m.joinTries + b2n unsent
  if m.st = .joining && (if unsent then m.joinAt else m.joinSent) + 16 ≤ m.count then
    if tries ≤ 4 then (d.setMesh { m with joinAt := m.count + 1 + Config.freeNat d.fresh % 8, joinSent := 0, joinTries := tries }).draw 1
    else d.setMesh m.scan
  else d

/-- MESH_NODE_TIMEOUT (R293). -/
def Dev.meshNodeTimeout (d : Dev) (n : Nat) : Dev :=
  let m := d.mesh
  if m.st = .coordinator && m.map.used n && n ≠ m.node && (m.nbr n).heard + d.fld Reg.MESH_NODE_TIMEOUT 7 0 ≤ m.count then d.meshRemove n else d

/-- What the end of a member's period does (R296, R306). -/
def Dev.meshEndWork (d : Dev) : Dev :=
  let m := d.mesh
  if m.st ≠ .member then d
  else
    let missed := match m.refAge with
      | some a => min a 3
      | none => m.missed + 1
    let d := if m.refAge.isNone then d.inc Reg.MESH_BEACON_MISS_CNT else d
    let m := { m with missed := missed, refAge := none }
    if 3 ≤ missed then ((d.setMesh m.scan).inc Reg.MESH_RESCAN_CNT).raise Reg.MESH_EVENT 4
    else
      let d := { d with mesh := { m with pathCost := m.costVia m.parent } }
      let m := d.mesh
      let removed := !m.map.used m.parent
      match d.meshBest with
      | some p =>
        if p ≠ m.parent && (removed || (m.costVia p + d.fld Reg.MESH_ROUTE_CFG 7 0 ≤ m.pathCost && m.lastChange + d.fld Reg.MESH_ROUTE_CFG 15 8 ≤ m.count)) then
          d.setMesh { m with parent := p, pathCost := m.costVia p, lastChange := m.count }
        else d.setMesh m
      | none => d.setMesh m

/-- MESH_PERIOD_END: at the end of the 200 pips, once in a period (R296, R306). -/
def Dev.meshPeriodEnd (d : Dev) : Dev :=
  if d.mesh.ended || d.osc < d.mesh.periodAt + 199 then d else { d with mesh := { d.mesh with ended := true } }.meshEndWork

/-- A member whose parent the map no longer lists chooses another at once, without the hold (R296). -/
def Dev.meshReparent (d : Dev) : Dev :=
  let m := d.mesh
  if m.st ≠ .member || m.map.used m.parent then d
  else match d.meshBest with
    | some p => d.setMesh { m with parent := p, pathCost := m.costVia p, lastChange := m.count }
    | none => d

/-! ### Reception -/

/-- Note a frame of a neighbour: SNR, cost, period heard. -/
def Mesh.note (m : Mesh) (h : Bytes) (snr : Nat) : Mesh :=
  let n := num h 10 1
  if 64 ≤ n then m
  else
    let b := m.nbr n
    { m with nbrs := tset MeshNbr.none m.nbrs n { b with snrs := (m.count, snr) :: b.snrs.filter (fun x => m.count < x.1 + 8), cost := num h 13 1, heard := m.count } }

/-- What a frame's header does before its content is read (R306, R308 to R310): none where the frame is discarded. -/
def Dev.meshHeader (d : Dev) (h : Bytes) (snr : Nat) (beaconIdent : Option Bytes) : Option Dev :=
  let m := d.mesh
  let e := num h 0 4
  if m.st = .off then none
  else if e < m.epoch then none
  else
    let m := (m.note h snr)
    let m := if m.st = .scanning then { m with heardNet := m.heardNet || decide (m.storedEpoch ≤ e), quietFrom := m.count } else m
    let lower := match beaconIdent with
      | some i => e = m.epoch && beNat (padTo 6 i) < beNat (padTo 6 d.meshIdent)
      | none => false
    if m.st = .coordinator && (m.epoch < e || lower) then
      some (d.setMesh { m with st := .member, backup := true, hold := some e, parent := 0xFF, pathCost := 254 })
    else if m.epoch < e then some (d.setMesh { m with hold := some (max e (m.hold.getD 0)) })
    else some (d.setMesh m)

/-- Where in the period a frame is sent, by its slot field: the beacon region at its start, slot s at pip 6 + 3s, the contention region at pip 198 (R285). -/
def slotAt (s : Nat) : Nat := if s < 64 then 6 + 3 * s else if s = 0xFE then 198 else 0

/-- Whether a frame is of the node's reference, which is a member's parent, or of the parent that a joining module has chosen (R286): at depth 1 the coordinator's beacons and slot frames both serve, at greater depth the parent's slot frames. -/
def Mesh.fromRef (m : Mesh) (h : Bytes) : Bool := (m.st = .member && num h 10 1 = m.parent) || (m.st = .joining && num h 10 1 = m.joinParent)

/-- A frame of the reference dates the period's start (R286). -/
def Mesh.dated (m : Mesh) (h : Bytes) (osc : Nat) : Mesh := { m with period := num h 4 4, periodAt := osc - slotAt (num h 11 1) }

/-- A frame of its reference was received in this period: the age it gives becomes the missed-period count at the period's end, and a coordinator frame's age is 0 (R306). -/
def Mesh.aged (m : Mesh) (h : Bytes) : Mesh :=
  if m.st = .member && num h 10 1 = m.parent then { m with refAge := some (if m.map.parentOf (num h 10 1) = 0xFE then 0 else num h 14 1) } else m

/-- A frame of the reference that dates a period half a period or more after the current one's start opens a new period before the node's own clock does: the old period ends first, and the frame dates the new one whatever parent that end has left. -/
def Dev.meshRefer (d : Dev) (h : Bytes) : Dev :=
  let m := d.mesh
  if !m.fromRef h then d
  else if m.periodAt + 100 ≤ d.osc - slotAt (num h 11 1) then
    let d := if m.ended then d else d.meshEndWork
    d.setMesh (({ d.mesh with count := m.count + 1, slotsSent := [], ended := false }.dated h d.osc).aged h)
  else d.setMesh ((m.dated h d.osc).aged h)

/-- A newer map is held (R289, R309): a node that waited for a higher epoch's map resumes in its slots if that epoch is one higher and its bit is clear, and rejoins otherwise: one that scans goes on scanning in the new epoch. A node that resumes from a scan
takes the parent that the map gives it, and one whose parent is gone chooses at once (R296). -/
def Dev.meshTakeMap (d : Dev) (map : MeshMap) (epoch : Nat) : Dev :=
  let m := d.mesh
  match m.hold with
  | some e =>
    if epoch < e then d
    else if epoch = m.epoch + 1 && m.node < 64 && !map.reassigned.testBit m.node then
      let p := if m.st = .member && m.parent < 64 then m.parent else map.parentOf m.node
      (d.setMesh { m.setEpoch epoch with st := .member, map := map, hold := none, parent := p, pathCost := m.costVia p, missed := 0, sendMap := map.relay m.node }).meshReparent
    else if m.st = .scanning then d.setMesh { m.setEpoch epoch with map := map, hold := none, node := 0xFF }
    else d.setMesh { (m.setEpoch epoch).scan with map := map, node := 0xFF }
  | none =>
    let newer := 0 < (map.version + 65536 - m.map.version) % 65536 && (map.version + 65536 - m.map.version) % 65536 < 32768
    if m.st = .coordinator then d
    else if newer || m.map.coord = none then (d.setMesh { m with map := map, sendMap := m.st = .member && map.relay m.node }).meshReparent else d

/-- MESH_BEACON_RX (R286, R288, R306, R309, R310): the 172 bytes of a beacon and the SNR it was received with. -/
def Dev.meshBeaconRx (d : Dev) (b : Bytes) (snr : Nat) : Dev :=
  if b.length ≠ 172 || d.mesh.st = .off || num b 16 4 ≠ d.rn Reg.MESH_NETWORK_ID || !d.meshKeyOk || !d.laneActive 32 then d
  else if num b 0 4 < d.mesh.epoch then (d.inc Reg.MESH_STALE_CNT).raise Reg.MESH_EVENT 1
  else
    let ident := (b.drop 20).take 6
    match d.meshHeader b snr (some ident) with
    | none => d
    | some d =>
      (d.meshTakeMap (meshMapOf (b.drop 36) (num b 8 2) ident) (num b 0 4)).meshRefer b

/-- Read the messages of a slot frame. -/
def meshMsgs (epoch : Nat) : Nat → Bytes → List MeshMsg
  | 0, _ => []
  | f + 1, b =>
    if b.length < 12 then []
    else
      let len := num b 6 2
      if b.length < 12 + len then []
      else { typ := num b 0 1, flags := num b 1 1, src := num b 2 1, dst := num b 3 1, seq := num b 4 2, hops := num b 8 1, payload := (b.drop 12).take len, epoch := epoch, up := false }
        :: meshMsgs epoch f (b.drop (12 + len))

/-- Place a message in the receive ring (R303), with the ACK that an answer request asks for. -/
def Dev.meshPlace (d : Dev) (x : MeshMsg) : Dev :=
  let m := d.mesh
  if 128 ≤ m.rx.length then (d.inc Reg.MESH_RX_DROP_CNT).raise Reg.MESH_EVENT 2
  else
    let m := { m with rx := m.rx ++ [{ typ := x.typ, src := x.src, seq := x.seq, pip := d.pip, payload := x.payload }] }
    d.setMesh (if x.flags % 2 = 1 then (m.originate 5 0 x.src (leN x.seq 2 ++ [0, 0])).1 else m)

/-- A RESULT of an action (R299, R305). -/
def Dev.meshResult (d : Dev) (dst seq st : Nat) : Dev := d.setMesh (d.mesh.originate 4 0 dst (leN seq 2 ++ [byte st, 0] ++ leN d.pip 8)).1

/-- An ACTION arrives (R305): refused, or kept for its instant. -/
def Dev.meshAction (d : Dev) (x : MeshMsg) : Dev :=
  let m := d.mesh
  let p := x.payload
  let a : MeshAct := { src := x.src, seq := x.seq, action := num p 0 1, outlet := num p 1 1, arg := num p 2 1, period := num p 4 4, offset := num p 8 1, answer := x.flags % 2 = 1 }
  let allowed := d.rbit Reg.MESH_CFG 9 && (if x.src < 32 then d.rbit Reg.MESH_ACTION_SRC_LO x.src else d.rbit Reg.MESH_ACTION_SRC_HI (x.src - 32))
  let passed := a.period ≠ 0 && (a.period < m.period || (a.period = m.period && a.offset + m.periodAt < d.osc))
  if !allowed then (if a.answer then d.meshResult x.src x.seq St.denied else d)
  else if passed then (if a.answer then d.meshResult x.src x.seq St.badParam else d)
  else { d with mesh := { m with actions := m.actions ++ [a] } }

/-- Deliver a message at its destination (R299, R303). `safe` takes a Stone frame. -/
def Dev.meshDeliver (d : Dev) (safe : Dev → Bytes → Dev) (x : MeshMsg) : Dev :=
  match x.typ with
  | 1 => d.meshPlace x
  | 3 => d.meshPlace x
  | 4 => d.meshPlace x
  | 5 => d.meshPlace x
  | 2 => d.meshAction x
  | 6 => safe d x.payload
  | 8 => d.meshJoinReq (x.payload.take 6) (num x.payload 6 1)
  | 9 => d.meshJoinAck (x.payload.take 6) (num x.payload 6 1) (num x.payload 8 4)
  | _ => d

/-- A node's messages to itself have no way to go along the tree (R297): they are delivered when its slot comes (DESIGN CHOICE, log entry 82). -/
def Dev.meshLocal (d : Dev) (safe : Dev → Bytes → Dev) : Dev :=
  let home := fun x : MeshMsg => x.dst = d.mesh.node
  (d.mesh.own.filter fun x => home x).foldl (fun (d : Dev) x => d.meshDeliver safe x) (d.setMesh { d.mesh with own := d.mesh.own.filter fun x => !home x })

/-- Keep a message for forwarding (R298, R301). -/
def Dev.meshRelay (d : Dev) (x : MeshMsg) : Dev :=
  if x.hops ≤ 1 then d
  else if 64 ≤ d.mesh.transit.length + ((d.mesh.flight.map fun f => (f.msgs.filter fun m => !m.2).length).getD 0) then d.inc Reg.MESH_FWD_DROP_CNT
  else d.setMesh { d.mesh with transit := d.mesh.transit ++ [{ x with hops := x.hops - 1 }] }

/-- A node's message shows the coordinator that the node has sent a frame (R293; DESIGN CHOICE, log entry 82). -/
def Mesh.heardOf (m : Mesh) (src : Nat) : Mesh :=
  if m.st = .coordinator && src < 64 then { m with nbrs := tset MeshNbr.none m.nbrs src { m.nbr src with heard := m.count } } else m

/-- Whether a message to all nodes is on its way up to the coordinator when `sender` sends it: the hops it has left then exceed what the flood down to `sender` would have left (R297, R298; DEDUCED, log entry 82). -/
def Mesh.climbing (m : Mesh) (sender : Nat) (x : MeshMsg) : Bool := x.dst = 0xFF && 16 < x.hops + m.map.depth x.src + m.map.depth sender

/-- Note a message in the last 32 of its source. -/
def noteSeen (t : Tab (List (Nat × Nat))) (x : MeshMsg) : Tab (List (Nat × Nat)) := tset [] t x.src (((x.epoch, x.seq) :: tget [] t x.src).take 32)

/-- Whether a message that `sender` sends comes this way along the tree (R297): a MAP always, a flood from the parent, any other from a node whose next hop along the tree this one is. -/
def Mesh.comesHere (m : Mesh) (sender : Nat) (x : MeshMsg) : Bool :=
  if x.typ = 7 then true
  else if x.dst = 0xFF && !m.climbing sender x then sender = m.parent || m.up = some sender
  else m.map.hopOf sender x.dst = m.node

/-- Handle one message of a slot frame from `sender` (R297, R302, R303): what is not for this node leaves no trace. -/
def Dev.meshMessage (d : Dev) (safe : Dev → Bytes → Dev) (sender version : Nat) (x : MeshMsg) : Dev :=
  let m := d.mesh
  let climbing := m.climbing sender x && m.st ≠ .coordinator
  let seen := tget [] (if climbing then m.climbed else m.seen) x.src
  if m.st = .joining || m.st = .scanning then
    (if x.typ = 9 then d.meshDeliver safe x else if x.typ = 7 then d.meshTakeMap (meshMapOf x.payload version m.map.ident) x.epoch else d)
  else if !m.comesHere sender x then d
  else if seen.contains (x.epoch, x.seq) then d.inc Reg.MESH_DUP_CNT
  else
    let d := { d with mesh := if climbing then { m with climbed := noteSeen m.climbed x } else { m.heardOf x.src with seen := noteSeen m.seen x } }
    if x.typ = 7 then d.meshTakeMap (meshMapOf x.payload version m.map.ident) x.epoch
    else if x.dst = 0xFF then
      if climbing then d.meshRelay { x with up := true }
      else
        let d := d.meshDeliver safe x
        let mine := x.typ = 9 && m.asked.contains (x.payload.take 6)
        let d := if mine then { d with mesh := { d.mesh with asked := d.mesh.asked.filter (· ≠ x.payload.take 6) } } else d
        if mine || m.map.relay m.node then d.meshRelay x else d
    else if x.dst = m.node then d.meshDeliver safe x
    else d.meshRelay x

/-- A JOIN_REQ frame of the contention region (R290 steps 3 to 5): the coordinator that it names as parent answers it, any other parent it names forwards it toward the coordinator in its own slot. -/
def Dev.meshJoinFrame (d : Dev) (req : Bytes) : Dev :=
  if req.length ≠ 8 || num req 6 1 ≠ d.mesh.node then d
  else match d.mesh.st with
    | .coordinator => d.meshJoinReq (req.take 6) (num req 6 1)
    | .member => d.setMesh ({ d.mesh with asked := req.take 6 :: d.mesh.asked.filter (· ≠ req.take 6) }.originate 8 0 (d.mesh.map.coord.getD 0) req).1
    | .off | .scanning | .joining => d

/-- MESH_SLOT_FRAME_RX (R289, R294, R300, R302, R306, R309, R310): a slot frame's bytes, its SNR, whether its block passed. -/
def Dev.meshSlotRx (d : Dev) (safe : Dev → Bytes → Dev) (b : Bytes) (snr : Nat) (ok : Bool) : Dev :=
  if b.length < 16 || d.mesh.st = .off || !d.meshKeyOk || !d.laneActive 32 then d
  else if !ok then { d with mesh := { d.mesh with lastSack := some false } }
  else if num b 0 4 < d.mesh.epoch then (d.inc Reg.MESH_STALE_CNT).raise Reg.MESH_EVENT 1
  else
    match d.meshHeader b snr none with
    | none => d
    | some d =>
      let n := num b 10 1
      let d := d.meshRefer b
      let m := { d.mesh with lastSack := some true }
      let leaving := (num b 15 1).testBit 1
      let m := if m.st = .coordinator && leaving then { m with leavers := m.leavers ++ [n] }
        else if m.st = .coordinator && m.map.used n && n ≠ m.node && m.map.parentOf n ≠ num b 12 1 && m.map.used (num b 12 1) && (m.map.setParent n (num b 12 1)).shallow then { m with map := (m.map.setParent n (num b 12 1)).bump }
        else m
      let d := d.setMesh m
      if d.mesh.hold.isSome && d.mesh.hold ≠ some (num b 0 4) then d
      else if num b 11 1 = 0xFE then d.meshJoinFrame (b.drop 16)
      else (meshMsgs (num b 0 4) 64 (b.drop 16)).foldl (fun (d : Dev) x => d.meshMessage safe n (num b 8 2) x) d

/-! ### Opcodes of the 0x0Cxx family -/

/-- MESH_STATUS_GET (0x0C00). -/
def opMeshStatus (d : Dev) (c : Cmd) : Dev × Ans :=
  check d [(c.payload ≠ [], St.badLength)]
    (d, .done St.ok (d.regBytes [Reg.MESH_STATUS, Reg.MESH_EPOCH, Reg.MESH_PERIOD, Reg.MESH_NODES, Reg.MESH_PATH_COST, Reg.MESH_MAP_VERSION]))

/-- MESH_NODE_TABLE (0x0C01). -/
def opMeshTable (d : Dev) (c : Cmd) : Dev × Ans :=
  let m := d.mesh
  check d [(c.payload ≠ [], St.badLength), (m.st = .off || m.st = .scanning, St.f0)]
    (d, .done St.ok ((List.range 64).flatMap fun n =>
      [byte (m.map.parentOf n), byte (if m.map.used n then m.map.depth n else 0), byte (m.linkCost n), byte (m.snrShown n d.fresh), byte (m.map.owners.filter (· = n)).length, 0, 0, 0]))

/-- MESH_SEND (0x0C02). -/
def opMeshSend (d : Dev) (c : Cmd) : Dev × Ans :=
  let p := c.payload
  let typ := num p 0 1
  let dst := num p 1 1
  let data := p.drop 4
  let lenBad := p.length < 4 || (if typ = 2 then data.length ≠ 12 else data.length < 1 || 480 < data.length)
  let zeroBad := num p 3 1 ≠ 0 || (typ = 2 && (num data 3 1 ≠ 0 || num data 9 3 ≠ 0))
  let rangeBad := typ = 0 || 2 < typ || 1 < num p 2 1 || (63 < dst && (dst ≠ 0xFF || typ ≠ 1))
    || (typ = 2 && (num data 0 1 = 0 || 2 < num data 0 1 || 31 < num data 1 1 || 1 < num data 2 1 || (num data 0 1 = 1 && num data 2 1 ≠ 0) || 199 < num data 8 1))
  check d [(lenBad, St.badLength), (zeroBad, St.badParam), (rangeBad, St.badParam), (!d.mesh.joined, St.f0), (dst ≠ 0xFF && !d.mesh.map.used dst, St.f3)] <|
    let (m, ok) := d.mesh.originate typ (num p 2 1) dst data
    if ok then (d.setMesh m, .done St.ok (leN m.nextSeq 2 ++ [0, 0])) else (d, .done St.f1 [])

/-- Entries of the receive ring that fit. -/
def takeRx : List MeshRx → Nat → Nat → List MeshRx
  | [], _, _ => []
  | x :: l, n, room => if n = 0 || room < 16 + x.payload.length then [] else x :: takeRx l (n - 1) (room - (16 + x.payload.length))

/-- MESH_RX_READ (0x0C03). -/
def opMeshRxRead (d : Dev) (c : Cmd) : Dev × Ans :=
  let n := num c.payload 0 1
  check d [(c.payload.length ≠ 4, St.badLength), (num c.payload 1 3 ≠ 0, St.badParam), (n = 0 || 8 < n, St.badParam)] <|
    let l := takeRx d.mesh.rx n 1020
    (d.setMesh { d.mesh with rx := d.mesh.rx.drop l.length },
      .done St.ok ([byte l.length, 0, 0, 0] ++ l.flatMap fun x => [byte x.typ, byte x.src] ++ leN x.payload.length 2 ++ leN x.seq 2 ++ [0, 0] ++ leN x.pip 8 ++ x.payload))

/-- MESH_RESCAN (0x0C04). -/
def opMeshRescan (d : Dev) (c : Cmd) : Dev × Ans :=
  check d [(c.payload ≠ [], St.badLength), (d.mesh.st = .coordinator, St.denied)] ({ d with mesh := { d.mesh with rescan := d.mesh.st = .member } }, .done St.ok [])

/-- MESH_EVICT (0x0C05). -/
def opMeshEvict (d : Dev) (c : Cmd) : Dev × Ans :=
  let n := num c.payload 0 1
  check d [(c.payload.length ≠ 4, St.badLength), (num c.payload 1 3 ≠ 0, St.badParam), (n = 0 || 63 < n, St.badParam), (d.mesh.st ≠ .coordinator, St.f2), (!d.mesh.map.used n, St.f3)] <|
    let d := d.meshRemove n
    (d, .done St.ok (leN d.mesh.epoch 4))

end Sys2Proof.Machine
end

