-- ==== Sys2Proof/Machine/Bill.lean ====
section
/-!
DEFINITION. BILL (07_tariffs_billing_credit.md): fleet accounts, prices and cost, transaction records and the opcodes that read and set them. Every Kernel value comes
from the KERN mirror (R240). What a token and a credit stop do to an outlet stands in Credit.lean.
-/
namespace Sys2Proof.Machine

/-- The account of a number, if it is defined. -/
def Dev.acct (d : Dev) (a : Nat) : Option Account := tget none d.bill.accounts a

/-- The available credit A of an account. -/
def Account.avail (a : Account) : Int := a.balance + a.limit

/-- Accounting of an outlet. -/
def Dev.bo (d : Dev) (n : Nat) : BillOut := tget BillOut.none d.bill.outs n

/-- Change the accounting of an outlet. -/
def Dev.setBo (d : Dev) (n : Nat) (f : BillOut → BillOut) : Dev := { d with bill := { d.bill with outs := tset BillOut.none d.bill.outs n (f (d.bo n)) } }

/-- The local second of the mirror's legal time (R245). -/
def Dev.localSec (d : Dev) : Int := d.mirror.tariff.localSec d.mirror.utc

/-- The local day of the mirror's legal time. -/
def Dev.localDay (d : Dev) : Int := d.localSec / 86400

/-- Whether friendly-hour window `w` is open (R245). -/
def Dev.windowOpen (d : Dev) (w : Nat) : Bool :=
  let r := Reg.BILL_FH_CFG w
  let start := d.fld r 21 11
  let stop := d.fld r 10 0
  let m := (d.localSec % 86400 / 60).toNat
  let on := fun day : Int => (d.fld r 30 24).testBit (weekday day)
  d.rbit r 31 &&
    (if start < stop then on d.localDay && decide (start ≤ m) && decide (m < stop)
     else (on d.localDay && decide (start ≤ m)) || (on (d.localDay - 1) && decide (m < stop)))

/-- Whether a window of a mask is open. -/
def Dev.friendly (d : Dev) (mask : Nat) : Bool := (List.range 8).any fun w => mask.testBit w && d.windowOpen w

/-- Whether fleet-account credit is in force (BILL_CTRL.credit_en). -/
def Dev.creditOn (d : Dev) : Bool := d.rbit Reg.BILL_CTRL 0

/-- Whether a grant to an identifier carrying account `a` passes R243. -/
def Dev.creditStart (d : Dev) (_n a : Nat) : Bool :=
  !d.creditOn ||
    match d.acct a with
    | some x => !x.blocked && (decide ((d.rn Reg.BILL_MIN_START : Int) ≤ x.avail) || d.friendly x.mask)
    | none => false

/-- Bind a grant's accounting to an outlet: class F with its account, or none. -/
def Dev.creditBind (d : Dev) (n a : Nat) : Dev :=
  let d := d.setBo n fun _ => { BillOut.none with cls := if a = 0xFFFF then 0 else 1, acct := a }
  d.wn (Reg.BILL_OUT_CLASS n) a

/-! ### Transaction records (R252) -/

/-- The 64 bytes of a transaction record. -/
def TxnRec.bytes (r : TxnRec) : Bytes :=
  leN r.seq 4 ++ leN r.pip 6 ++ [byte r.outlet, byte r.event] ++ leN r.session 8 ++ leN r.imp 8 ++ leN r.exp 8 ++ [byte r.tariff, byte r.src, byte r.reason, byte r.cls]
    ++ leN r.acct 2 ++ [0, 0] ++ leI r.balance 8 ++ leI r.cost 8 ++ leN r.ref 4

/-- Write a transaction record into the ring of 8,192, and forward it over the mesh where that is set (R304). -/
def Dev.txnPut (d : Dev) (r : TxnRec) : Dev :=
  let seq := d.rn Reg.BILL_TXN_HEAD + 1
  let r := { r with seq := seq, pip := d.pip }
  ({ d with bill := { d.bill with txns := (r :: d.bill.txns).take 8192 } }.wn Reg.BILL_TXN_HEAD seq).meshForward r.bytes

/-- Balance of the account (F) or session credit (W) of an outlet. -/
def Dev.billBalance (d : Dev) (n : Nat) : Int :=
  let b := d.bo n
  match b.cls with
  | 1 => ((d.acct b.acct).map (·.balance)).getD 0
  | 2 => b.credit
  | _ => 0

/-- A transaction record of an outlet's session. -/
def Dev.txn (d : Dev) (n event reason ref : Nat) : Dev :=
  let b := d.bo n
  let (oi, ox) := if n < 32 then d.mirror.outAcc n else (0, 0)
  d.txnPut { seq := 0, pip := 0, outlet := n, event := event, session := if b.active then b.session else if n < 32 then d.sessionId n else 0, imp := mwh oi, exp := mwh ox,
             tariff := d.mirror.tariffNow, src := if b.active then b.src else if n < 32 then (d.o n).authSrc else 0, reason := reason, cls := b.cls, acct := if b.cls = 1 then b.acct else 0xFFFF,
             balance := d.billBalance n, cost := b.cost, ref := ref }

/-! ### Account changes (R246, R247) -/

/-- An account after a change. -/
def AcctOp.apply (op : AcctOp) (old : Option Account) : Option Account :=
  match op, old with
  | .set b l m x, some a => some { a with balance := b, limit := l, mask := m, blocked := x }
  | .set b l m x, none => some { balance := b, limit := l, mask := m, blocked := x, refs := [] }
  | .delete, _ => none
  | .adjust dl r, some a => some { a with balance := a.balance + dl, refs := (r :: a.refs).take 64 }
  | .adjust _ _, none => none

/-- The reference in an account change's record. -/
def AcctOp.ref : AcctOp → Nat
  | .adjust _ r => r
  | .set _ _ _ _ => 0
  | .delete => 0

/-- An account as it will be when every waiting change has acted. -/
def Dev.acctSoon (d : Dev) (a : Nat) : Option Account := (d.bill.changes.filter (·.acct = a)).foldl (fun acc c => c.op.apply acc) (d.acct a)

/-- One change acts, with its ACCOUNT record. -/
def Dev.acctApply (d : Dev) (c : AcctChange) : Dev :=
  let new := c.op.apply (d.acct c.acct)
  let d := { d with bill := { d.bill with accounts := tset none d.bill.accounts c.acct new } }
  let d := d.wn Reg.BILL_ACCOUNT_COUNT d.bill.accounts.length
  d.txnPut { seq := 0, pip := 0, outlet := 0xFF, event := 6, session := 0, imp := 0, exp := 0, tariff := d.mirror.tariffNow, src := 0, reason := 0, cls := 1, acct := c.acct,
             balance := (new.map (·.balance)).getD 0, cost := 0, ref := c.op.ref }

/-- The account changes due at this latch, before its debit (R246). -/
def Dev.acctLatch (d : Dev) : Dev :=
  let due := d.bill.changes.filter (·.due ≤ d.pip)
  due.foldl (fun (d : Dev) c => d.acctApply c) { d with bill := { d.bill with changes := d.bill.changes.filter (fun c => d.pip < c.due) } }

/-! ### Cost and debit at a latch (R241, R251) -/

/-- Tariff registers in mWh, by tariff, of accumulators. -/
def mwhTab (t : Tab Nat) : Tab Nat := (List.range 16).foldl (fun r i => tset 0 r i (mwh (tget 0 t i))) []

/-- The tariff registers of an outlet's channel in mWh, by tariff, from the mirror. -/
def Dev.tariffRegs (d : Dev) (n : Nat) (exp : Bool) : Tab Nat := mwhTab (if exp then (d.mirror.ch n).tExp else (d.mirror.ch n).tImp)

/-- The import billing register of an outlet in mWh, from the mirror. -/
def Dev.outImport (d : Dev) (n : Nat) : Nat := mwh (d.mirror.outAcc n).1

/-- The cost of the advances to the registers `ti` and `tx` in 10⁻⁶ cu (R241). -/
def Dev.costOf (d : Dev) (n : Nat) (ti tx : Tab Nat) : Int :=
  let b := d.bo n
  isum ((List.range 16).map fun t =>
    (((tget 0 ti t : Nat) : Int) - (tget 0 b.lastImp t : Nat)) * d.rn (Reg.BILL_PRICE_IMP t) - (((tget 0 tx t : Nat) : Int) - (tget 0 b.lastExp t : Nat)) * d.rn (Reg.BILL_PRICE_EXP t))

/-- Show an outlet's credit and cost in its registers. -/
def Dev.billShow (d : Dev) (n : Nat) : Dev :=
  let b := d.bo n
  let v : Int := match b.cls with
    | 1 => ((d.acct b.acct).map (·.avail)).getD 0
    | 2 => b.credit
    | _ => 0
  let w := ofSigned 64 v
  ((d.wn (Reg.BILL_OUT_CREDIT_LO n) w).wn (Reg.BILL_OUT_CREDIT_HI n) (w / 2 ^ 32)).wi (Reg.BILL_OUT_COST n) (satSigned 32 b.cost)

/-- Debit an account by a cost in cu; a fall of A below BILL_WARN_LEVEL sets warn_level. -/
def Dev.debitAcct (d : Dev) (a : Nat) (c : Int) : Dev :=
  match d.acct a with
  | some x =>
    let y := { x with balance := x.balance - c }
    let d := { d with bill := { d.bill with accounts := tset none d.bill.accounts a (some y) } }
    let warn := (d.rn Reg.BILL_WARN_LEVEL : Int)
    if warn ≤ x.avail && decide (y.avail < warn) then d.raise Reg.BILL_EVENT 4 else d
  | none => d

/-- Charge an outlet's session up to the tariff registers `ti` and `tx` and the import register `imp` in mWh (R241, R251). -/
def Dev.billCharge (d : Dev) (n : Nat) (ti tx : Tab Nat) (imp : Nat) : Dev :=
  let b := d.bo n
  if !b.active then d
  else
    let tot := b.rem + d.costOf n ti tx
    let cu := tot / 1000000
    let credit := if b.cls = 2 then (match b.tokenCls with
      | 0 => b.credit - cu
      | 1 => b.credit - ((imp : Int) - b.lastReg)
      | _ => b.credit) else b.credit
    let d := d.setBo n fun b => { b with cost := b.cost + cu, rem := tot % 1000000, lastImp := ti, lastExp := tx, lastReg := imp, credit := credit }
    let d := if b.cls = 1 && d.creditOn then d.debitAcct b.acct cu else d
    d.billShow n

/-- BILL_COST_DEBIT of one outlet (R241, R251). -/
def Dev.billOutLatch (d : Dev) (n : Nat) : Dev := d.billCharge n (d.tariffRegs n false) (d.tariffRegs n true) (d.outImport n)

/-- Whether the credit of an outlet's session is exhausted after the latch's debit, also in its first pip of ENERGY, before the mirror shows its Kernel session (R244, R251). -/
def Dev.exhausted (d : Dev) (n : Nat) : Bool :=
  let b := d.bo n
  !b.stopped && d.ost n == .energy &&
    match b.cls with
    | 1 => d.creditOn && (match d.acct b.acct with
        | some x => decide (x.avail ≤ 0) && !d.friendly x.mask
        | none => false)
    | 2 => decide (b.credit ≤ 0)
    | _ => false

/-- The mirror shows a Kernel session of an outlet open: accounting starts from the registers at its open, with a START record. -/
def Dev.billOpen (d : Dev) (n : Nat) (x : KSession) : Dev :=
  let src := (d.o n).authSrc
  let d := d.setBo n fun b => { b with active := true, cost := 0, rem := 0, lastImp := mwhTab x.tImp0, lastExp := mwhTab x.tExp0, lastReg := x.imp0, session := x.id, src := src,
                                        meterAt := d.pip }
  (d.billShow n).txn n 1 0 0

/-- OUT_nn_STATE.reason of an outlet's session that ends (R252): the one it has ended with, or the one pending. -/
def Dev.stopReason (d : Dev) (n : Nat) : Nat := if (d.o n).endReason ≠ 0 then (d.o n).endReason else d.fld (Reg.OUT_STATE n) 31 24

/-- Whether the ring holds the STOP record of an outlet's session: written before a power failure, after the last save (R242, R252). -/
def Dev.stopWritten (d : Dev) (n : Nat) : Bool :=
  (d.bill.txns.takeWhile fun r => !(r.event = 1 && r.session = (d.bo n).session)).any fun r => r.event = 3 && r.session = (d.bo n).session

/-- The mirror shows a Kernel session of an outlet closed: the advance up to its close is debited, with a STOP record, one for each close, and accounting ends. -/
def Dev.billClose (d : Dev) (n : Nat) : Dev :=
  if !(d.bo n).active then d
  else
    let c := d.mirror.ch n
    let written := d.stopWritten n
    let d := d.billCharge n (mwhTab c.closeImp) (mwhTab c.closeExp) c.closeReg
    let d := if written then d else d.txn n 3 (d.stopReason n) 0
    (d.setBo n fun _ => BillOut.none).wn (Reg.BILL_OUT_CLASS n) 0xFFFF |>.billShow n

/-- What the mirror shows of an outlet's Kernel session, for BILL: one that has closed, then one that has opened (R241, R252). -/
def Dev.billSync (d : Dev) (n : Nat) : Dev :=
  let s := (d.mirror.ch n).session
  let d := if (d.bo n).active && !s.any (fun x => x.id = (d.bo n).session) then d.billClose n else d
  match s with
  | some x => if (d.bo n).active then d else d.billOpen n x
  | none => d

/-- The accounting of a session that ends without a Kernel session is dropped, with the credit it carried (R251). -/
def Dev.billDrop (d : Dev) (n : Nat) : Dev :=
  if (d.bo n).active then d else ((d.setBo n fun _ => BillOut.none).wn (Reg.BILL_OUT_CLASS n) 0xFFFF).billShow n

/-- BILL_METER_RECORD (R252). -/
def Dev.billMeter (d : Dev) (n : Nat) : Dev :=
  let iv := d.rn Reg.BILL_METER_INTERVAL
  if (d.bo n).active && iv ≠ 0 && (d.bo n).meterAt + iv ≤ d.pip then (d.setBo n fun b => { b with meterAt := d.pip }).txn n 2 0 0 else d

/-- BILL_STATE_SAVE (R242): balances, base registers and remainders to Shell flash. -/
def Dev.billSave (d : Dev) : Dev := { d with bill := { d.bill with flashAccounts := d.bill.accounts, flashOuts := d.bill.outs } }

/-- The accounting of a session that opened since the last save, from its START record in flash (R252): its class, account, credit and source; the class of its token stands in no record, so nothing is charged to that credit (DEDUCED, log entry 43). -/
def Dev.startBill (d : Dev) (x : KSession) : BillOut :=
  let b : BillOut := { BillOut.none with active := true, lastImp := d.tariffRegs x.outlet false, lastExp := d.tariffRegs x.outlet true, lastReg := d.outImport x.outlet, session := x.id, meterAt := d.pip }
  match d.bill.txns.find? fun r => r.event = 1 && r.session = x.id with
  | some r => { b with cls := r.cls, acct := r.acct, src := r.src, credit := if r.cls = 2 then r.balance else 0, tokenCls := 2 }
  | none => b

/-- BILL after BOOT (R242): balances and open sessions' accounting from flash; a session that the mirror shows closed is charged to its close and ends; one that it shows open and that opened
since the last save has its STOP record (R252) but no charge for what it took before. The credit of a grant that has no Kernel session is not kept (R251). -/
def Dev.billBoot (d : Dev) : Dev :=
  let d := { d with bill := { d.bill with accounts := d.bill.flashAccounts, outs := d.bill.flashOuts, changes := [] } }
  let d := (d.wn Reg.BILL_ACCOUNT_COUNT d.bill.accounts.length).wn Reg.BILL_STATUS 3
  (List.range 32).foldl (fun (d : Dev) n =>
    let s := (d.mirror.ch n).session
    if (d.bo n).active then
      if s.any (fun x => x.id = (d.bo n).session) then (d.wn (Reg.BILL_OUT_CLASS n) (d.bo n).acct).billShow n else d.billClose n
    else match s with
      | some x => ((d.setBo n fun _ => d.startBill x).wn (Reg.BILL_OUT_CLASS n) (d.startBill x).acct).billShow n
      | none => d.setBo n fun _ => BillOut.none) d

/-- TOKEN_MIDNIGHT_PURGE (R250): entries whose day has ended leave the used list, at each change of the local day. -/
def Dev.tokenPurge (d : Dev) : Dev :=
  if d.localDay = d.bill.midnight then d
  else
    let used := d.bill.used.filter fun t => d.localDay ≤ d.rn Reg.BILL_TOKEN_EPOCH + t.expiry
    { d with bill := { d.bill with used := used, midnight := d.localDay } }.wn Reg.BILL_TOKEN_USED used.length

/-! ### Opcodes -/

/-- ACCOUNT_SET (0x0410). -/
def opAccountSet (d : Dev) (c : Cmd) : Dev × Ans :=
  let p := c.payload
  check d [(p.length ≠ 20, St.badLength), (num p 2 2 ≠ 0 || num p 18 2 ≠ 0 || 3 < num p 17 1, St.badParam), (4095 < num p 0 2, St.badParam)] <|
    let op := if num p 17 1 ≥ 2 then AcctOp.delete else AcctOp.set (snum p 4 8) (num p 12 4) (num p 16 1) (num p 17 1 = 1)
    ({ d with bill := { d.bill with changes := d.bill.changes ++ [{ acct := num p 0 2, due := d.pip + 1, op := op }] } }, .done St.ok [])

/-- ACCOUNT_ADJUST (0x0411). -/
def opAccountAdjust (d : Dev) (c : Cmd) : Dev × Ans :=
  let p := c.payload
  let a := num p 0 2
  check d [(p.length ≠ 16, St.badLength), (num p 2 2 ≠ 0, St.badParam), (4095 < a, St.badParam)] <|
    match d.acctSoon a with
    | none => (d, .done St.f3 [])
    | some x =>
      if x.refs.contains (num p 12 4) then (d, .done St.f4 [])
      else
        ({ d with bill := { d.bill with changes := d.bill.changes ++ [{ acct := a, due := d.pip + 1, op := .adjust (snum p 4 8) (num p 12 4) }] } },
         .done St.ok (leI (x.balance + snum p 4 8) 8))

/-- ACCOUNT_GET (0x0412). -/
def opAccountGet (d : Dev) (c : Cmd) : Dev × Ans :=
  let p := c.payload
  let a := num p 0 2
  check d [(p.length ≠ 4, St.badLength), (num p 2 2 ≠ 0, St.badParam), (4095 < a, St.badParam)] <|
    match d.acct a with
    | none => (d, .done St.f3 [])
    | some x =>
      let open_ := ((List.range 32).filter fun n => (d.bo n).active && (d.bo n).cls = 1 && (d.bo n).acct = a).length
      (d, .done St.ok (leI x.balance 8 ++ leN x.limit 4 ++ [byte x.mask, byte (b2n x.blocked), byte open_, 0]))

/-- TXN_READ (0x0413). -/
def opTxnRead (d : Dev) (c : Cmd) : Dev × Ans :=
  let p := c.payload
  check d [(p.length ≠ 8, St.badLength), (num p 5 3 ≠ 0, St.badParam), (num p 4 1 = 0 || 15 < num p 4 1, St.badParam)] <|
    let head := d.rn Reg.BILL_TXN_HEAD
    logRead d head (head + 1 - d.bill.txns.length) (num p 0 4) (num p 4 1) St.f5 fun s =>
      match d.bill.txns[head - s]? with
      | some r => r.bytes
      | none => []

/-- TOKEN_LIST_READ (0x0415): the entries that the range holds. -/
def opTokenList (d : Dev) (c : Cmd) : Dev × Ans :=
  let p := c.payload
  check d [(p.length ≠ 4, St.badLength), (num p 2 2 = 0 || 128 < num p 2 2, St.badParam)] <|
    (d, .done St.ok (((d.bill.used.drop (num p 0 2)).take (num p 2 2)).flatMap fun t => leN t.id 4 ++ leN t.expiry 2 ++ [0, 0]))

end Sys2Proof.Machine
end

