-- ==== Sys2Proof/Machine/Slac.lean ====
section
/-!
DEFINITION. SLAC and the cross-lane decision (R268 to R274). Figures are exact: each is a sum over 58 groups and the sounds captured, compared after scaling to one denominator.
-/
namespace Sys2Proof.Machine

/-- Whether a lane is eligible for SLAC (R268). -/
def Dev.slacEligible (d : Dev) (n : Nat) : Bool :=
  (d.outType n = 1 || d.outType n = 2) && d.ost n = .linking && d.fld (Reg.OUT_CP_STATUS n) 3 0 = 1 && (d.lane n).matched.isNone && d.rbit (Reg.LANE_CFG n) 4

/-- The slac field of a lane's status. -/
def Dev.setSlac (d : Dev) (n v : Nat) : Dev := d.setFld (Reg.LANE_STATUS n) 11 8 v

/-- Whether a lane behaves as plain ISO 15118-3 (R272): its xlane or HUSK_SLAC_CFG.xlane_en is 0. -/
def Dev.plainLane (d : Dev) (n : Nat) : Bool := !d.rbit (Reg.LANE_CFG n) 4 || !d.rbit Reg.HUSK_SLAC_CFG 0

/-- Whether a plain lane takes part in SLAC: its outlet is a CCS outlet in LINKING and the lane is not yet matched. -/
def Dev.plainOpen (d : Dev) (n : Nat) : Bool :=
  d.plainLane n && (d.outType n = 1 || d.outType n = 2) && d.ost n = .linking && (d.lane n).matched.isNone

/-- SLAC_PARM_REQ (R268): an eligible lane answers; a plain lane answers as plain ISO 15118-3 does. -/
def Dev.slacParm (d : Dev) (n : Nat) : Dev :=
  if d.laneActive n && (d.slacEligible n || d.plainOpen n) then (d.setSlac n 1).laneSend n .parmCnf else d

/-- Change the run of a RunID. -/
def Dev.setRun (d : Dev) (run : Bytes) (f : SlacRun → SlacRun) : Dev :=
  { d with husk := { d.husk with runs := d.husk.runs.map fun r => if r.run = run then f r else r } }

/-- Add one lane's 58 attenuations to its captures. -/
def addCap (l : List SlacCap) (lane : Nat) (groups : List Nat) : List SlacCap :=
  let g := (groups ++ List.replicate 58 90).take 58
  if l.any (·.lane = lane) then l.map fun c => if c.lane = lane then { c with heard := c.heard + 1, sums := (c.sums.zip g).map fun (a, b) => a + b } else c
  else l ++ [{ lane := lane, heard := 1, sums := g }]

/-- The sounds that captures hold (R269): each RunID that a lane decoded, with the start of that lane's capture. -/
def decodedSounds (l : List Capture) : List (Bytes × Nat) :=
  l.foldl (fun acc c => match c.run with
    | some r => if acc.any (·.1 = r) then acc else acc ++ [(r, c.start)]
    | none => acc) []

/-- Whether two starts in 0.1 µs lie within 1 µs of each other. -/
def tied (a b : Nat) : Bool := a ≤ b + 10 && b ≤ a + 10

/-- One sound of a RunID that is being sounded: the captures tied to it count for it. -/
def Dev.takeSound (d : Dev) (mine : List Capture) (s : Bytes × Nat) : Dev :=
  if d.husk.runs.any fun r => r.run = s.1 && r.st = .sounding then
    let caps := mine.filter fun c => tied c.start s.2
    let d := caps.foldl (fun (d : Dev) c => if d.fld (Reg.LANE_STATUS c.lane.val) 11 8 ≤ 1 then d.setSlac c.lane.val 2 else d) d
    d.setRun s.1 fun r => { r with sounds := r.sounds + 1, caps := caps.foldl (fun l c => addCap l c.lane.val c.groups) r.caps }
  else d

/-- SOUND_CAPTURE (R269): the first CM_START_ATTEN_CHAR.IND of a RunID, or the captures of preambles. A capture that ties to no decoded sound is discarded. -/
def Dev.soundCapture (d : Dev) (s : SoundIn) : Dev :=
  match s with
  | .start lane run announced =>
    if !d.laneActive lane.val || d.husk.runs.any (·.run = run) then d
    else { d with husk := { d.husk with runs := d.husk.runs ++ [{ run := run, announced := announced, start := d.pip, sounds := 0, caps := [], st := .sounding }] } }
  | .sound caps =>
    let mine := caps.filter fun c => d.laneActive c.lane.val
    (decodedSounds mine).foldl (fun (d : Dev) s => d.takeSound mine s) d

/-- Whether a lane captured a sound of the run. -/
def SlacRun.heard (r : SlacRun) (n : Nat) : Bool := r.caps.any fun c => c.lane = n

/-- 58 times the number of sounds times the attenuation figure of a lane (R269, R270): a sound the lane did not detect counts 90 dB. -/
def SlacRun.figNum (r : SlacRun) (n : Nat) : Nat :=
  match r.caps.find? (·.lane = n) with
  | some c => c.sums.foldl (· + ·) 0 + 58 * 90 * (r.sounds - c.heard)
  | none => 58 * 90 * r.sounds

/-- The candidate lanes of a run among lanes `l` (R270). -/
def SlacRun.candidates (r : SlacRun) (l : List Nat) (span : Nat) : List Nat :=
  let low := l.foldl (fun m n => min m (r.figNum n)) (r.figNum (l.headD 0))
  l.filter fun n => r.figNum n ≤ low + span * 58 * r.sounds

/-- The lanes that an earlier decision has taken. -/
def Husk.taken (h : Husk) : List Nat :=
  h.runs.filterMap fun r => match r.st with
    | .decided l => l
    | .sounding | .ambiguous _ | .plain => none

/-- Every assignment of distinct candidate lanes, or none, to the vehicles of a list, as (the first vehicle's lane, total). A vehicle is its cost of no lane and its candidates with their costs. -/
def assignments : List (Nat × List (Nat × Nat)) → List Nat → List (List (Option Nat) × Nat)
  | [], _ => [([], 0)]
  | (none_, cands) :: rest, used =>
    ((assignments rest used).map fun (a, t) => (none :: a, t + none_))
      ++ (cands.filter fun c => !used.contains c.1).flatMap fun c => (assignments rest (c.1 :: used)).map fun (a, t) => (some c.1 :: a, t + c.2)

/-- What the decision of a RunID gives: its lane (or none), or ambiguous. -/
inductive SlacVerdict where
  | lane (n : Option Nat)
  | ambiguous
  deriving DecidableEq, Repr

/-- The decision for `r` among the other undecided runs `others` and the free eligible lanes `lanes` (R271, R273); among equal lowest totals the lane is a free choice. -/
def slacVerdict (r : SlacRun) (others : List SlacRun) (elig lanes : List Nat) (span margin free : Nat) : SlacVerdict :=
  let v := r :: others
  if 6 < v.length || 6 < lanes.length then .ambiguous
  else
    let prod := v.foldl (fun p x => p * max 1 x.sounds) 1
    let one := fun (x : SlacRun) =>
      let k := prod / max 1 x.sounds
      let cs := (x.candidates elig span).filter lanes.contains
      (90 * 58 * prod, cs.map fun n => (n, if x.sounds = 0 then 90 * 58 * prod else x.figNum n * k))
    let all := assignments (v.map one) []
    let t1 := all.foldl (fun m a => min m a.2) (90 * 58 * prod * v.length)
    let firsts := ((all.filter fun a => a.2 = t1).map fun a => a.1.headD none).eraseDups
    let pick := (firsts[Config.freeNat free % max 1 firsts.length]?).getD none
    let alts := (all.filter fun a => a.1.headD none ≠ pick).map (·.2)
    match alts with
    | [] => .lane pick
    | a :: l => if t1 + margin * 58 * prod ≤ l.foldl min a then .lane pick else .ambiguous

/-- A lane's profile of a RunID: the 58 group averages over its sounds (R269, R270). -/
def Dev.slacGroups (d : Dev) (r : SlacRun) (n : Nat) : List Nat :=
  let c := (r.caps.find? (·.lane = n)).getD { lane := n, heard := 0, sums := List.replicate 58 0 }
  c.sums.zipIdx.map fun x => (divOpen (x.1 + 90 * (r.sounds - c.heard) : Nat) (max 1 r.sounds : Nat) (d.fresh + 32 + x.2)).toNat

/-- CM_ATTEN_CHAR.IND goes out on a lane, carrying that lane's profile (R272). -/
def Dev.slacAtten (d : Dev) (r : SlacRun) (n : Nat) : Dev := (d.laneSend n (.attenChar r.run (d.slacGroups r n))).draw 90

/-- Record the last decision on a lane (SLAC_PROFILE_GET, LANE_nn_SLAC). -/
def Dev.slacRecord (d : Dev) (r : SlacRun) (n code : Nat) : Dev :=
  let groups := d.slacGroups r n
  let fig := fun m => if r.heard m then (divOpen (r.figNum m) (58 * max 1 r.sounds : Nat) (d.fresh + m)).toNat else 255
  let d := d.setLane n fun l => { l with last := some { run := r.run, sounds := r.sounds, code := code, groups := groups, figs := (List.range 32).map fig } }
  let cnt := d.fld (Reg.LANE_SLAC n) 3 0
  (d.wn (Reg.LANE_SLAC n) (fig n % 256 * 256 + (if code = 0 then min 15 (cnt + 1) else cnt))).draw 90

/-- SLAC_DECISION (R271 to R273): once every announced sound is captured, or 2,000 pips after the indication. -/
def Dev.slacDecision (d : Dev) (run : Bytes) : Dev :=
  match d.husk.runs.find? fun r => r.run = run && r.st = .sounding with
  | none => d
  | some r =>
    if r.sounds < r.announced && d.pip < r.start + 2000 then d
    else
      let elig := (List.range 32).filter d.slacEligible
      let heard := (List.range 32).filter r.heard
      let d := (heard.filter d.plainOpen).foldl (fun (d : Dev) n => d.slacAtten r n) d
      if !d.rbit Reg.HUSK_SLAC_CFG 0 then d.setRun run fun r => { r with st := .plain }
      else
        let lanes := elig.filter fun n => !d.husk.taken.contains n
        let minS := d.fld Reg.HUSK_SLAC_CFG 23 16
        let span := d.fld Reg.HUSK_SLAC_CFG 15 8
        let others := d.husk.runs.filter fun x => x.run ≠ run && x.st = .sounding && minS ≤ x.sounds
        match slacVerdict r others elig lanes span (d.fld Reg.HUSK_SLAC_CFG 31 24) d.fresh with
        | .lane pick =>
          let d := ((d.draw 1).setRun run fun r => { r with st := .decided pick }).inc Reg.HUSK_SLAC_DECIDED_CNT
          let d := match pick with
            | some n => ((d.setSlac n 3).slacAtten r n).slacRecord r n 0
            | none => d
          (heard.filter fun n => elig.contains n && some n ≠ pick).foldl (fun (d : Dev) n =>
            let d := (d.inc Reg.HUSK_SLAC_WITHHELD_CNT).slacRecord r n 1
            if d.fld (Reg.LANE_STATUS n) 11 8 = 3 || d.fld (Reg.LANE_STATUS n) 11 8 = 4 then d else d.setSlac n 5) d
        | .ambiguous =>
          let cands := r.candidates elig span
          let d := (((d.draw 1).setRun run fun r => { r with st := .ambiguous cands }).inc Reg.HUSK_SLAC_AMBIG_CNT).raise Reg.HUSK_EVENT 2
          cands.foldl (fun (d : Dev) n =>
            let d := (d.slacAtten r n).slacRecord r n 2
            if d.fld (Reg.LANE_STATUS n) 11 8 = 3 || d.fld (Reg.LANE_STATUS n) 11 8 = 4 then d else d.setSlac n 6) d

/-- Whether a lane answers a CM_SLAC_MATCH.REQ of a run (R272, R274). -/
def Dev.slacAnswers (d : Dev) (r : SlacRun) (n : Nat) : Bool :=
  if d.plainLane n then true
  else match r.st with
    | .decided l => l = some n
    | .ambiguous ls => ls.contains n
    | .plain => true
    | .sounding => false

/-- CM_SLAC_MATCH.CNF carries the lane's NID and NMK (R274). -/
def Dev.slacCnf (d : Dev) (n : Nat) (run : Bytes) : Dev := d.laneSend n (.matchCnf run (d.laneNid n) (d.laneNmk n))

/-- SLAC_MATCH_REQ (R272, R274): answered, and the lane matched; answered again on a lane matched to this RunID; or, for a RunID decided elsewhere, withheld and counted. -/
def Dev.slacMatch (d : Dev) (n : Nat) (run : Bytes) : Dev :=
  if !d.laneActive n then d
  else if (d.lane n).matched = some run then d.slacCnf n run
  else
    match d.husk.runs.find? (·.run = run) with
    | none => d
    | some r =>
      if d.ost n ≠ .linking || (d.lane n).matched.isSome then d
      else if d.slacAnswers r n then
        let d := d.setLane n fun l => { l with matched := some run }
        (((d.setRun run fun r => { r with st := .decided (some n) }).setSlac n 4).setBit (Reg.LANE_STATUS n) 4 true).slacCnf n run
      else match r.st with
        | .decided _ => if r.heard n then d.inc Reg.HUSK_SLAC_WITHHELD_CNT else d
        | .sounding | .ambiguous _ | .plain => d

/-- The vehicle link of an outlet is released: its lane is unmatched and idle. -/
def Dev.huskUnmatch (d : Dev) (n : Nat) : Dev :=
  let m := (d.lane n).matched
  let d := (d.setLane n fun l => { l with matched := none })
  let d := { d with husk := { d.husk with runs := d.husk.runs.filter fun r => some r.run ≠ m && r.st ≠ .decided (some n) } }
  let d := if d.fld (Reg.LANE_STATUS n) 11 4 % 2 = 0 && d.fld (Reg.LANE_STATUS n) 11 8 = 0 then d else (d.setSlac n 0).setBit (Reg.LANE_STATUS n) 4 false
  d

/-- An outlet leaves IDLE: the last decision on its lane no longer counts (SLAC_PROFILE_GET). -/
def Dev.huskPlug (d : Dev) (n : Nat) : Dev := d.setLane n fun l => { l with last := none }

/-- SLAC_PROFILE_GET (0x0502). -/
def opSlacProfile (d : Dev) (c : Cmd) : Dev × Ans :=
  let n := num c.payload 0 1
  check d [(c.payload.length ≠ 4, St.badLength), (num c.payload 1 3 ≠ 0, St.badParam), (31 < n, St.badParam)] <|
    match (d.lane n).last with
    | some s => (d, .done St.ok (padTo 8 s.run ++ [byte s.sounds, byte s.code, 0, 0] ++ padTo 58 (s.groups.map byte) ++ padTo 32 (s.figs.map byte) ++ [0, 0]))
    | none => (d, .done St.f1 [])

end Sys2Proof.Machine
end

