-- ==== Sys2Proof/Machine/Cross.lean ====
section
/-!
DEFINITION. What the session task shares with the Guard, the Stone and the switch die: ramp requests, permits and the HUB_STOP_N causes, coil commands, and putting a Guard channel to rest.
-/
namespace Sys2Proof.Machine

/-- The 32 bytes of an outlet event record (R128). -/
def evRecBytes (r : EvRec) : Bytes :=
  leN r.seq 4 ++ leN r.pip 6 ++ [byte r.outlet, byte r.code, byte r.before, byte r.after, byte r.reason, byte r.src] ++ leN r.session 8 ++ padTo 8 r.extra

/-- The outlet selected on the keypad (TAG_KP_STATUS.selected), for 60 s from its # (R442). -/
def Dev.keypadSelected (d : Dev) : Option Nat := if d.fld Reg.TAG_KP_STATUS 23 16 = 0xFF || d.tag.selTill ≤ d.pip then none else some (d.fld Reg.TAG_KP_STATUS 23 16)

/-! ### The Stone's evaluation (R334) -/

/-- Word `i` of the active safety configuration (R359). -/
def Dev.actWord (d : Dev) (i : Nat) : Word := d.safe.active.getD i 0

/-- SAFE_PAIR_p_CFG and SAFE_PAIR_p_OUT of the active configuration. -/
def Dev.pairCfg (d : Dev) (p : Nat) : Word := d.actWord (3 + 2 * p)

def Dev.pairOut (d : Dev) (p : Nat) : Word := d.actWord (4 + 2 * p)

/-- The words of connection `c` in the active configuration: 0 CFG, 1 ID, 2 PEER, 3 OUT. -/
def Dev.connWord (d : Dev) (c i : Nat) : Word := d.actWord (19 + 4 * c + i)

/-- The function code of a pair. -/
def Dev.pairFn (d : Dev) (p : Nat) : Nat := wfld (d.pairCfg p) 31 28

/-- A pair of the Stone. -/
def Dev.pair (d : Dev) (p : Nat) : SPair := tget SPair.reset d.safe.pairs p

/-- A connection. -/
def Dev.conn (d : Dev) (c : Nat) : SConn := tget SConn.reset d.safe.conns c

/-- Change a pair. -/
def Dev.setPair (d : Dev) (p : Nat) (f : SPair → SPair) : Dev := { d with safe := { d.safe with pairs := tset SPair.reset d.safe.pairs p (f (d.pair p)) } }

/-- Change a connection. -/
def Dev.setConn (d : Dev) (c : Nat) (f : SConn → SConn) : Dev := { d with safe := { d.safe with conns := tset SConn.reset d.safe.conns c (f (d.conn c)) } }

/-- Whether an active configuration is held (SAFE_STATUS.cfg_valid). -/
def Dev.cfgValid (d : Dev) : Bool := d.rbit Reg.SAFE_STATUS 5

/-- Whether the heartbeat counts as valid (SAFE_STATUS.hb_ok). -/
def Dev.hbOk (d : Dev) : Bool := d.rbit Reg.SAFE_STATUS 4

/-- Whether a pair permits: UNUSED and RESET pairs act on no output (R346). -/
def Dev.pairPermits (d : Dev) (p : Nat) : Bool := d.pairFn p == 0 || d.pairFn p == 5 || (d.pair p).permit

/-- Whether a pair permits as the safety task evaluates it (R340). -/
def Dev.pairCpu (d : Dev) (p : Nat) : Bool := d.pairFn p == 0 || ((d.pair p).cpu).getD (d.pairPermits p)

/-- Whether the Stone's own evaluation permits SLS_n (R334). -/
def Dev.stoneOk (d : Dev) (n : Nat) : Bool :=
  d.cfgValid && !d.rbit Reg.SAFE_STATUS 7 && !d.rbit Reg.GUARD_TRIP_MASK n && !d.safe.forced.testBit n
    && (List.range 8).all fun p => !wbit (d.pairOut p) n || d.pairPermits p

/-- Whether a receive connection is enabled. -/
def Dev.connRx (d : Dev) (c : Nat) : Bool := wbit (d.connWord c 0) 31 && !wbit (d.connWord c 0) 30

/-- Whether the transport of a connection carries frames: over UDP while the Ethernet ports work (R365, R549), over the Pod link while it is powered (R395). -/
def Dev.connCarried (d : Dev) (c : Nat) : Bool :=
  match wfld (d.connWord c 0) 29 28 with
  | 0 | 1 => d.ethRuns
  | 3 => d.rbit Reg.TWIN_CFG 16
  | _ => true

/-- Whether a receive connection permits (R367). -/
def Dev.connPermits (d : Dev) (c : Nat) : Bool :=
  let sel := wfld (d.connWord c 0) 24 16
  d.fld (Reg.SAFE_CONN_STATUS c) 1 0 == 2 && decide ((d.conn c).data &&& sel = sel)

/-- Whether the safety task's evaluation permits SLS_n: pairs and receive connections (R352, R367). -/
def Dev.cpuOk (d : Dev) (n : Nat) : Bool :=
  d.cfgValid && ((List.range 8).all fun p => !wbit (d.pairOut p) n || d.pairCpu p)
    && (List.range 8).all fun c => !d.connRx c || !wbit (d.connWord c 3) n || d.connPermits c

/-- Whether SLS_n is enabled. -/
def Dev.sls (d : Dev) (n : Nat) : Bool := d.rbit Reg.SAFE_SLS_MASK n

/-- The ramp request of OUT_n: when it was raised and whether T_force still runs. -/
def Dev.rampReq (d : Dev) (n : Nat) : Option (Nat × Bool) := tget none d.safe.ramp n

/-- The contactor permit at the Stone (R338). -/
def Dev.stonePermit (d : Dev) (n : Nat) : Bool := d.sls n && (d.rampReq n).isNone

/-- The contactor permit as the session task sees it: a coil in LOCKOUT counts as its absence (R382). -/
def Dev.permit (d : Dev) (n : Nat) : Bool :=
  d.stonePermit n && d.fld (Reg.LSW_CH_STATUS (2 * n)) 2 0 ≠ 4 && d.fld (Reg.LSW_CH_STATUS (2 * n + 1)) 2 0 ≠ 4

/-- Whether T_force of OUT_n runs, by its ramp request or since the heartbeat was lost (R132, R357). -/
def Dev.tForceRuns (d : Dev) (n : Nat) : Bool := (d.rampReq n).any (·.2) || (d.sls n && d.safe.hbLost.any fun t => d.osc < t + tget 400 d.safe.tForce n)

/-- Show the Stone's view of OUT_n: the permit and T_force masks, the withheld masks, the permit bit of its coil channels. -/
def Dev.slsShow (d : Dev) (n : Nat) : Dev :=
  let p := d.stonePermit n
  let d := (d.setBit Reg.SAFE_PERMIT_MASK n p).setBit Reg.SAFE_TFORCE_MASK n (d.tForceRuns n || d.safe.forced.testBit n)
  let d := (d.setBit Reg.SAFE_STONE_CUT_MASK n (!d.stoneOk n)).setBit Reg.SAFE_CPU_CUT_MASK n (!d.safe.word.testBit n)
  (d.setBit (Reg.LSW_CH_STATUS (2 * n)) 12 p).setBit (Reg.LSW_CH_STATUS (2 * n + 1)) 12 p

/-- The HUB_STOP_N causes (R354). -/
def Dev.hubCauses (d : Dev) : Nat :=
  b2n ((List.range 8).any fun p => wbit (d.pairCfg p) 27 && !d.pairPermits p) + 2 * b2n (!d.hbOk) + 4 * b2n (!d.cfgValid) + 8 * b2n (d.safe.hubWord.testBit 3)
    + 16 * b2n (wbit (d.actWord 0) 0 && decide (d.rn Reg.GUARD_TRIP_MASK ≠ 0)) + 32 * b2n (d.safe.hubWord.testBit 5) + 64 * b2n (d.rbit Reg.SAFE_STATUS 7)

/-- Drive HUB_STOP_N by its causes: low at once, released after the 100 ms minimum when none remains (R354). -/
def Dev.hubUpdate (d : Dev) : Dev :=
  let c := d.hubCauses
  let d := d.wn Reg.SAFE_HUB_CAUSE c
  let out := d.rbit Reg.SAFE_STATUS 2
  let d := if c ≠ 0 && !out then { d with safe := { d.safe with hubSince := d.osc } } else d
  let low : Bool := decide (c ≠ 0) || (out && decide (d.osc < d.safe.hubSince + 400))
  (d.setBit Reg.SAFE_STATUS 2 low).setBit Reg.SAFE_STATUS 3 (low || d.safe.hubExt)

/-- Raise OUT_n's ramp request: T_force starts (R132). -/
def Dev.rampRaise (d : Dev) (n : Nat) : Dev :=
  if (d.rampReq n).isSome then d else { d with safe := { d.safe with ramp := tset none d.safe.ramp n (some (d.osc, true)) } }.slsShow n

/-- Lower OUT_n's ramp request. -/
def Dev.rampLower (d : Dev) (n : Nat) : Dev := { d with safe := { d.safe with ramp := tset none d.safe.ramp n none } }.slsShow n

/-! ### Coils of a session (R371) -/

/-- The session task commands both coil channels of an outlet: the frame of the next pip carries it (R34, R133). -/
def Dev.sessCoils (d : Dev) (n : Nat) (on : Bool) : Dev :=
  let v : Word := if on then 0x80000000 else 0
  (d.pendAs (Reg.LSW_CH_CMD (2 * n)) v false).pendAs (Reg.LSW_CH_CMD (2 * n + 1)) v false

/-! ### Guard channels at rest (R316) -/

/-- A Guard channel behind its registers. -/
def Dev.g (d : Dev) (n : Nat) : GChan := tget GChan.reset d.guard n

/-- Change a Guard channel. -/
def Dev.setG (d : Dev) (n : Nat) (f : GChan → GChan) : Dev := { d with guard := tset GChan.reset d.guard n (f (d.g n)) }

/-- The state of a Guard channel: 0 OFF, 1 STANDBY, 2 ACTIVE, 3 TEST, 4 FAULT. -/
def Dev.gstate (d : Dev) (n : Nat) : Nat := d.fld (Reg.GUARD_CH_STATUS n) 2 0

/-- The mode of a Guard channel: 0 OFF, 1 RCM, 2 IMD. -/
def Dev.gmode (d : Dev) (n : Nat) : Nat := d.fld (Reg.GUARD_CH_CFG n) 17 16

/-- The mode that R315 requires of an outlet type; none for a free channel. -/
def guardModeFor (type : Nat) : Option Nat := if type = 2 then some 1 else if type = 1 || type = 3 then some 2 else none

/-- The warn flag of a channel, with its mask and events. -/
def Dev.guardWarn (d : Dev) (n : Nat) (w : Bool) : Dev :=
  let new := w && !d.rbit (Reg.GUARD_CH_STATUS n) 4
  let d := (d.setBit (Reg.GUARD_CH_STATUS n) 4 w).setBit Reg.GUARD_WARN_MASK n w
  if new then (d.raise (Reg.GUARD_CH_EVENT n) 1).raise Reg.GUARD_EVENT 1 else d

/-- Put a channel to OFF or STANDBY: injection stops, a trip line is released (R326), the zero starts anew (R320). A channel that enters STANDBY within a pip counts its samples from the next pip (DESIGN CHOICE, log entry 82). -/
def Dev.guardRest (d : Dev) (n st : Nat) : Dev :=
  let d := d.setG n fun g => { g with win := if st = 0 then [] else g.win, zeros := [], skip := true, stages := GChan.reset.stages, met := none, inj := 0, imd := none, test := none, standby := 0 }
  let d := (d.setFld (Reg.GUARD_CH_STATUS n) 2 0 st).setFld (Reg.GUARD_CH_STATUS n) 11 8 0
  let d := ((d.setBit (Reg.GUARD_CH_STATUS n) 3 false).setBit Reg.GUARD_TRIP_MASK n false).setBit Reg.GUARD_FAULT_MASK n false
  (((d.guardWarn n false).setFld (Reg.GUARD_CH_CTRL n) 1 0 st).slsShow n).hubUpdate

/-- The session task asks for OFF or STANDBY, within the limits of R316: not out of FAULT or TEST, and only OFF where the mode is OFF. -/
def Dev.guardSession (d : Dev) (n st : Nat) : Dev :=
  if d.gstate n = 3 || d.gstate n = 4 then d else if d.gmode n = 0 then d.guardRest n 0 else d.guardRest n st

/-- Whether an outlet's Guard channel has the mode its type needs (R315). -/
def Dev.guardReady (d : Dev) (n : Nat) : Bool := guardModeFor (d.outType n) = some (d.gmode n)

/-- Set imd_arm of an outlet's channel (R324). -/
def Dev.guardArm (d : Dev) (n : Nat) (on : Bool) : Dev := d.setBit (Reg.GUARD_CH_CTRL n) 8 on

end Sys2Proof.Machine
end

