-- ==== Sys2Proof/Machine/Outlet.lean ====
section
/-!
DEFINITION. Outlets and charging sessions (04_outlets_and_sessions.md): the pilot, the session state machine of R124, authorisation (R129), setpoint mailboxes
(R130), power-module templates (R131) and what the latch, the Stone, the Guard and the switch die tell a session.
-/
namespace Sys2Proof.Machine

/-! ### State, records and flags -/

/-- The 8 code-specific bytes of an AUTH_REQUEST record (R128). -/
def identExtra (i : Ident) : Bytes := byte i.kind :: byte i.len :: i.bytes.take 6

/-- Write a record to the outlet event ring (R128), which holds 4,096, and forward it over the mesh where that is set (R304). -/
def Dev.outRecBy (d : Dev) (n code before after reason src session : Nat) (extra : Bytes) : Dev :=
  let seq := d.rn Reg.OUT_EVENT_HEAD + 1
  let r : EvRec := { seq := seq, pip := d.pip, outlet := n, code := code, before := before, after := after, reason := reason, src := src, session := session, extra := padTo 8 extra }
  ({ d with out := { d.out with ring := (r :: d.out.ring).take 4096 } }.wn Reg.OUT_EVENT_HEAD seq).meshForward (evRecBytes r)

/-- A record of an outlet, with its reason, authorisation source and session. -/
def Dev.outRec (d : Dev) (n code before after : Nat) (extra : Bytes) : Dev :=
  d.outRecBy n code before after (d.fld (Reg.OUT_STATE n) 31 24) (d.o n).authSrc (d.sessionId n) extra

/-- Set the reason field of an outlet. -/
def Dev.outReason (d : Dev) (n r : Nat) : Dev := d.setFld (Reg.OUT_STATE n) 31 24 r

/-- Close the vehicle link of an outlet. -/
def Dev.closeLink (d : Dev) (n : Nat) : Dev := (d.setO n fun o => { o with linkUp := false, linkDue := none }).huskUnmatch n

/-- Zero the setpoint mailbox and raise the ramp request line to the Stone (R124, R132). -/
def Dev.zeroAndRamp (d : Dev) (n : Nat) : Dev :=
  ((((d.wn (Reg.OUT_SP_MODE n) 0).wn (Reg.OUT_SP_VOLT n) 0).wn (Reg.OUT_SP_CURR n) 0).wn (Reg.OUT_SP_POWER n) 0).rampRaise n

/-- Whether a state code lies from PLUGGED to AUTHORISING. -/
def OState.early (s : OState) : Bool := s == .plugged || s == .linking || s == .negotiating || s == .authorising

/-- Whether the coils of an outlet in this state are closed. -/
def OState.running (s : OState) : Bool := s == .cableCheck || s == .precharge || s == .energy || s == .rampdown

/-- What entering FAULT does (R125): LAST_FAULT, its pip, the mask and event bits, the pilot steady low with the probes of R126. -/
def Dev.enterFault (d : Dev) (n : Nat) : Dev :=
  let r := d.fld (Reg.OUT_STATE n) 31 24
  let d := ((d.wn (Reg.OUT_LAST_FAULT n) r).wn (Reg.OUT_FAULT_PIP n) d.pip).setBit Reg.OUT_FAULT_MASK n true
  let d := d.raise (Reg.OUT_EVENT n) 1
  let d := if r = 13 then (d.inc (Reg.OUT_WELD_CNT n)).raise (Reg.OUT_EVENT n) 4 else d
  let d := (d.wn (Reg.OUT_CP_DUTY n) 0).setO n fun o => { o with probeDue := (d.pip / 4 + 100) * 4, probeFrom := none, probeN := 0, candN := 0 }
  d

/-- What entering UNPLUGGED does (R124): release the link, put the Guard channel to standby, clear the session flags; OUT_SESSION_INFO keeps what they showed. -/
def Dev.enterUnplugged (d : Dev) (n : Nat) : Dev :=
  let d := d.setO n fun o => { o with lastProto := d.fld (Reg.OUT_STATE n) 11 8, lastReason := d.fld (Reg.OUT_STATE n) 31 24 }
  let d := (((d.closeLink n).guardArm n false).guardSession n 1).billDrop n
  let d := (d.setFld (Reg.OUT_STATE n) 18 16 0).outReason n 0
  (d.setFld (Reg.OUT_STATE n) 11 8 0).setO n fun o => { o with waiting := false, authSince := none, hostDue := none, cableDue := none, prechDue := none, weldDue := none, hlc := false, isoWarn := false }

/-- Move an outlet to a state and write the STATE record (R128), with the state's entry actions. -/
def Dev.goto1 (d : Dev) (n : Nat) (s : OState) : Dev :=
  let before := d.fld (Reg.OUT_STATE n) 3 0
  let d := d.setFld (Reg.OUT_STATE n) 3 0 s.code
  let d := d.outRec n 1 before s.code []
  let d := d.setO n fun o => { o with stateSince := d.pip, authSince := if s = .authorising then o.authSince else none,
                                      waiting := o.waiting && s == .authorising, linkDue := if s = .linking then o.linkDue else none,
                                      cableDue := if s = .cableCheck then o.cableDue else none, prechDue := if s = .precharge then o.prechDue else none,
                                      weldDue := if s = .weldCheck then o.weldDue else none }
  let d := d.setBit Reg.OUT_FAULT_MASK n (s == .fault)
  match s with
  | .fault => d.enterFault n
  | .unplugged => d.enterUnplugged n
  | .idle | .plugged | .linking | .negotiating | .authorising | .cableCheck | .precharge | .energy | .rampdown | .weldCheck => d

/-- Move an outlet to a state; a fault that is not latching with pilot A accepted goes on to UNPLUGGED at once (R124, "When the vehicle unplugs under load"). -/
def Dev.goto (d : Dev) (n : Nat) (s : OState) : Dev :=
  let d := d.goto1 n s
  if s = .fault then
    if d.fld (Reg.OUT_CP_STATUS n) 3 0 = 0 && d.fld (Reg.OUT_STATE n) 31 24 ≠ 13 then d.goto1 n .unplugged
    else d.wn (Reg.OUT_CP_STATUS n) 5
  else d

/-- FAULT with a reason. -/
def Dev.outFault (d : Dev) (n r : Nat) : Dev := (d.outReason n r).goto n .fault

/-- RAMPDOWN (R124): zero setpoint, ramp request, and a pending reason where one is given (0: none). -/
def Dev.rampdown (d : Dev) (n r : Nat) : Dev :=
  let d := if r = 0 then d else d.outReason n r
  (d.zeroAndRamp n).goto n .rampdown

/-- Release the coils in the switch-die frame of the next pip, lower the ramp request and check for a weld (R124, R136). -/
def Dev.releaseToWeld (d : Dev) (n : Nat) : Dev :=
  let d := (d.sessCoils n false).rampLower n
  (d.setO n fun o => { o with relPip := some (d.pip + 1), weldDue := some (d.pip + 1 + 2000) }).goto n .weldCheck |>.setO n fun o =>
    { o with weldDue := some (d.pip + 1 + 2000) }

/-- Close the coils and open the Kernel session (R124); sessions that reach CABLE_CHECK or ENERGY are counted. -/
def Dev.closeCoils (d : Dev) (n : Nat) : Dev :=
  ((d.sessCoils n true).setO n fun o => { o with kWant := true, prechMet := false, settled := none, isoWarn := false, endReason := 0, forced := false, relPip := none }).inc (Reg.OUT_SESSION_CNT n)

/-! ### Authorisation (R129) -/

/-- The local-list entry of an identifier. -/
def Dev.listFind (d : Dev) (kind len : Nat) (bytes : Bytes) : Option ListEntry :=
  d.out.list.find? fun e => e.kind == kind && e.len == len && padTo 10 e.bytes == padTo 10 bytes

/-- Carry out a grant in AUTHORISING (R124): by type, and NO_PERMIT where the contactor permit is absent. -/
def Dev.applyGrant (d : Dev) (n : Nat) (i : Ident) (src : Nat) : Dev :=
  let d := d.setO n fun o => { o with ident := some i, authSrc := src, waiting := false, hostDue := none }
  let d := d.outRec n 3 (d.ost n).code (d.ost n).code []
  if !d.permit n then d.outFault n 3
  else if d.outType n = 2 then d.setFld (Reg.OUT_STATE n) 17 17 1
  else
    let d := (d.setFld (Reg.OUT_STATE n) 17 17 1).closeCoils n
    ((d.guardArm n false).goto n .cableCheck).setO n fun o => { o with cableDue := some (d.pip + d.fld (Reg.OUT_TIMEOUTS n) 23 16 * 4000) }

/-- Deny (R124): refuse to the vehicle, close the link, session_done 1, back to PLUGGED. -/
def Dev.deny (d : Dev) (n : Nat) : Dev :=
  let d := d.outRec n 3 (d.ost n).code (d.ost n).code []
  let d := (d.closeLink n).setO n fun o => { o with waiting := false, hostDue := none }
  (d.setFld (Reg.OUT_STATE n) 18 18 1).goto n .plugged

/-- A grant, subject to the credit rules where the identifier carries a fleet account (R129, R243): a refusal there counts as a deny. -/
def Dev.grant (d : Dev) (n : Nat) (i : Ident) (src : Nat) : Dev :=
  if i.acct = 0xFFFF || d.creditStart n i.acct then (d.creditBind n i.acct).applyGrant n i src
  else (d.setO n fun o => { o with ident := some i, authSrc := src }).deny n

/-- Whether the host counts as online (R129). -/
def Dev.hostOnline (d : Dev) : Bool := d.rbit Reg.OUT_STATUS 0

/-- Consult the local list (R129). -/
def Dev.consultList (d : Dev) (n : Nat) (i : Ident) (src : Nat) : Dev :=
  match d.listFind i.kind i.len i.bytes with
  | some e => if e.status = 0 then d.grant n { i with acct := e.acct } src else (d.setO n fun o => { o with ident := some i, authSrc := src }).deny n
  | none =>
    if !d.hostOnline && d.rbit (Reg.OUT_AUTH_CFG n) 8 then d.grant n i src
    else (d.setO n fun o => { o with ident := some i, authSrc := src }).deny n

/-- ONLINE_FIRST (R129): write AUTH_REQUEST and wait for the host, or consult the list at once where the host is offline. -/
def Dev.askHost (d : Dev) (n : Nat) (i : Ident) (src : Nat) : Dev :=
  let d := d.setO n fun o => { o with ident := some i, authSrc := src }
  let d := d.outRec n 2 (d.ost n).code (d.ost n).code (identExtra i)
  if d.hostOnline then
    d.setO n fun o => { o with waiting := true, hostDue := some (d.pip + d.fld (Reg.OUT_AUTH_CFG n) 23 16 * 4000) }
  else d.consultList n i src

/-- An identifier is presented to an outlet in AUTHORISING from a source (1 card, 2 Plug & Charge, 3 keypad): the decision by OUT_nn_AUTH_CFG.mode,
where the source is enabled (R129). -/
def Dev.present (d : Dev) (n : Nat) (i : Ident) (src : Nat) : Dev :=
  if d.ost n ≠ .authorising || d.rbit (Reg.OUT_STATE n) 17 || (d.o n).waiting then d
  else if (src = 1 && !d.rbit (Reg.OUT_AUTH_CFG n) 4) || (src = 2 && !d.rbit (Reg.OUT_AUTH_CFG n) 5) || (src = 3 && !d.rbit (Reg.OUT_AUTH_CFG n) 6) then d
  else
    let accepted := match d.listFind i.kind i.len i.bytes with
      | some e => if e.status = 0 then some { i with acct := e.acct } else none
      | none => none
    match d.fld (Reg.OUT_AUTH_CFG n) 1 0, accepted with
    | 1, some j => d.grant n j src
    | 2, some j => d.grant n j src
    | 2, none => (d.setO n fun o => { o with ident := some i, authSrc := src }).deny n
    | _, _ => d.askHost n i src

/-- The empty identifier, of a grant that names none. -/
def Ident.none : Ident := { kind := 0, len := 0, bytes := [], acct := 0xFFFF }

/-- The outlet's own pre-authorisation, unless it has expired (R129, R137). -/
def Dev.ownPreauth (d : Dev) (n : Nat) : Option Ident :=
  match (d.o n).preauth with
  | some (i, due) => if d.pip ≤ due then some i else Option.none
  | Option.none => Option.none

/-- The floating pre-authorisation where the outlet may take it (R137): src_remote is set and the 240,000 pips have not passed. -/
def Dev.floatingFor (d : Dev) (n : Nat) : Option Ident :=
  match d.out.floating with
  | some (i, due) => if d.pip ≤ due && d.rbit (Reg.OUT_AUTH_CFG n) 7 then some i else Option.none
  | Option.none => Option.none

/-- Start authorisation (R124, R129, R137): a pre-authorisation of the outlet is granted, else a floating one; else FREE grants.
DESIGN CHOICE (log entry 79): where an outlet in mode FREE also holds a pre-authorisation or meets R137's conditions, the identifier is granted with source 4 and not FREE's grant with source 5. -/
def Dev.startAuth (d : Dev) (n : Nat) : Dev :=
  let d := (d.setO n fun o => { o with authSince := some d.pip, waiting := false }).goto n .authorising
  match d.ownPreauth n, d.floatingFor n with
  | some i, _ => (d.setO n fun o => { o with preauth := Option.none }).grant n i 4
  | Option.none, some i => { d with out := { d.out with floating := Option.none } }.grant n i 4
  | Option.none, Option.none => if d.fld (Reg.OUT_AUTH_CFG n) 1 0 = 3 then d.grant n Ident.none 5 else d

/-- Which outlet takes a card (R129): the one selected on the keypad if it is in AUTHORISING, else the one that entered AUTHORISING first. -/
def Dev.cardOutlet (d : Dev) : Option Nat :=
  let waiting := (List.range 32).filter fun n => d.ost n == .authorising
  match d.keypadSelected with
  | some n => if d.ost n = .authorising then some n else (sortBy (fun m => ((d.o m).authSince).getD 0) waiting).head?
  | Option.none => (sortBy (fun m => ((d.o m).authSince).getD 0) waiting).head?

/-- A card presentation (CARD_ASSIGNMENT, R129): to one outlet, or an AUTH_REQUEST record with outlet 0xFF. -/
def Dev.presentCard (d : Dev) (i : Ident) (src : Nat) : Dev :=
  match d.cardOutlet with
  | some n => d.present n i src
  | Option.none => d.outRecBy 0xFF 2 0 0 0 src 0 (identExtra i)

/-! ### The pilot -/

/-- Twice 2^11 times the pilot voltage in 10 mV of a converter code, exact (OUT_nn_CP_CAL): gain × code × 100 + offset × 4,096. -/
def Dev.cpScaled (d : Dev) (n code : Nat) : Int :=
  (d.fld (Reg.OUT_CP_CAL n) 31 16 * code * 100 : Nat) + d.sfld (Reg.OUT_CP_CAL n) 15 0 * 4096

/-- The band of a high plateau (R119), with the diode test on the low plateau where the pilot is modulated.
DESIGN CHOICE (log entry 79): the table has no band for a high plateau below −1.5 V; it is classified E. -/
def pilotBand (hi : Int) (lo : Option Int) : Nat :=
  let band := if hi ≥ 1050 * 4096 then 0 else if hi ≥ 750 * 4096 then 1 else if hi ≥ 450 * 4096 then 2 else if hi ≥ 150 * 4096 then 3 else 4
  match lo with
  | some l => if 1 ≤ band && band ≤ 3 && l > -1050 * 4096 then 6 else band
  | none => band

/-- The pilot duty in 0.1 % that R118 gives the outlet; a duty that R118 does not state (a limit above 80 A) is free.
DESIGN CHOICE (log entry 79): R118's current limit I is the smaller of OUT_nn_LIMIT_I and the cable rating; a CCS-DC outlet for which no protocol is enabled holds the pilot steady high.
DESIGN CHOICE (log entry 89): an outlet of basic charging that is back in PLUGGED holds it steady high though authorised still reads 1. -/
def Dev.cpDuty (d : Dev) (n : Nat) : Nat :=
  let s := d.ost n
  let t := d.outType n
  if s = .fault then (if (d.o n).probeFrom.any (fun p => d.pip < p + 16) then 1000 else 0)
  else if t = 0 || !d.rbit (Reg.OUT_STATE n) 19 then 0
  else if t = 3 || s = .idle || s = .unplugged then 1000
  else if (d.o n).hlc then 50
  else if s = .plugged || s = .linking || s = .negotiating || s = .rampdown || s = .weldCheck || !d.rbit (Reg.OUT_STATE n) 17 then 1000
  else
    let i := min (d.rn (Reg.OUT_LIMIT_I n)) (d.fld (Reg.OUT_PP_STATUS n) 7 0 * 10)
    if i < 60 then 1000
    else if i ≤ 510 then (divOpen (i * 10 : Nat) 6 d.fresh).toNat
    else if i ≤ 800 then (divOpen (i * 2 + 3200 : Nat) 5 d.fresh).toNat
    else Config.freeNat d.fresh % 1001

/-- The proximity rating of R121 for a CCS-AC outlet; none for the fault below 50 Ω. -/
def ppRating (ohm : Nat) : Option Nat :=
  if ohm ≥ 4500 then some 0 else if ohm ≥ 1100 then some 13 else if ohm ≥ 400 then some 20 else if ohm ≥ 160 then some 32
  else if ohm ≥ 50 then some 63 else Option.none

/-- The proximity of an outlet is converted (R121). -/
def Dev.proxSample (d : Dev) (n ohm : Nat) : Dev := d.wn (Reg.OUT_PP_STATUS n) (ohm * 0x10000 + (if d.outType n = 2 then (ppRating ohm).getD 0 else 0))

/-- Whether the pilot reading of a pip is of the period, or while the output is steady high within the 4 pips, of the last one (R120). -/
def Outlet.sampleHeld (o : Outlet) (steady : Bool) (pip : Nat) : Bool := o.sampled.any fun p => if steady then pip < p + 4 else p / 4 = pip / 4

/-- A pilot reading counts towards acceptance (R120): one of consecutive periods, each of which gives one; while the output is steady high, one taken 4 pips after the last. -/
def Outlet.read (o : Outlet) (steady : Bool) (pip band : Nat) : Outlet :=
  if o.sampleHeld steady pip then o
  else { o with cand := band, candN := if o.cand = band && o.sampled.any (fun p => if steady then p + 4 = pip else p / 4 + 1 = pip / 4) then o.candN + 1 else 1, sampled := some pip }

/-- A sample of a probe (R126): three of them, 4 pips apart and one to an instant, begin 4 pips after its start; state A in all three is accepted, and any other reading changes nothing. -/
def Dev.probeSample (d : Dev) (n hi : Nat) (start : Nat) : Dev :=
  if (d.pip - start) % 4 ≠ 0 || d.pip < start + 4 || start + 12 < d.pip || (d.o n).sampled = some d.pip then d
  else
    let d := d.setO n fun o => { o with sampled := some d.pip, probeN := if pilotBand (d.cpScaled n hi) Option.none = 0 then o.probeN + 1 else o.probeN }
    if (d.o n).probeN = 3 then
      let d := (d.wn (Reg.OUT_CP_STATUS n) 0).setO n fun o => { o with probeN := 0 }
      if d.fld (Reg.OUT_STATE n) 31 24 ≠ 13 then d.goto n .unplugged else d
    else d

/-- One converter sample of an outlet in this pip: high plateau, low plateau where modulated, and proximity (R119 to R121); a PWM period gives one pilot reading, a steady low output none. -/
def Dev.pilotSample (d : Dev) (p : PilotSample) : Dev :=
  let n := p.outlet.val
  let duty := d.rn (Reg.OUT_CP_DUTY n)
  let ohm := min (Config.ppOhms p.prox (d.fld (Reg.OUT_PP_CAL n) 15 0)) 0xFFFF
  let d := d.proxSample n ohm
  if duty = 0 then d
  else
    let hi := d.cpScaled n p.high
    let lo := d.cpScaled n p.low
    let v := (if duty < 1000 then ofSigned 16 (divOpen lo 4096 d.fresh) * 0x10000 else 0) + ofSigned 16 (divOpen hi 4096 d.fresh)
    let d := (d.wn (Reg.OUT_CP_VOLT n) v).draw 2
    match d.ost n, (d.o n).probeFrom with
    | .fault, some start => d.probeSample n p.high start
    | _, _ =>
      let band0 := pilotBand hi (if duty < 1000 then some lo else Option.none)
      let band := if d.outType n = 2 && (ppRating ohm).isNone then 4 else band0
      d.setO n fun o => o.read (decide (1000 ≤ duty)) d.pip band

/-- Whether HLC is enabled for the outlet's type (R122, R123). -/
def Dev.hlcEnabled (d : Dev) (n : Nat) : Bool :=
  match d.outType n with
  | 1 => d.rbit (Reg.OUT_CFG n) 8 || d.rbit (Reg.OUT_CFG n) 9 || d.rbit (Reg.OUT_CFG n) 10
  | 2 => d.rbit (Reg.OUT_CFG n) 9 || d.rbit (Reg.OUT_CFG n) 10
  | 3 => d.rbit (Reg.OUT_CFG n) 10
  | _ => false

/-- Whether an outlet may leave IDLE: available, a type, both of i_break and t_force confirmed, and for CCS-AC a complete OUTLET gang (R117, "Metered switching"). -/
def Dev.mayPlug (d : Dev) (n : Nat) : Bool :=
  d.outType n ≠ 0 && d.rbit (Reg.OUT_STATE n) 19 && d.guardReady n && (d.o n).confK && (d.o n).confS && (d.outType n ≠ 2 || d.mirror.outletGang n)
    && (d.mode == .service || d.mode == .degraded || d.mode == .maintenance)

/-- IDLE to PLUGGED (R124, R127): the session id is the pip and the outlet number. -/
def Dev.plugIn (d : Dev) (n : Nat) : Dev :=
  let sid := d.pip * 256 + n
  let d := (d.wn (Reg.OUT_SESSION_ID_LO n) sid).wn (Reg.OUT_SESSION_ID_HI n) (sid / 2 ^ 32)
  let d := (d.setFld (Reg.OUT_STATE n) 18 16 0).outReason n 0
  let d := d.setO n fun o => { o with pluggedPip := d.pip, ident := Option.none, authSrc := 0, evMaxV := 0, evMaxI := 0, evMaxP := 0, evcc := [], bpt := false, hlc := d.hlcEnabled n, isoWarn := false, endReason := 0 }
  (d.huskPlug n).goto n .plugged

/-- What a newly accepted pilot state does in each state (R124). -/
def Dev.pilotRow (d : Dev) (n old code : Nat) : Dev :=
  let bcd := 1 ≤ code && code ≤ 3
  let bad := code = 4 || code = 6
  match d.ost n with
  | .idle => if bcd && d.mayPlug n then d.plugIn n else d
  | .plugged => if code = 0 then d.goto n .unplugged else if bad then (d.closeLink n).outFault n 10 else d
  | .linking | .negotiating => if code = 0 then (d.closeLink n).goto n .unplugged else if bad then (d.closeLink n).outFault n 10 else d
  | .authorising =>
    if code = 0 then (d.closeLink n).goto n .unplugged
    else if bad then (d.closeLink n).outFault n 10
    else if (code = 2 || code = 3) && d.outType n = 2 && d.rbit (Reg.OUT_STATE n) 17 then
      if d.permit n then (d.closeCoils n).goto n .energy else d.outFault n 3
    else if (code = 2 || code = 3) && !d.permit n then d.outFault n 3
    else d
  | .energy =>
    if code = 0 then d.rampdown n 9 else if bad then d.rampdown n 10 else if code = 1 && (old = 2 || old = 3) then d.rampdown n 0 else d
  | .fault => if code = 0 && d.fld (Reg.OUT_STATE n) 31 24 ≠ 13 then d.goto n .unplugged else d
  | .cableCheck | .precharge | .rampdown | .weldCheck | .unplugged => d

/-- PILOT_STATE_ACCEPTED (R120): three agreeing periods have read the same new state, and the third has ended; while the output is steady high, three samples have. -/
def Dev.pilotAccepted (d : Dev) (n : Nat) : Dev :=
  let o := d.o n
  let old := d.fld (Reg.OUT_CP_STATUS n) 3 0
  if o.candN ≥ 3 && o.cand ≠ old && o.sampled.any (fun p => 1000 ≤ d.rn (Reg.OUT_CP_DUTY n) || (p / 4 + 1) * 4 ≤ d.pip) then (d.wn (Reg.OUT_CP_STATUS n) o.cand).pilotRow n old o.cand else d

/-- FAULT_PILOT_PROBE (R126): every 400 pips, at a multiple of 4, CP_PWM_nn is driven steady high for 16 pips; a step within the probe brings the code of its sample, as the samples of a pip do (`Dev.probeSample`). -/
def Dev.faultProbe (d : Dev) (n : Nat) (code : Option Nat) : Dev :=
  if d.ost n = .fault && (d.o n).probeDue ≤ d.pip && d.pip % 4 = 0 then
    (d.wn (Reg.OUT_CP_DUTY n) 1000).setO n fun o => { o with probeDue := d.pip + 400, probeFrom := some d.pip, probeN := 0 }
  else
    match d.ost n, (d.o n).probeFrom, code with
    | .fault, some start, some hi => d.probeSample n hi start
    | _, _, _ => d

/-! ### Timed and protocol events of R124 -/

/-- Whether new sessions may leave PLUGGED: not in MAINTENANCE (R16), nor while PLL_COAST (R549) or LOGIC_SELFTEST (R519) is present. -/
def Dev.mayLeavePlugged (d : Dev) : Bool :=
  (d.mode == .service || d.mode == .degraded) && !d.rbit Reg.SYS_DEGRADE_CAUSE 1 && !d.rbit Reg.SYS_DEGRADE_CAUSE 7

/-- The entry rows of PLUGGED (R124), taken at the pip after entry. -/
def Dev.pluggedEntry (d : Dev) (n : Nat) : Dev :=
  if d.ost n = .plugged && !d.rbit (Reg.OUT_STATE n) 18 && (d.o n).stateSince < d.pip && d.mayLeavePlugged then
    if d.hlcEnabled n then
      let d := d.setO n fun o => { o with linkDue := some (d.pip + d.fld (Reg.OUT_TIMEOUTS n) 15 8 * 4000) }
      d.goto n .linking
    else if d.outType n = 2 then (d.setFld (Reg.OUT_STATE n) 11 8 1).startAuth n
    else d
  else d

/-- LINK_UP (R123, R124): the protocol the vehicle lists first among those enabled for the type. ISO 15118-20 needs TLS: while its handshake cannot be carried out (R472, R483) it is not selected, and a vehicle that lists nothing else
gets no link. Whether ISO 15118-2 has TLS is held for Plug & Charge, since an open TLS session keeps its keys (R479). -/
def Dev.linkIsUp (d : Dev) (n : Nat) (offered : List Nat) : Dev :=
  if d.ost n = .linking then
    let t := d.outType n
    let enabled := fun p : Nat => (p = 2 && t = 1 && d.rbit (Reg.OUT_CFG n) 8) || (p = 3 && (t = 1 || t = 2) && d.rbit (Reg.OUT_CFG n) 9)
      || (p = 4 && d.rbit (Reg.OUT_CFG n) 10)
    let want := offered.find? enabled
    let got := offered.find? fun p => enabled p && (p ≠ 4 || d.tlsReady 1)
    let d := if want = some 4 then d.tlsTry 1 else if want = some 3 then d.tlsTry 0 else d
    if want.isSome && got.isNone then d
    else
      let d := d.setFld (Reg.OUT_STATE n) 11 8 (got.getD 0)
      (d.setO n fun o => { o with linkUp := true, tls := if got = some 3 then d.tlsReady 0 else decide (got = some 4), linkDue := Option.none }).goto n .negotiating
  else d

/-- LINK_TIMER_EXPIRY (R124). -/
def Dev.linkTimer (d : Dev) (n : Nat) : Dev :=
  if d.ost n = .linking && due (d.o n).linkDue d.pip then
    if d.outType n = 2 && d.rbit (Reg.OUT_CFG n) 11 then
      ((d.setFld (Reg.OUT_STATE n) 11 8 1).setO n fun o => { o with hlc := false, linkDue := Option.none }).startAuth n
    else d.outFault n 1
  else d

/-- PAYMENT_SELECTION_COMPLETE (R122, R124, R129): authorisation starts; a Plug & Charge contract is presented with it, which neither DIN SPEC 70121 nor a link without TLS offers ("The module after tamper"). -/
def Dev.paymentSelected (d : Dev) (n : Nat) (contract : Option Bytes) : Dev :=
  if d.ost n = .negotiating then
    let d := d.startAuth n
    match contract with
    | some emaid => if d.fld (Reg.OUT_STATE n) 11 8 = 2 || !(d.o n).tls then d else d.present n { kind := 2, len := 10, bytes := (Config.sha256 emaid).take 10, acct := 0xFFFF } 2
    | Option.none => d
  else d

/-- PROTOCOL_ERROR (R124). -/
def Dev.protocolError (d : Dev) (n : Nat) : Dev :=
  match d.ost n with
  | .negotiating => (d.closeLink n).outFault n 2
  | .energy => d.rampdown n 2
  | .idle | .plugged | .linking | .authorising | .cableCheck | .precharge | .rampdown | .weldCheck | .unplugged | .fault => d

/-- AUTHORISATION_TIMER_EXPIRY (R124): it denies nothing once the session is authorised (DESIGN CHOICE, log entry 89). -/
def Dev.authTimer (d : Dev) (n : Nat) : Dev :=
  if d.ost n = .authorising && !d.rbit (Reg.OUT_STATE n) 17 then d.deny n else d

/-- HOST_WAIT_EXPIRY (R129). -/
def Dev.hostWait (d : Dev) (n : Nat) : Dev :=
  let o := d.o n
  if d.ost n = .authorising && o.waiting && due o.hostDue d.pip then
    (d.setO n fun o => { o with waiting := false, hostDue := Option.none }).consultList n (o.ident.getD Ident.none) o.authSrc
  else d

/-- HOST_OFFLINE (R129): no command accepted for OUT_HOST_WATCH pips. -/
def Dev.hostGone (d : Dev) : Dev :=
  if d.hostOnline && d.pip ≥ d.out.lastAccept + d.rn Reg.OUT_HOST_WATCH then d.setBit Reg.OUT_STATUS 0 false else d

/-- PREAUTH_EXPIRY (R129): dropped and logged as AUTH_RESULT with reason 0; its source is the host, which sent it (DEDUCED, log entry 79). -/
def Dev.preauthExpiry (d : Dev) (n : Nat) : Dev :=
  match (d.o n).preauth with
  | some (_, due) => if due < d.pip then (d.setO n fun o => { o with preauth := Option.none }).outRecBy n 3 (d.ost n).code (d.ost n).code 0 4 (d.sessionId n) [] else d
  | Option.none => d

/-- FLOATING_PREAUTH_EXPIRY (R137). -/
def Dev.floatingExpiry (d : Dev) : Dev :=
  match d.out.floating with
  | some (_, due) => if due < d.pip then { d with out := { d.out with floating := Option.none } }.outRecBy 0xFF 3 0 0 0 4 0 [] else d
  | Option.none => d

/-- CABLE_CHECK_TIMER_EXPIRY (R124). -/
def Dev.cableTimer (d : Dev) (n : Nat) : Dev :=
  if d.ost n = .cableCheck && due (d.o n).cableDue d.pip then d.rampdown n 5 else d

/-- POWER_DELIVERY_REQUEST (R122, R124, R135): DC_BPT is a service of ISO 15118-20 for DC types. -/
def Dev.powerDelivery (d : Dev) (n : Nat) (bpt : Bool) : Dev :=
  if d.ost n = .precharge && (d.o n).prechMet then
    (d.setO n fun o => { o with bpt := bpt && d.rbit (Reg.OUT_CFG n) 12 && d.outType n ≠ 2 && d.fld (Reg.OUT_STATE n) 11 8 = 4 }).goto n .energy
  else d

/-- PRECHARGE_TIMER_EXPIRY (R124). -/
def Dev.prechTimer (d : Dev) (n : Nat) : Dev :=
  if d.ost n = .precharge && due (d.o n).prechDue d.pip then d.rampdown n 6 else d

/-- VEHICLE_STOP_REQUEST (R124). -/
def Dev.vehicleStop (d : Dev) (n : Nat) : Dev := if d.ost n = .energy then d.rampdown n 0 else d

/-- Credit exhausted stops an outlet in ENERGY (R124, R244). -/
def Dev.creditStop (d : Dev) (n : Nat) : Dev := if d.ost n = .energy then d.rampdown n 0 else d

/-- Power-module status lost or faulty (R124, R131). -/
def Dev.pmStop (d : Dev) (n r : Nat) : Dev :=
  if d.ost n = .energy || d.ost n = .precharge || d.ost n = .cableCheck then d.rampdown n r else d

/-- An outlet with its coils closed takes the safety-cut row (R124). In BOOT it is noted: the session task takes the row when the carry image gives it the outlet back (R353, R382, R499). -/
def Dev.outCut (d : Dev) (n r : Nat) : Dev :=
  if (d.ost n).running then (d.outReason n r).releaseToWeld n
  else if d.mode == .boot then { d with sys := { d.sys with cuts := d.sys.cuts ++ [(n, r)] } }
  else d

/-- The Stone opens SLS_nn for a safety input (reason 11) or a Guard trip (reason 12) while the coils are closed (R124). -/
def Dev.outSafetyCut (d : Dev) (n r : Nat) : Dev := d.outCut n r

/-- The Stone's forced break in RAMPDOWN (R124, R132). -/
def Dev.outForced (d : Dev) (n : Nat) : Dev :=
  if d.ost n = .rampdown then
    let d := ((d.setFld (Reg.OUT_STATE n) 16 16 1).inc (Reg.OUT_FORCED_BREAK_CNT n)).raise (Reg.OUT_EVENT n) 2
    let d := (d.outRec n 4 (d.ost n).code (d.ost n).code []).setO n fun o => { o with forced := true }
    d.releaseToWeld n
  else d

/-- A Guard insulation result (R134): it passes the cable check when its window began after the voltage had settled and it lies above the trip threshold; `warn` that it lies below the warning threshold. -/
def Dev.outInsulation (d : Dev) (n windowStart : Nat) (aboveTrip warn : Bool) : Dev :=
  if d.ost n = .cableCheck then
    if aboveTrip then
      match (d.o n).settled with
      | some p => if p ≤ windowStart then
          (((d.setO n fun o => { o with prechMet := false, isoWarn := warn }).guardArm n true).goto n .precharge).setO n fun o =>
            { o with prechDue := some (d.pip + d.fld (Reg.OUT_TIMEOUTS n) 31 24 * 400) }
        else d
      | Option.none => d
    else d.rampdown n 4
  else d

/-- A coil of a running outlet trips (R382): the session releases both coils with reason SAFETY. -/
def Dev.outCoilTrip (d : Dev) (n : Nat) : Dev := d.outCut n 11

/-- The session task is to close the Kernel session, with the reason that its transaction record carries (R124, R252). -/
def Dev.closeKernel (d : Dev) (n : Nat) : Dev := d.setO n fun o => { o with kWant := false, endReason := d.fld (Reg.OUT_STATE n) 31 24 }

/-- What the sample latch tells the session (R124, R133 to R136): `below` the live-magnitude flag below I_break, `v60` both samples of the previous pip below 60 V
on every phase, `settled` within 5 % of the cable-check target, `met` within 20 V of the target at no more than 2 A.
DESIGN CHOICE (log entry 89): WELD_CHECK passes at a latch later than the pip whose frame released the coils, for which R136 gives only the last. -/
def Dev.outLatch (d : Dev) (n : Nat) (below v60 settled met : Bool) : Dev :=
  match d.ost n with
  | .rampdown => if below then d.releaseToWeld n else d
  | .cableCheck => d.setO n fun o => { o with settled := if settled then some (o.settled.getD d.pip) else none }
  | .precharge => d.setO n fun o => { o with prechMet := met }
  | .weldCheck =>
    if v60 && (d.o n).relPip.any (fun r => r < d.pip) && (d.o n).weldDue.any (fun w => d.pip ≤ w) then
      let d := d.closeKernel n
      if d.fld (Reg.OUT_STATE n) 31 24 ≠ 0 then d.goto n .fault
      else if d.fld (Reg.OUT_CP_STATUS n) 3 0 = 0 then d.goto n .unplugged
      else (d.setFld (Reg.OUT_STATE n) 18 18 1).goto n .plugged
    else d
  | .idle | .plugged | .linking | .negotiating | .authorising | .energy | .unplugged | .fault => d

/-- WELD_CHECK_TIMEOUT (R124): 2,000 pips after release without a pass. -/
def Dev.weldTimeout (d : Dev) (n : Nat) : Dev :=
  if d.ost n = .weldCheck && due (d.o n).weldDue d.pip then ((d.outReason n 13).closeKernel n).goto n .fault else d

/-- UNPLUGGED_TO_IDLE (R124): at the pip after entry; a pending unavailability takes effect (R137's opcode table). -/
def Dev.toIdle (d : Dev) (n : Nat) : Dev :=
  if d.ost n = .unplugged && (d.o n).stateSince < d.pip then
    let d := d.goto n .idle
    if (d.o n).wantUnavail then d.setBit (Reg.OUT_STATE n) 19 false else d
  else d

/-- OUT_STOP on a state (R124, the opcode table): none where the state does not permit it. -/
def Dev.stopRow (d : Dev) (n : Nat) : Option Dev :=
  match d.ost n with
  | .rampdown | .weldCheck => some d
  | .idle | .unplugged | .fault => Option.none
  | .plugged => if d.rbit (Reg.OUT_STATE n) 18 then Option.none else some (d.setFld (Reg.OUT_STATE n) 18 18 1)
  | .linking | .negotiating | .authorising => some (((d.closeLink n).setFld (Reg.OUT_STATE n) 18 18 1).goto n .plugged)
  | .cableCheck | .precharge | .energy => some (d.rampdown n 0)

/-- After BOOT, an outlet with an open Kernel session `sid` (R124, R127, "When the Shell restarts during a session"): its session id stands again, FAULT with CONTROLLER_RESET, the session to be closed.
No pilot state has been accepted yet, so the outlet stays in FAULT until a probe finds pilot A (R126). -/
def Dev.controllerReset (d : Dev) (n sid : Nat) : Dev :=
  let d := (d.wn (Reg.OUT_SESSION_ID_LO n) sid).wn (Reg.OUT_SESSION_ID_HI n) (sid / 2 ^ 32)
  ((d.wn (Reg.OUT_CP_STATUS n) 5).setO n fun o => { o with kWant := false, pluggedPip := sid / 256, endReason := 14 }).outFault n 14

/-! ### Mailboxes (R130) and vehicle requests -/

/-- The mailbox mode of a state (R130): DISCHARGE in ENERGY while a vehicle with bidirectional transfer requests a current below 0 (DESIGN CHOICE, log entry 89). -/
def Dev.mailMode (d : Dev) (n : Nat) : Nat :=
  match d.ost n with
  | .cableCheck => 1
  | .precharge => 2
  | .energy => if (d.o n).bpt && d.sfld (Reg.OUT_EV_REQ_I n) 31 0 < 0 then 4 else 3
  | .idle | .plugged | .linking | .negotiating | .authorising | .rampdown | .weldCheck | .unplugged | .fault => 0

/-- The setpoint mailbox of an outlet for this pip (R130): the vehicle's latest request held to the smallest of the limits. -/
def Dev.mailbox (d : Dev) (n : Nat) : Dev :=
  let m := d.mailMode n
  let d := d.wn (Reg.OUT_SP_MODE n) m
  if m = 0 then ((d.wn (Reg.OUT_SP_VOLT n) 0).wn (Reg.OUT_SP_CURR n) 0).wn (Reg.OUT_SP_POWER n) 0
  else
    let o := d.o n
    let lim0 := min (d.rn (Reg.OUT_LIMIT_I n)) o.evMaxI
    let lim1 := if d.outType n = 2 then min lim0 (d.fld (Reg.OUT_PP_STATUS n) 7 0 * 10) else lim0
    let lim := if m = 2 then min lim1 20 else lim1
    let v := min (d.rn (Reg.OUT_EV_REQ_V n)) (min (d.rn (Reg.OUT_LIMIT_V n)) o.evMaxV)
    let i := max (-(lim : Int)) (min (lim : Int) (d.sfld (Reg.OUT_EV_REQ_I n) 31 0))
    let p : Int := (min (d.rn (Reg.OUT_LIMIT_P n)) o.evMaxP : Nat)
    ((d.wn (Reg.OUT_SP_VOLT n) v).wi (Reg.OUT_SP_CURR n) i).wi (Reg.OUT_SP_POWER n) (if m = 4 then -p else p)

/-- VEHICLE_REQUEST_DECODED (R130). -/
def Dev.vehicleRequest (d : Dev) (n : Nat) (r : EvRequest) : Dev :=
  let d := ((d.wn (Reg.OUT_EV_REQ_V n) (r.volt % 65536)).wi (Reg.OUT_EV_REQ_I n) r.curr).wn (Reg.OUT_EV_SOC n) (r.soc % 256)
  let d := d.setO n fun o => { o with evMaxV := r.maxV % 65536, evMaxI := r.maxI % 65536, evMaxP := r.maxP, evcc := if r.evcc = [] then o.evcc else padTo 6 r.evcc }
  d.mailbox n

/-! ### Power-module templates (R131) -/

/-- Payload bytes of a DLC code. -/
def dlcBytes (dlc : Nat) : Nat :=
  if dlc ≤ 8 then dlc else ([12, 16, 20, 24, 32, 48, 64].getD (dlc - 9) 64)

/-- The byte and bit that field position `p` names: least significant bit first, or most significant bit first where big_endian (log entry 20). -/
def bitPlace (big : Bool) (p : Nat) : Nat × Nat := (p / 8, if big then 7 - p % 8 else p % 8)

/-- Put `v` into the field of `width` bits at `start`. -/
def putField (big : Bool) (start width v : Nat) (bs : Bytes) : Bytes :=
  (List.range width).foldl (fun acc k =>
    let bit := if big then v.testBit (width - 1 - k) else v.testBit k
    let (b, i) := bitPlace big (start + k)
    acc.set b (if bit then acc.getD b 0 ||| (1#8 <<< i) else acc.getD b 0 &&& ~~~(1#8 <<< i))) bs

/-- The number in the field of `width` bits at `start`. -/
def getField (big : Bool) (start width : Nat) (bs : Bytes) : Nat :=
  (List.range width).foldl (fun acc k =>
    let (b, i) := bitPlace big (start + k)
    let bit := (bs.getD b 0).getLsbD i
    acc + b2n bit * 2 ^ (if big then width - 1 - k else k)) 0

/-- Scale on transmit: ×1, ×10, ×100, ÷10, ÷100 (a quotient's rounding is not stated). -/
def scaleTx (code : Nat) (v : Int) (free : Nat) : Int :=
  match code with
  | 0 => v | 1 => v * 10 | 2 => v * 100 | 3 => divOpen v 10 free | _ => divOpen v 100 free

/-- The inverse of the scale, on receive. -/
def scaleRx (code : Nat) (v : Int) (free : Nat) : Int :=
  match code with
  | 0 => v | 1 => divOpen v 10 free | 2 => divOpen v 100 free | 3 => v * 10 | _ => v * 100

/-- The internal value of a transmit source (OUT_TPL_tt_FPOS_ff.source). -/
def Dev.tplSource (d : Dev) (n src alive : Nat) : Int :=
  match src with
  | 1 => (d.rn (Reg.OUT_SP_VOLT n) : Int)
  | 2 => d.sfld (Reg.OUT_SP_CURR n) 31 0
  | 3 => d.sfld (Reg.OUT_SP_POWER n) 31 0
  | 4 => (d.rn (Reg.OUT_SP_MODE n) : Int)
  | 5 => (n : Int)
  | 6 => (alive % 16 : Nat)
  | _ => 0

/-- The payload a transmit template builds from the mailbox of this pip (R131); of a value that its field cannot hold the low bits stand there (DESIGN CHOICE, log entry 79). -/
def Dev.tplPayload (d : Dev) (t n alive : Nat) : Bytes :=
  let cfg := Reg.OUT_TPL_CFG t
  (List.range (d.fld cfg 15 12 + 1)).foldl (fun bs f =>
    let fp := Reg.OUT_TPL_FPOS t f
    let v := scaleTx (d.fld fp 10 8) (d.tplSource n (d.fld fp 31 27) alive) (d.fresh + f) + d.sfld (Reg.OUT_TPL_FOFS t f) 31 0
    let w := d.fld fp 15 11 + 1
    putField (d.rbit fp 26) (d.fld fp 24 16) w (ofSigned w v) bs) (List.replicate (dlcBytes (d.fld cfg 19 16)) 0)

/-- A template's period or timeout counts from its enabling (R131). -/
def Dev.tplArm (d : Dev) (t : Nat) : Dev := { d with out := { d.out with tpls := tset Tpl.reset d.out.tpls t { Tpl.reset with last := d.pip } } }

/-- CAN_TX_TEMPLATE (R131): a transmit template whose period falls due sends its frame. -/
def Dev.canTx (d : Dev) (t : Nat) : Dev :=
  let cfg := Reg.OUT_TPL_CFG t
  let tp := tget Tpl.reset d.out.tpls t
  if d.rbit cfg 31 && !d.rbit cfg 30 && tp.last + d.fld cfg 11 0 ≤ d.pip then
    let f : CanFrame := { port := d.fld cfg 29 28, fd := d.rbit cfg 27, brs := d.rbit cfg 26, ext := d.rbit cfg 25, id := d.fld (Reg.OUT_TPL_CANID t) 28 0, data := d.tplPayload t (d.fld cfg 24 20) tp.alive }
    { d with out := { d.out with tpls := tset Tpl.reset d.out.tpls t { last := d.pip, alive := (tp.alive + 1) % 16, frame := some f } }, fresh := d.fresh + 32 }.inc (Reg.OUT_TPL_COUNT t)
  else d

/-- Store one field of a received frame into the outlet's power-module registers; of a value that its register cannot hold the low bits stand there (DESIGN CHOICE, log entry 79).
DESIGN CHOICE (log entry 79): the spec gives receive source 20 (alive check) no action; the field is ignored. -/
def Dev.tplStore (d : Dev) (n src : Nat) (v : Int) : Dev :=
  match src with
  | 16 => d.wn (Reg.OUT_PM_VOLT n) (ofSigned 16 v)
  | 17 => d.wi (Reg.OUT_PM_CURR n) v
  | 18 => d.setBit (Reg.OUT_PM_STATUS n) 0 (v ≠ 0)
  | 19 => d.setBit (Reg.OUT_PM_STATUS n) 1 (v ≠ 0)
  | _ => d

/-- Store a matching frame by one receive template (R131); a fault reported there takes the PM_FAULT row. -/
def Dev.tplReceive (d : Dev) (t : Nat) (f : CanFrame) : Dev :=
  let cfg := Reg.OUT_TPL_CFG t
  let n := d.fld cfg 24 20
  let d1 := (List.range (d.fld cfg 15 12 + 1)).foldl (fun (d : Dev) j =>
    let fp := Reg.OUT_TPL_FPOS t j
    let w := d.fld fp 15 11 + 1
    let raw := getField (d.rbit fp 26) (d.fld fp 24 16) w f.data
    let wire : Int := if d.rbit fp 25 then toSigned w raw else (raw : Int)
    d.tplStore n (d.fld fp 31 27) (scaleRx (d.fld fp 10 8) (wire - d.sfld (Reg.OUT_TPL_FOFS t j) 31 0) (d.fresh + j))) d
  let d2 := (d1.setFld (Reg.OUT_PM_STATUS n) 31 16 0).inc (Reg.OUT_TPL_COUNT t)
  let tp := tget Tpl.reset d.out.tpls t
  let d3 := { d2 with out := { d2.out with tpls := tset Tpl.reset d2.out.tpls t { tp with last := d.pip } }, fresh := d.fresh + 32 }
  if d3.rbit (Reg.OUT_PM_STATUS n) 1 then d3.pmStop n 8 else d3

/-- CAN_RX_FRAME (R131): every enabled receive template that the frame matches stores it.
DESIGN CHOICE (log entry 79): a frame matches that comes on the template's port with its format (fd, brs, ext_id), its identifier and the payload length of its DLC code. -/
def Dev.canRx (d : Dev) (f : CanFrame) : Dev :=
  (List.range 64).foldl (fun (d : Dev) t =>
    let cfg := Reg.OUT_TPL_CFG t
    if d.rbit cfg 31 && d.rbit cfg 30 && d.fld cfg 29 28 = f.port && d.rbit cfg 27 = f.fd && d.rbit cfg 26 = f.brs && d.rbit cfg 25 = f.ext && d.fld (Reg.OUT_TPL_CANID t) 28 0 = f.id
       && f.data.length = dlcBytes (d.fld cfg 19 16) then d.tplReceive t f else d) d

/-- PM_STATUS_TIMEOUT (R131): no matching frame for the template's timeout while the outlet needs its power module. -/
def Dev.pmTimeout (d : Dev) (t : Nat) : Dev :=
  let cfg := Reg.OUT_TPL_CFG t
  let tp := tget Tpl.reset d.out.tpls t
  if d.rbit cfg 31 && d.rbit cfg 30 && tp.last + d.fld cfg 11 0 ≤ d.pip then d.pmStop (d.fld cfg 24 20) 7 else d

/-- The age of every outlet's power-module status grows by one pip, saturating. -/
def Dev.pmAges (d : Dev) : Dev :=
  (List.range 32).foldl (fun (d : Dev) n =>
    let a := d.fld (Reg.OUT_PM_STATUS n) 31 16
    if a < 0xFFFF then d.setFld (Reg.OUT_PM_STATUS n) 31 16 (a + 1) else d) d

/-- The pilot duty in use, set where a PWM period begins (R118). A steady low output is state F, whatever the plug (R119); in FAULT the probes read the pilot (R126). -/
def Dev.dutyTick (d : Dev) : Dev :=
  if d.pip % 4 = 0 then
    let d := { d with sys := { d.sys with pilots := true } }
    (List.range 32).foldl (fun (d : Dev) n =>
      let duty := d.cpDuty n
      let d := (d.wn (Reg.OUT_CP_DUTY n) duty).draw 1
      if duty = 0 && d.ost n != .fault then (d.wn (Reg.OUT_CP_STATUS n) 5).setO n fun o => { o with candN := 0 } else d) d
  else d

/-- An outlet held in IDLE with a plug leaves it once it may (R124, "Metered switching": not before i_break and t_force are confirmed). -/
def Dev.idleEntry (d : Dev) (n : Nat) : Dev :=
  let code := d.fld (Reg.OUT_CP_STATUS n) 3 0
  if d.ost n = .idle && 1 ≤ code && code ≤ 3 && d.mayPlug n then d.plugIn n else d

/-- A power module that reports a fault stops its outlet for as long as it does (R131). -/
def Dev.pmFault (d : Dev) (n : Nat) : Dev := if d.rbit (Reg.OUT_PM_STATUS n) 1 then d.pmStop n 8 else d

/-- The outlet part of the work of every pip. -/
def Dev.outTick (d : Dev) (samples : List PilotSample) : Dev :=
  let d := (List.range 32).foldl (fun (d : Dev) n => ((d.idleEntry n).pluggedEntry n).pmFault n) d
  let d := samples.foldl (fun (d : Dev) p => d.pilotSample p) d.dutyTick
  (List.range 32).foldl (fun (d : Dev) n => if d.outType n = 0 then d else d.mailbox n) d.pmAges

/-- RECEIPT_READY (R128): the Kernel has stored a receipt of the outlet's session. -/
def Dev.receiptReady (d : Dev) (n counter session : Nat) : Dev :=
  d.outRecBy n 5 (d.ost n).code (d.ost n).code (d.fld (Reg.OUT_STATE n) 31 24) (d.o n).authSrc session (leN counter 8)

/-- CERTIFICATE_INSTALLATION_REQUEST (R122, R128): the host is asked for the answer; only a vehicle on an ISO 15118-2 link may ask. -/
def Dev.certRequest (d : Dev) (n : Nat) : Dev :=
  if (d.o n).linkUp && d.fld (Reg.OUT_STATE n) 11 8 = 3 then
    (d.setO n fun o => { o with certPending := true, certBuf := [] }).outRec n 6 (d.ost n).code (d.ost n).code []
  else d

/-! ### Opcodes of the 0x02xx family (R137) -/

/-- An outlet operand above 31, or a slot of type NONE. -/
def Dev.noOutlet (d : Dev) (n : Nat) : Bool := 31 < n || d.outType n = 0

/-- OUT_STATUS_GET (0x0200). -/
def opOutStatusGet (d : Dev) (c : Cmd) : Dev × Ans :=
  let n := num c.payload 0 1
  check d [(c.payload.length ≠ 4, St.badLength), (num c.payload 1 3 ≠ 0, St.badParam), (d.noOutlet n, St.f1)] <|
    (d, .done St.ok (d.regBytes [Reg.OUT_STATE n, Reg.OUT_CP_STATUS n, Reg.OUT_PP_STATUS n, Reg.OUT_SP_MODE n, Reg.OUT_SP_VOLT n, Reg.OUT_SP_CURR n] ++ leN (d.sessionId n) 8))

/-- OUT_AUTHORISE (0x0201). Here and in the opcodes like it an operand out of its range is found before an outlet that does not exist (both of step 3 of R606; DESIGN CHOICE, log entry 89). -/
def opOutAuthorise (d : Dev) (c : Cmd) : Dev × Ans :=
  let p := c.payload
  let n := num p 0 1
  let o := d.o n
  check d [(p.length ≠ 8, St.badLength), (num p 2 2 ≠ 0 || num p 6 2 ≠ 0, St.badParam), (1 < num p 1 1, St.badParam), (d.noOutlet n, St.f1),
           (d.ost n ≠ .authorising || !o.waiting, St.f0)] <|
    let i := { o.ident.getD Ident.none with acct := num p 4 2 }
    (if num p 1 1 = 1 then d.grant n i o.authSrc else d.deny n, .done St.ok [])

/-- OUT_START_REMOTE (0x0202). -/
def opOutStartRemote (d : Dev) (c : Cmd) : Dev × Ans :=
  let p := c.payload
  let n := num p 0 1
  let i : Ident := { kind := num p 2 1, len := num p 3 1, bytes := (p.drop 4).take 10, acct := num p 14 2 }
  check d [(p.length ≠ 16, St.badLength), (num p 1 1 ≠ 0, St.badParam), (i.kind = 0 || 3 < i.kind || 10 < i.len, St.badParam)] <|
    if n = 0xFF then ({ d with out := { d.out with floating := some (i, d.pip + 240000) } }, .done St.ok [])
    else check d [(d.noOutlet n, St.f1), (!d.rbit (Reg.OUT_AUTH_CFG n) 7, St.denied)] <|
      match d.ost n with
      | .idle => (d.setO n fun o => { o with preauth := some (i, d.pip + d.fld (Reg.OUT_AUTH_CFG n) 31 24 * 4000) }, .done St.ok [])
      | .authorising => (d.grant n i 4, .done St.ok [])
      | .plugged | .linking | .negotiating | .cableCheck | .precharge | .energy | .rampdown | .weldCheck | .unplugged | .fault => (d, .done St.f0 [])

/-- OUT_STOP (0x0203). -/
def opOutStop (d : Dev) (c : Cmd) : Dev × Ans :=
  let n := num c.payload 0 1
  check d [(c.payload.length ≠ 4, St.badLength), (num c.payload 1 3 ≠ 0, St.badParam), (d.noOutlet n, St.f1)] <|
    match d.stopRow n with
    | some d' => (d', .done St.ok [])
    | Option.none => (d, .done St.f0 [])

/-- OUT_SET_AVAILABLE (0x0204): unavailability takes effect at the next IDLE. -/
def opOutSetAvailable (d : Dev) (c : Cmd) : Dev × Ans :=
  let n := num c.payload 0 1
  let a := num c.payload 1 1
  check d [(c.payload.length ≠ 4, St.badLength), (num c.payload 2 2 ≠ 0, St.badParam), (1 < a, St.badParam), (d.noOutlet n, St.f1)] <|
    let d := d.setO n fun o => { o with wantUnavail := a = 0 }
    (if a = 1 then d.setBit (Reg.OUT_STATE n) 19 true else if d.ost n = .idle then d.setBit (Reg.OUT_STATE n) 19 false else d, .done St.ok [])

/-- OUT_CLEAR_FAULT (0x0205). -/
def opOutClearFault (d : Dev) (c : Cmd) : Dev × Ans :=
  let n := num c.payload 0 1
  check d [(c.payload.length ≠ 4, St.badLength), (num c.payload 1 3 ≠ 0, St.badParam), (d.noOutlet n, St.f1),
           (d.ost n ≠ .fault || d.fld (Reg.OUT_CP_STATUS n) 3 0 ≠ 0, St.f0)] <|
    (d.goto n .unplugged, .done St.ok [])

/-- OUT_SESSION_INFO (0x0206). -/
def opOutSessionInfo (d : Dev) (c : Cmd) : Dev × Ans :=
  let n := num c.payload 0 1
  let o := d.o n
  let i := o.ident.getD Ident.none
  let ended : Bool := d.ost n == .idle || d.ost n == .unplugged
  let proto := if ended then o.lastProto else d.fld (Reg.OUT_STATE n) 11 8
  let why := if ended then o.lastReason else d.fld (Reg.OUT_STATE n) 31 24
  check d [(c.payload.length ≠ 4, St.badLength), (num c.payload 1 3 ≠ 0, St.badParam), (d.noOutlet n, St.f1)] <|
    (d, .done St.ok (leN (d.sessionId n) 8 ++ leN o.pluggedPip 8 ++ [byte i.kind, byte i.len] ++ padTo 10 i.bytes ++ leN i.acct 2
      ++ [byte proto, byte why] ++ leN o.evMaxV 2 ++ leN o.evMaxI 2 ++ padTo 6 o.evcc ++ [0, 0]))

/-- OUT_EVENT_READ (0x0207). -/
def opOutEventRead (d : Dev) (c : Cmd) : Dev × Ans :=
  let p := c.payload
  check d [(p.length ≠ 8, St.badLength), (num p 5 3 ≠ 0, St.badParam), (num p 4 1 = 0 || 31 < num p 4 1, St.badParam)] <|
    let head := d.rn Reg.OUT_EVENT_HEAD
    logRead d head (head + 1 - d.out.ring.length) (num p 0 4) (num p 4 1) St.f5 fun s =>
      match d.out.ring[head - s]? with
      | some r => evRecBytes r
      | Option.none => []

/-- Whether an entry has the same identifier. -/
def ListEntry.same (a b : ListEntry) : Bool := a.kind == b.kind && a.len == b.len && padTo 10 a.bytes == padTo 10 b.bytes

/-- Apply one update entry: status 3 deletes, any other replaces or adds. -/
def listApply (l : List ListEntry) (e : ListEntry) : List ListEntry :=
  let rest := l.filter fun x => !x.same e
  if e.status = 3 then rest else rest ++ [e]

/-- The 16 bytes of a local-list entry (R129). -/
def ListEntry.bytes16 (e : ListEntry) : Bytes := [byte e.kind, byte e.len] ++ padTo 10 e.bytes ++ [byte e.status, 0] ++ leN e.acct 2

/-- A local-list entry from its 16 bytes. -/
def listEntryOf (b : Bytes) : ListEntry :=
  { kind := num b 0 1, len := num b 1 1, bytes := (b.drop 2).take 10, status := num b 12 1, acct := num b 14 2 }

/-- The live list replaced, its copy in flash and the registers with it. -/
def Dev.setList (d : Dev) (l : List ListEntry) (v : Nat) : Dev :=
  (({ d with out := { d.out with list := l, flashList := l, flashVersion := v } }.wn Reg.OUT_LIST_COUNT l.length).wn Reg.OUT_LIST_VERSION v).setBit Reg.OUT_STATUS 1 true

/-- LIST_UPDATE (0x0208). An entry of status 3 outside an update is BAD_PARAM (DESIGN CHOICE, log entry 89). -/
def opListUpdate (d : Dev) (c : Cmd) : Dev × Ans :=
  let p := c.payload
  let ver := num p 0 4
  let op := num p 4 1
  let cnt := num p 5 1
  let es := (List.range cnt).map fun k => listEntryOf ((p.drop (8 + 16 * k)).take 16)
  let badE := es.any fun e => e.kind = 0 || 3 < e.kind || 10 < e.len || 3 < e.status || (e.status = 3 && op ≠ 0)
  let badZ := (List.range cnt).any fun k => num p (8 + 16 * k + 13) 1 ≠ 0
  check d [(p.length < 8 || p.length ≠ 8 + 16 * cnt, St.badLength), (num p 6 2 ≠ 0 || badZ, St.badParam), (3 < op || 63 < cnt || badE, St.badParam),
           ((op = 0 || op = 3) && ver ≤ d.rn Reg.OUT_LIST_VERSION, St.f3)] <|
    match op with
    | 0 =>
      let l := es.foldl listApply d.out.list
      if 65536 < l.length then (d, .done St.f2 []) else (d.setList l ver, .done St.ok [])
    | 1 => ({ d with out := { d.out with staging := es.foldl listApply [] } }, .done St.ok [])
    | 2 =>
      let l := es.foldl listApply d.out.staging
      if 65536 < l.length then (d, .done St.f2 []) else ({ d with out := { d.out with staging := l } }, .done St.ok [])
    | _ =>
      let l := es.foldl listApply d.out.staging
      if 65536 < l.length then (d, .done St.f2 []) else ({ d with out := { d.out with staging := [] } }.setList l ver, .done St.ok [])

/-- LIST_QUERY (0x0209). -/
def opListQuery (d : Dev) (c : Cmd) : Dev × Ans :=
  let p := c.payload
  check d [(p.length ≠ 12, St.badLength), (num p 0 1 = 0 || 3 < num p 0 1 || 10 < num p 1 1, St.badParam)] <|
    match d.listFind (num p 0 1) (num p 1 1) ((p.drop 2).take 10) with
    | some e => (d, .done St.ok e.bytes16)
    | Option.none => (d, .done St.f4 [])

/-- OUT_CERT_RESPONSE (0x020A): a chunk of the host's answer, sent to the vehicle when it is complete. -/
def opOutCertResponse (d : Dev) (c : Cmd) : Dev × Ans :=
  let p := c.payload
  let n := num p 0 1
  let total := num p 2 2
  let off := num p 4 2
  let len := num p 6 2
  check d [(p.length < 8 || p.length ≠ 8 + len, St.badLength), (num p 1 1 ≠ 0, St.badParam), (total < off + len, St.badParam), (d.noOutlet n, St.f1),
           (!(d.o n).certPending, St.f0)] <|
    let buf := (padTo off (d.o n).certBuf) ++ p.drop 8
    (d.setO n fun o => if off + len = total then { o with certPending := false, certBuf := [], certOut := buf } else { o with certBuf := buf }, .done St.ok [])

end Sys2Proof.Machine
end

