-- ==== Sys2Proof/Machine/Stone.lean ====
section
/-!
DEFINITION. The Stone and the safety task (11_safety_stone.md): pairs, cuts, the permit word and heartbeat, metered opening, HUB_STOP_N, the safety configuration, Stone frames and
connections, and the 0x0Dxx opcodes.
-/
namespace Sys2Proof.Machine

/-! ### Cuts (R351, R353) -/

/-- The Stone releases an enabled SLS_n by a cut (R353): counted, recorded, and the session takes the safety-cut row for a safety function or a Guard trip (R124). -/
def Dev.stoneCut (d : Dev) (n cause : Nat) : Dev :=
  if !d.sls n then d
  else
    let d := d.setBit Reg.SAFE_SLS_MASK n false
    let d := { d with safe := { d.safe with rose := d.safe.rose - d.safe.rose % 2 ^ (n + 1) / 2 ^ n * 2 ^ n } }
    let d := (((d.inc Reg.SAFE_CUT_CNT).wn Reg.SAFE_LAST_CUT (n * 256 + cause)).wn Reg.SAFE_LAST_CUT_PIP d.pip).raise Reg.SAFE_EVENT 1
    let d := d.slsShow n
    if cause = 8 then d.outSafetyCut n 12 else if cause < 8 || 16 ≤ cause then d.outSafetyCut n 11 else d

/-- The Stone's evaluation of every outlet after a change of cause `cause`, for a pair the outlets of its mask (R351, R353), and HUB_STOP_N. -/
def Dev.stoneEval (d : Dev) (cause : Nat) : Dev :=
  let d := (List.range 32).foldl (fun (d : Dev) n => (if d.sls n && !d.stoneOk n && (8 ≤ cause || wbit (d.pairOut cause) n) then d.stoneCut n cause else d).slsShow n) d
  d.hubUpdate

/-! ### Pairs (R346 to R350) -/

/-- A hand of TWO_HAND is actuated: A closed, B open (R348). -/
def SPair.actuated (p : SPair) : Bool := p.a && !p.b

/-- A hand is released: A open, B closed. -/
def SPair.released (p : SPair) : Bool := !p.a && p.b

/-- The pair that carries the function of a pair's inputs: the even one of a TWO_HAND couple (R348). -/
def Dev.pairOwner (d : Dev) (p : Nat) : Nat := if p % 2 = 1 && d.pairFn (p - 1) = 4 then p - 1 else p

/-- Whether a pair checks by the start-up test (R347). -/
def Dev.startMode (d : Dev) (p : Nat) : Bool := wfld (d.pairCfg p) 25 24 = 1

/-- The discrepancy time of a pair in pips. -/
def Dev.discPips (d : Dev) (p : Nat) : Nat := wfld (d.pairCfg p) 15 8 * 8

/-- Whether the inputs of a pair's function are sound. -/
def Dev.pairSound (d : Dev) (p : Nat) : Bool :=
  let x := d.pair p
  match d.pairFn p with
  | 4 => (x.a != x.b) && ((d.pair (p + 1)).a != (d.pair (p + 1)).b)
  | 0 | 5 => true
  | _ => x.a && x.b && (!d.startMode p || x.startOk)

/-- Whether the inputs of a pair's function ask for a permit (R346, R348). -/
def Dev.pairCond (d : Dev) (p : Nat) : Bool :=
  let x := d.pair p
  match d.pairFn p with
  | 4 => x.actuated && (d.pair (p + 1)).actuated && x.armed && (x.permit || x.handAt.any fun t => x.second.any fun u => u ≤ t + 2000)
  | _ => d.pairSound p

/-- Show a pair's levels, permits, state and fault. -/
def Dev.pairShow (d : Dev) (p : Nat) : Dev :=
  let x := d.pair p
  let pm := d.pairPermits p && !(d.pairFn p == 5 && x.needReset)
  let st := if d.pairFn p = 0 then 0 else if x.fault ≠ 0 then 5 else if pm then 2 else if x.needReset && d.pairSound p then 4 else if d.startMode p && !x.started then 1 else 3
  d.wn (Reg.SAFE_PAIR_STATUS p) (x.fault * 4096 + st * 256 + b2n (d.pairCpu p && !(d.pairFn p == 5 && x.needReset)) * 8 + b2n pm * 4 + b2n x.b * 2 + b2n x.a)

/-- Judge a pair's function anew: a withdrawn permit is counted and, with manual_reset, waits for a reset (R349). -/
def Dev.pairJudge (d : Dev) (p : Nat) : Dev :=
  let x := d.pair p
  let new := x.fault = 0 && !x.needReset && d.pairCond p
  let lost := x.permit && !new
  let d := d.setPair p fun x => { x with permit := new, needReset := x.needReset || (lost && wbit (d.pairCfg p) 26), armed := x.armed && !lost }
  let d := if lost then d.inc (Reg.SAFE_PAIR_DEMAND_CNT p) else d
  d.pairShow p

/-- A pair enters FAULT with a cause (R340, R344, R347, R348); it needs a reset after the fault has cleared (R349). -/
def Dev.pairFault (d : Dev) (p cause : Nat) : Dev :=
  let d := d.setPair p fun x => { x with fault := cause, needReset := true, cpu := none, disc := none, openSeen := !x.a && !x.b }
  ((((d.inc Reg.SAFE_PAIR_FAULT_CNT).raise Reg.SAFE_EVENT 4).pairJudge p).stoneEval p)

/-- The new level of one channel in its pair: the time since which the channels differ, the start-up test, the hands, a RESET press. -/
def Dev.pairLevel (d : Dev) (i : Nat) (level : Bool) : Dev :=
  let p := i / 2
  let q := d.pairOwner p
  let was := d.pair p
  let x := if i % 2 = 0 then { was with a := level } else { was with b := level }
  let hand := d.pairFn q = 4
  let agree := if hand then x.a != x.b else x.a == x.b
  let both := x.a && x.b
  let none2 := !x.a && !x.b
  let seen := none2 || (was.openSeen && !(was.a && was.b))
  let ok := if both then was.openSeen else false
  let clears := !hand && was.fault ≠ 0 && both && was.openSeen && (was.disc.all fun t => d.osc ≤ t + d.discPips p)
  let x := { x with disc := if agree then none else some (was.disc.getD d.osc), openSeen := seen, startOk := ok, started := was.started || ok,
                    fault := if clears then 0 else was.fault,
                    pressAt := if both then some d.osc else none, press := if both then none else match was.pressAt with
                      | some t => some (d.osc - t)
                      | none => was.press }
  let d := (d.setPair p fun _ => x).pairShow p
  if hand then
    let h0 := d.pair q
    let h1 := d.pair (q + 1)
    let rel := h0.released && h1.released
    d.setPair q fun y => { y with armed := y.armed || rel, handAt := if rel then none else if h0.actuated || h1.actuated then some (y.handAt.getD d.osc) else y.handAt,
                                  second := if h0.actuated && h1.actuated then some (y.second.getD d.osc) else none,
                                  fault := if rel then 0 else y.fault }
  else d

/-- DISCREPANCY_TIMEOUT (R347): in FAULT the closing took too long, and both channels must be seen open again. -/
def Dev.discTimeout (d : Dev) (p : Nat) : Dev :=
  let fn := d.pairFn p
  if fn ≠ 0 && d.pairOwner p = p && fn ≠ 4 && !d.startMode p && (d.pair p).disc.any (fun t => t + d.discPips p ≤ d.osc) then
    if (d.pair p).fault ≠ 0 then d.setPair p fun x => { x with openSeen := false } else d.pairFault p 1
  else d

/-- ANTIVALENCE_TIMEOUT (R348): a hand has shown an invalid combination beyond its discrepancy time. -/
def Dev.antivalence (d : Dev) (p : Nat) : Dev :=
  let q := d.pairOwner p
  if d.pairFn q = 4 && (d.pair q).fault = 0 && (d.pair p).disc.any (fun t => t + d.discPips p ≤ d.osc) then d.pairFault q 4 else d

/-- The supply of SI_i: 0 to 3 a test-pulse output, 4 external (R343). -/
def Dev.siSupply (d : Dev) (i : Nat) : Nat := if i % 2 = 0 then wfld (d.pairCfg (i / 2)) 20 18 else wfld (d.pairCfg (i / 2)) 23 21

/-- The period of the test pulses in pips (SAFE_TP_CFG.period, R343). -/
def Dev.tpPeriod (d : Dev) : Nat := 4 * wfld (d.actWord 1) 15 8

/-- When TP_k pulses next, on the Stone's own oscillator, taken as exact (R343; DESIGN CHOICE, log entry 83). -/
def Dev.tpNext (d : Dev) (k : Nat) : Nat := d.safe.tpDue.getD k 0

/-- Whether TP_k is low, `us` µs into the current 250 µs period (R343); it drives 24 V otherwise. -/
def Dev.tpLow (d : Dev) (k us : Nat) : Bool := (tget none d.safe.tpPulse k).any fun x => 250 * x.1 ≤ 250 * d.osc + us && 250 * d.osc + us < 250 * x.1 + x.2

/-- TEST_PULSE (R343, R344): when TP_k's pulse is due, it is low for the configured width, and the channels in `low` read low during it; two missed pulses in a row or a cross-short put the pair into FAULT. -/
def Dev.testPulse (d : Dev) (k : Nat) (low : List Nat) : Dev :=
  if !d.cfgValid || !wbit (d.actWord 1) k || d.osc < d.tpNext k then d
  else
    let d := { d with safe := { d.safe with tpDue := d.safe.tpDue.set k (d.tpNext k + d.tpPeriod), tpPulse := tset none d.safe.tpPulse k (some (d.tpNext k, 100 * wfld (d.actWord 1) 7 4)) } }
    (List.range 16).foldl (fun (d : Dev) i =>
      let q := d.pairOwner (i / 2)
      let x := d.pair (i / 2)
      let closed := if i % 2 = 0 then x.a else x.b
      let s := d.siSupply i
      if d.pairFn q = 0 || 3 < s then d
      else if !closed then (if s = k then { d with safe := { d.safe with missed := tset 0 d.safe.missed i 0 } } else d)
      else
        let m := if s = k && !low.contains i then tget 0 d.safe.missed i + 1 else if s = k then 0 else tget 0 d.safe.missed i
        let d := { d with safe := { d.safe with missed := tset 0 d.safe.missed i (if m ≥ 2 then 0 else m) } }
        if (m ≥ 2 || (s ≠ k && low.contains i)) && (d.pair q).fault = 0 then d.pairFault q 2 else d) d

/-- How long channel `i` has held a level, for its filter (R344, R345): of a low, the part that the channel's own test pulse covers, its lag of 150 µs included, does not count. An event lies at the end of its pip (DESIGN CHOICE, log entry 83). -/
def Dev.heldFor (d : Dev) (i : Nat) (level : Bool) (held : Nat) : Nat :=
  let k := d.siSupply i
  let now := 250 * (d.osc + 1)
  let pulse := if d.tpNext k ≤ d.osc then some (d.tpNext k) else (tget none d.safe.tpPulse k).map (·.1)
  match pulse with
  | some t => if level || 3 < k || !wbit (d.actWord 1) k then held else held - (min now (250 * t + 100 * wfld (d.actWord 1) 7 4 + 150) - max (now - held) (250 * t))
  | none => held

/-- SAFETY_INPUT_CHANGE (R345): SI_i has held a new level for `held` µs; it counts once that is the pair's input filter time, in 0.5 ms; the return from an ignored excursion changes nothing. -/
def Dev.safetyInput (d : Dev) (i : Nat) (level : Bool) (held : Nat) : Dev :=
  let q := d.pairOwner (i / 2)
  if d.heldFor i level held < 500 * wfld (d.pairCfg (i / 2)) 5 0 || level = (if i % 2 = 0 then (d.pair (i / 2)).a else (d.pair (i / 2)).b) then d else ((d.pairLevel i level).pairJudge q).stoneEval q

/-- A pair's reset takes effect (R349, R350). -/
def Dev.pairReset (d : Dev) (p : Nat) : Dev :=
  if (d.pair p).needReset && (d.pair p).fault = 0 && d.pairSound p then ((d.setPair p fun x => { x with needReset := false }).pairJudge p).stoneEval p else d

/-- RESET_BUTTON_RELEASE (R349): a press of 50 ms to 3 s resets every pair in WAIT_RESET, other RESET pairs too; one that waits itself acts on none. -/
def Dev.resetButton (d : Dev) (p : Nat) : Dev :=
  match (d.pair p).press with
  | some t =>
    let ok := d.pairFn p = 5 && (d.pair p).fault = 0 && !(d.pair p).needReset && 200 ≤ t && t ≤ 12000
    let d := d.setPair p fun x => { x with press := none }
    if ok then (List.range 8).foldl (fun (d : Dev) q => if d.pairFn q = 0 || q = p then d else d.pairReset q) d else d
  | none => d

/-- CROSS_DISAGREEMENT (R340): the safety task's evaluation of a pair's function, which differs from the Stone's until a row says that they agree; beyond the discrepancy time plus 20 ms both paths put the pair into FAULT with CROSS. -/
def Dev.crossFault (d : Dev) (i : CrossIn) : Dev :=
  let q := d.pairOwner i.pair.val
  let differ := i.cpu != d.pairPermits q
  if d.pairFn q = 0 then d
  else if differ && 250 * d.discPips q + 20000 < i.held then d.pairFault q 3
  else (d.setPair q fun x => { x with cpu := if differ then some i.cpu else none }).pairShow q

/-- STONE_SELF_FAULT (R341): every SLS released at once, HUB_STOP_N asserted, the degrade cause STONE_FAULT. -/
def Dev.stoneSelfFault (d : Dev) : Dev :=
  (((d.setBit Reg.SAFE_STATUS 7 true).raise Reg.SAFE_EVENT 16).stoneEval 10).degrade 8

/-! ### The permit word and the heartbeat (R333, R336, R337, R357) -/

/-- Whether the safety task may send the rising bit of SLS_n (R336): coils off and the outlet out of its session. -/
def Dev.mayRise (d : Dev) (n : Nat) : Bool :=
  let coilOn := fun c : Nat => if c < 32 then d.rbit Reg.LSW_CL_ON_LO c else d.rbit Reg.LSW_CL_ON_HI (c - 32)
  let s := d.ost n
  !coilOn (2 * n) && !coilOn (2 * n + 1) && (d.outType n == 0 || s == .idle || s.early || s == .fault)

/-- The SLS bit that the safety task puts in the permit word (R333, R336, R337). -/
def Dev.wordBit (d : Dev) (n : Nat) : Bool :=
  d.cpuOk n && (d.sls n || (if d.safe.word.testBit n then d.safe.rose.testBit n else d.mayRise n))

/-- The safety task withdraws permits: the coil channels of every outlet whose bit of the word goes from 1 to 0 are forced off in the frame of the next pip (R335, R352). -/
def Dev.cpuDecide (d : Dev) : Dev :=
  let off := (List.range 32).filter fun n => d.safe.word.testBit n && !d.wordBit n
  { d with safe := { d.safe with forceNext := d.safe.forceNext ||| bitsMask off } }

/-- What SAFE_LAST_CUT gives as cause where the permit word withholds SLS_n (R353): the first connection that withholds its permit, else the first pair that the safety task sees withhold it, else the heartbeat whose loss left the word at 0. -/
def Dev.cutCause (d : Dev) (n : Nat) : Nat :=
  match (List.range 8).find? fun c => d.connRx c && wbit (d.connWord c 3) n && !d.connPermits c with
  | some c => 16 + c
  | none => ((List.range 8).find? fun p => wbit (d.pairOut p) n && !d.pairCpu p).getD 9

/-- The Stone takes the SLS bits of a valid word for one outlet: withdrawn bits cut, risen bits enable where R336 holds. -/
def Dev.wordApply (d : Dev) (n : Nat) (new : Bool) : Dev :=
  if !d.hbOk then d
  else if d.sls n then (if new then d else d.stoneCut n (d.cutCause n))
  else if new && d.safe.rose.testBit n && (d.rampReq n).isNone && d.stoneOk n then d.setBit Reg.SAFE_SLS_MASK n true
  else d

/-- PERMIT_WORD: the pip's heartbeat and permit word reach the Stone; a malformed word is a missing edge (R333). -/
def Dev.permitWord (d : Dev) (good : Bool) : Dev :=
  if !good then { d with safe := { d.safe with hbRun := 0 } }
  else if 0 < d.safe.hbRun && d.safe.hbLast = d.osc then d
  else
    let bits := (List.range 32).filter d.wordBit
    let new := bitsMask bits
    let hub := (if d.safe.hubHost then 8 else 0) + (if (List.range 8).any (fun c => d.connRx c && wbit (d.connWord c 0) 27 && !d.connPermits c) then 32 else 0)
    let rose := bitsMask (bits.filter fun n => !d.safe.word.testBit n || d.safe.rose.testBit n)
    let forced := bitsMask ((maskBits 32 d.safe.forced).filter fun n => (d.rampReq n).isSome || new.testBit n)
    let run := if d.safe.hbLast + 1 = d.osc then d.safe.hbRun + 1 else 1
    let d := { d with safe := { d.safe with word := new, rose := rose, forced := forced, hubWord := hub, hbRun := run, hbLast := d.osc } }
    ((List.range 32).foldl (fun (d : Dev) n => (d.wordApply n (new.testBit n)).slsShow n) d).hubUpdate

/-- HEARTBEAT_VALID (R334, R357): after 8 consecutive pips with valid words; the last of them then acts. -/
def Dev.heartbeatValid (d : Dev) : Dev :=
  if !d.hbOk && 8 ≤ d.safe.hbRun then
    let d := { d with safe := { d.safe with hbLost := none } }.setBit Reg.SAFE_STATUS 4 true
    ((List.range 32).foldl (fun (d : Dev) n => (d.wordApply n (d.safe.word.testBit n)).slsShow n) d).hubUpdate
  else d

/-- The live-magnitude flag of OUT_n as the Stone reads it: below I_break (R132, R173). -/
def Dev.flagBelow (d : Dev) (n : Nat) : Bool := (d.kern.ch n).liveBelow

/-- The metered-switching rule while the heartbeat is lost: an SLS whose flag is below opens (R38). -/
def Dev.meteredLatch (d : Dev) : Dev :=
  if d.safe.hbLost.isSome then (List.range 32).foldl (fun (d : Dev) n => if d.sls n && d.flagBelow n then d.stoneCut n 9 else d) d else d

/-- HEARTBEAT_LOST (R38, R357): after 4 pips without a valid word, on the Stone's own oscillator (R33); an outlet whose current is already below I_break opens at once. -/
def Dev.heartbeatLost (d : Dev) : Dev :=
  if d.hbOk && d.safe.hbLast + 4 ≤ d.osc then
    let d := { d with safe := { d.safe with hbLost := some d.osc, hbRun := 0 } }
    let d := (((d.setBit Reg.SAFE_STATUS 4 false).inc Reg.SAFE_HB_LOSS_CNT).raise Reg.SAFE_EVENT 2).meteredLatch
    ((List.range 32).foldl (fun (d : Dev) n => d.slsShow n) d).hubUpdate
  else d

/-- T_FORCE_EXPIRY (R132, R38): T_force of OUT_n has run out, by its ramp request or by the loss of the heartbeat. -/
def Dev.tForceExpiry (d : Dev) (n : Nat) : Dev :=
  let tf := tget 400 d.safe.tForce n
  let d := match d.rampReq n with
    | some (t, true) =>
      if t + tf ≤ d.osc then
        let d := { d with safe := { d.safe with ramp := tset none d.safe.ramp n (some (t, false)) } }
        if d.flagBelow n || !d.sls n then d.slsShow n
        else
          let d := (d.setBit Reg.SAFE_SLS_MASK n false).inc Reg.SAFE_FORCED_CNT
          let d := { d with safe := { d.safe with forced := d.safe.forced ||| 2 ^ n, rose := d.safe.rose - d.safe.rose % 2 ^ (n + 1) / 2 ^ n * 2 ^ n } }
          (d.slsShow n).outForced n
      else d
    | some (_, false) => d
    | none => d
  match d.safe.hbLost with
  | some t => if t + tf ≤ d.osc then (d.stoneCut n 9).slsShow n else d
  | none => d

/-- HUB_STOP_HOLD_END (R354). -/
def Dev.hubHoldEnd (d : Dev) : Dev := d.hubUpdate

/-! ### The safety configuration (R359 to R362, R368) -/

/-- The addresses of the staging image, ascending (R359). -/
def stagingAddrs : List Nat :=
  [Reg.SAFE_HUB_CFG, Reg.SAFE_TP_CFG, Reg.SAFE_UDP_PORT] ++ (List.range 8).flatMap (fun p => [Reg.SAFE_PAIR_CFG p, Reg.SAFE_PAIR_OUT p])
    ++ (List.range 8).flatMap fun c => [Reg.SAFE_CONN_CFG c, Reg.SAFE_CONN_ID c, Reg.SAFE_CONN_PEER c, Reg.SAFE_CONN_OUT c]

/-- The words of the staging image. -/
def Dev.staging (d : Dev) : List Word := stagingAddrs.map d.rd

/-- The CRC of an image (R359). -/
def imageCrc (l : List Word) : Word := crcSafety (l.flatMap fun w => leN w.toNat 4)

/-- Set the staging image. -/
def Dev.setStaging (d : Dev) (l : List Word) : Dev := (stagingAddrs.zip l).foldl (fun (d : Dev) x => d.wr x.1 x.2) d

/-- cfg_pending: the staging image differs from the active configuration. -/
def Dev.cfgPending (d : Dev) : Dev := d.setBit Reg.SAFE_STATUS 6 (d.safe.active != [] && d.staging != d.safe.active)

/-- Whether SAFE_CONN_c_CFG's time lies in the range of its direction. -/
def connTimeOk (v : Word) : Bool := 4 ≤ wfld v 15 0 && wfld v 15 0 ≤ (if wbit v 30 then 39996 else 40000)

/-- Whether staging register `i` (its place in the image) fails R360. -/
def Dev.stageFails (d : Dev) (i : Nat) : Bool :=
  let a := stagingAddrs.getD i 0
  let v := d.rd a
  let range := match regAt a with
    | some r => !r.inRange v
    | none => false
  let cfg := fun p : Nat => d.rd (Reg.SAFE_PAIR_CFG p)
  let fn := fun p : Nat => wfld (cfg p) 31 28
  let p := (i - 3) / 2
  let c := (i - 19) / 4
  let enabled := fun c : Nat => d.rbit (Reg.SAFE_CONN_CFG c) 31
  let pairBad : Bool :=
    (fn p == 4 && (decide (p % 2 = 1) || decide (fn (p + 1) ≠ 0) || !wbit (cfg p) 17 || !wbit (cfg (p + 1)) 17 || wbit (cfg p) 27))
      || (wfld (cfg p) 25 24 == 1 && fn p != 2) || (fn p == 3 && (decide (wfld (cfg p) 5 0 < 2) || wfld (cfg p) 20 18 != 4 || wfld (cfg p) 23 21 != 4))
  let special : Bool :=
    if 3 ≤ i && i < 19 then
      if i % 2 = 1 then pairBad else fn p == 4 && (List.range 32).any fun n => wbit v n && d.outType n ≠ 0
    else if 19 ≤ i then
      match (i - 19) % 4 with
      | 0 => !connTimeOk v
      | 1 => enabled c && (decide (v = 0) || (List.range c).any fun e => enabled e && d.rd (Reg.SAFE_CONN_ID e) = v)
      | _ => false
    else false
  range || special

/-- The offset of the first failing register (SAFE_CFG_CHECK). -/
def Dev.stageCheck (d : Dev) : Option Nat := ((List.range 51).find? d.stageFails).map fun i => stagingAddrs.getD i 0 - 0x90000

/-- Restart the Stone on an active configuration (R361, R362): permits withdrawn, start-up tests and manual resets asked for, connections waiting, the test pulses timed anew (R343). -/
def Dev.safeRestart (d : Dev) (image : List Word) : Dev :=
  let d := { d with safe := { d.safe with active := image, missed := [] } }
  let d := { d with safe := { d.safe with tpDue := (List.range 4).map fun k => d.osc + d.tpPeriod + k * d.tpPeriod / 4 } }
  let d := (List.range 8).foldl (fun (d : Dev) p =>
    let hand := d.pairFn (d.pairOwner p) = 4
    d.setPair p fun x => { SPair.reset with a := x.a, b := x.b, openSeen := !x.a && !x.b, disc := if (if hand then x.a != x.b else x.a == x.b) then none else some d.osc, needReset := wbit (d.pairCfg p) 26 }) d
  let d := (List.range 8).foldl (fun (d : Dev) p => if d.pairFn p = 4 then d.setPair p fun x => { x with armed := x.released && (d.pair (p + 1)).released } else d) d
  let d := (List.range 8).foldl (fun (d : Dev) c =>
    let on := wbit (d.connWord c 0) 31
    (d.setConn c fun x => { SConn.reset with seq := x.seq, needReset := wbit (d.connWord c 0) 26 }).setFld (Reg.SAFE_CONN_STATUS c) 1 0 (if on then 1 else 0)) d
  let d := (List.range 8).foldl (fun (d : Dev) p => if d.pairFn p = 0 || d.pairFn p = 5 then d else d.stoneEval p) d
  let d := (List.range 8).foldl (fun (d : Dev) p => d.pairJudge p) d
  (d.stoneEval 0).cfgPending

/-- The stored image becomes active at BOOT if its CRC matches (R362); otherwise SAFE_NO_CONFIG. -/
def Dev.safeBoot (d : Dev) : Dev :=
  match d.safe.stored with
  | some (image, crc, version) =>
    if imageCrc image = crc then
      ((((d.setBit Reg.SAFE_STATUS 5 true).wr Reg.SAFE_CFG_VERSION version).wr Reg.SAFE_CFG_CRC crc).setStaging image).safeRestart image
    else d.degrade 9
  | none => d.degrade 9

/-! ### Connections (R363 to R367) -/

/-- A receive connection enters SAFE. -/
def Dev.connSafe (d : Dev) (c : Nat) : Dev :=
  let d := d.setConn c fun x => { x with run := 0, due := none, needReset := x.needReset || wbit (d.connWord c 0) 26 }
  (d.setFld (Reg.SAFE_CONN_STATUS c) 1 0 3).raise Reg.SAFE_EVENT 8

/-- A receive connection takes a frame (R366, R367). -/
def Dev.connRxFrame (d : Dev) (c : Nat) (f : Bytes) : Dev :=
  if !d.connRx c || !d.connCarried c then d
  else
    let n := num f 9 1
    let wellFormed := f.length = 14 + n && num f 8 1 = 1 && n = 4 && (crcSafety (f.take (10 + n))).toNat = num f (10 + n) 4
    if !wellFormed || num f 0 4 ≠ (d.connWord c 1).toNat then d.inc (Reg.SAFE_CONN_ERR_CNT c)
    else
      let st := d.fld (Reg.SAFE_CONN_STATUS c) 1 0
      let seq := num f 4 2
      let ahead := (seq + 65536 - (d.conn c).seq) % 65536
      let first := st = 1 && (d.conn c).run = 0
      if !first && (ahead = 0 || 32768 ≤ ahead) then d
      else if !first && 32 < ahead then (d.inc (Reg.SAFE_CONN_ERR_CNT c)).connSafe c
      else
        let wd := min (num f 6 2) (wfld (d.connWord c 0) 15 0)
        let run := if !first && ahead = 1 then (d.conn c).run + 1 else 1
        let d := d.setConn c fun x => { x with data := num f 10 4, seq := seq, run := run, due := some (d.osc + wd) }
        let go := st = 2 || (2 ≤ run && !(d.conn c).needReset)
        (d.setFld (Reg.SAFE_CONN_STATUS c) 31 16 seq).setFld (Reg.SAFE_CONN_STATUS c) 1 0 (if go then 2 else st)

/-- Reset of the safety task's own part of a connection: a receive connection waits for its frames again; what a reset has already been asked for or done stands (R31, R358). -/
def Dev.connReset (d : Dev) (c : Nat) : Dev :=
  let d := d.setConn c fun x => { x with data := 0, run := 0, due := none, lastTx := none }
  if d.connRx c then d.setFld (Reg.SAFE_CONN_STATUS c) 1 0 1 else d

/-- Reset of the safety core pair (R31): the task's host request, its force-off mask and its connections' states are lost; the Stone keeps the configuration, the pairs, its cuts and counters (R358). -/
def Dev.pairReboot (d : Dev) : Dev :=
  (List.range 8).foldl (fun (d : Dev) c => d.connReset c) { d with safe := { d.safe with hubHost := false, forceOff := 0, forceNext := 0 } }

/-- A Stone frame that came by the mesh: the receive connection of its identity, or the first of the mesh where none has it; the safety task takes it while it runs. -/
def Dev.meshSafeFrame (d : Dev) (f : Bytes) : Dev :=
  let cs := (List.range 8).filter fun c => d.safetyRuns && d.connRx c && wfld (d.connWord c 0) 29 28 = 2
  match cs.find? (fun c => (d.connWord c 1).toNat = num f 0 4) with
  | some c => d.connRxFrame c f
  | none => match cs.head? with
    | some c => d.connRxFrame c f
    | none => d

/-- The data of a PERMIT frame (R363). -/
def Dev.permitData (d : Dev) : Nat := bitsMask ((List.range 8).filter d.pairCpu) + (if d.hubCauses = 0 then 256 else 0)

/-- The bytes of a PERMIT frame (R363, R364). -/
def stoneFrame (id seq wd data : Nat) : Bytes :=
  let b := leN id 4 ++ leN seq 2 ++ leN wd 2 ++ [1, 4] ++ leN data 4
  b ++ leN (crcSafety b).toNat 4

/-- STONE_FRAME_TX (R365): every period, and at once on a change of data; from and to SAFE_UDP_PORT at the peer's address, over the mesh as a SAFE message of the module that acts for its twin, or by the Pod link. -/
def Dev.stoneTx (d : Dev) (c : Nat) : Dev :=
  let cfg := d.connWord c 0
  let per := wfld cfg 15 0
  let data := d.permitData
  let isDue := match (d.conn c).lastTx with
    | some (x, t) => x ≠ data || t + per ≤ d.osc
    | none => true
  if !wbit cfg 31 || !wbit cfg 30 || !isDue || !d.connCarried c then d
  else
    let seq := ((d.conn c).seq + 1) % 65536
    let f := stoneFrame (d.connWord c 1).toNat seq (per + 4) data
    let dest := (wfld cfg 29 28, (d.connWord c 2).toNat, wfld (d.actWord 2) 15 0)
    let d := (d.setConn c fun x => { x with seq := seq, lastTx := some (data, d.osc), frame := f, dest := some dest }).setFld (Reg.SAFE_CONN_STATUS c) 31 16 seq
    if wfld cfg 29 28 = 2 && !d.passive then d.setMesh (d.mesh.originate 6 0 (wfld (d.connWord c 2) 5 0) f).1 else d

/-- STONE_CONN_WATCHDOG (R367). -/
def Dev.connWatchdog (d : Dev) (c : Nat) : Dev :=
  if d.connRx c && due (d.conn c).due d.osc then (d.inc (Reg.SAFE_CONN_WD_CNT c)).connSafe c else d

/-! ### Opcodes of the 0x0Dxx family -/

/-- SAFE_STATUS_GET (0x0D00). -/
def opSafeStatus (d : Dev) (c : Cmd) : Dev × Ans :=
  check d [(c.payload ≠ [], St.badLength)]
    (d, .done St.ok (d.regBytes ([Reg.SAFE_STATUS, Reg.SAFE_SLS_MASK, Reg.SAFE_PERMIT_MASK, Reg.SAFE_STONE_CUT_MASK, Reg.SAFE_CPU_CUT_MASK, Reg.SAFE_HUB_CAUSE]
      ++ (List.range 8).map Reg.SAFE_PAIR_STATUS)))

/-- Whether a pair's function has an input still open (R350): of TWO_HAND, a hand that shows neither of its combinations. -/
def Dev.inputOpen (d : Dev) (p : Nat) : Bool := if d.pairFn p = 4 then !d.pairSound p else !((d.pair p).a && (d.pair p).b)

/-- SAFE_RESET (0x0D01): refused whole where a named pair or connection still has its cause (R350). -/
def opSafeReset (d : Dev) (c : Cmd) : Dev × Ans :=
  let p := c.payload
  let pairs := maskBits 8 (num p 0 1)
  let conns := maskBits 8 (num p 1 1)
  let badPair := pairs.any fun q => (d.pair (d.pairOwner q)).fault ≠ 0 || d.inputOpen (d.pairOwner q)
  let conns := conns.filter d.connRx
  let badConn := conns.any fun k => d.fld (Reg.SAFE_CONN_STATUS k) 1 0 ≠ 2 && (d.conn k).run < 2
  check d [(p.length ≠ 4, St.badLength), (num p 2 2 ≠ 0, St.badParam), (badPair || badConn, St.f0)] <|
    let d := pairs.foldl (fun (d : Dev) q => d.pairReset (d.pairOwner q)) d
    let d := conns.foldl (fun (d : Dev) k => (d.setConn k fun x => { x with needReset := false }).setFld (Reg.SAFE_CONN_STATUS k) 1 0 2) d
    (d, .done St.ok [])

/-- SAFE_CFG_CHECK (0x0D02). -/
def opSafeCheck (d : Dev) (c : Cmd) : Dev × Ans :=
  check d [(c.payload ≠ [], St.badLength)] <|
    let crc := imageCrc d.staging
    let f := d.stageCheck
    (d.wr Reg.SAFE_STAGE_CRC crc, .done St.ok ([byte (b2n f.isSome), 0] ++ leN (f.getD 0) 2 ++ leN crc.toNat 4 ++ leN crc.toNat 4))

/-- SAFE_CFG_ACTIVATE (0x0D03), judged in the order of R361. -/
def opSafeActivate (d : Dev) (c : Cmd) : Dev × Ans :=
  let p := c.payload
  let image := d.staging
  let crc := imageCrc image
  check d [(p.length ≠ 8, St.badLength), (d.mode ≠ .maintenance, St.denied), ((List.range 32).any (fun n => (d.ost n).running || d.ost n == .weldCheck), St.busy),
           (d.stageCheck.isSome, St.f1), (crc.toNat ≠ num p 0 4, St.f2)] <|
    let v := word (num p 4 4)
    let d := { d with safe := { d.safe with stored := some (image, crc, v) } }
    let d := (((d.setBit Reg.SAFE_STATUS 5 true).wr Reg.SAFE_CFG_VERSION v).wr Reg.SAFE_CFG_CRC crc).safeRestart image
    (d.undegrade 9, .done St.ok (leN v.toNat 4))

/-- SAFE_CFG_DISCARD (0x0D04): the staging image equals the active configuration. -/
def opSafeDiscard (d : Dev) (c : Cmd) : Dev × Ans :=
  check d [(c.payload ≠ [], St.badLength)] (((d.dropPend stagingAddrs.contains).setStaging d.safe.active).cfgPending, .done St.ok [])

/-- SAFE_HUB_STOP (0x0D05): the host's cause goes to the Stone in the next permit word (R354). -/
def opSafeHubStop (d : Dev) (c : Cmd) : Dev × Ans :=
  let p := c.payload
  check d [(p.length ≠ 4, St.badLength), (num p 1 3 ≠ 0, St.badParam), (1 < num p 0 1, St.badParam)]
    ({ d with safe := { d.safe with hubHost := num p 0 1 = 1 } }, .done St.ok [])

end Sys2Proof.Machine
end

