-- ==== Sys2Proof/Machine/Guard.lean ====
section
/-!
DEFINITION. The Guard (10_guard_earth_fault.md): residual current, insulation windows, trip lines, faults, self-check and the 0x0D80 opcodes.
-/
namespace Sys2Proof.Machine

/-- Whether a Guard channel serves an outlet (R316). -/
def Dev.guardOwned (d : Dev) (n : Nat) : Bool := d.outType n ≠ 0

/-- GUARD_TRIP_ASSERT (R326): the channel's trip line, its count, masks and record, and the Stone's cut. -/
def Dev.guardTrip (d : Dev) (n cause : Nat) : Dev :=
  let d := d.setFld (Reg.GUARD_CH_STATUS n) 11 8 cause
  if d.rbit Reg.GUARD_TRIP_MASK n then d
  else
    let d := ((d.setBit (Reg.GUARD_CH_STATUS n) 3 true).setBit Reg.GUARD_TRIP_MASK n true).inc (Reg.GUARD_CH_TRIP_CNT n)
    let d := ((d.raise (Reg.GUARD_CH_EVENT n) 2).raise Reg.GUARD_EVENT 2).wn Reg.GUARD_LAST_TRIP (n * 256 + cause)
    (d.wn Reg.GUARD_LAST_TRIP_PIP d.pip).stoneEval 8

/-- A channel enters FAULT: injection stops, nothing is measured any more, and its trip line is asserted (R316, R329). -/
def Dev.guardFault (d : Dev) (n cause : Nat) : Dev :=
  let d := (d.guardWarn n false).setG n fun g => { g with win := [], inj := 0, imd := none, test := none, met := none }
  let d := (d.setFld (Reg.GUARD_CH_STATUS n) 2 0 4).setBit Reg.GUARD_FAULT_MASK n true
  ((d.raise (Reg.GUARD_CH_EVENT n) 4).raise Reg.GUARD_EVENT 4).guardTrip n cause

/-- Entry to ACTIVE (R316, R320): an RCM channel freezes its zero, the mean of its DC component over the last 400 pips of STANDBY (log entry 82), and faults where the zero is out of ±3 mA or STANDBY was shorter than 80 pips. -/
def Dev.guardActive (d : Dev) (n : Nat) : Dev :=
  if d.gstate n = 3 || d.gstate n = 4 || d.gstate n = 2 || d.gmode n = 0 then d
  else
    let g := d.g n
    let zs := isum g.zeros
    let zc := winLcm * g.zeros.length
    let fromStandby := d.gstate n = 1
    let d := (d.setFld (Reg.GUARD_CH_STATUS n) 2 0 2).setFld (Reg.GUARD_CH_CTRL n) 1 0 2
    let d := d.setG n fun g => { g with zero := (zs, zc), stages := GChan.reset.stages, met := none, inj := 0, imd := none }
    if d.gmode n = 1 && (!fromStandby || g.standby < 80 || zc = 0 || 3000 * 65536 * zc < zs.natAbs) then d.guardFault n 8 else d

/-- The DC component of an RCM channel as a fraction of 1/65,536 µA: in ACTIVE less the frozen zero (R317, R320). -/
def Dev.rcmDc (d : Dev) (n : Nat) : Int × Nat :=
  let g := d.g n
  let s := isum g.win
  let zc := g.zero.2
  if d.gstate n = 2 && 0 < zc then (s * (zc : Nat) - g.zero.1 * (g.win.length : Nat), g.win.length * zc) else (s, g.win.length)

/-- N² times the square of the AC component (R317), in (1/65,536 µA)². -/
def GChan.ac2 (g : GChan) : Nat := g.win.length * sumSq g.win - (isum g.win * isum g.win).toNat

/-- Whether the DC component exceeds a level in 0.1 mA. -/
def dcAbove (dc : Int × Nat) (level : Nat) : Bool := level * 6553600 * dc.2 < dc.1.natAbs

/-- Whether the AC component exceeds a level in 0.1 mA. -/
def GChan.acAbove (g : GChan) (level : Nat) : Bool := (level * 6553600 * g.win.length) * (level * 6553600 * g.win.length) < g.ac2

/-- The stage registers of a channel, in the order of their cause codes 1 to 5. -/
def stageRegs (n : Nat) : List Nat := [Reg.GUARD_CH_RCM_DC1 n, Reg.GUARD_CH_RCM_DC2 n, Reg.GUARD_CH_RCM_DC3 n, Reg.GUARD_CH_RCM_AC1 n, Reg.GUARD_CH_RCM_AC2 n]

/-- The stages whose timer has reached its time. -/
def Dev.stagesMet (d : Dev) (n : Nat) (stages : List (Option Nat)) : List Nat :=
  (List.range 5).filter fun k => (stages.getD k none).any fun s => s + 4 * d.fld ((stageRegs n).getD k 0) 15 0 ≤ (d.g n).t

/-- The cause to record of the stages that meet their trip condition in one pip: the highest threshold, of equal ones the lower cause code (R318). -/
def Dev.stageCause (d : Dev) (n : Nat) (stages : List (Option Nat)) : Option Nat :=
  (sortBy (fun k => 65536 - d.fld ((stageRegs n).getD k 0) 31 16) (d.stagesMet n stages)).head?.map (· + 1)

/-- GUARD_RCM_EVALUATION (R317 to R320): components over the samples at hand, up to 160, warning, and in ACTIVE the stage timers. -/
def Dev.rcmEval (d : Dev) (n : Nat) : Dev :=
  let g := d.g n
  let dc := d.rcmDc n
  let len := g.win.length
  if len = 0 then d
  else
    let st := d.gstate n
    let above := fun k : Nat => let thr := d.fld ((stageRegs n).getD k 0) 31 16; thr ≠ 0 && (if k < 3 then dcAbove dc thr else g.acAbove thr)
    let acv := isqrt (g.ac2 / (len * 6553600 * (len * 6553600)))
    let acExact := acv * acv * (len * 6553600 * (len * 6553600)) = g.ac2
    let acShown := min 0xFFFF (acv + (if acExact then 0 else if Config.roundUp (d.fresh + 1) then 1 else 0))
    let dcShown := satSigned 16 (divOpen dc.1 (dc.2 * 6553600 : Nat) d.fresh)
    let d := (d.wn (Reg.GUARD_CH_RCM_VALUE n) (ofSigned 16 dcShown * 65536 + acShown)).draw 2
    let d := d.guardWarn n (dcAbove dc (d.fld (Reg.GUARD_CH_RCM_WARN n) 31 16) || g.acAbove (d.fld (Reg.GUARD_CH_RCM_WARN n) 15 0))
    let stages := if st = 2 then (g.stages.zip (List.range 5)).map (fun (x : Option Nat × Nat) => if above x.2 then some (x.1.getD g.t) else none) else g.stages
    let met := if st = 2 then (d.stageCause n stages).map (fun c => (c, g.t)) else none
    d.setG n fun g => { g with
      stages := stages, met := g.met.or met }

/-- The part of a window (R322, R323) that pip offset `k` falls in. -/
def imdPart (k : Nat) : Option Nat :=
  if 1200 ≤ k && k < 1600 then some 0 else if 1600 ≤ k && k < 2000 then some 1 else if 3200 ≤ k && k < 3600 then some 2 else if 3600 ≤ k && k < 4000 then some 3 else none

/-- A window's sums and peaks after the samples of pip offset `k` (R322, R323, R330). -/
def GChan.imdAdd (g : GChan) (k : Nat) (is : List Int) : GChan :=
  let s := isum is
  { g with sums := match imdPart k with
             | some j => g.sums.set j (g.sums.getD j 0 + s)
             | none => g.sums,
           peaks := if k < 2000 then (is.foldl max g.peaks.1, g.peaks.2) else (g.peaks.1, is.foldl min g.peaks.2) }

/-- GUARD_STREAM_FAULT (R329): the stream is stuck or its clock absent; a channel in OFF is not watched, and a self-check that it ends has failed (DEDUCED, log entry 82). -/
def Dev.guardStream (d : Dev) (n : Nat) : Dev :=
  let d := d.setG n fun g => { g with clean := 0 }
  if d.gstate n = 0 || d.gstate n = 4 then d
  else
    let d := if d.gstate n = 3 then d.setFld (Reg.GUARD_CH_STATUS n) 17 16 3 else d
    d.guardFault n 7

/-- Every second level of a stream. -/
def everySecond : List Bool → List Bool
  | a :: _ :: l => a :: everySecond l
  | [a] => [a]
  | [] => []

/-- The frequency of GCLK_k in Hz, as GUARD_GCLK_CFG sets it (R313). -/
def Dev.gclkHz (d : Dev) (k : Nat) : Nat := if d.rbit Reg.GUARD_GCLK_CFG (4 * k) then 5000000 else 2500000

/-- What the Guard samples of a stream on the rising edges of its GCLK in the two sample windows of a pip, from the levels at the 5 MHz instants (R313): all of them, or every second one. -/
def Dev.gclkEdges (d : Dev) (n : Nat) (a b : List Bool) : List Bool × List Bool :=
  if d.gclkHz (n / 16) = 5000000 then (a, b) else (everySecond a, everySecond (b.drop (a.length % 2)))

/-- One sample window's bits pass a channel's stream: the stuck test and the decimator (R314, R329). -/
def GChan.window (g : GChan) (bits : List Bool) : GChan :=
  let (s, hit) := g.stream.bits bits
  { g with stream := { s with stuck := hit, dec := s.dec.feed bits }, clean := if hit then 0 else g.clean + 1 }

/-- The 20-bit code of a channel's newest sample (R314). -/
def GChan.code (g : GChan) (fast : Bool) : Int := max (-524288) (min 524287 (Config.guardCode fast (g.stream.dec.outs.headD 0)))

/-- The DC component (R317) over the samples `l` of this STANDBY, times `winLcm` (R320). -/
def zeroOver (l : List Int) : Int := isum l * ((winLcm / l.length : Nat) : Int)

/-- Two calibrated samples enter a channel (R314, R317, R320, R322, R330): the window, the zero of a STANDBY, an IMD window's sums and polarity, a self-check's phases; a module that does not act for its twin leaves its pin at high impedance (`drives`, R396). -/
def GChan.take (g : GChan) (st : Nat) (drives : Bool) (is : List Int) : GChan :=
  let g := { g with win := (is.reverse ++ g.win).take 160, t := g.t + 1, skip := false, standby := if st = 1 then g.standby + 1 else g.standby,
                    zeros := if st = 1 && !g.skip then zeroOver ((is.reverse ++ g.win).take (min 160 (2 * g.standby))) :: g.zeros.take 399 else g.zeros }
  let g := match g.imd with
    | some _ => { g.imdAdd (g.t - 1 - g.imdT) is with inj := if !drives then 0 else if g.imdT + 2000 ≤ g.t then 2 else 1 }
    | none => g
  match g.test with
  | some t =>
    if g.imd = none then { g with testDc := if g.t = t + 400 || g.t = t + 800 then g.testDc ++ [isum g.win] else g.testDc, inj := if !drives || t + 800 ≤ g.t then 0 else if t + 400 ≤ g.t then 2 else 1 } else g
  | none => g

/-- A Guard channel works through the pip that has ended (R314 to R318, R329): its stream in every state but OFF, and where it measures, its two samples and, in RCM mode, its components. -/
def Dev.guardPip (d : Dev) (n : Nat) (a b : List Bool) : Dev :=
  let ofs := d.sfld (Reg.GUARD_CH_CAL n) 15 0
  let gain : Int := (d.fld (Reg.GUARD_CH_CAL n) 31 16 : Nat)
  let st := d.gstate n
  if st = 0 then d
  else
    let fast := decide (d.gclkHz (n / 16) = 5000000)
    let (a, b) := d.gclkEdges n a b
    let g1 := (d.g n).window a
    let g2 := g1.window b
    let d := d.setG n fun _ => g2
    if st = 4 then d
    else if g1.stream.stuck || g2.stream.stuck then d.guardStream n
    else
      let d := d.setG n fun g => g.take st (!d.passive) ([g1.code fast, g2.code fast].map fun c => (c - ofs) * gain)
      if d.gmode n = 1 then d.rcmEval n else d

/-- The Guard's channels at the end of a pip, each with the levels of its stream. -/
def Dev.guardPips (d : Dev) (l : List (Fin 32 × List Bool × List Bool)) : Dev :=
  if d.domainRuns 5 then (List.range 32).foldl (fun (d : Dev) n => let x := ((l.find? fun g => g.1.val = n).map (·.2)).getD ([], []); d.guardPip n x.1 x.2) d else d

/-- RCM_STAGE_TRIP (R318): a stage met its trip condition in an earlier pip, and the channel's trip line is asserted. -/
def Dev.rcmTrip (d : Dev) (n : Nat) : Dev :=
  match (d.g n).met with
  | some (c, p) =>
    if d.gstate n = 2 && d.gmode n = 1 && !d.rbit Reg.GUARD_TRIP_MASK n && p < (d.g n).t then (d.setG n fun g => { g with met := none }).guardTrip n c else d
  | none => d

/-- IMD_WINDOW_START (R321). -/
def Dev.imdStart (d : Dev) (n : Nat) : Dev :=
  if d.gstate n = 2 && d.gmode n = 2 && (d.g n).imd.isNone && d.pip % 4000 = 500 * d.fld (Reg.GUARD_CH_IMD_CFG n) 30 28 then
    d.setG n fun g => { g with imd := some d.pip, imdT := g.t, sums := [0, 0, 0, 0], peaks := (0, 0), inj := if d.passive then 0 else 1 }
  else d

/-- The insulation resistance of a window in kΩ (R322). -/
def imdOhms (upp rnet : Nat) (sums : List Int) : Nat :=
  let s := sums.getD 0 0 + sums.getD 1 0 - sums.getD 2 0 - sums.getD 3 0
  if s ≤ 0 then 0xFFFF else min 0xFFFF ((upp * 1000 * 1600 * 65536 : Nat) / s - rnet).toNat

/-- Whether a half-window is settled (R323). -/
def halfSettled (a b : Int) : Bool := 20 * (b - a).natAbs ≤ max a.natAbs b.natAbs

/-- A window's resistance in kΩ and whether both halves settled. -/
def Dev.imdResult (d : Dev) (n : Nat) : Nat × Bool :=
  let g := d.g n
  (imdOhms (d.fld (Reg.GUARD_CH_IMD_CFG n) 9 0) (d.fld (Reg.GUARD_CH_IMD_CFG n) 27 16) g.sums,
   halfSettled (g.sums.getD 0 0) (g.sums.getD 1 0) && halfSettled (g.sums.getD 2 0) (g.sums.getD 3 0))

/-- IMD_WINDOW_END (R322 to R324): R is written and judged; a result that passes or fails the cable check reaches the session (R134).
DESIGN CHOICE (log entry 79): a result equal to the trip threshold lies neither above nor below it: it neither passes nor fails the cable check. -/
def Dev.imdEnd (d : Dev) (n : Nat) : Dev :=
  match (d.g n).imd with
  | some w =>
    if d.gstate n = 2 && (d.g n).imdT + 4000 ≤ (d.g n).t then
      let (r, ok) := d.imdResult n
      let trip := d.fld (Reg.GUARD_CH_IMD_THRESH n) 15 0
      let warn := decide (r < d.fld (Reg.GUARD_CH_IMD_THRESH n) 31 16)
      let d := d.setG n fun g => { g with imd := none, inj := 0 }
      let d := d.wn (Reg.GUARD_CH_IMD_RESULT n) (b2n ok * 2 ^ 31 + b2n warn * 2 ^ 29 + b2n (decide (r < trip)) * 2 ^ 28 + r)
      let d := if ok then d else d.setFld (Reg.GUARD_CH_STATUS n) 31 24 (min 255 (d.fld (Reg.GUARD_CH_STATUS n) 31 24 + 1))
      let d := d.guardWarn n warn
      let d := if decide (r < trip) && d.rbit (Reg.GUARD_CH_CTRL n) 8 then d.guardTrip n 6 else d
      if r = trip || (trip < r && !ok) then d else d.outInsulation n w (decide (trip < r)) warn
    else d
  | none => d

/-- Whether the self-check of a channel has passed (R330). -/
def Dev.testPassed (d : Dev) (n : Nat) : Bool :=
  let g := d.g n
  if d.gmode n = 1 then
    let t := d.fld (Reg.GUARD_CH_CFG n) 9 0 * 6553600 * 160
    let near := fun x : Int => decide (85 * t ≤ 100 * x.toNat) && decide (100 * x.toNat ≤ 115 * t)
    near (g.testDc.getD 0 0) && near (-(g.testDc.getD 1 0))
  else
    let (r, ok) := d.imdResult n
    ok && decide (10 * 65536 ≤ g.peaks.1) && decide (g.peaks.2 ≤ -(10 * 65536)) && decide (d.fld (Reg.GUARD_CH_IMD_THRESH n) 31 16 < r)

/-- GUARD_SELF_TEST_END (R330): after the pattern, STANDBY on a pass and FAULT with TEST on a failure. -/
def Dev.guardTestEnd (d : Dev) (n : Nat) : Dev :=
  match (d.g n).test with
  | some t =>
    if d.gstate n = 3 && t + (if d.gmode n = 1 then 800 else 4000) ≤ (d.g n).t then
      if d.testPassed n then (d.guardRest n 1).setFld (Reg.GUARD_CH_STATUS n) 17 16 2
      else (d.guardFault n 9).setFld (Reg.GUARD_CH_STATUS n) 17 16 3
    else d
  | none => d

/-! ### Requests (R316) -/

/-- The status with which a write of GUARD_nn_CTRL is refused, if it is. -/
def Dev.guardRefuses (d : Dev) (n : Nat) (v : Word) : Option Nat :=
  let want := wfld v 1 0
  if want = 3 then some St.badParam
  else if d.guardOwned n then some St.denied
  else if want ≠ d.fld (Reg.GUARD_CH_CTRL n) 1 0 && (d.gstate n = 3 || d.gstate n = 4 || (d.gmode n = 0 && want ≠ 0)) then some St.denied
  else none

/-- A write of GUARD_nn_CTRL takes effect (R316). -/
def Dev.guardApply (d : Dev) (n : Nat) (v : Word) : Dev :=
  let want := wfld v 1 0
  if (d.guardRefuses n v).isSome || !d.domainRuns 5 then d
  else
    let same := want = d.fld (Reg.GUARD_CH_CTRL n) 1 0
    let d := d.setBit (Reg.GUARD_CH_CTRL n) 8 (wbit v 8)
    if same then d else if want = 2 then d.guardActive n else (d.guardRest n want).setG n fun g => { g with skip := false }

/-- The session task puts an outlet's channel in STANDBY: outlet in IDLE, the mode as its type needs (R315, R316). -/
def Dev.guardTask (d : Dev) (n : Nat) : Dev :=
  if d.outType n ≠ 0 && d.ost n == .idle && d.guardReady n then d.guardSession n 1 else d

/-- What the session task does with an outlet's own Guard channel where a copy from the twin moves the outlet to another state (R316, R324): STANDBY in IDLE and UNPLUGGED, imd_arm 0 until PRECHARGE and 1 from then on. -/
def Dev.guardCopied (d was : Dev) (n : Nat) : Dev :=
  if d.outType n = 0 || d.ost n = was.ost n then d
  else match d.ost n with
    | .idle => d.guardTask n
    | .unplugged => (d.guardArm n false).guardSession n 1
    | .cableCheck => d.guardArm n false
    | .precharge | .energy | .rampdown => d.guardArm n true
    | .plugged | .linking | .negotiating | .authorising | .weldCheck | .fault => d

/-- GUARD_MODE_WRITE (R316): mode OFF puts the channel in OFF; then the session task's rule. -/
def Dev.guardMode (d : Dev) (n : Nat) : Dev :=
  let d := if d.gmode n = 0 && d.gstate n ≠ 4 && d.gstate n ≠ 3 then d.guardRest n 0 else d
  d.guardTask n

/-! ### Opcodes -/

/-- GUARD_STATUS_GET (0x0D80). -/
def opGuardStatus (d : Dev) (c : Cmd) : Dev × Ans :=
  let p := c.payload
  let n := num p 0 1
  check d [(p.length ≠ 4, St.badLength), (num p 1 3 ≠ 0, St.badParam), (31 < n, St.badParam)]
    (d, .done St.ok (d.regBytes [Reg.GUARD_CH_STATUS n, Reg.GUARD_CH_RCM_VALUE n, Reg.GUARD_CH_IMD_RESULT n, Reg.GUARD_CH_TRIP_CNT n]))

/-- GUARD_SELF_TEST (0x0D81, R330): DENIED while the Guard has no clock (R551; DESIGN CHOICE of the status, log entry 78). -/
def opGuardTest (d : Dev) (c : Cmd) : Dev × Ans :=
  let p := c.payload
  let n := num p 0 1
  check d [(p.length ≠ 4, St.badLength), (num p 1 3 ≠ 0, St.badParam), (31 < n, St.badParam), (!d.domainRuns 5, St.denied),
           (!(d.gstate n = 1 || (d.gstate n = 0 && d.gmode n ≠ 0)) || d.ost n ≠ .idle, St.busy)] <|
    let imd := d.gmode n = 2
    let d := d.setG n fun g => { g with test := some g.t, testDc := [], inj := if d.passive then 0 else 1, imd := if imd then some d.pip else none, imdT := g.t, sums := [0, 0, 0, 0], peaks := (0, 0) }
    ((d.setFld (Reg.GUARD_CH_STATUS n) 2 0 3).setFld (Reg.GUARD_CH_STATUS n) 17 16 1, .done St.ok [])

/-- GUARD_CLEAR_FAULT (0x0D82, R329): a channel whose mode is OFF returns to OFF. DENIED while the Guard has no clock (R551; DESIGN CHOICE of the status, log entry 78). -/
def opGuardClear (d : Dev) (c : Cmd) : Dev × Ans :=
  let p := c.payload
  let n := num p 0 1
  check d [(p.length ≠ 4, St.badLength), (num p 1 3 ≠ 0, St.badParam), (31 < n, St.badParam), (!d.domainRuns 5, St.denied), (d.gstate n ≠ 4 || (d.g n).clean < 80, St.denied)]
    (d.guardRest n (if d.gmode n = 0 then 0 else 1), .done St.ok [])

end Sys2Proof.Machine
end

