-- ==== Sys2Proof/Machine/LoadSwitch.lean ====
section
/-!
DEFINITION. The switch die (12_load_switches.md): the per-pip frame, channel states, protection, fail-safe, under-voltage and the 0x0Exx opcodes. Channel index `ch`: CL_nn is nn, AX_nn is 64 + nn.
-/
namespace Sys2Proof.Machine

/-- A channel behind its registers. -/
def Dev.l (d : Dev) (ch : Nat) : LChan := tget LChan.reset d.lsw.chans ch

/-- Change a channel. -/
def Dev.setL (d : Dev) (ch : Nat) (f : LChan → LChan) : Dev := { d with lsw := { d.lsw with chans := tset LChan.reset d.lsw.chans ch (f (d.l ch)) } }

/-- The state of a channel: 0 OFF, 1 ON, 2 THERMAL, 3 RETRY_WAIT, 4 LOCKOUT. -/
def Dev.lst (d : Dev) (ch : Nat) : Nat := d.fld (Reg.LSW_CH_STATUS ch) 2 0

/-- The mask register and bit that show a channel, of the ON or the LOCKOUT set. -/
def lswMaskBit (lockout : Bool) (ch : Nat) : Nat × Nat :=
  if ch < 32 then (if lockout then Reg.LSW_CL_LOCKOUT_LO else Reg.LSW_CL_ON_LO, ch)
  else if ch < 64 then (if lockout then Reg.LSW_CL_LOCKOUT_HI else Reg.LSW_CL_ON_HI, ch - 32)
  else (if lockout then Reg.LSW_AX_LOCKOUT else Reg.LSW_AX_ON, ch - 64)

/-- OUT_ENERGY_MASK: whether a coil of OUT_n is on. -/
def Dev.coilShow (d : Dev) (n : Nat) : Dev := d.setBit Reg.OUT_ENERGY_MASK n (d.outType n ≠ 0 && (d.lst (2 * n) = 1 || d.lst (2 * n + 1) = 1))

/-- Enter a state, shown in the channel's status and the masks. -/
def Dev.setLst (d : Dev) (ch st : Nat) : Dev :=
  let on := lswMaskBit false ch
  let lk := lswMaskBit true ch
  let d := ((d.setFld (Reg.LSW_CH_STATUS ch) 2 0 st).setBit on.1 on.2 (st == 1)).setBit lk.1 lk.2 (st == 4)
  if ch < 64 then d.coilShow (ch / 2) else d

/-- Under-voltage in force (R383). -/
def Dev.lswUv (d : Dev) : Bool := d.rbit Reg.LSW_STATUS 2

/-- The thermal latch of a channel. -/
def Dev.latched (d : Dev) (ch : Nat) : Bool := d.rbit (Reg.LSW_CH_STATUS ch) 13

/-- The contactor permit that a coil channel needs; an auxiliary channel needs none (R373). -/
def Dev.chPermit (d : Dev) (ch : Nat) : Bool := 64 ≤ ch || d.stonePermit (ch / 2)

/-- The guard of a turn-on (R380). -/
def Dev.mayTurnOn (d : Dev) (ch : Nat) : Bool := !d.latched ch && !d.lswUv && d.chPermit ch

/-- The compensated duty of R376 and whether its cap applies: `v` in 0.1 V, the feed in 10 mV. -/
def compDuty (duty v feed : Nat) : Nat × Bool :=
  let n := duty * (v * 10) * (v * 10)
  if feed * feed * 1001 ≤ n || feed = 0 then (1000, true) else (n / (feed * feed), false)

/-- The duty of an auxiliary channel, taken at the start of a PWM period, and at turn-on for the period it falls in (R375, R376; DESIGN CHOICE, log entry 83), from the duty of the last valid frame (R37) and the feed at the period's start (R376). -/
def Dev.auxDrive (d : Dev) (ch : Nat) : Dev :=
  let cfg := Reg.LSW_CH_CFG ch
  let duty := (d.l ch).duty
  match d.fld cfg 29 28 with
  | 0 => d.setL ch fun l => { l with drive := .full }
  | 1 => d.setL ch fun l => { l with drive := .duty duty 1000 }
  | _ =>
    let (a, cap) := compDuty duty (d.fld (Reg.LSW_CH_HOLD ch) 25 16) d.lsw.feedAt
    (d.setL ch fun l => { l with drive := .duty a 1000 }).setBit (Reg.LSW_CH_STATUS ch) 11 cap

/-- Turn a channel on: a new inrush window, and on a coil a new pull-in (R374, R377). -/
def Dev.turnOn (d : Dev) (ch : Nat) : Dev :=
  let d := (d.setLst ch 1).setL ch fun l => { l with onAt := d.osc, drive := .full }
  let d := (d.setBit (Reg.LSW_CH_STATUS ch) 9 true).setBit (Reg.LSW_CH_STATUS ch) 8 false
  if 64 ≤ ch then d.auxDrive ch else d

/-- Turn a channel off into a state. -/
def Dev.turnOff (d : Dev) (ch st : Nat) : Dev :=
  let d := (d.setLst ch st).setL ch fun l => { l with drive := .off }
  d.wr (Reg.LSW_CH_STATUS ch) (d.rd (Reg.LSW_CH_STATUS ch) &&& ~~~(0xF00 : Word))

/-- A commanded turn-on that finds the permit absent at application (R373): the command reverts to OFF. -/
def Dev.safetyHold (d : Dev) (ch : Nat) : Dev :=
  let d := (d.setBit (Reg.LSW_CH_CMD ch) 31 false).setL ch fun l => { l with tgt := false }
  (d.inc Reg.LSW_SAFETY_HOLD_CNT).raise (Reg.LSW_CH_EVENT ch) 16

/-- Whether the restart after under-voltage, which takes the channels in ascending index (R383), has passed a channel or does not run. -/
def Dev.restartPast (d : Dev) (ch : Nat) : Bool := d.lsw.restart.all (ch < ·)

/-- A channel takes a target (R380): `cmd` where it comes from a frame, so that a refused coil turn-on reverts the command. -/
def Dev.lswTarget (d : Dev) (ch : Nat) (on cmd : Bool) : Dev :=
  let was := (d.l ch).tgt
  let hold := cmd && !was && !d.chPermit ch
  let d := d.setL ch fun l => { l with tgt := on }
  match d.lst ch, on with
  | 0, true =>
    if hold then d.safetyHold ch
    else if d.latched ch then d.setLst ch 2
    else if d.lswUv || !d.chPermit ch then d
    else if was && d.lsw.restart.isSome then d
    else d.turnOn ch
  | 0, false => d
  | 1, false => d.turnOff ch 0
  | 1, true => d
  | 2, false => if d.latched ch then d else d.setLst ch 0
  | 2, true => if hold then d.safetyHold ch else if d.mayTurnOn ch && d.restartPast ch then d.turnOn ch else d
  | 3, false => (d.setL ch fun l => { l with backAt := none, back := 0 }).setLst ch 0
  | _, _ => d

/-- The commanded state that the Shell's frame carries for a channel: off while the module is not in sync with its twin (R390). -/
def Dev.frameOn (d : Dev) (ch : Nat) : Bool := d.rbit (Reg.LSW_CH_CMD ch) 31 && !(d.fld Reg.TWIN_STATUS 2 0 == 1 || d.fld Reg.TWIN_STATUS 2 0 == 2)

/-- One channel of a valid frame: the force-off mask comes first (R372). -/
def Dev.frameCh (d : Dev) (force ch : Nat) : Dev :=
  let d := (d.setBit (Reg.LSW_CH_STATUS ch) 14 false).setL ch fun l => { l with duty := d.fld (Reg.LSW_CH_CMD ch) 9 0 }
  if ch < 64 && force.testBit (ch / 2) then (d.setBit (Reg.LSW_CH_CMD ch) 31 false).lswTarget ch false true
  else d.lswTarget ch (d.frameOn ch) true

/-- After a frame: an outlet whose session's coils have just closed puts its Guard channel in ACTIVE, with imd_arm 0 in CABLE_CHECK (R316, R324). -/
def Dev.frameGuard (d : Dev) (before : List Bool) (n : Nat) : Dev :=
  if d.outType n ≠ 0 && (d.ost n).running && d.lst (2 * n) = 1 && !before.getD n false then (if d.ost n = .cableCheck then d.guardArm n false else d).guardActive n else d

/-- When the inrush window of a channel ends (R377). -/
def Dev.inrushTill (d : Dev) (ch : Nat) : Nat := (d.l ch).onAt + 4 * d.fld (Reg.LSW_CH_CFG ch) 15 8

/-- The current limits of R369 in mA, during T_inrush and after it. -/
def lswLimit (ch : Nat) (inrush : Bool) : Nat := if ch < 64 then (if inrush then 3000 else 1500) else if inrush then 8000 else 3500

/-- The limit that a channel applies to its current (R377). -/
def Dev.currentLimit (d : Dev) (ch : Nat) : Nat := lswLimit ch (decide (d.osc < d.inrushTill ch))

/-- Whether a frame is valid (R370): its CRC matches and its sequence is one more than the last valid frame's, whose width the spec does not give (DESIGN CHOICE, log entry 88). -/
def Dev.frameValid (d : Dev) (f : DieIn) : Bool := f.crc && f.seq = d.lsw.seq + 1

/-- SWITCH_DIE_FRAME (R370): a valid frame is applied; an invalid one counts as missing. `meas` is the status frame's current in mA, which a channel holds to its limit, and junction in °C per channel. -/
def Dev.switchFrame (d : Dev) (f : DieIn) (meas : List (Fin 80 × Nat × Int)) : Dev :=
  let d := meas.foldl (fun (d : Dev) m => d.wn (Reg.LSW_CH_MEAS m.1.val) (ofSigned 16 m.2.2 * 65536 + min m.2.1 (d.currentLimit m.1.val) % 65536)) d
  if !d.frameValid f then (d.inc Reg.LSW_FRAME_ERR_CNT).raise Reg.LSW_EVENT 8
  else
    let before := (List.range 32).map fun n => d.lst (2 * n) == 1
    let force := d.safe.forceOff
    let d := { d with safe := { d.safe with forceOff := 0 }, lsw := { d.lsw with lastFrame := d.osc, holdTill := none, seq := f.seq } }
    let d := (d.setBit Reg.LSW_STATUS 3 false).setBit Reg.LSW_STATUS 4 false
    let d := (List.range 80).foldl (fun (d : Dev) ch => d.frameCh force ch) d
    (List.range 32).foldl (fun (d : Dev) n => d.frameGuard before n) d

/-- Give every channel its fail-safe state as target (R385): OFF, ON, or HOLD, which keeps the target. -/
def Dev.failSafe (d : Dev) : Dev :=
  let d := ((d.setBit Reg.LSW_STATUS 3 true).inc Reg.LSW_FAILSAFE_CNT).raise Reg.LSW_EVENT 4
  (List.range 80).foldl (fun (d : Dev) ch =>
    let d := d.setBit (Reg.LSW_CH_STATUS ch) 14 true
    match d.fld (Reg.LSW_CH_CFG ch) 31 30 with
    | 0 => d.lswTarget ch false false
    | 1 => d.lswTarget ch true false
    | _ => d) d

/-- SWITCH_DIE_WATCHDOG_EXPIRY (R385, R387, R388). -/
def Dev.lswWatchdog (d : Dev) : Dev :=
  if d.rbit Reg.LSW_STATUS 3 || d.rbit Reg.LSW_CFG 0 || d.lsw.holdTill.isSome || d.osc < d.lsw.lastFrame + d.fld Reg.LSW_WD_CFG 11 0 then d else d.failSafe

/-- ACT_HOLD_EXPIRY (R388). -/
def Dev.actHoldExpiry (d : Dev) : Dev :=
  if due d.lsw.holdTill d.osc then
    let d := { d with lsw := { d.lsw with holdTill := none } }.setBit Reg.LSW_STATUS 4 false
    if d.rbit Reg.LSW_CFG 0 then d else d.failSafe
  else d

/-- Arm the activation hold through the last frame (R388). -/
def Dev.armActHold (d : Dev) : Dev :=
  { d with lsw := { d.lsw with holdTill := some (d.osc + d.fld Reg.LSW_WD_CFG 26 16) } }.setBit Reg.LSW_STATUS 4 true

/-! ### Protection (R377 to R380) -/

/-- Reload the retry counter (R380). -/
def Dev.retryReload (d : Dev) (ch : Nat) : Dev :=
  (d.setFld (Reg.LSW_CH_STATUS ch) 27 24 (d.fld (Reg.LSW_CH_CFG ch) 27 24)).setL ch fun l => { l with k := 1 }

/-- COIL_TRIP_UNDER_LOAD (R382): the session of a running outlet releases both coils. -/
def Dev.coilTrip (d : Dev) (ch : Nat) : Dev := if ch < 64 && (d.outType (ch / 2) ≠ 0 || d.mode == .boot) then d.outCoilTrip (ch / 2) else d

/-- The backoff before the k-th retry in pips: base × 2^(k−1), at most 8 × base (R380). -/
def Dev.backoff (d : Dev) (ch : Nat) : Nat := d.fld (Reg.LSW_CH_CFG ch) 23 16 * 40 * min 8 (2 ^ ((d.l ch).k - 1))

/-- Whether a channel that is on trips for overcurrent (R377): current-limiting at the end of its inrush window, or continuously for 1 ms after it. -/
def Dev.overTrips (d : Dev) (l : ChanLoad) : Bool :=
  let ch := l.ch.val
  let till := d.inrushTill ch
  d.lst ch == 1 && ((d.rbit (Reg.LSW_CH_STATUS ch) 9 || till == d.osc) && decide (till ≤ d.osc) && decide (lswLimit ch true ≤ l.ma)
    || decide (till + 4 ≤ d.osc) && decide (lswLimit ch false ≤ l.ma) && decide (1000 ≤ l.us))

/-- OVERCURRENT_TRIP (R377, R380). -/
def Dev.overcurrent (d : Dev) (l : ChanLoad) : Dev :=
  let ch := l.ch.val
  if !d.overTrips l then d
  else
    let d := (d.inc (Reg.LSW_CH_TRIP_CNT ch)).raise (Reg.LSW_CH_EVENT ch) 2
    let d := if d.fld (Reg.LSW_CH_STATUS ch) 27 24 > 0 then
        (d.turnOff ch 3).setL ch fun l => { l with back := d.backoff ch, backAt := some d.osc }
      else (((d.turnOff ch 4).inc (Reg.LSW_CH_LOCKOUT_CNT ch)).raise (Reg.LSW_CH_EVENT ch) 8).raise Reg.LSW_EVENT 1
    d.coilTrip ch

/-- THERMAL_LATCH_SET (R378, R380). -/
def Dev.thermalSet (d : Dev) (ch : Nat) : Dev :=
  if d.latched ch then d
  else
    let d := (d.setBit (Reg.LSW_CH_STATUS ch) 13 true).raise (Reg.LSW_CH_EVENT ch) 4
    match d.lst ch with
    | 1 => ((d.turnOff ch 2).inc (Reg.LSW_CH_THERM_CNT ch)).coilTrip ch
    | 3 => ((d.inc (Reg.LSW_CH_THERM_CNT ch)).setL ch fun l => { l with back := l.back - ((l.backAt.map fun t => d.osc - t).getD 0), backAt := none }).coilTrip ch
    | _ => d.coilTrip ch

/-- THERMAL_LATCH_CLEAR (R378, R380); a restart that finds under-voltage or no permit waits in THERMAL. -/
def Dev.thermalClear (d : Dev) (ch : Nat) : Dev :=
  let d := d.setBit (Reg.LSW_CH_STATUS ch) 13 false
  match d.lst ch with
  | 2 => if !(d.l ch).tgt then d.setLst ch 0 else if d.mayTurnOn ch && d.restartPast ch then d.turnOn ch else d
  | 3 => d.setL ch fun l => { l with backAt := some (l.backAt.getD d.osc) }
  | _ => d

/-- Whether a retry of a channel has fallen due (R380). -/
def Dev.retryDue (d : Dev) (ch : Nat) : Bool := d.lst ch == 3 && (d.l ch).backAt.any (fun t => t + (d.l ch).back ≤ d.osc)

/-- A retry is made (R380). -/
def Dev.retryNow (d : Dev) (ch : Nat) : Dev :=
  let d := (d.setFld (Reg.LSW_CH_STATUS ch) 27 24 (d.fld (Reg.LSW_CH_STATUS ch) 27 24 - 1)).inc (Reg.LSW_CH_RETRY_CNT ch)
  (d.setL ch fun l => { l with k := l.k + 1, backAt := none, back := 0 }).turnOn ch

/-- RETRY_BACKOFF_ELAPSED (R380); a retry that falls due in under-voltage waits for the restart (R384). -/
def Dev.retry (d : Dev) (ch : Nat) : Dev := if d.retryDue ch && d.mayTurnOn ch && d.restartPast ch then d.retryNow ch else d

/-- RETRY_COUNTER_RELOAD (R380): 40,000 pips on since the last turn-on. -/
def Dev.reloadAfterOn (d : Dev) (ch : Nat) : Dev := if d.lst ch = 1 && (d.l ch).onAt + 40000 ≤ d.osc then d.retryReload ch else d

/-- INRUSH_WINDOW_END (R377). -/
def Dev.inrushEnd (d : Dev) (ch : Nat) : Dev :=
  if d.lst ch = 1 && d.inrushTill ch ≤ d.osc then d.setBit (Reg.LSW_CH_STATUS ch) 9 false else d

/-- Whether a coil is in its hold phase (R374). -/
def Dev.coilHolds (d : Dev) (ch : Nat) : Bool := ch < 64 && d.lst ch == 1 && d.rbit (Reg.LSW_CH_STATUS ch) 8

/-- When the phase began in which a channel's load is tested (R379): turn-on, or the hold phase of a coil. -/
def Dev.loadFrom (d : Dev) (ch : Nat) : Nat := (d.l ch).onAt + (if ch < 64 then 40 * d.fld (Reg.LSW_CH_CFG ch) 7 0 else 0)

/-- OPEN_LOAD_DETECT (R379): below 20 mA on a coil or 10 mA on an auxiliary channel for 10 ms; a coil is tested in its current-hold phase only (DEDUCED, log entry 83). -/
def Dev.openLoad (d : Dev) (l : ChanLoad) : Dev :=
  let ch := l.ch.val
  let low := decide (l.ma < if ch < 64 then 20 else 10) && decide (10000 ≤ l.us) && decide (d.loadFrom ch + 40 ≤ d.osc)
  if low && d.lst ch = 1 && (64 ≤ ch || (d.coilHolds ch && !d.rbit Reg.LSW_CFG 1)) then (d.setBit (Reg.LSW_CH_STATUS ch) 10 true).raise (Reg.LSW_CH_EVENT ch) 1 else d

/-- What a coil in its hold phase drives (R374): a regulated current, or under twin_hold a duty of min(1, v_hold / V_feed). -/
def Dev.holdDrive (d : Dev) (ch : Nat) : Drive :=
  let v := d.fld (Reg.LSW_CH_HOLD ch) 25 16 * 10
  let feed := d.fld Reg.LSW_FEED 15 0
  if d.rbit Reg.LSW_CFG 1 then (if feed ≤ v then .full else .duty v feed) else .current (d.fld (Reg.LSW_CH_HOLD ch) 9 0)

/-- PULL_IN_END (R374). -/
def Dev.pullInEnd (d : Dev) (ch : Nat) : Dev :=
  if ch < 64 && d.lst ch = 1 && d.fld (Reg.LSW_CH_CFG ch) 29 28 = 1 && (d.l ch).onAt + 40 * d.fld (Reg.LSW_CH_CFG ch) 7 0 ≤ d.osc then
    (d.setBit (Reg.LSW_CH_STATUS ch) 8 true).setL ch fun l => { l with drive := d.holdDrive ch }
  else d

/-! ### Under-voltage (R383, R384) -/

/-- UNDER_VOLTAGE: every channel turns off; targets, retry counters and latches stay. -/
def Dev.underVoltage (d : Dev) : Dev :=
  if d.lswUv then d
  else
    let d := ((d.setBit Reg.LSW_STATUS 2 true).inc Reg.LSW_UV_CNT).raise Reg.LSW_EVENT 2
    let d := { d with lsw := { d.lsw with uvGood := none, restart := none } }
    (List.range 80).foldl (fun (d : Dev) ch => if d.lst ch = 1 then d.turnOff ch 0 else d) d

/-- Whether the restart turns a channel on (R383): its target is ON, and it is off, unlatched in THERMAL, or in RETRY_WAIT with its retry due (R384). -/
def Dev.restarts (d : Dev) (ch : Nat) : Bool := (d.l ch).tgt && (d.lst ch == 0 || (d.lst ch == 2 && !d.latched ch) || d.retryDue ch)

/-- UNDER_VOLTAGE_RESTORE: after 80 pips above 17.5 V under-voltage clears; channels whose target is ON restart in ascending index, at most 8 in a pip. -/
def Dev.uvRestore (d : Dev) : Dev :=
  let d := if d.lswUv && d.lsw.uvGood.any (fun t => t + 80 ≤ d.osc) then { d with lsw := { d.lsw with restart := some 0 } }.setBit Reg.LSW_STATUS 2 false else d
  match d.lsw.restart with
  | some from_ =>
    if d.lsw.restartPip = d.osc then d
    else
      let next := ((List.range 80).filter fun ch => from_ ≤ ch && d.restarts ch).take 8
      let d := { d with lsw := { d.lsw with restartPip := d.osc, restart := if next.length < 8 then none else some (next.getLastD 0 + 1) } }
      next.foldl (fun (d : Dev) ch => if d.mayTurnOn ch then (if d.lst ch = 3 then d.retryNow ch else d.turnOn ch) else d) d
  | none => d

/-- LSW_STATUS shows twin_hold and hold_last as LSW_CFG holds them. -/
def Dev.lswShow (d : Dev) : Dev := d.setFld Reg.LSW_STATUS 1 0 (d.fld Reg.LSW_CFG 1 0)

/-- An automatic restart of a coil that fell due without the contactor permit is made once the permit is there (R373): in OFF or THERMAL with target ON and no restart of R383 under way, or a retry due in an earlier pip. -/
def Dev.permitBack (d : Dev) (ch : Nat) : Dev :=
  let l := d.l ch
  if !l.tgt || d.lsw.restart.isSome || !d.mayTurnOn ch then d
  else match d.lst ch with
    | 0 => d.turnOn ch
    | 2 => d.turnOn ch
    | 3 => if l.backAt.any fun t => t + l.back < d.osc then d.retryNow ch else d
    | _ => d

/-- What the pip boundary does to the switch die's view of the feed and its PWM periods, and to restarts that wait for the permit (R373 to R376, R383). -/
def Dev.lswTick (d : Dev) (feed : Nat) : Dev :=
  let d := d.lswShow.wn Reg.LSW_FEED (min feed 0xFFFF)
  let d := { d with lsw := { d.lsw with uvGood := if 1750 < feed then some (d.lsw.uvGood.getD d.osc) else none } }
  let d := (List.range 64).foldl (fun (d : Dev) ch =>
    if d.coilHolds ch then d.setL ch fun l => { l with drive := d.holdDrive ch } else d.permitBack ch) d
  let d := if d.pip % 8 = 0 then { d with lsw := { d.lsw with feedAt := d.fld Reg.LSW_FEED 15 0 } } else d
  if d.pip % 8 = 0 then (List.range 16).foldl (fun (d : Dev) a => if d.lst (64 + a) = 1 then d.auxDrive (64 + a) else d) d else d

/-- After BOOT the Shell takes what every channel does by its target, LOCKOUT apart, as its command, so that the first frame changes no output, and commands the coils of outlets with an open Kernel session off (R386; DEDUCED, log entry 83). -/
def Dev.lswBoot (d : Dev) : Dev :=
  let d := (List.range 32).foldl (fun (d : Dev) n => d.coilShow n) d
  (List.range 80).foldl (fun (d : Dev) ch =>
    let on := (d.l ch).tgt && d.lst ch ≠ 4 && !(ch < 64 && (d.mirror.ch (ch / 2)).session.isSome)
    d.setBit (Reg.LSW_CH_CMD ch) 31 on) d

/-! ### Commands (R371, R373, R381, R391) -/

/-- Whether a channel belongs to the session task (R371). -/
def Dev.lswOwned (d : Dev) (ch : Nat) : Bool := ch < 64 && d.outType (ch / 2) ≠ 0

/-- The status with which a command of a channel's state is refused: DENIED (R371), SAFETY_HOLD (R373). -/
def Dev.lswRefuses (d : Dev) (ch : Nat) (on : Bool) : Option Nat :=
  if d.lswOwned ch then some St.denied
  else if on && ch < 64 && d.lst ch ≠ 1 && !d.chPermit ch then some St.safetyHold
  else none

/-- A change of LSW_ch_CMD by an opcode: at the next pip boundary, or at once at its launch pip (R373), in place of any change still held (R407) or pending (R85). -/
def Dev.lswCommand (d : Dev) (c : Cmd) (ch : Nat) (v : Word) : Dev :=
  if c.launch.isSome then (({ d with twin := { d.twin with held := d.twin.held.filter fun e => e.1 ≠ Reg.LSW_CH_CMD ch } } : Dev).dropPend (· = Reg.LSW_CH_CMD ch)).wr (Reg.LSW_CH_CMD ch) v
  else d.pendAs (Reg.LSW_CH_CMD ch) v false

/-- LSW_STATUS_GET (0x0E00). -/
def opLswStatus (d : Dev) (c : Cmd) : Dev × Ans :=
  let p := c.payload
  let n := num p 0 1
  check d [(p.length ≠ 4, St.badLength), (num p 1 3 ≠ 0, St.badParam), (79 < n, St.badParam)]
    (d, .done St.ok (d.regBytes [Reg.LSW_CH_CFG n, Reg.LSW_CH_STATUS n, Reg.LSW_CH_MEAS n, Reg.LSW_CH_TRIP_CNT n, Reg.LSW_CH_THERM_CNT n, Reg.LSW_CH_RETRY_CNT n, Reg.LSW_CH_LOCKOUT_CNT n]))

/-- LSW_SET (0x0E01). -/
def opLswSet (d : Dev) (c : Cmd) : Dev × Ans :=
  let p := c.payload
  let ch := num p 0 1
  let on := num p 1 1 = 1
  let ref := d.lswRefuses ch on
  check d [(p.length ≠ 4, St.badLength), (79 < ch || 1 < num p 1 1 || 1000 < num p 2 2, St.badParam), (ref.isSome, ref.getD 0), (on && d.lst ch = 4, St.f0)]
    (d.lswCommand c ch (word ((if on then 0x80000000 else 0) + num p 2 2)), .done St.ok [])

/-- LSW_SET_AX (0x0E02): every masked auxiliary channel in one frame; a duty commanded before stays, a pending one too. -/
def opLswSetAx (d : Dev) (c : Cmd) : Dev × Ans :=
  let p := c.payload
  let mask := maskBits 16 (num p 0 2)
  check d [(p.length ≠ 4, St.badLength), (mask.any (fun a => (num p 2 2).testBit a && d.lst (64 + a) = 4), St.f0)]
    (mask.foldl (fun (d : Dev) a => d.lswCommand c (64 + a) (word ((if (num p 2 2).testBit a then 0x80000000 else 0) + wfld (d.pended (Reg.LSW_CH_CMD (64 + a))) 9 0))) d, .done St.ok [])

/-- LSW_CLEAR (0x0E03). -/
def opLswClear (d : Dev) (c : Cmd) : Dev × Ans :=
  let p := c.payload
  let ch := num p 0 1
  check d [(p.length ≠ 4, St.badLength), (num p 1 3 ≠ 0, St.badParam), (79 < ch, St.badParam)] <|
    let d := d.retryReload ch
    (if d.lst ch = 4 then d.setLst ch 0 else d, .done St.ok [])

end Sys2Proof.Machine
end

