-- ==== Sys2Proof/Machine/Credit.lean ====
section
/-!
DEFINITION. Walk-in tokens and credit stops (07_tariffs_billing_credit.md, R244, R248 to R251): what BILL does to an outlet.
-/
namespace Sys2Proof.Machine

/-- The number that decimal digits spell. -/
def decNat (l : List Nat) : Nat := l.foldl (fun n x => 10 * n + x) 0

/-- A token's fields (R248); none where P is 2^66 or more, the class is invalid or the check differs (reason 1). -/
structure TokenFields where
  cls : Nat
  value : Nat
  id : Nat
  expiry : Nat
  deriving DecidableEq, Repr

/-- Take a decrypted token apart (R248, R249). -/
def tokenFields (p : Nat) : Option TokenFields :=
  let cls := p / 2 ^ 64
  if 2 ≤ cls || (crc16 (byte cls :: leN p 6)).toNat ≠ p / 2 ^ 48 % 65536 then none
  else some { cls := cls, value := p / 2 ^ 32 % 65536, id := p / 2 ^ 14 % 2 ^ 18, expiry := p % 2 ^ 14 }

/-- The token key, where its slot holds DECRYPT and AES-FF1 (R248, R472). -/
def Dev.tokenKey (d : Dev) : Option Bytes :=
  let k := d.slot (d.fld Reg.BILL_TOKEN_CFG 5 0)
  if k.use = 2 && (k.alg = 3 || k.alg = 4) then some k.key else none

/-- Put an accepted token in the used list; a full list loses its earliest expiry, whose day becomes the floor (R250). -/
def Dev.tokenUsed (d : Dev) (t : TokenFields) : Dev :=
  let d :=
    if d.bill.used.length < 4096 then d
    else match (sortBy (fun (u : UsedToken) => u.expiry * 2 ^ 18 + u.id) d.bill.used).head? with
      | some u => { d with bill := { d.bill with used := d.bill.used.filter (fun (x : UsedToken) => x ≠ u) } }.wn Reg.BILL_TOKEN_FLOOR u.expiry
      | none => d
  let d := { d with bill := { d.bill with used := d.bill.used ++ [UsedToken.mk t.id t.expiry] } }
  d.wn Reg.BILL_TOKEN_USED d.bill.used.length

/-- The credit that a token gives: cu for class 0, mWh for class 1 (R248). -/
def TokenFields.credit (t : TokenFields) : Int := if t.cls = 0 then (t.value * 1000 : Nat) else (t.value * 100000 : Nat)

/-- The refusal reason of a token for outlet `n`, or 0 (R249). -/
def Dev.tokenOutletReason (d : Dev) (n : Nat) (t : TokenFields) : Nat :=
  let awaiting := d.ost n == .authorising && !d.rbit (Reg.OUT_STATE n) 17
  let topUp := d.ost n == .energy && (d.bo n).cls = 2
  if 31 < n || (!awaiting && !topUp) then 4
  else if !d.rbit (Reg.OUT_AUTH_CFG n) 6 then 6
  else if topUp && (d.bo n).tokenCls ≠ t.cls then 7
  else 0

/-- The refusal reason of a token's fields for outlet `n`, or 0. -/
def Dev.tokenReason (d : Dev) (n : Nat) (t : TokenFields) : Nat :=
  if (d.rn Reg.BILL_TOKEN_EPOCH + t.expiry : Int) < d.localDay || t.expiry ≤ d.rn Reg.BILL_TOKEN_FLOOR then 2
  else if d.bill.used.any (·.id = t.id) then 3
  else d.tokenOutletReason n t

/-- A refused token: its count, event and record. -/
def Dev.tokenRefuse (d : Dev) (n reason id : Nat) : Dev × Nat := (((d.inc Reg.BILL_TOKEN_REFUSE_CNT).raise Reg.BILL_EVENT 2).txn n 5 reason id, reason)

/-- An accepted token: marked used before it grants, then the grant with source 3, or the addition to the session's credit (R250, R251). -/
def Dev.tokenAccept (d : Dev) (n : Nat) (t : TokenFields) : Dev × Nat :=
  let d := (d.tokenUsed t).inc Reg.BILL_TOKEN_ACCEPT_CNT
  let d :=
    if d.ost n = .energy then (d.setBo n fun b => { b with credit := b.credit + t.credit }).billShow n
    else
      let d := d.setBo n fun _ => { BillOut.none with cls := 2, tokenCls := t.cls, tokenId := t.id, credit := t.credit }
      ((d.wn (Reg.BILL_OUT_CLASS n) 0xFFFF).billShow n).applyGrant n Ident.none 3
  (d.txn n 5 0 t.id, 0)

/-- TOKEN_DECISION (R248 to R250): decide on 20 digits for an outlet; 0 for accepted, else the refusal reason. Whether the write of the used list fails is open (log entry 52). -/
def Dev.tokenDecide (d : Dev) (n : Nat) (digits : List Nat) : Dev × Nat :=
  match d.tokenKey with
  | none => d.tokenRefuse n 5 0
  | some k =>
    if !d.rbit Reg.BILL_CTRL 1 then d.tokenRefuse n 5 0
    else
      let d := d.useKey (d.fld Reg.BILL_TOKEN_CFG 5 0)
      match tokenFields (decNat (Config.ff1Decrypt k (leN (d.rn Reg.BILL_TOKEN_TWEAK) 4) digits)) with
      | none => d.tokenRefuse n 1 0
      | some t =>
        if d.tokenReason n t ≠ 0 then d.tokenRefuse n (d.tokenReason n t) t.id
        else
          let d' := { d with bill := { d.bill with writes := d.bill.writes + 1 } }
          if Config.flashFails d.bill.writes then d'.tokenRefuse n 5 t.id else d'.tokenAccept n t

/-- The credit-exhausted stops of a latch, after its debits (R244, R251): the session ramps down, counted, flagged and recorded. -/
def Dev.creditLatch (d : Dev) : Dev :=
  let stops := (List.range 32).filter fun n => d.exhausted n
  stops.foldl (fun (d : Dev) n =>
    let d := ((d.setBo n fun b => { b with stopped := true }).inc Reg.BILL_CREDIT_STOP_CNT).raise Reg.BILL_EVENT 1
    (d.txn n 4 0 0).creditStop n) d

/-- BILL at a latch: account changes, the sessions that the mirror shows opened or closed, the debits, then the stops (R241, R244, R246). -/
def Dev.billLatch (d : Dev) : Dev := ((List.range 32).foldl (fun (d : Dev) n => (d.billSync n).billOutLatch n) d.acctLatch).creditLatch

/-- TOKEN_SUBMIT (0x0414). -/
def opTokenSubmit (d : Dev) (c : Cmd) : Dev × Ans :=
  let p := c.payload
  let digits := ((p.drop 2).take 20).map fun b => b.toNat
  check d [(p.length ≠ 24, St.badLength), (num p 1 1 ≠ 0 || num p 22 2 ≠ 0 || digits.any (fun x => x < 48 || 57 < x), St.badParam), (d.noOutlet (num p 0 1), St.f1)] <|
    let (d, r) := d.tokenDecide (num p 0 1) (digits.map (· - 48))
    (d, .done St.ok [byte r, 0, 0, 0])

end Sys2Proof.Machine
end

