-- ==== Sys2Proof/Machine/KernOps.lean ====
section
/-!
DEFINITION. The Shell's side of the Kernel commands (R184, R185, R210): what the Shell checks of a payload before it passes a Kernel command on, and the opcodes that the KERN mirror answers.
-/
namespace Sys2Proof.Machine

/-- Pass a Kernel command on to the Kernel, which carries it out at the latch of the next pip (R184). -/
def Dev.toKernel (d : Dev) (c : Cmd) : Dev × Ans :=
  ({ d with kern := { d.kern with inbox := d.kern.inbox ++ [.host c.opcode c.payload c.id d.kern.latches] } }, .running)

/-- A Kernel command whose payload has a fixed length; its fields, the reserved ones too, are the Kernel's to check (R26). -/
def kernOp (len : Nat) (d : Dev) (c : Cmd) : Dev × Ans := check d [(c.payload.length ≠ len, St.badLength)] (d.toKernel c)

/-- A Kernel command that carries a chunk: an offset and 1 to 1,020 bytes. -/
def kernChunk (d : Dev) (c : Cmd) : Dev × Ans := check d [(c.payload.length < 5 || 1024 < c.payload.length, St.badLength)] (d.toKernel c)

/-- KERN_STATUS (0x0300). -/
def opKernStatus (d : Dev) (c : Cmd) : Dev × Ans := check d [(c.payload.length ≠ 0, St.badLength)] (d, .done St.ok d.mirror.statusReply)

/-- KERN_CERT_READ (0x0301). -/
def opKernCertRead (d : Dev) (c : Cmd) : Dev × Ans :=
  let off := num c.payload 0 2
  let len := num c.payload 2 2
  check d [(c.payload.length ≠ 4, St.badLength), (len = 0 || 1024 < len, St.badParam), (Config.kernCert.length < off + len, St.badParam)]
    (d, .done St.ok ((Config.kernCert.drop off).take len))

/-- KERN_PUBKEY_READ (0x0302). -/
def opKernPubkeyRead (d : Dev) (c : Cmd) : Dev × Ans :=
  check d [(c.payload.length ≠ 0, St.badLength), (d.mirror.signer = 2, St.unsigned)] (d, .done St.ok (padTo 65 (Config.ecPublic Config.kernKey) ++ [0, 0, 0]))

/-- KERN_LEDGER_READ (0x0303). -/
def opKernLedgerRead : Dev → Cmd → Dev × Ans := kernOp 12

/-- KERN_INTERVAL_WAIT (0x0304): it waits for the first close of its channel. -/
def opKernIntervalWait (d : Dev) (c : Cmd) : Dev × Ans :=
  let m := num c.payload 0 1
  check d [(c.payload.length ≠ 4, St.badLength), (num c.payload 1 3 ≠ 0, St.badParam), (31 < m, St.badParam)]
    ({ d with kern := { d.kern with waits := d.kern.waits ++ [(m, c.id)] } }, .running)

/-- KERN_RECEIPT_GET (0x0305). -/
def opKernReceiptGet : Dev → Cmd → Dev × Ans := kernOp 8

/-- KERN_SET_CHANNEL (0x0306). -/
def opKernSetChannel : Dev → Cmd → Dev × Ans := kernOp 8

/-- KERN_SET_CAL (0x0307). -/
def opKernSetCal : Dev → Cmd → Dev × Ans := kernOp 28

/-- KERN_SET_MCLK (0x0308). -/
def opKernSetMclk : Dev → Cmd → Dev × Ans := kernOp 4

/-- KERN_SET_PULSE (0x0309). -/
def opKernSetPulse : Dev → Cmd → Dev × Ans := kernOp 8

/-- KERN_SET_BALANCE (0x030A). -/
def opKernSetBalance : Dev → Cmd → Dev × Ans := kernOp 12

/-- KERN_SET_LIMITS (0x030B). -/
def opKernSetLimits : Dev → Cmd → Dev × Ans := kernOp 72

/-- KERN_FW_BEGIN (0x030C). -/
def opKernFwBegin : Dev → Cmd → Dev × Ans := kernOp 8

/-- KERN_FW_CHUNK (0x030D). -/
def opKernFwChunk : Dev → Cmd → Dev × Ans := kernChunk

/-- KERN_FW_END (0x030E). -/
def opKernFwEnd : Dev → Cmd → Dev × Ans := kernOp 0

/-- KERN_FW_ACTIVATE (0x030F). -/
def opKernFwActivate : Dev → Cmd → Dev × Ans := kernOp 4

/-- KERN_ARCHIVE_ACK (0x0310). -/
def opKernArchiveAck : Dev → Cmd → Dev × Ans := kernOp 8

/-- KERN_CHECKPOINT (0x0311). -/
def opKernCheckpoint : Dev → Cmd → Dev × Ans := kernOp 0

/-- TARIFF_BEGIN (0x0400). -/
def opTariffBegin : Dev → Cmd → Dev × Ans := kernOp 8

/-- TARIFF_CHUNK (0x0401). -/
def opTariffChunk : Dev → Cmd → Dev × Ans := kernChunk

/-- TARIFF_END (0x0402). -/
def opTariffEnd : Dev → Cmd → Dev × Ans := kernOp 0

/-- TARIFF_ABORT (0x0403). -/
def opTariffAbort : Dev → Cmd → Dev × Ans := kernOp 0

/-- TARIFF_READ (0x0404). -/
def opTariffRead : Dev → Cmd → Dev × Ans := kernOp 4

/-- LEGAL_TIME_ADJUST (0x0405). -/
def opLegalTimeAdjust : Dev → Cmd → Dev × Ans := kernOp 8

/-- LEGAL_TIME_GET (0x0406): one mirror copy. -/
def opLegalTimeGet (d : Dev) (c : Cmd) : Dev × Ans := check d [(c.payload.length ≠ 0, St.badLength)] (d, .done St.ok d.mirror.timeReply)

/-- Take what the Kernel has produced: the I_break values it confirms, final replies to the collector, and stored receipts to the outlets' RECEIPT_READY records. -/
def Dev.takeKernel (d : Dev) : Dev :=
  let done := d.kern.done
  let stored := d.kern.stored
  let conf := d.kern.confirmed
  let d := { d with kern := { d.kern with done := [], stored := [], confirmed := [] } }
  let d := conf.foldl (fun (d : Dev) n => d.setO n fun o => { o with confK := true }) d
  let d := done.foldl (fun (d : Dev) r => d.finish r.1 r.2.1 r.2.2) d
  stored.foldl (fun (d : Dev) r => d.receiptReady r.1 r.2.1 r.2.2) d

/-- Let the Kernel act, and take what it has produced. -/
def Dev.kernDo (d : Dev) (f : Kernel → Kernel) : Dev := { d with kern := f d.kern }.takeKernel

end Sys2Proof.Machine
end

