-- ==== Sys2Proof/Machine/Display.lean ====
section
/-!
DEFINITION. The status display (15_status_display.md): buffers and region updates, bands, pixel currents and ageing, the 0x09xx opcodes.
-/
namespace Sys2Proof.Machine

/-! ### Buffers and regions -/

/-- The grey level of pixel (x, y) in a buffer (R447). -/
def pixel (b : Tab Byte) (x y : Nat) : Nat := (tget 0 b (y * 64 + x / 2)).toNat / 16 ^ (x % 2) % 16

/-- A buffer with pixel (x, y) at grey `g`. -/
def setPixel (b : Tab Byte) (x y g : Nat) : Tab Byte :=
  let a := y * 64 + x / 2
  let v := (tget 0 b a).toNat
  tset 0 b a (byte (if x % 2 = 0 then v / 16 * 16 + g % 16 else v % 16 + g % 16 * 16))

/-- The bits of DISP_REGION_r_CFG: first and last column, first and last line. -/
def Dev.region (d : Dev) (r : Nat) : Nat × Nat × Nat × Nat :=
  let a := Reg.DISP_REGION_CFG r
  (d.fld a 30 24, d.fld a 22 16, d.fld a 13 8, d.fld a 5 0)

/-- The columns of a region, first to last. -/
def regionCols (c0 c1 : Nat) : List Nat := (List.range (c1 + 1 - c0)).map (· + c0)

/-- Copy the region's columns of one line from staging to active (R461): the display after it, and whether they differed. -/
def DispU.copyLine (u : DispU) (c0 c1 y : Nat) : DispU × Bool :=
  let cols := regionCols c0 c1
  if cols.all fun x => pixel u.active x y = pixel u.staging x y then (u, false)
  else ({ u with active := cols.foldl (fun b x => setPixel b x y (pixel u.staging x y)) u.active }, true)

/-- The updates of a region. -/
def Dev.upd (d : Dev) (r : Nat) : RegionUpd := tget RegionUpd.none d.disp.upd r

/-- Set the updates of a region and show them in its status. -/
def Dev.setUpd (d : Dev) (r : Nat) (u : RegionUpd) : Dev :=
  { d with disp := { d.disp with upd := tset RegionUpd.none d.disp.upd r u } }.wn (Reg.DISP_REGION_STATUS r)
    ((if u.run.isSome then u.line % 64 * 256 else 0) + b2n u.pending.isSome * 2 + b2n u.run.isSome)

/-- The running update of a region handles its next line, if one is left: the device after it and the µs it takes (R461). -/
def Dev.updLine (d : Dev) (r : Nat) : Dev × Nat :=
  let u := d.upd r
  let (c0, c1, _, y1) := d.region r
  if u.run.isNone || y1 < u.line then (d, 0)
  else
    let (disp, copied) := d.disp.copyLine c0 c1 u.line
    let d := { d with disp := disp }
    let d := if copied then d.inc Reg.DISP_LINES_WRITTEN_CNT else d
    (d.setUpd r { u with line := u.line + 1, copied := u.copied + b2n copied }, if copied then 16 else 1)

/-- An update is replaced: SUPERSEDED, counted (R463). -/
def Dev.superseded (d : Dev) (id : Nat) : Dev := ((d.finish id St.f0 []).inc Reg.DISP_SUPERSEDED_CNT).raise Reg.DISP_EVENT 2

/-- A superseded running update ends after the line it copies, and the pending update starts (R463). -/
def Dev.updSwitch (d : Dev) (r : Nat) : Dev × Nat :=
  match (d.upd r).run, (d.upd r).pending with
  | some id, some p =>
    let (d, t) := d.updLine r
    ((d.superseded id).setUpd r { run := some p, line := (d.region r).2.2.1, copied := 0, pending := none }, t)
  | _, _ => (d, 0)

/-- An update whose region's last line is handled ends with OK and the lines it copied (R462). -/
def Dev.updEnd (d : Dev) (r : Nat) : Dev :=
  match (d.upd r).run with
  | some id => if (d.region r).2.2.2 < (d.upd r).line then (d.setUpd r RegionUpd.none).finish id St.ok (leN (d.upd r).copied 2 ++ [0, 0]) else d
  | none => d

/-- The updates handle lines in turn for the µs given, and end with their last lines; `fuel` bounds the passes. -/
def Dev.updRun (d : Dev) : Nat → Nat → Dev
  | _, 0 => d
  | us, fuel + 1 =>
    let (d', t) := ((List.range 8).map fun i => (d.disp.turn + i) % 8).foldl (fun (acc : Dev × Nat) r =>
      if us ≤ acc.2 then acc
      else
        let (e, t1) := acc.1.updSwitch r
        let (e, t2) := e.updLine r
        let e := e.updEnd r
        ({ e with disp := { e.disp with turn := (r + 1) % 8 } }, acc.2 + t1 + t2)) (d, 0)
    if t = 0 then d else if us ≤ t then d' else d'.updRun (us - t) fuel

/-- What the updates copy in one pip. -/
def Dev.dispPip (d : Dev) : Dev := if d.disp.upd = [] then d else d.updRun 250 250

/-- Updates running or pending at a reset of the application cores are dropped (R464). -/
def Dev.updDrop (d : Dev) : Dev := (List.range 8).foldl (fun (d : Dev) r => d.setUpd r RegionUpd.none) d

/-- The rest of a region's lines; `n` bounds them. -/
def Dev.updRest (d : Dev) (r : Nat) : Nat → Dev
  | 0 => d
  | n + 1 => let (d', t) := d.updLine r; if t = 0 then d' else d'.updRest r n

/-- DISP_UPDATE_DONE (R462): the lines left of the region are handled, and the update ends; a superseded update gives way instead. -/
def Dev.dispDone (d : Dev) (r : Nat) : Dev :=
  match (d.upd r).run, (d.upd r).pending with
  | some _, none => (d.updRest r 64).updEnd r
  | some _, some _ => (d.updSwitch r).1
  | none, _ => d

/-! ### The scan -/

/-- When the slot of COM_k begins, in display-clock periods of 10 ns from the frame's start (R449). -/
def slotStart (k : Nat) : Nat := 53 + 13020 * k

/-- The commons whose slots begin within pip `a` of a frame. -/
def slotsIn (a : Nat) : List Nat := (List.range 64).filter fun k => 25000 * a ≤ slotStart k && slotStart k < 25000 * (a + 1)

/-- Whether COM_k takes its reverse-bias phase in the frame whose number DISP_FRAME_CNT shows (R450). -/
def Dev.comReversed (d : Dev) (k : Nat) : Bool := (d.rn Reg.DISP_FRAME_CNT + k) % 2 = 1

/-- The scan latches a line of the active buffer (R448, R451); the 16 pixels of a word that cannot be corrected are at grey 0 for the frame (R510). -/
def DispU.latchLine (u : DispU) (y : Nat) : DispU :=
  { u with shown := (List.range 64).foldl (fun (t : Tab Byte) i => tset 0 t (64 * y + i) (if u.grey0.contains (8 * y + i / 8) then 0 else tget 0 u.active (64 * y + i))) u.shown }

/-- The scan meets a word that cannot be corrected (R510): its 16 pixels are driven at grey 0 for that frame.
DESIGN CHOICE (log entry 86): byte b of the active buffer lies at byte address b of display memory. -/
def Dev.scanUe (d : Dev) (addr : Nat) : Dev :=
  if addr < 4096 then { d with disp := { d.disp with grey0 := addr / 8 :: d.disp.grey0, shown := (List.range 8).foldl (fun (t : Tab Byte) i => tset 0 t (addr / 8 * 8 + i) 0) d.disp.shown } } else d

/-- The setting that VPANEL moves to: that of the band in use, 0.5 V in a pip; a regulator that starts begins at it (R453, R456; DESIGN CHOICE, log entry 85). -/
def Dev.vpanelNext (d : Dev) : Nat :=
  let goal := d.fld (Reg.DISP_BAND_CFG (d.fld Reg.DISP_STATUS 10 8)) 23 16
  let v := d.disp.vset
  if !d.rbit Reg.DISP_STATUS 1 then 0 else if v = 0 then goal else if v < goal then min goal (v + 5) else max goal (v - 5)

/-- The scan runs and VPANEL regulates as DISP_CTRL asks, unless the regulator has faulted (R453). -/
def Dev.dispRun (d : Dev) : Dev :=
  let ok := !d.rbit Reg.DISP_STATUS 2 && !d.rbit Reg.SYS_POWER_STATUS 5
  (d.setBit Reg.DISP_STATUS 0 (ok && d.rbit Reg.DISP_CTRL 0)).setBit Reg.DISP_STATUS 1 (ok && d.rbit Reg.DISP_CTRL 1)

/-- A write of DISP_CTRL takes effect: vp_en written 1 after 0 clears vp_fault and restarts the regulator (R453). -/
def Dev.dispCtrl (d : Dev) (v : Word) : Dev :=
  let rise := !d.rbit Reg.DISP_CTRL 1 && wbit v 1
  let d := d.wr Reg.DISP_CTRL v
  (if rise then d.setBit Reg.DISP_STATUS 2 false else d).dispRun

/-- DISP_VP_FAULT (R453). -/
def Dev.dispFault (d : Dev) : Dev :=
  if d.rbit Reg.DISP_STATUS 1 then (((d.setBit Reg.DISP_STATUS 2 true).dispRun).inc Reg.DISP_VP_FAULT_CNT).raise Reg.DISP_EVENT 1 else d

/-- The ageing gain of a pixel counter (R458). -/
def Dev.ageGain (d : Dev) (h : Nat) : Nat :=
  (List.range 16).foldl (fun g k => if d.fld (Reg.DISP_AGE k) 31 16 ≤ h then d.fld (Reg.DISP_AGE k) 9 0 else g) 0

/-- The current of a pixel in steps before the cap of 256 (R452). -/
def Dev.pixelSteps (d : Dev) (gain : Nat) : Nat :=
  d.fld Reg.DISP_IREF 8 0 * d.fld (Reg.DISP_BAND_CFG (d.fld Reg.DISP_STATUS 10 8)) 8 0 * (1024 + gain) / (256 * 1024)

/-- The ageing gain of a pixel counter in use: 0 while age_en is 0 (R458). -/
def Dev.gainOf (d : Dev) (i : Nat) : Nat := if d.rbit Reg.DISP_CTRL 2 then d.ageGain (tget 0 d.disp.stress i) else 0

/-- The current of pixel `i` = 128 y + x in steps of 1.25 µA (R452). -/
def Dev.pixelSink (d : Dev) (i : Nat) : Nat := min 256 (d.pixelSteps (d.gainOf i))

/-- The lit pixels of the active buffer with their grey levels. -/
def DispU.lit (u : DispU) : List (Nat × Nat) :=
  (u.active.flatMap fun e => [(2 * e.1, e.2.toNat % 16), (2 * e.1 + 1, e.2.toNat / 16)]).filter (fun p => p.2 ≠ 0)

/-- The phases of a common's slot (R449). -/
inductive DispPhase where
  | precharge
  | drive
  | reverse
  | rest
  deriving DecidableEq, Repr

/-- The phase at `t` periods of 10 ns from the slot's start: precharge to 8 µs, drive to 120 µs, then reverse bias or rest (R449). -/
def slotPhase (reversed : Bool) (t : Nat) : DispPhase := if t < 800 then .precharge else if t < 12000 then .drive else if reversed then .reverse else .rest

/-- The common in whose slot an instant of the frame lies; none in the gap of its start (R449). -/
def slotOf (t : Nat) : Option Nat := if t < 53 || 64 ≤ (t - 53) / 13020 then none else some ((t - 53) / 13020)

/-- What a common's output does (R449). -/
inductive ComOut where
  | released
  | vpanel
  | ground
  deriving DecidableEq, Repr

/-- What a column's output does (R449, R452): it is precharged to the level of a drive of so many steps, sinks so many steps of 1.25 µA, is pulled to VPANEL, or is released. -/
inductive ColOut where
  | precharge (steps : Nat)
  | sink (steps : Nat)
  | vpanel
  | released
  deriving DecidableEq, Repr

/-- The output of COM_k at `t` display-clock periods from the frame's start (R449). -/
def Dev.comOut (d : Dev) (k t : Nat) : ComOut :=
  if !d.rbit Reg.DISP_STATUS 0 || slotOf t ≠ some k then .ground
  else match slotPhase (d.comReversed k) (t - slotStart k) with
    | .precharge | .rest => .released
    | .drive => .vpanel
    | .reverse => .ground

/-- The output of COL_x at `t` display-clock periods from the frame's start, by the line latched for the slot (R449, R451, R452). Between slots and without a scan it is released (DESIGN CHOICE, log entry 85). -/
def Dev.colOut (d : Dev) (x t : Nat) : ColOut :=
  match slotOf t with
  | none => .released
  | some k =>
    let i := 128 * k + x
    if !d.rbit Reg.DISP_STATUS 0 then .released
    else match slotPhase (d.comReversed k) (t - slotStart k) with
      | .precharge => .precharge (tget 0 d.disp.pre i)
      | .drive => if t - slotStart k < 800 + 700 * pixel d.disp.shown x k then .sink (d.pixelSink i) else .released
      | .reverse => .vpanel
      | .rest => .released

/-- What the drive of line `y` sinks by pixel, a pixel at grey 0 keeping what its last drive sank, and what that was before (R449, R452). -/
def Dev.lineDriven (d : Dev) (y : Nat) : Dev :=
  (List.range 128).foldl (fun (d : Dev) x =>
    let i := 128 * y + x
    let was := tget 0 d.disp.driven i
    { d with disp := { d.disp with pre := tset 0 d.disp.pre i was, driven := if pixel d.disp.shown x y = 0 then d.disp.driven else tset 0 d.disp.driven i (d.pixelSink i) } }) d

/-- The slot of COM_k begins: its line is latched, and used until the slot ends (R451). -/
def Dev.slotBegin (d : Dev) (k : Nat) : Dev := { d with disp := d.disp.latchLine k }.lineDriven k

/-- The scan's part of a pip: the lines whose slots begin in it are latched, after the copying of that pip, and VPANEL moves (R449, R451, R456; DESIGN CHOICE, log entry 85). -/
def Dev.dispScan (d : Dev) : Dev :=
  let v := d.vpanelNext
  let d := match d.disp.age with
    | some a =>
      if d.rbit Reg.DISP_STATUS 0 then (let e := (slotsIn a).foldl Dev.slotBegin d; { e with disp := { e.disp with age := some (a + 1) } })
      else { d with disp := { d.disp with age := none } }
    | none => d
  { d with disp := { d.disp with vset := v } }

/-- DISP_STRESS_INCREMENT of one pixel (R457). -/
def DispU.stressAdd (u : DispU) (i n : Nat) : DispU :=
  let a := tget 0 u.accum i + n
  if a < 1658880000 then { u with accum := tset 0 u.accum i a }
  else { u with accum := tset 0 u.accum i (a - 1658880000), stress := tset 0 u.stress i (min 65535 (tget 0 u.stress i + 1)) }

/-- DISP_FRAME_START (R449, R450, R456, R457), 33 pips after the last at the earliest: the frame number, a band change that is due, the frame's currents and stress; the measured VPANEL and panel current in 10 mV and 0.1 mA. -/
def Dev.dispFrame (d : Dev) (volt curr : Nat) : Dev :=
  if !d.rbit Reg.DISP_STATUS 0 || d.disp.age.any (· < 33) then d
  else
    let d := ({ d with disp := { d.disp with age := some 0, grey0 := [] } } : Dev)
    let d := (d.inc Reg.DISP_FRAME_CNT).wn Reg.DISP_VPANEL_MEAS (min 65535 curr * 65536 + min 65535 volt)
    let d := match d.disp.bandNext with
      | some b => ({ d with disp := { d.disp with bandNext := none } }.setFld Reg.DISP_STATUS 10 8 b).raise Reg.DISP_EVENT 4
      | none => d
    let lit := d.disp.lit
    let d := d.setBit Reg.DISP_STATUS 3 (lit.any fun p => decide (256 < d.pixelSteps (d.gainOf p.1)))
    if d.rbit Reg.DISP_CTRL 2 then
      { d with disp := lit.foldl (fun (u : DispU) p => u.stressAdd p.1 (p.2 * d.pixelSink p.1)) d.disp }
    else d

/-- The limit of a band in 0.1 °C; band 7 has none (R455). -/
def Dev.bandLimit (d : Dev) (b : Nat) : Option Int := if 7 ≤ b then none else some (10 * d.sfld (Reg.DISP_BAND_CFG b) 31 24)

/-- The lowest-numbered band whose limit is at or above a temperature. -/
def Dev.bandFor (d : Dev) (t : Int) : Nat := ((List.range 7).find? fun b => (d.bandLimit b).any (t ≤ ·)).getD 7

/-- DISP_TEMP_SAMPLE (R454, R455): the panel temperature and the band that it asks for, from the next frame start. -/
def Dev.dispTemp (d : Dev) (die : Int) : Dev :=
  let t := if d.rbit Reg.DISP_CFG 8 then d.sfld Reg.DISP_TEMP_HOST 15 0 else die
  let d := d.setFld Reg.DISP_TEMP 15 0 (ofSigned 16 t)
  let cur := d.disp.bandNext.getD (d.fld Reg.DISP_STATUS 10 8)
  let b := d.bandFor t
  let up := (d.bandLimit cur).any (· < t)
  let down := b < cur && (d.bandLimit (cur - 1)).any (fun l => decide (t ≤ l - 5 * d.fld Reg.DISP_CFG 3 0))
  if (up || down) && b ≠ cur then { d with disp := { d.disp with bandNext := some b } } else d

/-- The saved copy of the stress counters (R459). -/
def Dev.dispSave (d : Dev) : Dev := { d with disp := { d.disp with saved := d.disp.stress } }

/-- DISP_STRESS_SAVE (R459): at every pip whose number is a multiple of 14,400,000. -/
def Dev.dispHourly (d : Dev) : Dev := if d.pip % 14400000 = 0 then d.dispSave else d

/-! ### Opcodes of the 0x09xx family -/

/-- DISP_STATUS_GET (0x0900). -/
def opDispStatus (d : Dev) (c : Cmd) : Dev × Ans :=
  check d [(c.payload.length ≠ 0, St.badLength)] (d, .done St.ok (d.regBytes [Reg.DISP_STATUS, Reg.DISP_TEMP, Reg.DISP_VPANEL_MEAS, Reg.DISP_FRAME_CNT]))

/-- DISP_WRITE (0x0901): a rectangle of the staging buffer. Its writes of less than a word are read-modify-writes; one that meets an uncorrectable word ends the command (R508, `State.runOp`). -/
def opDispWrite (d : Dev) (c : Cmd) : Dev × Ans :=
  let p := c.payload
  let x := num p 0 1
  let y := num p 1 1
  let w := num p 2 1
  let h := num p 3 1
  let row := (w + 1) / 2
  check d [(p.length < 4 || p.length ≠ 4 + h * row, St.badLength), (w = 0 || 128 < w || h = 0 || 64 < h || 127 < x || 63 < y, St.badParam),
           (128 < x + w || 64 < y + h, St.badParam)] <|
    let st := (List.range h).foldl (fun b j => (List.range w).foldl (fun b i => setPixel b (x + i) (y + j) (num p (4 + j * row + i / 2) 1 / 16 ^ (i % 2))) b) d.disp.staging
    ({ d with disp := { d.disp with staging := st } }, .done St.ok [])

/-- DISP_UPDATE (0x0902). -/
def opDispUpdate (d : Dev) (c : Cmd) : Dev × Ans :=
  let r := num c.payload 0 1
  check d [(c.payload.length ≠ 4, St.badLength), (num c.payload 1 3 ≠ 0, St.badParam), (7 < r, St.badParam), (!d.rbit (Reg.DISP_REGION_CFG r) 31, St.f1)] <|
    let u := d.upd r
    if u.run.isNone then (d.setUpd r { run := some c.id, line := (d.region r).2.2.1, copied := 0, pending := none }, .running)
    else
      let d := match u.pending with
        | some p => d.superseded p
        | none => d
      (d.setUpd r { u with pending := some c.id }, .running)

/-- DISP_STRESS_READ (0x0903). -/
def opDispStressRead (d : Dev) (c : Cmd) : Dev × Ans :=
  let i := num c.payload 0 2
  let n := num c.payload 2 2
  check d [(c.payload.length ≠ 4, St.badLength), (n = 0 || 512 < n || 8192 < i + n, St.badParam)]
    (d, .done St.ok ((List.range n).flatMap fun k => leN (tget 0 d.disp.stress (i + k)) 2))

/-- DISP_STRESS_RESET (0x0904). -/
def opDispStressReset (d : Dev) (c : Cmd) : Dev × Ans :=
  check d [(c.payload.length ≠ 0, St.badLength), (d.mode ≠ .maintenance, St.denied)]
    ({ d with disp := { d.disp with stress := [], accum := [], saved := [] } }, .done St.ok [])

end Sys2Proof.Machine
end

