-- ==== Sys2Proof/Machine/Tag.lean ====
section
/-!
DEFINITION. Card reader, tag port, FRAM and keypad (14_tags_and_cards.md), with what a standby interface module forwards (R444) and the 0x0Axx opcodes.
-/
namespace Sys2Proof.Machine

/-- Change the tag unit. -/
def Dev.setTag (d : Dev) (f : TagU → TagU) : Dev := { d with tag := f d.tag }

/-- Whether the antenna was found (R426). -/
def Dev.iface (d : Dev) : Bool := d.rbit Reg.TAG_STATUS 8

/-! ### The FRAM and the passport -/

/-- Bytes of the FRAM. -/
def framRead (m : Tab Byte) (off len : Nat) : Bytes := (List.range len).map fun i => tget 0 m (off + i)

/-- Bytes written to the FRAM. -/
def framWrite (m : Tab Byte) (off : Nat) : Bytes → Tab Byte
  | [] => m
  | b :: bs => framWrite (tset 0 m off b) (off + 1) bs

/-- The passport's bytes below the check value, with a given update_seq (R436). -/
def Dev.passportBody (d : Dev) (seq : Nat) : Bytes :=
  let k := d.mirror
  let faults := (d.out.ring.filter fun r => r.code = 1 && r.after = OState.fault.code).take 16
  [0x4B, 0x42, 0x50, 0x50, 1, 0] ++ leN seq 2 ++ (List.range 12).map Config.serial ++ [if Config.gradeIsM then 0x4D else 0x45, byte d.mode.code, byte d.twinState, byte k.signer]
    ++ leN (d.bankVersion d.bankRuns) 4 ++ leN ((k.word 0x038).getD 0).toNat 4 ++ leN d.pip 8
    ++ timeVal k.now (k.ofs k.now) ++ leN (d.rn Reg.SYS_DEGRADE_CAUSE) 4 ++ leN k.sealCount 4 ++ leN k.head 8 ++ padTo 32 k.headHash ++ leN k.archived 8
    ++ d.regBytes [Reg.OUT_EVENT_HEAD, Reg.BILL_TXN_HEAD, Reg.OUT_FAULT_MASK, Reg.SAFE_HUB_CAUSE, Reg.GUARD_FAULT_MASK]
    ++ padTo 512 (faults.flatMap evRecBytes) ++ List.replicate 3452 0

/-- The passport with its check value. -/
def Dev.passport (d : Dev) (seq : Nat) : Bytes := let b := d.passportBody seq; b ++ leN (crc32c b).toNat 4

/-- Whether the passport's content, apart from the write's own pip, time and sequence, differs from the FRAM. -/
def Dev.passportStale (d : Dev) : Bool :=
  let b := d.passportBody 0
  framRead d.tag.fram 0 6 ≠ b.take 6 || framRead d.tag.fram 8 24 ≠ (b.drop 8).take 24 || framRead d.tag.fram 0x34 588 ≠ (b.drop 0x34).take 588

/-- The passport written whole: update_seq runs through the next odd to the next even value (R436). -/
def Dev.passportNow (d : Dev) : Dev :=
  let s := num (framRead d.tag.fram 6 2) 0 2
  let pp := d.passport ((s + (if s % 2 = 0 then 2 else 3)) % 65536)
  d.setTag fun t => { t with fram := framWrite t.fram 0 pp }

/-- Whether an access is the host's. -/
def FramAcc.host : FramAcc → Bool
  | .read _ _ _ => true
  | .write _ _ _ => true
  | .passport _ => false
  | .field _ => false

/-- Whether an access is a field reader's. -/
def FramAcc.isField : FramAcc → Bool
  | .field _ => true
  | .read _ _ _ | .write _ _ _ | .passport _ => false

/-- The accesses with the next one to serve at their head: the oldest, or during a hold the host's oldest (R437, R438). -/
def TagU.pick (t : TagU) : Option (FramAcc × List FramAcc) :=
  match t.accs.find? (fun a => t.hold.isNone || a.host) with
  | some a => some (a, t.accs.erase a)
  | none => none

/-- Change the tag port's front end, and show its field, session and UID (R432, R433). -/
def Dev.setFe (d : Dev) (f : TagFe → TagFe) : Dev :=
  let d := d.setTag fun t => { t with fe := f t.fe }
  ((d.setBit Reg.TAG_STATUS 7 d.tag.fe.field).setBit Reg.TAG_STATUS 6 d.tag.fe.session).wn Reg.TAG_EMU_UID d.tag.fe.uid

/-- An answer of the tag port as I-blocks that fit frames of `fsd` bytes, three of which are the PCB and the CRC (R432; ISO/IEC 14443-4 block format). -/
def tagBlocks (fsd : Nat) (b : Bytes) : List TagBlk :=
  let n := fsd - 3
  (List.range ((b.length + n - 1) / n)).map fun k => .i (decide ((k + 1) * n < b.length)) ((b.drop (k * n)).take n)

/-- The tag port answers an APDU. -/
def Dev.tagReply (d : Dev) (b : Bytes) : Dev := d.setFe fun f => { f with out := tagBlocks f.fsd b }

/-- The tag port sends S(WTX) with WTXM 5 (R439). -/
def Dev.tagWtx (d : Dev) : Dev := (d.setFe fun f => { f with out := [.wtx 5] }).inc Reg.TAG_EMU_WTX_CNT

/-- READ BINARY of the selected passport's file at an offset (R434). -/
def Dev.readBinary (d : Dev) (a : Bytes) : Dev :=
  let off := beNat ((a.drop 2).take 2)
  let le := num a 4 1
  let n := if le = 0 || 250 < le then 250 else le
  d.tagReply (framRead d.tag.fram off (min n (0x4000 - off)) ++ [0x90, 0x00])

/-- Serve the next access of the module if none is being served: a passport write sets update_seq odd and takes its content. -/
def Dev.framNext (d : Dev) : Dev :=
  if d.tag.serving then d
  else match d.tag.pick with
    | none => d
    | some (.passport _, rest) =>
      let s := num (framRead d.tag.fram 6 2) 0 2
      let odd := (s + (if s % 2 = 0 then 1 else 2)) % 65536
      let pp := d.passport ((odd + 1) % 65536)
      d.setTag fun t => { t with fram := framWrite t.fram 6 (leN odd 2), accs := .passport (some pp) :: rest, serving := true }
    | some (a, rest) => d.setTag fun t => { t with accs := a :: rest, serving := true }

/-- Serve the next access: a field reader's, of which there is at most one, is answered at once, and the one after it is served. -/
def Dev.framServe (d : Dev) : Dev :=
  if d.tag.serving then d
  else match d.tag.pick with
    | some (.field a, rest) => ((d.setTag fun t => { t with accs := rest }).readBinary a).framNext
    | _ => d.framNext

/-- A new access arrives. -/
def Dev.framPush (d : Dev) (a : FramAcc) : Dev := (d.setTag fun t => { t with accs := t.accs ++ [a] }).framServe

/-- FRAM_ACCESS_COMPLETE (R437): the access being served ends and the next is served. -/
def Dev.framDone (d : Dev) : Dev :=
  if !d.tag.serving then d
  else match d.tag.accs with
    | [] => d.setTag fun t => { t with serving := false }
    | a :: rest =>
      let d := d.setTag fun t => { t with accs := rest, serving := false }
      let d := match a with
        | .read id off len => d.finish id St.ok (framRead d.tag.fram off len)
        | .write id off data => (d.setTag fun t => { t with fram := framWrite t.fram off data }).finish id St.ok []
        | .passport (some c) => d.setTag fun t => { t with fram := framWrite t.fram 0 c }
        | .passport none => d
        | .field a => d.readBinary a
      d.framServe

/-- PASSPORT_WRITE (R436). -/
def Dev.passportWrite (d : Dev) : Dev := if d.passportStale && !d.tag.accs.any (fun a => !a.host && !a.isField) then d.framPush (.passport none) else d

/-- Show the hold and the cut in TAG_STATUS and TAG_FRAM_HOLD_STATUS. -/
def Dev.framShow (d : Dev) : Dev :=
  let n := match d.tag.hold with
    | some h => min 255 (d.pip - h)
    | none => d.fld Reg.TAG_FRAM_HOLD_STATUS 23 16
  (d.wn Reg.TAG_FRAM_HOLD_STATUS (n * 65536 + b2n d.tag.cut * 2 + b2n d.tag.hold.isSome)).setBit Reg.TAG_STATUS 5 d.tag.hold.isSome

/-! ### The tag port (R432 to R439) -/

/-- The ATQA, the front end's answer to REQA and WUPA (R432). -/
def tagAtqa : Nat := 0x0004

/-- The SAK, its answer to SELECT (R432). -/
def tagSak : Nat := 0x20

/-- The frame size in bytes that an FSDI or FSCI states (ISO/IEC 14443-4; R446 gives 0 to 8 as 16 to 256). -/
def frameSize (i : Nat) : Nat := [16, 24, 32, 40, 48, 64, 96, 128, 256].getD i 256

/-- The ATS by the front end's copy of TAG_EMU_CFG (R432). -/
def tagAts (cfg : Word) : Bytes := [0x05, byte (0x70 + wfld cfg 11 8), 0x00, byte (wfld cfg 3 0 * 16), 0x00]

/-- Answer an APDU of a field reader that needs no data of the FRAM (R434); none where it does. -/
def Dev.tagPlain (d : Dev) (a : Bytes) : Option (Bytes × Bool) :=
  let sel := d.tag.fe.selected
  if num a 0 1 ≠ 0 then some ([0x6E, 0x00], sel)
  else if num a 1 1 = 0xA4 then
    if (a.drop 2).take 8 = [0x04, 0x00, 0x05, 0xF0, 0x4B, 0x42, 0x50, 0x50] then some ([0x90, 0x00], true) else some ([0x6A, 0x82], false)
  else if num a 1 1 = 0xB0 then
    if !sel then some ([0x69, 0x86], sel) else if 0x3FFF < beNat ((a.drop 2).take 2) then some ([0x6B, 0x00], sel) else none
  else some ([0x6D, 0x00], sel)

/-- Whether the tag port runs: an antenna and emu_en (R426, R433). -/
def Dev.tagRuns (d : Dev) : Bool := d.tag.fe.ant && d.rbit Reg.TAG_CTRL 1

/-- Whether an APDU of the field waits for the FRAM. -/
def Dev.fieldWaits (d : Dev) : Bool := d.tag.accs.any FramAcc.isField

/-- The field reader's I-block (R434, R437, R439): a READ BINARY takes its turn for the FRAM, and one that finds the FRAM held is answered S(WTX) until it is not. -/
def Dev.tagIBlock (d : Dev) (a : Bytes) : Dev :=
  match d.tagPlain a with
  | some (b, sel) => (d.setFe fun f => { f with selected := sel }).tagReply b
  | none => (if d.tag.hold.isSome then d.tagWtx else d.setFe fun f => { f with out := [] }).framPush (.field a)

/-- TAG_EMU_CFG as the front end uses it: its own cell's while the module is unpowered (R432). -/
def Dev.emuCfg (d : Dev) : Word := if d.sys.pfReset then d.tag.emuCell else d.rd Reg.TAG_EMU_CFG

/-- TAG_APDU (R432, R434, R439): what a field reader sends. The tag port takes an FSD of 16 to 256 bytes, which FSDI 0 to 8 states, and answers no block with a CID or a NAD (R432); it answers APDUs from its ATS on, one at a time (DESIGN CHOICE, log entry 84). -/
def Dev.tagApdu (d : Dev) (a : TagIn) : Dev :=
  if !d.tagRuns || !d.tag.fe.field then d
  else match a with
    | .wake => d.setFe fun f => { f with out := [.plain (leN tagAtqa 2)] }
    | .select => d.setFe fun f => { f with out := [.plain [byte tagSak]] }
    | .rats fsdi _ =>
      if 8 < fsdi then d else d.setFe fun f => { f with session := true, fsd := frameSize fsdi, out := [.plain (tagAts d.emuCfg)] }
    | .apdu cid nad b => if !d.tag.fe.session || cid || nad || d.fieldWaits then d else d.tagIBlock b
    | .wtx => if d.fieldWaits && d.tag.hold.isSome then d.tagWtx else d

/-- The front end leaves its session: the passport is deselected and no APDU waits. -/
def Dev.tagLeave (d : Dev) : Dev := (d.setTag fun t => { t with accs := t.accs.filter fun a => !a.isField }).setFe fun f => { f with session := false, fsd := 0, selected := false, out := [] }

/-- TAG_ACTIVATION (R433): a new UID of 0x08 and 3 random bytes. -/
def Dev.tagActivate (d : Dev) (r : Nat) : Dev :=
  if !d.tagRuns then d
  else (d.tagLeave.setFe fun f => { f with uid := 8 + r % 2 ^ 24 * 256, field := true }).inc Reg.TAG_EMU_ACT_CNT

/-- TAG_FIELD_DROP (R433). -/
def Dev.tagDrop (d : Dev) : Dev := d.tagLeave.setFe fun f => { f with uid := 0, field := false }

/-- End a hold: the FRAM serves what waited. -/
def Dev.holdEnd (d : Dev) (cut : Bool) : Dev := ((d.setTag fun t => { t with hold := none, cut := cut }).framShow).framServe

/-- A host access is stopped with BUSY. -/
def FramAcc.stop (d : Dev) : FramAcc → Dev
  | .read id _ _ => d.finish id St.busy []
  | .write id _ _ => d.finish id St.busy []
  | .passport _ | .field _ => d

/-- The cut of R438: the access in progress keeps the lines it has written (its current one among them), every waiting host access ends with BUSY, and the field gets the FRAM. -/
def Dev.framCut (d : Dev) (lines : Nat) : Dev :=
  if d.tag.hold.isNone then d
  else
    let d := match d.tag.serving, d.tag.accs with
      | true, .write _ off data :: _ => d.setTag fun t => { t with fram := framWrite t.fram off (data.take (64 * max 1 lines - off % 64)) }
      | _, _ => d
    let host := d.tag.accs.filter (·.host)
    let keepServing := d.tag.serving && (d.tag.accs.head?.any fun a => !a.host)
    let d := host.foldl FramAcc.stop d
    let d := d.setTag fun t =>
      let left := t.accs.filter fun a => !a.host
      { t with accs := if keepServing then left else left.filter FramAcc.isField ++ left.filter (fun a => !a.isField), serving := keepServing }
    ((d.inc Reg.TAG_FRAM_CUT_CNT).raise Reg.TAG_EVENT 16).holdEnd true

/-- FRAM_HOLD_CUT (R438): a hold not released by the boundary of H + 80. -/
def Dev.holdExpiry (d : Dev) (lines : Nat) : Dev := if d.tag.hold.any (fun h => h + 80 ≤ d.pip) then d.framCut lines else d

/-! ### What a presentation or key does (R429, R442 to R444) -/

/-- Show the keypad's entry. -/
def Dev.kpShow (d : Dev) : Dev := (d.setFld Reg.TAG_KP_STATUS 15 8 (min 255 d.tag.digits.length)).setFld Reg.TAG_KP_STATUS 1 0 d.tag.entry

/-- KEYPAD_ENTRY_COMPLETE (R442): a token of 20 digits without a selection is refused with reason 4 whatever it holds. -/
def Dev.entryDone (d : Dev) (kind : Nat) (ds : List Nat) : Dev :=
  match kind with
  | 1 =>
    let n := decNat ds
    if ds.length ≠ 2 || d.noOutlet n || !d.rbit (Reg.OUT_STATE n) 19 then d
    else (d.setFld Reg.TAG_KP_STATUS 23 16 n).setTag fun t => { t with selTill := d.pip + 240000 }
  | 2 =>
    if ds.length ≠ 20 then (d.tokenRefuse (d.keypadSelected.getD 0xFF) 1 0).1
    else match d.keypadSelected with
      | some n => (d.tokenDecide n ds).1
      | none => (d.tokenRefuse 0xFF 4 0).1
  | _ =>
    if 4 ≤ ds.length && ds.length ≤ 10 then d.presentCard { kind := 3, len := ds.length, bytes := ds.map fun x => byte (48 + x), acct := 0xFFFF } 3 else d

/-- Act on a presentation, an entry or a key event. -/
def Dev.actFwd (d : Dev) (f : Fwd) : Dev :=
  match f with
  | .present i src => d.presentCard i src
  | .entry k ds => d.entryDone k ds
  | .key e => if d.tag.ring.length < 32 then d.setTag fun t => { t with ring := t.ring ++ [e] } else d.inc Reg.TAG_KP_DROP_CNT

/-- The module's own: acted on, forwarded by a STANDBY, dropped in SEARCH and SYNCING (R444). -/
def Dev.emit (d : Dev) (f : Fwd) : Dev :=
  if d.twinState = 3 then { d with twin := { d.twin with fwdOut := d.twin.fwdOut ++ [f] } } else if d.passive then d else d.actFwd f

/-! ### The reader (R425 to R431) -/

/-- Show the reader's state: 0 off, 1 field off between cycles, 2 polling, 3 card present, 4 APDU exchange. -/
def Dev.rdrShow (d : Dev) : Dev :=
  let st := if !d.iface || !d.rbit Reg.TAG_CTRL 0 then 0 else if d.tag.exch.isSome then 4 else if d.tag.cycle.isSome then 2 else if d.tag.here ≠ [] then 3 else 1
  (d.setFld Reg.TAG_STATUS 2 0 st).wn Reg.TAG_RDR_PRESENT (min 8 d.tag.here.length)

/-- The bytes of a UID as the cascade levels carry them, 12 with the unused ones 0 (ISO/IEC 14443-3). -/
def cascade (u : Bytes) : Bytes :=
  if u.length = 10 then 0x88 :: u.take 3 ++ 0x88 :: (u.drop 3).take 3 ++ u.drop 6
  else if u.length = 7 then 0x88 :: u.take 3 ++ u.drop 3 ++ [0, 0, 0, 0]
  else padTo 12 u

/-- The bits of a UID in the order of transmission, as a number: the first bit is its top bit (R428). -/
def uidKey (u : Bytes) : Nat := (cascade u).foldl (fun n b => n * 256 + b.reverse.toNat) 0

/-- How many leading bits of 96 two keys share. -/
def sharedBits (a b : Nat) : Nat := if a = b then 96 else 95 - (a ^^^ b).log2

/-- The collisions a walk resolves (R428): one between each two neighbours in order of which the branch lies on the way to a card that was found; `k` cards are found. -/
def collisions (keys : List Nat) (k : Nat) : Nat :=
  let last := keys.getD (k - 1) 0
  ((List.range (keys.length - 1)).filter fun i => i + 1 < k || sharedBits (keys.getD i 0) (keys.getD (i + 1) 0) ≤ sharedBits last (keys.getD i 0)).length

/-- Whether a UID is random (R429). -/
def randomUid (u : Bytes) : Bool := u.length = 4 && u.head? = some 0x08

/-- The UIDs present after a cycle that found `found` (R429). -/
def hereAfter (here : List CardHere) (found : List Bytes) : List CardHere :=
  let old := here.filterMap fun h => if found.contains h.uid then some { h with missed := 0 } else if h.missed + 1 < 2 then some { h with missed := h.missed + 1 } else none
  old ++ ((found.filter fun u => !here.any (·.uid = u)).map fun u => { uid := u, missed := 0, offered := false })

/-- Whether the reader runs: an antenna, rdr_en, and the cores out of BOOT (R426). -/
def Dev.rdrRuns (d : Dev) : Bool := d.iface && d.rbit Reg.TAG_CTRL 0 && d.mode ≠ .boot

/-- A pip of the reader: a cycle that is due begins, unless one runs or an exchange does (R427). -/
def Dev.rdrPip (d : Dev) : Dev :=
  if d.rdrRuns && d.tag.exch.isNone && d.tag.cycle.isNone && d.tag.pollAt ≤ d.pip then (d.setTag fun t => { t with cycle := some d.pip }).rdrShow else d

/-- A poll cycle that began at pip `start` ends, over the cards in the field, own tag left out (R427 to R430): the anticollision is one step (DESIGN CHOICE, log entry 84). -/
def Dev.pollCycle (d : Dev) (start : Nat) (cards : List CardSeen) : Dev :=
  let own : Bytes := leN d.tag.fe.uid 4
  let cards := cards.filter fun c => (c.uid.length = 4 || c.uid.length = 7 || c.uid.length = 10) && !(d.tag.fe.field && c.uid = own)
  let sorted := sortBy (fun (c : CardSeen) => uidKey c.uid) cards
  let sorted := sorted.foldl (fun (l : List CardSeen) c => if l.any (·.uid = c.uid) then l else l ++ [c]) []
  let found := sorted.take (d.fld Reg.TAG_RDR_CFG 27 24)
  let uids := found.map fun (c : CardSeen) => c.uid
  let fresh := uids.filter fun u => !d.tag.here.any (·.uid = u)
  let d := (d.inc Reg.TAG_RDR_POLL_CNT).incBy Reg.TAG_RDR_COLL_CNT (collisions (sorted.map fun (c : CardSeen) => uidKey c.uid) found.length)
  let rnd := (fresh.filter randomUid).length
  let d := d.incBy Reg.TAG_RDR_RANDOM_CNT rnd
  let d := if rnd = 0 then d else d.raise Reg.TAG_EVENT 4
  let here := hereAfter d.tag.here uids
  let offer : Option Bytes := match uids with
    | [u] => if !randomUid u && here.any (fun h => h.uid = u && !h.offered) then some u else none
    | _ => none
  let d := if 1 < uids.length then d.raise Reg.TAG_EVENT 8 else d
  let here := here.map fun h => if some h.uid = offer then { h with offered := true } else h
  let list := found.map fun (c : CardSeen) => { c with offered := here.any fun h => h.uid = c.uid && h.offered }
  let poll := d.fld Reg.TAG_RDR_CFG 11 0
  let d := (d.setTag fun t => { t with here := here, list := list, cycle := none, pollAt := start + poll }).rdrShow
  match offer with
  | some u => ((d.inc Reg.TAG_RDR_CARD_CNT).raise Reg.TAG_EVENT 1).emit (.present { kind := 1, len := u.length, bytes := u, acct := 0xFFFF } 1)
  | none => d

/-- READER_POLL_CYCLE (R427): the cycle that runs ends; where no card was present it sends its WUPA 5.1 ms, 20.4 pips, after it began. -/
def Dev.readerPoll (d : Dev) (cards : List CardSeen) : Dev :=
  match d.tag.cycle with
  | none => d
  | some start => if !d.rdrRuns || (d.tag.here.isEmpty && d.pip < start + 20) then d else d.pollCycle start cards

/-- An exchange ends, and the next cycle is due at once (R427). -/
def Dev.exchEnd (d : Dev) (e : CardExch) (st : Nat) (pl : Bytes) : Dev :=
  ((d.setTag fun t => { t with exch := none, pollAt := d.pip }).finish e.id st pl).rdrShow

/-- CARD_TIMEOUT (R431). -/
def Dev.exchTimeout (d : Dev) (e : CardExch) : Dev := ((d.exchEnd e St.f1 []).inc Reg.TAG_RDR_TIMEOUT_CNT).raise Reg.TAG_EVENT 2

/-- The reader sends a block and waits for its answer from now on. -/
def Dev.rdrSend (d : Dev) (e : CardExch) (b : RdrBlk) : Dev :=
  (d.setTag fun t => { t with exch := some { e with since := d.pip }, rdrOut := t.rdrOut ++ [b] })

/-- The next I-block of the APDU: as much as a frame of the card's FSC carries beside the PCB and the CRC (R431). -/
def Dev.rdrNext (d : Dev) (e : CardExch) : Dev :=
  let n := e.fsc - 3
  d.rdrSend { e with stage := .blocks, apdu := e.apdu.drop n, mult := 1, nak := false } (.i (decide (n < e.apdu.length)) (e.apdu.take n))

/-- FWT in units of 1 / 13,560,000 s, times 4,000, for a multiplier (R431): (256 × 16) × 2^FWI carrier periods. -/
def CardExch.wait (e : CardExch) : Nat := e.mult * 4096 * 2 ^ e.fwi * 4000

/-- Whether the exchange's time or the wait for the answer to its last command is over, in whole pips (R427, R431): 392 pips in all; 1 ms for WUPA and SELECT; FWT from RATS on (DEDUCED for RATS, log entry 84). -/
def Dev.waitOver (d : Dev) (e : CardExch) : Bool :=
  decide (e.start + 392 ≤ d.pip) ||
    match e.stage with
    | .wupa | .select => decide (e.since + 4 ≤ d.pip)
    | .rats | .blocks => decide (e.wait ≤ (d.pip - e.since) * 13560000)

/-- The exchange's wait is over (R431): CARD_GONE where WUPA or SELECT has no answer; R(NAK) once for a block; else CARD_TIMEOUT. -/
def Dev.waitEnd (d : Dev) (e : CardExch) : Dev :=
  if e.start + 392 ≤ d.pip then d.exchTimeout e
  else match e.stage with
    | .wupa | .select => d.exchEnd e St.f0 []
    | .rats => d.exchTimeout e
    | .blocks => if e.nak then d.exchTimeout e else d.rdrSend { e with mult := 1, nak := true } .nak

/-- An answer in time (R425, R431). The response may have up to 256 bytes in all; an answer that does not fit its stage, a longer response and an S(WTX) outside WTXM 1 to 59 count as none (DESIGN CHOICE, log entry 84). -/
def Dev.cardBlock (d : Dev) (e : CardExch) (a : CardIn) : Dev :=
  match a, e.stage with
  | .atqa, .wupa => d.rdrSend { e with stage := .select } (.select e.uid)
  | .sak, .select => d.rdrSend { e with stage := .rats } .rats
  | .ats fsci fwi, .rats => d.rdrNext { e with fsc := frameSize fsci, fwi := min 14 (fwi.getD 4) }
  | .ack, .blocks => if e.apdu.isEmpty then d else d.rdrNext e
  | .wtx m, .blocks => if 1 ≤ m && m ≤ 59 then d.rdrSend { e with mult := m } (.wtx m) else d
  | .block more inf, .blocks =>
    if !e.apdu.isEmpty || 256 < e.got.length + inf.length then d
    else if more then d.rdrSend { e with got := e.got ++ inf, mult := 1, nak := false } .ack
    else (d.setTag fun t => { t with rdrOut := t.rdrOut ++ [.deselect] }).exchEnd e St.ok (e.got ++ inf)
  | _, _ => d

/-- CARD_ANSWER (R431): one that comes after its wait is no answer, and the wait's end acts. -/
def Dev.cardAnswer (d : Dev) (a : CardIn) : Dev :=
  match d.tag.exch with
  | none => d
  | some e => if d.waitOver e then d.waitEnd e else d.cardBlock e a

/-- CARD_WAIT_EXPIRY (R431). -/
def Dev.cardWait (d : Dev) : Dev :=
  match d.tag.exch with
  | none => d
  | some e => if d.waitOver e then d.waitEnd e else d

/-! ### The keypad (R440 to R443) -/

/-- The code of the key at row and column `i / 4`, `i % 4` (R441). -/
def keyCode (i : Nat) : Nat := [0x1, 0x2, 0x3, 0xA, 0x4, 0x5, 0x6, 0xB, 0x7, 0x8, 0x9, 0xC, 0xE, 0x0, 0xF, 0xD].getD i 0

/-- KEYPAD_ENTRY_TIMEOUT (R442). -/
def Dev.kpTimeout (d : Dev) : Dev :=
  if d.tag.entry ≠ 0 && d.tag.keyAt + d.fld Reg.TAG_KP_CFG 15 8 * 4000 < d.pip then (d.setTag fun t => { t with entry := 0, digits := [] }).kpShow else d

/-- A key accepted in module mode (R442); the gap since the last one is judged first. -/
def Dev.kpKey (d : Dev) (k : Nat) : Dev :=
  let d := d.kpTimeout
  let t := d.tag
  if k = 0xA || k = 0xB || k = 0xC then (d.setTag fun t => { t with entry := k - 9, digits := [], keyAt := d.pip }).kpShow
  else if t.entry = 0 then d
  else if k = 0xD then (d.setTag fun t => { t with entry := 0, digits := [] }).kpShow
  else if k = 0xE then (d.setTag fun t => { t with digits := t.digits.dropLast, keyAt := d.pip }).kpShow
  else if k = 0xF then ((d.setTag fun t => { t with entry := 0, digits := [] }).kpShow).emit (.entry t.entry t.digits)
  else (d.setTag fun t => { t with digits := t.digits ++ [k], keyAt := d.pip }).kpShow

/-- An accepted press or release. -/
def Dev.kpEvent (d : Dev) (i : Nat) (press : Bool) : Dev :=
  let k := keyCode i
  let d := if press then d.inc Reg.TAG_KP_KEY_CNT else d
  if d.rbit Reg.TAG_KP_CFG 28 then d.emit (.key { code := k, press := b2n press, pip := d.pip }) else if press then d.kpKey k else d

/-- Whether the keypad runs. -/
def Dev.kpRuns (d : Dev) : Bool := d.iface && d.rbit Reg.TAG_CTRL 2 && d.mode ≠ .boot

/-- The rows in their turn (R440): the one that KP_ROW_0 to KP_ROW_3 drive low in this pip, each for 2 pips of a scan of 8; none while the keypad is idle. -/
def Dev.kpRowLow (d : Dev) : Option Nat := if d.kpRuns then some ((d.pip + 8 - d.tag.scanAt) / 2 % 4) else none

/-- A pip of the keypad's row outputs, true low. -/
def Dev.kpPip (d : Dev) : Dev := d.setTag fun t => { t with rows := (List.range 4).map fun r => d.kpRowLow = some r }

/-- KEYPAD_SCAN (R440): the keys down in scan order; a scan takes 8 pips. -/
def Dev.kpScan (d : Dev) (keys : List Nat) : Dev :=
  let n := d.fld Reg.TAG_KP_CFG 3 0
  if !d.kpRuns || d.pip < d.tag.scanAt then d
  else
    let d := d.setTag fun t => { t with scanAt := d.pip + 8 }
    if 3 ≤ keys.length then d.inc Reg.TAG_KP_GHOST_CNT else match d.tag.down with
    | some k =>
      let c := if keys.contains k then 0 else tget 0 d.tag.agree k + 1
      if n ≤ c && c ≠ 0 then (d.setTag fun t => { t with down := none, agree := [] }).kpEvent k false
      else d.setTag fun t => { t with agree := tset 0 [] k c }
    | none =>
      let agree := keys.foldl (fun (a : Tab Nat) k => tset 0 a k (tget 0 d.tag.agree k + 1)) []
      match keys.find? fun k => n ≤ tget 0 agree k with
      | some k => (d.setTag fun t => { t with down := some k, agree := [] }).kpEvent k true
      | none => d.setTag fun t => { t with agree := agree }

/-- KEYPAD_SELECTION_EXPIRY (R442). -/
def Dev.selExpiry (d : Dev) : Dev := if d.fld Reg.TAG_KP_STATUS 23 16 ≠ 0xFF && d.tag.selTill ≤ d.pip then d.setFld Reg.TAG_KP_STATUS 23 16 0xFF else d

/-! ### Opcodes of the 0x0Axx family -/

/-- TAG_STATUS_GET (0x0A00). -/
def opTagStatus (d : Dev) (c : Cmd) : Dev × Ans :=
  check d [(c.payload.length ≠ 0, St.badLength)]
    (d, .done St.ok (d.regBytes [Reg.TAG_STATUS, Reg.TAG_RDR_PRESENT, Reg.TAG_EMU_UID, Reg.TAG_FRAM_HOLD_STATUS, Reg.TAG_KP_STATUS]))

/-- An entry of RDR_LIST. -/
def CardSeen.bytes (c : CardSeen) : Bytes :=
  [byte c.uid.length, byte c.sak] ++ leN c.atqa 2 ++ padTo 10 c.uid ++ [byte (b2n (randomUid c.uid) + b2n (c.sak.testBit 5) * 2 + b2n c.offered * 4), 0]

/-- RDR_LIST (0x0A01). -/
def opRdrList (d : Dev) (c : Cmd) : Dev × Ans :=
  check d [(c.payload.length ≠ 0, St.badLength)] (d, .done St.ok ([byte d.tag.list.length, 0, 0, 0] ++ d.tag.list.flatMap CardSeen.bytes))

/-- An exchange with a listed card begins with WUPA (R431); a cycle that runs ends unfinished (DESIGN CHOICE, log entry 84). -/
def Dev.rdrStart (d : Dev) (c : Cmd) (i : Nat) : Dev :=
  let e : CardExch := { id := c.id, uid := (d.tag.list[i]?.map fun x => x.uid).getD [], apdu := c.payload.drop 4, start := d.pip, stage := .wupa, fwi := 4, fsc := 16, since := d.pip, mult := 1, nak := false, got := [] }
  ((d.setTag fun t => { t with cycle := none, rdrOut := [] }).rdrSend e .wupa).rdrShow

/-- RDR_APDU (0x0A02). -/
def opRdrApdu (d : Dev) (c : Cmd) : Dev × Ans :=
  let i := num c.payload 0 1
  check d [(c.payload.length < 5 || 254 < c.payload.length, St.badLength), (num c.payload 1 3 ≠ 0, St.badParam), (7 < i, St.badParam), (!d.iface, St.f4),
           (d.tag.list.length ≤ i, St.badParam), (!(d.tag.list[i]?.any fun x => x.sak.testBit 5), St.f2), (d.tag.exch.isSome, St.busy)]
    (d.rdrStart c i, .running)

/-- TAG_FRAM_READ (0x0A03). -/
def opFramRead (d : Dev) (c : Cmd) : Dev × Ans :=
  let off := num c.payload 0 2
  let len := num c.payload 2 2
  check d [(c.payload.length ≠ 4, St.badLength), (0x3FFF < off || len = 0 || 1024 < len || 0x4000 < off + len, St.badParam), (d.tag.cut, St.busy)]
    (d.framPush (.read c.id off len), .running)

/-- TAG_FRAM_WRITE (0x0A04). -/
def opFramWrite (d : Dev) (c : Cmd) : Dev × Ans :=
  let off := num c.payload 0 2
  let data := c.payload.drop 4
  check d [(c.payload.length < 5 || 1020 < c.payload.length, St.badLength), (num c.payload 2 2 ≠ 0, St.badParam), (0x4000 < off + data.length, St.badParam), (off < 0x1000, St.denied),
           (d.tag.cut, St.busy)]
    (d.framPush (.write c.id off data), .running)

/-- TAG_FRAM_HOLD (0x0A05): an APDU of the field that waits now finds the FRAM held (R439). -/
def opFramHold (d : Dev) (c : Cmd) : Dev × Ans :=
  check d [(c.payload.length ≠ 0, St.badLength), (!d.iface, St.f4), (d.tag.hold.isSome || d.tag.cut, St.busy)]
    (let d := (d.setTag fun t => { t with hold := some d.pip }).framShow
     if d.fieldWaits then d.tagWtx else d, .done St.ok (leN d.pip 8))

/-- TAG_FRAM_RELEASE (0x0A06). -/
def opFramRelease (d : Dev) (c : Cmd) : Dev × Ans :=
  check d [(c.payload.length ≠ 0, St.badLength)] <|
    if d.tag.cut then ((d.setTag fun t => { t with cut := false }).framShow, .done St.busy [])
    else if d.tag.hold.isNone then (d, .done St.f3 [])
    else (d.holdEnd false, .done St.ok [])

/-- TAG_KP_READ (0x0A07): oldest first, taken out of the ring. -/
def opKpRead (d : Dev) (c : Cmd) : Dev × Ans :=
  let n := num c.payload 0 1
  check d [(c.payload.length ≠ 4, St.badLength), (num c.payload 1 3 ≠ 0, St.badParam), (n = 0 || 32 < n, St.badParam), (!d.iface, St.f4)] <|
    let l := d.tag.ring.take n
    (d.setTag fun t => { t with ring := t.ring.drop n }, .done St.ok ([byte l.length, 0, 0, 0] ++ l.flatMap fun e => [byte e.code, byte e.press] ++ leN e.pip 6))

end Sys2Proof.Machine
end

