-- ==== Sys2Proof/Machine/Twin.lean ====
section
/-!
DEFINITION. Twin operation (13_twin_operation.md): the Pod link, the twin states, the state copy, the comparison of the two Kernels and the 0x0Bxx opcodes.
-/
namespace Sys2Proof.Machine

/-- Change the twin unit. -/
def Dev.setTwin (d : Dev) (f : TwinU → TwinU) : Dev := { d with twin := f d.twin }

/-- Whether the module is a twin (TWIN_CFG.en, R395). -/
def Dev.twinEn (d : Dev) : Bool := d.rbit Reg.TWIN_CFG 16

/-- ROLE_B (R394). -/
def Dev.roleB (d : Dev) : Bool := d.rbit Reg.TWIN_STATUS 11

/-- Whether the partner of an ACTIVE module is in STANDBY, or the module is (TWIN_STATUS.in_sync). -/
def Dev.inSync (d : Dev) : Bool := d.rbit Reg.TWIN_STATUS 5

/-- What an IMD_INJ_nn pin drives: high impedance on a module that does not act for its twin (R396). -/
def Dev.imdFloat (d : Dev) : Dev := (List.range 32).foldl (fun (d : Dev) n => if (d.g n).inj = 0 then d else d.setG n fun g => { g with inj := 0 }) d

/-- Enter a twin state: its pip, and what leaving STANDBY other than to ACTIVE counts; a module that enters one in which it does not act for its twin floats IMD_INJ_nn (R396). -/
def Dev.twinTo (d : Dev) (s : Nat) : Dev :=
  let old := d.twinState
  let d := if 1 ≤ s && s ≤ 3 then d.imdFloat else d
  let d := (d.setFld Reg.TWIN_STATUS 2 0 s).wn Reg.TWIN_LAST_CHANGE_PIP d.pip
  let d := if old = 3 && s ≠ 3 && s ≠ 4 then (d.inc Reg.TWIN_SYNC_LOST_CNT).raise Reg.TWIN_EVENT 16 else d
  d.setBit Reg.TWIN_STATUS 5 (s = 3 || (s = 4 && d.twin.peerState = 3))

/-- TWIN_STATUS.cause. -/
def Dev.twinCause (d : Dev) (c : Nat) : Dev := d.setFld Reg.TWIN_STATUS 31 24 c

/-- Become ACTIVE by promotion or at start-up with an epoch, which is stored first (R402). -/
def Dev.twinActivate (d : Dev) (epoch : Nat) : Dev :=
  let d := (d.setTwin fun t => { t with stored := epoch, copy := none }).wn Reg.TWIN_EPOCH epoch
  (((d.twinCause 0).twinTo 4).inc Reg.TWIN_PROMOTE_CNT).raise Reg.TWIN_EVENT 1

/-- Begin to synchronise: no copy counts yet. -/
def Dev.twinSyncing (d : Dev) : Dev := (d.setTwin fun t => { t with copy := none, run := 0, bulk := false, lag := 0 }).twinTo 2

/-- The key-slot map (R490). -/
def Dev.keyMap (d : Dev) : Bytes := (List.range 64).map fun n => byte (d.slot n).mapByte

/-- The copy format of the image that runs (R397). -/
def Dev.copyFormat (d : Dev) : Nat := Config.copyFormat (((d.bank d.bankRuns).map (·.version)).getD 0)

/-- The cause that a state exchange shows (R413): equal copy formats are compatible, and which unlike ones are is the two images' own (DESIGN CHOICE, log entry 63). -/
def Dev.syncCause (d : Dev) (p : Peer) : Nat :=
  if p.role = b2n d.roleB then 1
  else if p.fmt ≠ d.copyFormat && !Config.copyFits d.copyFormat p.fmt then 2
  else if p.cfgCrc ≠ d.rn Reg.SAFE_CFG_CRC || padTo 64 p.keyMap ≠ d.keyMap || !p.hold || !d.rbit Reg.LSW_CFG 1 then 3
  else if !p.aligned || !d.rbit Reg.TIME_STATUS 8 then 4
  else 0

/-- The cause that a module in SYNCING shows (R413): that of the last state exchange and of what both modules have shown since; a Pod fault or a lag stands where there is none. -/
def Dev.syncShow (d : Dev) : Dev :=
  match d.twin.peer with
  | some p =>
    let c := d.syncCause p
    if d.twinState ≠ 2 then d else if c = 0 && 5 ≤ d.fld Reg.TWIN_STATUS 31 24 then d else d.twinCause c
  | none => d

/-- CP_PWM_nn low on every outlet (R420). -/
def Dev.pilotsLow (d : Dev) : Dev := (List.range 32).foldl (fun (d : Dev) n => d.wn (Reg.OUT_CP_DUTY n) 0) d

/-- TWIN_DEMOTION (R420): coils and auxiliaries off (R390), pilots low, IMD_INJ at high impedance; the epoch learnt becomes its own. -/
def Dev.demote (d : Dev) (epoch : Nat) : Dev :=
  let d := d.pilotsLow.setTwin fun t => { t with handover := none }
  ((((d.wn Reg.TWIN_EPOCH epoch).inc Reg.TWIN_DEMOTE_CNT).raise Reg.TWIN_EVENT 2).twinSyncing).syncShow

/-! ### The session task's Kernel commands (R184, R409, R415) -/

/-- A Kernel command of the session task waits for the latch of the next pip (R184). -/
def Dev.kernSend (d : Dev) (c : KCmd) : Dev := { d with kern := { d.kern with inbox := d.kern.inbox ++ [c] } }

/-- Whether the Kernel session that the mirror shows open on an outlet is the one its session task wants. -/
def Dev.sessWanted (d : Dev) (n : Nat) : Bool := (d.o n).kWant && (d.mirror.ch n).session.any fun x => x.id = d.sessionId n

/-- A module that joins the drive closes each of its own Kernel sessions that the copy does not have, and opens each that its Kernel lacks (R415). -/
def Dev.joinKernel (d : Dev) : Dev :=
  (List.range 32).foldl (fun (d : Dev) n =>
    let wanted := d.sessWanted n
    let d := if (d.mirror.ch n).session.isSome && !wanted then d.kernSend (.sessClose n (d.o n).forced d.kern.latches) else d
    if (d.o n).kWant && !wanted then d.kernSend (.sessOpen n (d.sessionId n) d.kern.latches) else d) d

/-- A command of the session task, taken from the copy, goes to the standby's own Kernel in the pip in which the active issued it, with this module's pip number (R409). -/
def Dev.mirrorCmd (d : Dev) (c : KCmd) : Dev :=
  match c with
  | .sessOpen n id _ => d.kernSend (.sessOpen n id d.kern.latches)
  | .sessClose n f _ => d.kernSend (.sessClose n f d.kern.latches)
  | .iBreak n v _ => d.kernSend (.iBreak n v d.kern.latches)
  | .host _ _ _ _ | .renumber _ _ _ => d

/-- The commands of a copy that this module has not mirrored yet (R404, R409). -/
def Dev.mirrorCmds (d : Dev) (l : List (Nat × KCmd)) : Dev :=
  (l.filter fun x => d.twin.kernSeen ≤ x.1).foldl (fun (d : Dev) x => (d.mirrorCmd x.2).setTwin fun t => { t with kernSeen := max t.kernSeen (x.1 + 1) }) d

/-! ### Pod link (R397, R398) -/

/-- A module that becomes active without a copy: every outlet with an open Kernel session to FAULT, reason CONTROLLER_RESET (R124, R402). -/
def Dev.coldOutlets (d : Dev) : Dev :=
  (List.range 32).foldl (fun (d : Dev) n => match (d.mirror.ch n).session with
    | some x => if d.outType n ≠ 0 then d.controllerReset n x.id else d
    | none => d) d

/-- The state exchange that the module sends (R397). -/
def Dev.ownPeer (d : Dev) : Peer :=
  { serial := (List.range 12).map Config.serial, role := b2n d.roleB, state := d.twinState, epoch := d.rn Reg.TWIN_EPOCH, fmt := d.copyFormat, cfgCrc := d.rn Reg.SAFE_CFG_CRC, keyMap := d.keyMap,
    hold := d.rbit Reg.LSW_CFG 1, aligned := d.rbit Reg.TIME_STATUS 8, pip := d.pip }

/-- The state exchange completes (R402, R413): the Pod link is heard, and the twin states act on it. -/
def Dev.podTrained (d : Dev) (p : Peer) : Dev :=
  if !d.twinEn then d
  else
    let own := d.rn Reg.TWIN_EPOCH
    let d := (d.setTwin fun t => { t with peer := some p, peerState := p.state, podHeard := true, podSilent := 0 }).wn Reg.TWIN_PEER_EPOCH p.epoch
    let d := d.setFld Reg.TWIN_POD_STATUS 2 0 7
    match d.twinState with
    | 1 =>
      if p.role = b2n d.roleB then d.twinCause 1
      else if 2 ≤ p.state && own < p.epoch then ((d.wn Reg.TWIN_EPOCH p.epoch).twinSyncing).twinCause (d.syncCause p)
      else if p.state = 1 && !d.roleB then (d.twinActivate (1 + max d.twin.stored (max p.epoch d.twin.noticeEpoch))).coldOutlets
      else d.twinCause 0
    | 2 => d.twinCause (d.syncCause p)
    | 4 => if own < p.epoch || (p.state = 4 && p.epoch = own && d.roleB) then (d.demote p.epoch).twinCause (d.syncCause p) else d
    | _ => d

/-- POD_TRAINING_COMPLETE (R397), step by step: both lanes equalised, then deskewed, when the module sends its state exchange, then the partner's. -/
def Dev.podTrain (d : Dev) (t : TrainIn) : Dev :=
  let both := d.fld Reg.TWIN_POD_STATUS 1 0 = 3
  if !d.twinEn then d
  else match t with
    | .lane n =>
      let d := d.setBit Reg.TWIN_POD_STATUS n.val true
      if !both && d.fld Reg.TWIN_POD_STATUS 1 0 = 3 then d.setTwin fun x => { x with trainAt := d.pip } else d
    | .deskew => if both then d.setTwin fun x => { x with deskew := true, exchOut := some d.ownPeer } else d
    | .exchange p => if both && d.twin.deskew then d.podTrained p else d

/-- Equalisation begins (R397, step 1): an attempt more, and no lane trained. -/
def Dev.podRestart (d : Dev) : Dev :=
  let n := min 255 (d.fld Reg.TWIN_POD_STATUS 15 8 + 1)
  (d.setTwin fun t => { t with deskew := false, trainAt := d.pip }).wn Reg.TWIN_POD_STATUS (n * 256)

/-- POD_LANE_LOCK_LOSS (R397): training starts again, at its step 1. -/
def Dev.podLost (d : Dev) (lane : Nat) : Dev := if d.twinEn && d.rbit Reg.TWIN_POD_STATUS (lane % 2) then d.podRestart else d

/-! ### Comparing the two Kernels (R416, R417) -/

/-- The billing registers of every channel in mWh, whatever its role: a channel that has just taken the role OUTLET or FEEDER has its advance as any other. -/
def Dev.energyNow (d : Dev) : List (Nat × Nat) :=
  (List.range 32).map fun m =>
    let c := d.mirror.ch m
    (mwh c.accImp, mwh c.accExp)

/-- The advance of an OUTLET or FEEDER channel over the last 4,000 pips, 0 for any other. -/
def Dev.advance (d : Dev) (m : Nat) : Nat × Nat :=
  match d.twin.adv.head?, d.twin.adv.getLast? with
  | some a, some b => if (d.mirror.ch m).act.role ≠ 1 && (d.mirror.ch m).act.role ≠ 2 then (0, 0) else ((a.getD m (0, 0)).1 - (b.getD m (0, 0)).1, (a.getD m (0, 0)).2 - (b.getD m (0, 0)).2)
  | _, _ => (0, 0)

/-- Whether two advances differ by more than the tolerances of TWIN_KCMP_CFG. -/
def Dev.advDiffers (d : Dev) (a b : Nat) : Bool :=
  d.fld Reg.TWIN_KCMP_CFG 11 0 * 10000 + d.fld Reg.TWIN_KCMP_CFG 19 12 * max a b < (max a b - min a b) * 10000

/-- KERNEL_COMPARE of one channel: its difference, its runs, and the end of a mismatch. -/
def Dev.compareOne (d : Dev) (m : Nat) (p : Nat × Nat) : Dev :=
  let a := d.advance m
  let diff := fun (x y : Nat) => ofSigned 16 (satSigned 16 ((x : Int) - y))
  let d := d.wn (Reg.TWIN_KCMP_DIFF m) (diff a.1 p.1 * 65536 + diff a.2 p.2)
  let r := tget (0, 0) d.twin.runs m
  let r := if d.advDiffers a.1 p.1 || d.advDiffers a.2 p.2 then (r.1 + 1, 0) else (0, r.2 + 1)
  let d := d.setTwin fun t => { t with runs := tset (0, 0) t.runs m r }
  if d.fld Reg.TWIN_KCMP_CFG 31 20 ≤ r.2 then d.setBit Reg.TWIN_KCMP_MASK m false else d

/-- KERNEL_COMPARE (R416): own and partner's advances of this pip. -/
def Dev.compareKernels (d : Dev) (l : List (Nat × Nat)) : Dev :=
  let d := d.setTwin fun t => { t with peerAdv := some l, compared := true }
  ((List.range 32).filter fun m => (d.mirror.ch m).act.role = 1 || (d.mirror.ch m).act.role = 2).foldl (fun (d : Dev) m => d.compareOne m (l.getD m (0, 0))) d

/-- KCMP_MISMATCH_SET (R417). -/
def Dev.kcmpSet (d : Dev) (m : Nat) : Dev :=
  if d.fld Reg.TWIN_KCMP_CFG 31 20 ≤ (tget (0, 0) d.twin.runs m).1 && !d.rbit Reg.TWIN_KCMP_MASK m then
    ((d.setBit Reg.TWIN_KCMP_MASK m true).raise Reg.TWIN_EVENT 128).log 72 7 [byte m]
  else d

/-- A frame or notice with a lower epoch is discarded (R421). -/
def Dev.staleTwin (d : Dev) : Dev := (d.inc Reg.TWIN_STALE_CNT).raise Reg.TWIN_EVENT 64

/-- The partner is heard. -/
def Dev.partnerHere (d : Dev) : Dev := d.setBit Reg.TWIN_STATUS 6 true

/-- A copy received whole waits for the boundary of the next pip (R405); its acknowledgement goes in this pip's own frame (R404). -/
def Dev.takeCopy (d : Dev) (c : Option CopyImage) : Dev := if c.isSome then d.setTwin fun t => { t with copy := c, copyAt := d.pip } else d

/-- The copy that a frame brings whole: one with a line left out is neither applied nor acknowledged (R404, R405, R510). -/
def PodOut.whole (f : PodOut) : Option CopyImage := if f.short then none else f.copy

/-- The CRC of a Pod frame (R398). -/
def podCrc (b : PodOut) : Nat := (crc32c (Config.podBytes b)).toNat

/-- The partner's acknowledgement of the last copy (R404): what was pending is not so any more. A partner that begins to synchronise holds nothing. -/
def Dev.copyAcked (d : Dev) (ack : Bool) (before : Nat) : Dev :=
  let d := if d.twin.peerState = 2 && before ≠ 2 then d.setTwin fun t => { t with acked := none } else d
  match d.twin.podOut with
  | some o => if ack && !o.body.short && o.body.copy.isSome then d.setTwin fun t => { t with unacked := 0, acked := o.body.copy, kernPend := t.kernPend.filter fun x => o.body.pip < x.1 } else d
  | none => d

/-- POD_FRAME_RX (R398, R402 to R404, R409, R416, R420, R421, R444). A module in SEARCH that waits for its partner's ACTIVE sees it in the frames (R402). -/
def Dev.podFrame (d : Dev) (g : PodFrame) : Dev :=
  let f := g.body
  let own := d.rn Reg.TWIN_EPOCH
  if !d.twinEn || !d.rbit Reg.TWIN_POD_STATUS 2 then d
  else if podCrc f ≠ g.crc then d.inc Reg.TWIN_POD_CRC_ERR_CNT
  else if f.epoch < own then d.staleTwin
  else
    let before := d.twin.peerState
    let adv := if f.adv = [] then none else some f.adv
    let d := d.setTwin fun t => { t with podHeard := true, peerState := f.state, peer := t.peer.map fun p => { p with aligned := f.aligned, state := f.state, epoch := f.epoch } }
    let d := ((d.partnerHere).setBit Reg.TWIN_STATUS 7 true).wn Reg.TWIN_PEER_EPOCH f.epoch
    match d.twinState with
    | 4 =>
      if own < f.epoch || (f.state = 4 && d.roleB) then d.demote f.epoch
      else
        let d := d.setBit Reg.TWIN_STATUS 5 (f.state = 3)
        let d := if f.state = 3 then d.undegrade 5 else d
        let d := (d.copyAcked f.ack before).setTwin fun t => { t with fwdIn := t.fwdIn ++ f.fwd }
        match adv with
        | some l => d.compareKernels l
        | none => d
    | 3 =>
      let d := ((d.wn Reg.TWIN_EPOCH f.epoch).takeCopy f.whole)
      let d := d.mirrorCmds ((f.whole.map (·.kern)).getD [])
      match adv with
      | some l => d.compareKernels l
      | none => d
    | 2 => ((d.wn Reg.TWIN_EPOCH f.epoch).takeCopy f.whole).syncShow
    | 1 => if 2 ≤ f.state && own < f.epoch && d.twin.peer.any (fun p => p.role ≠ b2n d.roleB) then ((d.wn Reg.TWIN_EPOCH f.epoch).twinSyncing).syncShow else d
    | _ => d

/-! ### The state copy (R403 to R408) -/

/-- Whether an address is that of an LSW_ch_CMD. -/
def isChCmd (a : Nat) : Bool := a / 0x10000 = 8 && a % 0x40 = 4 && a < 0x80000 + 0x40 * 80

/-- Whether the register at an address travels in the state copy (R406). -/
def copied (a : Nat) : Bool :=
  let rw := (regAt a).any fun r => r.access == .rw
  match a / 0x10000 with
  | 1 => true
  | 16 => true
  | 48 => true
  | 12 => true
  | 13 => rw || (0xD1000 ≤ a && (a % 0x100 = 0x48 || a % 0x100 = 0x50 || a % 0x100 = 0x54))
  | 6 => rw
  | 7 => rw
  | 8 => isChCmd a
  | _ => false

/-- A register table in which the copied registers come from `c`. -/
def mergeCopied (own c : Tab Word) : Tab Word :=
  c.foldl (fun t e => if copied e.1 then tset 0 t e.1 e.2 else t) (own.filter fun e => !copied e.1)

/-- The session task's Kernel commands of the pip (R409). -/
def Dev.kernIssued (d : Dev) : List KCmd :=
  d.kern.inbox.filter fun (c : KCmd) => match c with
    | .sessOpen _ _ a | .sessClose _ _ a | .iBreak _ _ a => a = d.kern.latches
    | .host _ _ _ _ | .renumber _ _ _ => false

/-- The position up to which the Shell has read a lane's receive ring. -/
def HLane.rd (l : HLane) : Nat := (l.wr + rxRing * rxReserve - rxReserve * l.frames.length) % rxRing

/-- The copied state as it stands (R403, R406), with the in-flight table. -/
def Dev.copyNow (d : Dev) (pip : Nat) (flights : List Flight) : CopyImage :=
  { pip := pip, epoch := d.rn Reg.TWIN_EPOCH, bulk := false, handover := false, regs := d.regs.filter fun e => copied e.1, shadow := d.shadow.filter fun e => copied e.1, out := d.out, bill := d.bill,
    lanes := tnorm LaneCopy.reset (d.husk.lanes.map fun x => (x.1, { matched := x.2.matched, net := x.2.net, rd := x.2.rd })), mesh := d.mesh, osc := d.osc,
    active := d.disp.active, staging := d.disp.staging, fram := d.tag.fram, flights := flights,
    seqs := (List.range 8).foldl (fun (t : Tab Nat) i => if wbit (d.connWord i 0) 30 then tset 0 t i (d.conn i).seq else t) [], kern := d.twin.kernPend, owed := 0 }

/-- The 64-byte lines in which two tables differ (R403). -/
def dirtyLines {α : Type} [DecidableEq α] (a b : Tab α) : List Nat := ((a.filter (fun e => !b.contains e) ++ b.filter fun e => !a.contains e).map (·.1 / 64)).eraseDups

/-- What a copy makes of a table: the lines that fit in the room left are those of `new`, those that stay pending are still those of `old`; with the room that then remains and how many lines stay pending. -/
def carryLines {α : Type} [DecidableEq α] (dflt : α) (room : Nat) (old new : Tab α) : Tab α × Nat × Nat :=
  let l := dirtyLines old new
  let go := l.take room
  if l.length ≤ room then (new, room - l.length, 0)
  else ((new.filter fun e => go.contains (e.1 / 64)).foldl (fun t e => tset dflt t e.1 e.2) (old.filter fun e => !go.contains (e.1 / 64)), room - go.length, l.length - go.length)

/-- The local list's entries of 16 bytes in which two lists differ (R129). -/
def listDiff (a b : List ListEntry) : Nat := ((a.zip b).filter fun x => x.1 ≠ x.2).length + (max a.length b.length - min a.length b.length)

/-- How many lines the sessions, BILL, the lanes and the mesh take that have changed since a copy: those of the local list, and for the rest a free value, since the spec gives it no addresses (log entry 63). -/
def sessionLines (old new : CopyImage) (free : Nat) : Nat :=
  if old.out = new.out && old.bill = new.bill && old.lanes = new.lanes && old.mesh = new.mesh then 0 else (listDiff old.out.list new.out.list + 3) / 4 + Config.freeNat free

/-- The copy of an active module (R403, R404): every line of the copied state that differs from the last acknowledged copy, at most 768 of them; with how many go and how many stay pending. Which of them wait is the model's choice: those of the display's buffers go last, and the sessions, BILL, the lanes and the mesh take effect with the last of their lines (log entry 63). -/
def Dev.copyImage (d : Dev) (pip : Nat) (flights : List Flight) (handover : Bool) : CopyImage × Nat × Nat :=
  let old := d.twin.acked.getD CopyImage.empty
  let new := d.copyNow pip flights
  let n := if old.owed = 0 then sessionLines old new d.fresh else old.owed
  let new := if n ≤ 768 then new else { new with out := old.out, bill := old.bill, lanes := old.lanes, mesh := old.mesh, owed := n - 768 }
  let (regs, room, p1) := carryLines 0 (768 - n) old.regs new.regs
  let (shadow, room, p2) := carryLines 0 room old.shadow new.shadow
  let (fram, room, p3) := carryLines 0 room old.fram new.fram
  let (staging, room, p4) := carryLines 0 room old.staging new.staging
  let (active, room, p5) := carryLines 0 room old.active new.active
  let left := new.owed + p1 + p2 + p3 + p4 + p5
  ({ new with regs := regs, shadow := shadow, fram := fram, staging := staging, active := active, bulk := d.twin.peerState = 2 && left = 0, handover := handover }, 768 - room, left)

/-- What the standby's Stone takes from a copied I_BREAK_PASS: the outlet's T_force (R409). -/
def Dev.copyBreak (d : Dev) (c : KCmd) : Dev :=
  match c with
  | .iBreak n _ _ => { d with safe := { d.safe with tForce := tset 400 d.safe.tForce n (d.fld (Reg.OUT_BREAK n) 26 16) } }
  | .host _ _ _ _ | .renumber _ _ _ | .sessOpen _ _ _ | .sessClose _ _ _ => d

/-- How many of a lane's newest frames lie behind a ring position: none where the position is none of its frames'. -/
def HLane.newer (l : HLane) (rd : Nat) : Nat := ((List.range (l.frames.length + 1)).find? fun k => (rd + rxReserve * k) % rxRing = l.wr).getD 0

/-- A lane after a copy (R409): its read position is the copy's, its ring holds only frames newer than it, and a frame in decode keeps what it has reserved; a ring that the position is none of follows the partner's (DESIGN CHOICE, log entry 84). -/
def Dev.laneCopy (d : Dev) (n : Nat) (x : LaneCopy) : HLane :=
  let l := d.lane n
  let k := l.newer x.rd
  { l with frames := l.frames.drop (l.frames.length - k), ring := rxReserve * (k + (d.husk.ctxs.filter fun c => c.rx && c.lane = n).length), wr := (x.rd + rxReserve * k) % rxRing, matched := x.matched, net := x.net }

/-- A pip without an applied copy begins (R402). -/
def Dev.lagTick (d : Dev) : Dev := if d.twinEn then d.setTwin fun t => { t with lag := t.lag + 1 } else d

/-- TWIN_COPY_APPLY (R405, R422, R489): at the boundary of the pip after its arrival, the whole copy, then the handover if it is one; the rings then hold only frames newer than the copy, and the pilots of a module in SYNCING stay low (R420). Commands that a handover finds in flight belong to the older epoch (DESIGN CHOICE, log entry 84). -/
def Dev.copyApply (d : Dev) : Dev :=
  match d.twin.copy with
  | none => d
  | some c =>
    if (d.twinState ≠ 2 && d.twinState ≠ 3) || d.pip ≤ d.twin.copyAt then d
    else
      let was := d
      let ownEpoch := d.rn Reg.TWIN_EPOCH
      let regs := mergeCopied d.regs c.regs
      let shadow := mergeCopied d.shadow c.shadow
      let lanes := (List.range 33).foldl (fun (t : Tab HLane) n => tset HLane.reset t n (d.laneCopy n (tget LaneCopy.reset c.lanes n))) d.husk.lanes
      let conns := (List.range 8).foldl (fun (t : Tab SConn) i => if wbit (d.connWord i 0) 30 then tset SConn.reset t i { tget SConn.reset t i with seq := tget 0 c.seqs i } else t) d.safe.conns
      let d := { d with regs := regs, shadow := shadow, out := c.out, bill := c.bill, mesh := { c.mesh with periodAt := d.osc - (c.osc - c.mesh.periodAt) }, husk := { d.husk with lanes := lanes },
                        disp := { d.disp with active := tnorm 0 c.active, staging := tnorm 0 c.staging }, tag := { d.tag with fram := tnorm 0 c.fram }, safe := { d.safe with conns := conns } }
      let d := (List.range 32).foldl (fun (d : Dev) n => d.guardCopied was n) d
      let d := c.kern.foldl (fun (d : Dev) k => d.copyBreak k.2) d
      let d := if d.twinState = 2 then d.pilotsLow else { d with sys := { d.sys with pilots := true } }
      let d := d.setTwin fun t => { t with copy := none, run := if c.pip = t.copyAt then t.run + 1 else 0, bulk := t.bulk || c.bulk, lag := 0, inflight := c.flights }
      if c.handover && d.twinState = 3 then
        let d := (d.setTwin fun t => { t with stored := ownEpoch + 1, inflight := [], stale := (c.flights.map (·.cmd)).filter fun x => x.opcode ≠ 0x0B01 }).wn Reg.TWIN_EPOCH (ownEpoch + 1)
        ((d.twinTo 4).inc Reg.TWIN_SWITCHOVER_CNT).raise Reg.TWIN_EVENT 32
      else d

/-- TWIN_SYNC_COMPLETE (R413, R415): the module joins the drive, and its Kernel's sessions follow the copy. -/
def Dev.syncComplete (d : Dev) : Dev :=
  match d.twin.peer with
  | some p =>
    if d.twinState = 2 && d.syncCause p = 0 && d.twin.bulk && 400 ≤ d.twin.run && d.rbit Reg.TWIN_POD_STATUS 2 then
      ((((d.twinCause 0).twinTo 3).undegrade 5).raise Reg.TWIN_EVENT 8).joinKernel
    else d
  | none => d

/-- TWIN_COPY_LAG (R402). -/
def Dev.copyLag (d : Dev) : Dev := if d.twinState = 3 && 8 ≤ d.twin.lag then (d.twinCause 6).twinSyncing else d

/-! ### Silence (R400, R418, R419) -/

/-- Whether both paths have been silent for 3 pips. -/
def Dev.silence (d : Dev) : Bool := 3 ≤ d.twin.podSilent && 3 ≤ d.twin.liveSilent

/-- TWIN_SILENCE_PROMOTE (R402, R418): a standby promotes itself and takes the frames that its rings hold; a module in SYNCING becomes active cold. -/
def Dev.silencePromote (d : Dev) : Dev :=
  if !d.silence then d
  else
    let e := d.rn Reg.TWIN_EPOCH + 1
    let heard := fun (d : Dev) => (d.setBit Reg.TWIN_STATUS 6 false).setTwin fun t => { t with peerState := 0 }
    match d.twinState with
    | 3 => ((heard d).twinActivate e).emptyRings.setTwin fun t => { t with promotedAt := some d.pip, arpAt := some d.pip, stale := t.inflight.map (·.cmd), inflight := [] }
    | 2 =>
      (((heard d).twinActivate e).setTwin fun t => { t with inflight := [], run := 0, bulk := false }).coldOutlets
    | _ => d

/-- PROMOTED_HUB_STOP_RAMPDOWN (R419). -/
def Dev.promotedHub (d : Dev) : Dev :=
  if d.twin.promotedAt.any (fun p => d.pip ≤ p + 40) && d.rbit Reg.SAFE_STATUS 3 && !d.rbit Reg.SAFE_STATUS 2 then
    let d := d.setTwin fun t => { t with promotedAt := none }
    (List.range 32).foldl (fun (d : Dev) n =>
      if d.ost n = .cableCheck || d.ost n = .precharge || d.ost n = .energy then d.rampdown n 14 else d) d
  else d

/-- POD_FAULT_DETECT (R40, R400, R402): the Pod link has been silent for 3 pips and TWIN_LIVE_IN is not silent; both modules record the cause. -/
def Dev.podFault (d : Dev) : Dev :=
  if !d.twinEn || d.twin.podSilent < 3 || d.twin.liveSilent ≠ 0 then d
  else
    let note := fun (d : Dev) => ((d.inc Reg.TWIN_POD_FAULT_CNT).raise Reg.TWIN_EVENT 4).degrade 5
    if d.twinState = 3 then ((note d).twinCause 5).twinSyncing
    else if d.twinState = 4 && !d.rbit Reg.SYS_DEGRADE_CAUSE 5 then (note d).setBit Reg.TWIN_STATUS 5 false
    else d

/-- PARTNER_SILENT (R402). -/
def Dev.partnerSilent (d : Dev) : Dev :=
  if d.twinState = 4 && d.silence then ((d.setBit Reg.TWIN_STATUS 6 false).setBit Reg.TWIN_STATUS 5 false).setTwin fun t => { t with peerState := 0 } else d

/-- TWIN_LIVE_IN_EDGE (R400). -/
def Dev.liveEdge (d : Dev) : Dev :=
  if !d.twinEn then d else ((d.setTwin fun t => { t with liveHeard := true, lastEdge := some d.pip }).setBit Reg.TWIN_STATUS 8 true).partnerHere

/-- TWIN_LIVE_TOGGLE (R399): while the application cores run. -/
def Dev.liveToggle (d : Dev) : Dev :=
  if d.twinEn && d.mode ≠ .boot && !d.sys.inReset && d.domainRuns 0 then d.setTwin fun t => { t with liveOut := !t.liveOut } else d

/-- TWIN_SEARCH_TIMEOUT (R402). -/
def Dev.searchTimeout (d : Dev) : Dev :=
  let s := d.fld Reg.TWIN_CFG 15 0
  let wait := if d.roleB then 2 * s else s
  let noticed := d.twin.notice.any fun n => n.2 = 4 && d.pip < n.1 + 400
  let edge := d.twin.lastEdge.any fun p => d.pip < p + s
  if d.twinState = 1 && d.twin.searchAt + wait ≤ d.pip && !d.rbit Reg.TWIN_POD_STATUS 2 && !noticed && !edge then (d.twinActivate (d.twin.stored + 1)).coldOutlets else d

/-! ### Epoch notices (R401) -/

/-- The 16 bytes of a notice. -/
def Dev.notice (d : Dev) : Bytes :=
  let b := [0x4B, 0x42, 0x54, 0x4E] ++ leN (d.rn Reg.TWIN_EPOCH) 4 ++ [byte d.twinState, byte (b2n d.roleB), 0, 0]
  b ++ leN (crc32c b).toNat 4

/-- EPOCH_NOTICE_TX (R401). -/
def Dev.noticeTx (d : Dev) : Dev :=
  if d.twinEn && d.rbit Reg.TWIN_CFG 17 && d.twin.noticeAt + 40 ≤ d.pip then
    d.setTwin fun t => { t with noticeAt := d.pip, noticeOut := d.notice, noticeTo := some (d.rn Reg.TWIN_PEER_IP, d.fld Reg.TWIN_UDP_PORT 15 0) }
  else d

/-- EPOCH_NOTICE_RX (R401, R402, R420, R421): from the partner's address only, whole and with its check. -/
def Dev.noticeRx (d : Dev) (ip : Nat) (b : Bytes) : Dev :=
  if !d.twinEn || !d.rbit Reg.TWIN_CFG 17 || ip ≠ d.rn Reg.TWIN_PEER_IP || b.length ≠ 16 || b.take 4 ≠ [0x4B, 0x42, 0x54, 0x4E] || num b 12 4 ≠ (crc32c (b.take 12)).toNat then d
  else
    let e := num b 4 4
    let st := num b 8 1
    let own := d.rn Reg.TWIN_EPOCH
    if e < own then d.staleTwin
    else
      let d := (d.setTwin fun t => { t with notice := some (d.pip, st), noticeEpoch := max t.noticeEpoch e }).wn Reg.TWIN_PEER_EPOCH e
      let d := d.setBit Reg.TWIN_STATUS 9 true
      if d.twinState = 4 && (own < e || (st = 4 && d.roleB)) then d.demote e else d

/-! ### TWIN_CFG.en, the pip and the switch-over -/

/-- Enter SEARCH and start training (R397, R402): nothing has been heard yet. -/
def Dev.twinStart (d : Dev) : Dev := (((d.setTwin fun t => { t with searchAt := d.pip, podSilent := 3, liveSilent := 3 }).wn Reg.TWIN_POD_STATUS 0).podRestart).twinTo 1

/-- Enter OFF: the Pod link is powered down and TWIN_LIVE_OUT held low (R395). -/
def Dev.twinStop (d : Dev) : Dev :=
  let d := (d.twinTo 0).wr Reg.TWIN_STATUS ((d.twinTo 0).rd Reg.TWIN_STATUS &&& 0x00000800)
  (d.wn Reg.TWIN_POD_STATUS 0).setTwin fun t => { TwinU.reset with stored := t.stored }

/-- A write of TWIN_CFG takes effect (R402). -/
def Dev.twinCfg (d : Dev) (v : Word) : Dev :=
  let old := d.twinEn
  let d := d.wr Reg.TWIN_CFG v
  if !old && wbit v 16 then d.twinStart else if old && !wbit v 16 then d.twinStop else d

/-- The Pod frame of the pip that ended (R398, R403, R404, R409, R416): the active's copy with the Kernel commands that its partner in STANDBY has not acknowledged, or the standby's acknowledgement. A line that could not be read is not sent, and the copy stays unacknowledged (R510). -/
def Dev.podSend (d : Dev) (pip : Nat) (flights : List Flight) : Dev :=
  if !d.twinEn || !d.rbit Reg.TWIN_POD_STATUS 2 || !d.shellRuns then d.setTwin fun t => { t with podOut := none }
  else
    let st := d.twinState
    let d := d.setTwin fun t => { t with kernPend := if st = 4 && t.peerState = 3 then t.kernPend ++ d.kernIssued.map (fun c => (pip, c)) else [] }
    let (image, lines, left) := d.copyImage pip flights (d.twin.handover.isSome || d.twin.tamper = 2)
    let b : PodOut := { epoch := d.rn Reg.TWIN_EPOCH, pip := pip, state := st, aligned := d.rbit Reg.TIME_STATUS 8, copy := if st = 4 then some image else none, short := d.twin.copyUe,
                        ack := st ≠ 4 && d.twin.copy.isSome && d.twin.copyAt = pip, adv := if st = 3 || st = 4 then (List.range 32).map d.advance else [], fwd := d.twin.fwdOut }
    let d := d.setTwin fun t => { t with podOut := some { body := b, crc := podCrc b }, copyUe := false }
    if st = 4 then
      let d := if left = 0 && !b.short then d else d.inc Reg.TWIN_COPY_RESEND_CNT
      let un := min 255 (d.twin.unacked + 1)
      ((d.setTwin fun t => { t with unacked := un }).wn Reg.TWIN_COPY_LAST (un * 65536 + 64 * (lines - b2n b.short))).draw 1
    else d

/-- The twin at a pip boundary: the silences of the pip that ended, the advances, what the partner forwarded, the cause shown, an attempt at equalisation that took its 40 pips (R397). -/
def Dev.twinPip (d : Dev) : Dev :=
  if !d.twinEn then d
  else
    let snap := d.energyNow
    let fwd := d.twin.fwdIn
    let d := d.setTwin fun t =>
      { t with podSilent := if t.podHeard then 0 else t.podSilent + 1, liveSilent := if t.liveHeard then 0 else t.liveSilent + 1, podHeard := false, liveHeard := false,
               adv := (snap :: t.adv).take 4001, peerAdv := if t.compared then t.peerAdv else none, runs := if t.compared then t.runs else [], compared := false, fwdIn := [], fwdOut := [] }
    let d := fwd.foldl (fun (e : Dev) f => e.actFwd f) d
    let d := (d.setBit Reg.TWIN_STATUS 7 (decide (d.twin.podSilent < 3))).setBit Reg.TWIN_STATUS 8 (decide (d.twin.liveSilent < 3))
    let d := (d.setBit Reg.TWIN_STATUS 9 (d.twin.notice.any fun n => d.pip < n.1 + 400)).syncShow
    let d := if d.twinState ≠ 4 && d.silence then (d.setBit Reg.TWIN_STATUS 6 false).setTwin fun t => { t with peerState := 0 } else d
    let step := if d.fld Reg.TWIN_POD_STATUS 1 0 ≠ 3 then some 40 else if d.twin.deskew then none else some 4
    if step.any fun n => d.twin.trainAt + n ≤ d.pip then d.podRestart else d

/-- The old active's side of a switch-over at pip L + 1 (R422): STANDBY, and the final reply with the new epoch, the last it sends from FAB_UDP_IP. -/
def Dev.handoverEnd (d : Dev) : Dev :=
  match d.twin.handover with
  | some id =>
    if d.twinState ≠ 4 then d.setTwin fun t => { t with handover := none } else
    let e := d.rn Reg.TWIN_EPOCH + 1
    let d := ((d.setTwin fun t => { t with handover := none, lastReply := true, lag := 0 }).wn Reg.TWIN_EPOCH e).twinTo 3
    ((d.inc Reg.TWIN_SWITCHOVER_CNT).raise Reg.TWIN_EVENT 32).finish id St.ok (leN e 4)
  | none => d

/-- The handover of a tampered ACTIVE module (R489): the pip after the burr line fired is its pip L of R422, drained or not, and the next one leaves it in SYNCING with cause CONFIG, also where a switch-over of that pip has made it STANDBY already. -/
def Dev.tamperHand (d : Dev) : Dev :=
  if d.twin.tamper = 0 then d
  else if d.twinState = 3 then (d.setTwin fun t => { t with tamper := 0 }).twinSyncing.twinCause 3
  else if d.twinState ≠ 4 then d.setTwin fun t => { t with tamper := 0 }
  else if d.twin.tamper = 1 then d.setTwin fun t => { t with tamper := 2 }
  else
    let d := (d.setTwin fun t => { t with handover := none, tamper := 0 }).wn Reg.TWIN_EPOCH (d.rn Reg.TWIN_EPOCH + 1)
    ((((d.inc Reg.TWIN_SWITCHOVER_CNT).raise Reg.TWIN_EVENT 32).twinTo 3).twinCause 3).twinSyncing

/-! ### Opcodes of the 0x0Bxx family -/

/-- TWIN_STATUS_GET (0x0B00). -/
def opTwinStatus (d : Dev) (c : Cmd) : Dev × Ans :=
  check d [(c.payload.length ≠ 0, St.badLength)]
    (d, .done St.ok (d.regBytes [Reg.TWIN_STATUS, Reg.TWIN_EPOCH, Reg.TWIN_PEER_EPOCH, Reg.TWIN_POD_STATUS, Reg.TWIN_COPY_LAST, Reg.TWIN_KCMP_MASK]))

/-- TWIN_SWITCHOVER (0x0B01), at its quiet pip L (R422): the copy of this pip is the handover copy. -/
def opTwinSwitchover (d : Dev) (c : Cmd) : Dev × Ans :=
  check d [(c.payload.length ≠ 4, St.badLength), (num c.payload 0 4 ≠ 0, St.badParam), (d.twinState ≠ 4, St.f0), (!d.inSync, St.notSynced), (d.twin.handover.isSome, St.busy)]
    (d.setTwin fun t => { t with handover := some c.id }, .running)

/-- TWIN_RESYNC (0x0B02). -/
def opTwinResync (d : Dev) (c : Cmd) : Dev × Ans :=
  check d [(c.payload.length ≠ 4, St.badLength), (num c.payload 0 4 ≠ 0, St.badParam), (d.twinState = 4 || d.twinState = 0, St.f0)]
    (if d.twinState = 1 then d else d.twinSyncing, .done St.ok [])

/-- TWIN_KCMP_GET (0x0B03). -/
def opTwinKcmp (d : Dev) (c : Cmd) : Dev × Ans :=
  let m := num c.payload 0 1
  check d [(c.payload.length ≠ 4, St.badLength), (num c.payload 1 3 ≠ 0, St.badParam), (31 < m, St.badParam), (d.twin.peerAdv.isNone, St.f1)] <|
    let a := d.advance m
    let b := (d.twin.peerAdv.getD []).getD m (0, 0)
    (d, .done St.ok (leN a.1 8 ++ leN a.2 8 ++ leN b.1 8 ++ leN b.2 8))

end Sys2Proof.Machine
end

