-- ==== Sys2Proof/Machine/Time.lean ====
section
/-!
DEFINITION. The time unit (03_pip_and_time.md): TB0 and the pip number, the PTP servo, steps and renumbering, the 0x06xx opcodes.
-/
namespace Sys2Proof.Machine

/-- Change the time unit. -/
def Dev.setTime (d : Dev) (f : TimeU → TimeU) : Dev := { d with time := f d.time }

/-- The servo state (TIME_STATUS.state). -/
def Dev.servo (d : Dev) : Servo :=
  match d.fld Reg.TIME_STATUS 2 0 with
  | 0 => .start
  | 1 => .locked
  | 2 => .holdover
  | 3 => .recovery
  | _ => .test

/-- The code of a servo state. -/
def Servo.code : Servo → Nat
  | .start => 0
  | .locked => 1
  | .holdover => 2
  | .recovery => 3
  | .test => 4

/-- Enter a servo state. -/
def Dev.servoTo (d : Dev) (s : Servo) : Dev := d.setFld Reg.TIME_STATUS 2 0 s.code

/-- TIME_STATUS.tb1_aligned by R94; with no measurement since the agreement count was discarded there is no filtered offset, and TIME_OFFSET shows the last one (DESIGN CHOICE, log entry 77). -/
def Dev.alignShow (d : Dev) : Dev :=
  let off := d.sfld Reg.TIME_OFFSET 31 0
  let self := d.rbit Reg.TIME_STATUS 11
  let one := (d.servo = .locked && !self && !d.time.shown.isEmpty && off.natAbs ≤ 500) || (d.servo = .holdover && d.rn Reg.TIME_HOLD_PIPS < d.rn Reg.TIME_HOLDOVER_LIMIT)
    || (d.servo = .locked && self && d.time.givenTime)
  d.setBit Reg.TIME_STATUS 8 (one && !d.rbit Reg.TIME_STATUS 9 && d.time.everAligned)

/-- A record of a "log" action other than a step (R555). -/
def Dev.timeLog (d : Dev) (kind : Nat) : Dev := d.log 68 kind (d.regBytes [Reg.TIME_STATUS, Reg.TIME_OFFSET])

/-- The next pip after `p` whose number is a multiple of 4,000. -/
def nextSecond (p : Nat) : Nat := (p / 4000 + 1) * 4000

/-- Whether the last four measurements agree: within 1 µs of one another (R103). -/
def agreeing (l : List Int) : Bool :=
  match l.take 4 with
  | [a, b, c, e] => max (max a b) (max c e) - min (min a b) (min c e) ≤ 1000
  | _ => false

/-- The filtered offset: the mean of the last four measurements, or of all since the count was discarded (R103); its rounding is open. -/
def filtered (l : List Int) (n : Nat) : Int :=
  let m := l.take 4
  if m = [] then 0 else divOpen (m.foldl (· + ·) 0) m.length n

/-- A measurement whose exchange began after the last step forms agreement or counts after the step, in START, RECOVERY and TEST (R103, R609). -/
def Dev.acquire (d : Dev) (off : Int) : Dev :=
  let t := d.time
  if t.pend.isSome then d
  else if t.stepped && d.servo ≠ .test then
    let d := d.setTime fun t => { t with good := if off.natAbs ≤ 250 then t.good + 1 else 0 }
    if 16 ≤ d.time.good then (((d.setTime fun t => { t with everAligned := true }).servoTo .locked).alignShow).timeLog 0xFF else d
  else if agreeing t.meas then
    (d.setTime fun t => { t with pend := some (.agreed (nextSecond d.pip) (-(filtered t.meas d.fresh))) }).draw 1
  else d

/-- Slew within TIME_SLEW_MAX (R92): the rate correction the servo sets is open within that bound. -/
def Dev.slewTo (d : Dev) : Dev :=
  let m := d.fld Reg.TIME_SLEW_MAX 8 0 * 65536
  (d.wi Reg.TIME_RATE (max (-(m : Int)) (min m (Config.freeInt d.fresh)))).draw 1

/-- Refuse a jump (R103). -/
def Dev.refuseJump (d : Dev) (off : Int) : Dev := ((d.raise Reg.TIME_EVENT 1).inc Reg.TIME_JUMP_REFUSED_CNT).wi Reg.TIME_LAST_REFUSED (satSigned 32 off)

/-- A timestamp of this module: ticks of 8 ns (R99). -/
def ticked (ns : Int) : Int := ns / 8 * 8

/-- The mean path delay and the offset of a measurement, corrected as R99 states: by delay request-response, or peer to peer. -/
def Dev.ptpOffset (d : Dev) (m : PtpMeas) : Int × Int :=
  let n := d.fld Reg.TIME_PTP_CFG 1 1
  let inLat := d.sfld (Reg.TIME_ETH_INGRESS_LAT n) 31 0
  let egLat := d.sfld (Reg.TIME_ETH_EGRESS_LAT n) 31 0
  let asym := d.sfld (Reg.TIME_ETH_ASYM n) 31 0
  let fwd := ticked m.t2 - inLat - m.t1 - asym
  let delay := if d.rbit Reg.TIME_PTP_CFG 9 then divOpen (ticked m.t4 - inLat - (ticked m.t3 + egLat) - m.turn) 2 d.fresh
    else divOpen (fwd + (m.t4 - (ticked m.t3 + egLat) + asym)) 2 d.fresh
  (delay, fwd - delay)

/-- The messageType, domain and sequenceId of a measurement's delay request (R102). -/
def Dev.ptpRequest (d : Dev) (m : PtpMeas) : Nat × Nat × Nat := (if d.rbit Reg.TIME_PTP_CFG 9 then 2 else 1, d.fld Reg.TIME_PTP_CFG 31 24, m.seq % 65536)

/-- The event messages received count in either MAC (R99). -/
def Dev.ptpReceived (d : Dev) (m : PtpMeas) : Dev := (d.incBy (Reg.TIME_ETH_RX_EVENT 0) m.events0).incBy (Reg.TIME_ETH_RX_EVENT 1) m.events1

/-- TIME_MEAN_DELAY shows a mean path delay below 0 as 0 (R99 gives it no sign; DESIGN CHOICE, log entry 77). -/
def shownDelay (delay : Int) : Nat := delay.toNat

/-- PTP_OFFSET_MEASURED (R99, R102, R103): the corrected offset drives the servo while the PTP task runs; an exchange whose request is lost yields none, and a grandmaster measures none (R94). -/
def Dev.ptpMeasured (d : Dev) (m : PtpMeas) : Dev :=
  let d := d.ptpReceived m
  if !d.ptpRuns || !d.ethRuns || !d.rbit Reg.TIME_PTP_CFG 0 || d.rbit Reg.TIME_STATUS 11 || d.time.lost.contains (d.ptpRequest m) then d
  else
    let (delay, off) := d.ptpOffset m
    let fresh := d.time.lastStep.all (· ≤ m.began)
    let d := match m.utc with
      | some u => (d.draw 1).wn Reg.TIME_UTC_OFFSET (65536 + u % 65536)
      | none => (d.draw 1).wn Reg.TIME_UTC_OFFSET 0
    let d := d.setTime fun t => { t with shown := (off :: t.shown).take 16, meas := if fresh then (off :: t.meas).take 16 else t.meas }
    let d := ((d.wi Reg.TIME_OFFSET (satSigned 32 (filtered d.time.shown d.fresh))).wn Reg.TIME_MEAN_DELAY (shownDelay delay)).draw 1
    let small : Bool := off.natAbs ≤ d.rn Reg.TIME_JUMP_THRESH
    let d := match d.servo with
      | .locked => if small then d.slewTo else ((d.refuseJump off).wn Reg.TIME_HOLD_PIPS 0).servoTo .holdover
      | .holdover => if small then (d.slewTo.wn Reg.TIME_HOLD_PIPS 0).servoTo .locked else d.refuseJump off
      | .start => if fresh then d.acquire off else d
      | .recovery => if fresh then d.acquire off else d
      | .test => if fresh then d.acquire off else d
    d.alignShow

/-- A step pending from agreement is dropped (R609). -/
def Dev.dropStep (d : Dev) : Dev :=
  d.setTime fun t => { t with pend := match t.pend with
    | some (.agreed _ _) => none
    | p => p }

/-- The agreement count and a step pending from agreement go (R103, R609). -/
def Dev.discardCount (d : Dev) : Dev := d.dropStep.setTime fun t => { t with meas := [], shown := [], good := 0 }

/-- RECOVERY is entered by TIME_SET_STATE, or by forced selection of the TIME domain (R103, R552): agreement count 0, no step yet. -/
def Dev.enterRecovery (d : Dev) : Dev := (d.discardCount.setTime fun t => { t with stepped := false }).servoTo .recovery

/-- A master lost or changed while time is acquired (R103): in TEST the agreement count stays. -/
def Dev.masterGone (d : Dev) : Dev := if d.servo = .test then d.dropStep else d.discardCount

/-- Whether the servo is in service: LOCKED or HOLDOVER. -/
def Dev.inService (d : Dev) : Bool := d.servo = .locked || d.servo = .holdover

/-- A change of master (R103), a PTP port restart among them (R98). -/
def Dev.masterChanged (d : Dev) : Dev := (if d.inService then d.raise Reg.TIME_EVENT 4 else d.masterGone).alignShow

/-- Record what is known of the grandmaster. -/
def Dev.setGm (d : Dev) (i : PtpInfo) : Dev :=
  ((d.setTime fun t => { t with ptp := i }).wn Reg.TIME_GM_ID_HI (num i.gmId 0 4)).wn Reg.TIME_GM_ID_LO (num i.gmId 4 4)

/-- BMCA_OTHER_MASTER (R103). -/
def Dev.otherMaster (d : Dev) (i : PtpInfo) : Dev :=
  let d := ((d.setGm i).setBit Reg.TIME_STATUS 11 false).setBit Reg.TIME_STATUS 10 true
  (d.setTime fun t => { t with givenTime := false }).masterChanged

/-- ANNOUNCE_RECEIPT_TIMEOUT (R103). -/
def Dev.announceTimeout (d : Dev) : Dev :=
  if !d.rbit Reg.TIME_PTP_CFG 0 || d.rbit Reg.TIME_PTP_CFG 11 then d
  else
    let d := (d.setBit Reg.TIME_STATUS 10 false).setTime fun t => { t with ptp := { t.ptp with portState := 4 } }
    let d := match d.servo with
      | .locked => ((d.raise Reg.TIME_EVENT 2).wn Reg.TIME_HOLD_PIPS 0).servoTo .holdover
      | .holdover => d
      | .start | .recovery | .test => d.masterGone
    d.alignShow

/-- This module as grandmaster (R97): clockClass 248, the priorities of TIME_PTP_PRIO, port state MASTER. -/
def Dev.ownClock (d : Dev) : PtpInfo :=
  { gmId := (List.range 8).map Config.clockIdentity, stepsRemoved := 0, clockClass := 248, accuracy := Config.clockAccuracy.toNat, prio1 := d.fld Reg.TIME_PTP_PRIO 15 8, prio2 := d.fld Reg.TIME_PTP_PRIO 7 0, portState := 6 }

/-- BMCA_SELECTS_SELF (R97, R103), of a master-capable module. -/
def Dev.selfMaster (d : Dev) : Dev :=
  if !d.rbit Reg.TIME_PTP_CFG 11 then d
  else
    let service := d.inService
    let d := ((d.setGm d.ownClock).setBit Reg.TIME_STATUS 11 true).setBit Reg.TIME_STATUS 10 false
    if service then
      (((d.setTime fun t => { t with givenTime := true }).raise Reg.TIME_EVENT 2).wn Reg.TIME_HOLD_PIPS 0 |>.servoTo .locked).alignShow
    else d.masterGone

/-- HOLDOVER_LIMIT_REACHED (R103). -/
def Dev.holdoverLimit (d : Dev) : Dev :=
  if d.servo = .holdover && d.rn Reg.TIME_HOLD_PIPS = d.rn Reg.TIME_HOLDOVER_LIMIT then ((d.setBit Reg.TIME_STATUS 8 false).raise Reg.TIME_EVENT 16).timeLog 4 else d

/-! ### Steps and renumbering (R105 to R108) -/

/-- TB0 at the boundary after the current one (R91, R105): the next multiple of 250,000 ns at least 250 µs on. -/
def nextTb0 (tb0 : Nat) : Nat := ((tb0 + 249999) / 250000 + 1) * 250000 % (2 ^ 48 * 1000000000)

/-- The pip number that R91 gives a boundary at `tb0`: 48 bits (R88). -/
def pipAt (tb0 offs : Nat) : Nat := (tb0 / 250000 + offs) % 2 ^ 48

/-- What R108 records of a renumbering at L by Δ with k numbers skipped; the Kernel takes it in at the latch of the pip after (R184), which is the second from here where this boundary's own latch is still to come (`latch` 1). -/
def Dev.renumbered (d : Dev) (l : Nat) (delta : Int) (k latch : Nat) : Dev :=
  let d := ((d.inc Reg.TIME_RENUMBER_CNT).wn Reg.TIME_LAST_RENUMBER_PIP l).wn Reg.TIME_LAST_SKIP k
  let d := (d.raise Reg.TIME_EVENT 8).log 68 3 (leN l 6 ++ leI delta 8 ++ leN k 4)
  { d with kern := { d.kern with inbox := d.kern.inbox ++ [.renumber l k (d.kern.latches + latch)] } }

/-- TIME_STATUS as the boundary leaves it. -/
def Dev.atBound (d : Dev) : Dev := d.setTime fun t => { t with bound := d.rd Reg.TIME_STATUS }

/-- TB0_STEP (R105, R106): the pending step of the current boundary; the numbers skipped pass at the next one. A step by agreement waits for a pip that is a multiple of 4,000, a later one where a renumbering has passed its own over.
DESIGN CHOICE (log entry 77): a raise that carries TIME_PIP_OFFSET past 32 bits wraps the register; a step discards the measurements of the filtered offset with those of the agreement. -/
def Dev.tb0Step (d : Dev) : Dev :=
  let go := fun (delta : Int) =>
    let tb0 := ((d.time.tb0 : Int) + delta).toNat
    let next := pipAt (nextTb0 tb0) (d.rn Reg.TIME_PIP_OFFSET)
    let k := next - (d.pip + 1)
    let d := if next ≤ d.pip then d.incBy Reg.TIME_PIP_OFFSET (d.pip + 1 - next) else d
    ((d.setTime fun t => { t with tb0 := tb0, skip := k, pend := none, meas := [], shown := [], good := 0, lastStep := some d.pip }).renumbered d.pip delta k 0, k)
  match d.time.pend with
  | some (.agreed due delta) => if d.pip < due || d.pip % 4000 ≠ 0 then d else ((go delta).1.setTime fun t => { t with stepped := true }).atBound
  | some (.given due target id) =>
    if d.pip < due then d
    else
      let (d, k) := go ((target : Int) - d.time.tb0)
      let self := d.rbit Reg.TIME_STATUS 11
      let d := if d.servo ≠ .start && d.servo ≠ .recovery then d.alignShow
        else ((d.setTime fun t => { t with stepped := true, givenTime := self, everAligned := t.everAligned || self }).servoTo .locked).alignShow
      d.atBound.finish id St.ok (leN (d.pip + 1 + k) 8 ++ leN k 4)
  | none => d

/-- A TIME_SET_STATE acts at the boundary (R103), the last one executed in the pip (log entry 77). -/
def Dev.servoReq (d : Dev) : Dev :=
  match d.time.stateReq with
  | none => d
  | some s =>
    let d := (d.setTime fun t => { t with stateReq := none }).dropStep
    if s = .recovery then d.enterRecovery else (if s = .holdover then d.wn Reg.TIME_HOLD_PIPS 0 else d).servoTo s

/-- The PTP task pops a transmit timestamp (R100, R102): it finds the frame that it sent, a Sync's Follow_Up goes out with the stamp; an entry without a frame leaves its message lost. -/
def TimeU.pop (t : TimeU) (e : Bytes) : TimeU :=
  let m := (num e 10 1, num e 11 1, num e 12 2)
  if t.sent.contains m then { t with sent := t.sent.filter (· ≠ m), followUp := if m.1 = 0 then e else t.followUp } else { t with lost := m :: t.lost.filter (· ≠ m) }

/-- The PTP task empties both transmit timestamp queues (R100). -/
def TimeU.popAll (t : TimeU) : TimeU := { (t.txts0 ++ t.txts1).foldl TimeU.pop t with txts0 := [], txts1 := [] }

/-- The next pip begins (R91, R93, R106, R610): the device at it, and how many numbers were passed over.
DESIGN CHOICE (log entry 77): at a boundary at which both R106 has raised TIME_PIP_OFFSET and a written raise is pending, the offset ends at the greater of the two. -/
def Dev.nextPip (d : Dev) : Dev × Nat :=
  let raise := match d.time.offsRaise with
    | some v => v - d.rn Reg.TIME_PIP_OFFSET
    | none => 0
  let d := if raise = 0 then d else (d.incBy Reg.TIME_PIP_OFFSET raise).renumbered d.pip 0 raise 1
  let k := d.time.skip + raise
  let pip := (d.pip + 1 + k) % 2 ^ 48
  let tb0 := nextTb0 d.time.tb0
  let runs := d.ptpRuns
  let d := { d with pip := pip }.setTime fun t => { (if runs then t.popAll else t) with tb0 := tb0, skip := 0, offsRaise := none }
  let d := (d.wn (Reg.TIME_ETH_TXTS_LEVEL 0) d.time.txts0.length).wn (Reg.TIME_ETH_TXTS_LEVEL 1) d.time.txts1.length
  let d := if d.servo = .holdover then d.inc Reg.TIME_HOLD_PIPS else d
  (d.servoReq.alignShow.atBound, k)

/-- A transmit timestamp entry (R100), in 8 ns ticks (R99). -/
def stampEntry (s : TxStamp) : Bytes := leN s.sec 6 ++ leN (s.ns / 8 * 8) 4 ++ [byte (s.typ % 16), byte s.domain] ++ leN s.seq 2 ++ [0, 0]

/-- The messageType, domain and sequenceId of a sent message. -/
def stampMsg (s : TxStamp) : Nat × Nat × Nat := (s.typ % 16, s.domain % 256, s.seq % 65536)

/-- PTP_EVENT_SENT (R100 to R102): the PTP task, while it runs, awaits the stamp of the frame it sent; a discarded entry leaves its message lost. -/
def Dev.ptpSent (d : Dev) (s : TxStamp) : Dev :=
  let n := s.mac.val
  let e := (stampEntry s)
  let runs := d.ptpRuns
  let full := decide (16 ≤ (if n = 0 then d.time.txts0 else d.time.txts1).length)
  let d := d.setTime fun t => { t with lost := if full then (stampMsg s) :: t.lost.filter (· ≠ (stampMsg s)) else t.lost.filter (· ≠ (stampMsg s)), sent := if runs && !full then (stampMsg s) :: t.sent.filter (· ≠ (stampMsg s)) else t.sent }
  let d := d.inc (Reg.TIME_ETH_TX_EVENT n)
  let q := if n = 0 then d.time.txts0 else d.time.txts1
  if 16 ≤ q.length then (d.inc (Reg.TIME_ETH_TXTS_DROP n)).raise Reg.TIME_EVENT (if n = 0 then 32 else 64)
  else
    let d := d.setTime fun t => if n = 0 then { t with txts0 := q ++ [e] } else { t with txts1 := q ++ [e] }
    d.wn (Reg.TIME_ETH_TXTS_LEVEL n) (q.length + 1)

/-! ### Opcodes of the 0x06xx family -/

/-- TIME_GET (0x0600): all values as at the boundary of the pip of execution. -/
def opTimeGet (d : Dev) (c : Cmd) : Dev × Ans :=
  check d [(c.payload.length ≠ 0, St.badLength)]
    (d, .done St.ok (leN d.pip 6 ++ [0, 0] ++ leN (d.time.tb0 / 1000000000) 6 ++ [0, 0] ++ leN (d.time.tb0 % 1000000000) 4 ++ leN d.time.bound.toNat 4))

/-- TIME_SET_STATE (0x0601). Of two in one pip each is judged on the state in force, and the later one replaces the earlier (R103 does not say; DESIGN CHOICE, log entry 77). -/
def opTimeSetState (d : Dev) (c : Cmd) : Dev × Ans :=
  let t := num c.payload 0 1
  let goal : Option Servo :=
    if t = 3 then (if d.inService then some .recovery else none)
    else if t = 4 then (if d.inService then some .test else none)
    else if d.servo = .test then some .holdover else none
  check d [(c.payload.length ≠ 4, St.badLength), (num c.payload 1 3 ≠ 0, St.badParam), (t ≠ 1 && t ≠ 3 && t ≠ 4, St.badParam), (t = 4 && d.mode ≠ .maintenance, St.denied), (goal.isNone, St.f0)]
    (d.setTime fun u => { u with stateReq := goal }, .done St.ok [])

/-- TIME_SET_TB0 (0x0602): TB0 reads the given time at the boundary after it starts. -/
def opTimeSetTb0 (d : Dev) (c : Cmd) : Dev × Ans :=
  let sec := num c.payload 0 8
  let ns := num c.payload 8 4
  let busy := match d.time.pend with
    | some (.given _ _ _) => true
    | _ => false
  check d [(c.payload.length ≠ 12, St.badLength), (2 ^ 48 ≤ sec || 999999999 < ns, St.badParam), (d.inService, St.f0), (busy, St.busy)]
    (d.setTime fun t => { t with pend := some (.given (d.pip + 1) (sec * 1000000000 + ns) c.id) }, .running)

/-- TIME_PTP_STATUS (0x0603). -/
def opTimePtpStatus (d : Dev) (c : Cmd) : Dev × Ans :=
  let p := if d.rbit Reg.TIME_STATUS 11 then d.ownClock else d.time.ptp
  check d [(c.payload.length ≠ 0, St.badLength)]
    (d, .done St.ok (padTo 8 p.gmId ++ leN p.stepsRemoved 2 ++ [byte p.clockClass, byte p.accuracy, byte p.prio1, byte p.prio2, byte p.portState, 0]
      ++ d.regBytes [Reg.TIME_OFFSET, Reg.TIME_MEAN_DELAY]))

end Sys2Proof.Machine
end

