-- ==== Sys2Proof/Machine/Fwu.lean ====
section
/-!
DEFINITION. Shell firmware update (17_firmware_update.md): staging a bank, the checks of the boot ROM, activation, trial and confirmation.
The activation's reset is made in `Power.lean`.
-/
namespace Sys2Proof.Machine

/-- Change what stands behind the update unit. -/
def Dev.setFwu (d : Dev) (f : FwuU → FwuU) : Dev := { d with fwu := f d.fwu }

/-- Set a bank. -/
def Dev.setBank (d : Dev) (b : Bool) (k : Option FwuBank) : Dev := d.setFwu fun f => if b then { f with bankB := k } else { f with bankA := k }

/-- The running bank is in trial (R503). -/
def Dev.trial (d : Dev) : Bool := d.rbit Reg.FWU_STATUS 4

/-- Show the load in FWU_STATUS and FWU_LOADED. -/
def Dev.fwuShow (d : Dev) : Dev :=
  let d := d.setFld Reg.FWU_STATUS 1 0 (if d.fwu.staged then 2 else if d.fwu.load.isSome then 1 else 0)
  d.wn Reg.FWU_LOADED ((d.fwu.load.map fun l => l.2.2.length).getD 0)

/-- The largest image (R492). -/
def imageMax : Nat := 25165824

/-- The bank that an image's bytes make (R492). -/
def bankOf (b : Bytes) : FwuBank :=
  { version := num b 8 4, rollback := num b 16 4, safety := num b 20 4, carry := num b 6 2, oldest := num b 24 2, factory := false, data := b }

/-- The format and length rules of R492 for `len` bytes. -/
def imageForm (b : Bytes) (len : Nat) : Bool := b.take 5 == [0x4B, 0x42, 0x46, 0x57, 0x01] && num b 12 4 == len && 160 ≤ len && len ≤ imageMax

/-- Whether an image's signature verifies under the key in the ROM (R492, R493): over the SHA-384 of every byte before the last 96, which are r then s, each 48 bytes big-endian. -/
def imageSigned (b : Bytes) : Bool :=
  let n := b.length - 96
  Config.ec384Verify Config.shellSignKey (Config.sha384 (b.take n)) ((b.drop n).take 48) ((b.drop (n + 48)).take 48)

/-- The boot ROM's check of a bank, as FWU_BOOT_STATUS codes it (R493): 1 OK, 2 header, 3 rollback, 4 signature; `bad` where a boot read of it met an uncorrectable codeword (R524). -/
def Dev.bankResult (d : Dev) (b bad : Bool) : Nat :=
  match d.bank b with
  | none => 2
  | some k =>
    if bad || !(k.factory || imageForm k.data k.data.length) then 2
    else if k.rollback < d.rn Reg.FWU_ROLLBACK then 3
    else if k.factory || imageSigned k.data then 1
    else 4

/-- The bank that FWU_BEGIN opens (R494, R505): the idle one; bank A where Sprout runs from the ROM and neither passes. -/
def Dev.bankIdle (d : Dev) : Bool :=
  if d.mode = .sprout && d.fld Reg.FWU_BOOT_STATUS 15 12 = 5 then false else !d.bankRuns

/-! ### Opcodes of the 0x07xx family -/

/-- FWU_STATUS_GET (0x0700). -/
def opFwuStatus (d : Dev) (c : Cmd) : Dev × Ans :=
  check d [(c.payload.length ≠ 0, St.badLength)]
    (d, .done St.ok (d.regBytes [Reg.FWU_STATUS, Reg.FWU_BOOT_STATUS] ++ leN (d.bankVersion false) 4 ++ leN (d.bankVersion true) 4 ++ d.regBytes [Reg.FWU_LOADED, Reg.FWU_LAST_PAUSE]))

/-- A command of the load is under way until FWU_COMMAND_COMPLETE, with its reply. -/
def Dev.fwuBusy (d : Dev) (c : Cmd) (st : Nat) (pl : Bytes) : Dev × Ans := ((d.setFwu fun f => { f with busy := some (c.id, st, pl) }).fwuShow, .running)

/-- FWU_BEGIN (0x0701): a load of the idle bank opens, whose content is invalid from then on (R494 to R496). -/
def opFwuBegin (d : Dev) (c : Cmd) : Dev × Ans :=
  let p := c.payload
  let len := num p 0 4
  check d [(p.length ≠ 8, St.badLength), (len < 160 || imageMax < len, St.badParam), (d.fwu.load.isSome || d.fwu.staged || d.fwu.busy.isSome, St.busy), (d.trial, St.f2)]
    (((d.setBank d.bankIdle none).setFwu fun f => { f with load := some (len, num p 4 4, []), target := d.bankIdle }).fwuBusy c St.ok [])

/-- FWU_CHUNK (0x0702). -/
def opFwuChunk (d : Dev) (c : Cmd) : Dev × Ans :=
  let p := c.payload
  let data := p.drop 4
  check d [(p.length < 5 || 1024 < p.length, St.badLength), (d.fwu.busy.isSome, St.busy)] <|
    match d.fwu.load with
    | none => (d, .done St.f0 [])
    | some (len, ver, got) =>
      check d [(num p 0 4 ≠ got.length, St.f0), (len < got.length + data.length, St.badParam)]
        ((d.setFwu fun f => { f with load := some (len, ver, got ++ data) }).fwuBusy c St.ok [])

/-- FWU_END (0x0703): completeness, CRC and header; the bank is staged, or the load discarded (R494). -/
def opFwuEnd (d : Dev) (c : Cmd) : Dev × Ans :=
  let p := c.payload
  check d [(p.length ≠ 4, St.badLength), (d.fwu.busy.isSome, St.busy)] <|
    match d.fwu.load with
    | none => (d, .done St.f1 [])
    | some (len, _, got) =>
      let d := d.setFwu fun f => { f with load := none }
      if got.length = len && (crc32c got).toNat = num p 0 4 && imageForm got len then
        ((d.setBank d.fwu.target (some (bankOf got))).setFwu fun f => { f with staged := true }).fwuBusy c St.ok (leN (bankOf got).version 4)
      else d.fwuBusy c St.f1 []

/-- FWU_COMMAND_COMPLETE (R495): the flash erase and programming of the load's command are done. -/
def Dev.fwuDone (d : Dev) : Dev :=
  match d.fwu.busy with
  | some (id, st, pl) => (d.setFwu fun f => { f with busy := none }).finish id st pl
  | none => d

/-- Whether a register is a counter of OUT, BILL or TAG, which a reset of the application cores clears though the carry image restores the rest (R139, R254, R498). -/
def coreCounter (a : Nat) : Bool :=
  (List.range 32).any (fun n => a == Reg.OUT_FORCED_BREAK_CNT n || a == Reg.OUT_WELD_CNT n || a == Reg.OUT_SESSION_CNT n) || (List.range 64).any (fun t => a == Reg.OUT_TPL_COUNT t) ||
  [Reg.BILL_TOKEN_ACCEPT_CNT, Reg.BILL_TOKEN_REFUSE_CNT, Reg.BILL_CREDIT_STOP_CNT, Reg.TAG_RDR_POLL_CNT, Reg.TAG_RDR_CARD_CNT, Reg.TAG_RDR_COLL_CNT, Reg.TAG_RDR_TIMEOUT_CNT,
   Reg.TAG_RDR_RANDOM_CNT, Reg.TAG_EMU_ACT_CNT, Reg.TAG_EMU_WTX_CNT, Reg.TAG_FRAM_CUT_CNT, Reg.TAG_KP_KEY_CNT, Reg.TAG_KP_GHOST_CNT, Reg.TAG_KP_DROP_CNT].contains a

/-- Whether the carry image holds a register (R497): the FAB configuration, and OUT, BILL and TAG but for their counters. -/
def carried (a : Nat) : Bool :=
  match a / 0x10000 with
  | 1 => (regAt a).any (·.access == .rw)
  | 16 | 48 | 7 => !coreCounter a
  | _ => false

/-- Whether the pause keeps a register of the Shell at work (R500): the outlets' types, by which the lanes go on, the pilots' duty, the mailboxes, the power modules' values and the templates that the CAN ports go on serving (DESIGN CHOICE, log entry 87). -/
def pauseKept (a : Nat) : Bool :=
  let o := a % 0x10000
  a / 0x10000 == 16 && ((o < 0x8000 && [0x00, 0x38, 0x40, 0x44, 0x48, 0x4C, 0x50, 0x54, 0x58].contains (o % 0x400)) || (0x9000 ≤ o && o < 0xD000 && o % 0x100 ≠ 8))

/-- Whether an update pause runs: from the reset of FWU_ACTIVATE until BOOT has ended (R500). -/
def Dev.pausing (d : Dev) : Bool := d.fwu.pauseFrom.isSome && d.mode == .boot && !d.sys.inReset && d.domainRuns 0

/-- Write the carry image (R497). -/
def Dev.carryImage (d : Dev) : Carry :=
  { fmt := ((d.bank d.bankRuns).map (·.carry)).getD Config.shellCarry, regs := d.regs.filter fun e => carried e.1, out := d.out, bill := d.bill, tag := d.tag }

/-- Activate bank `b` (R497): it is marked to boot, with the carry image where one is asked for; the reset follows at the next pip (cause 6), recorded with `reason`. -/
def Dev.fwuActivate (d : Dev) (b carry : Bool) (reason : Nat) : Dev :=
  let img := if carry then some d.carryImage else none
  let d := d.setFwu fun f => { f with boot := b, prev := d.bankRuns, reason := reason, carry := img, carryAsked := carry, staged := false, load := none }
  let d := (d.inc Reg.FWU_ACTIVATE_CNT).raise Reg.FWU_EVENT 1
  { d with sys := { d.sys with resetReq := some (d.pip + 1), resetCause := 6 } }.fwuShow

/-- FWU_ACTIVATE (0x0704), at its quiet pip L (R497, R502, R505). -/
def opFwuActivate (d : Dev) (c : Cmd) : Dev × Ans :=
  let p := c.payload
  let flags := num p 4 1
  let s := d.twinState
  check d [(p.length ≠ 8, St.badLength), (num p 5 3 ≠ 0 || 3 < flags, St.badParam), (d.fwu.busy.isSome, St.busy), (!d.fwu.staged || d.bankVersion d.fwu.target ≠ num p 0 4, St.f0),
           (d.mode ≠ .sprout && s = 4 && d.inSync && flags < 2, St.f3)] <|
    if d.mode = .sprout then
      let d := (d.setFwu fun f => { f with boot := f.target, prev := f.target, reason := 0, carry := none, carryAsked := false, staged := false }).inc Reg.FWU_ACTIVATE_CNT
      ({ d with sys := { d.sys with resetReq := some (d.pip + 1), resetCause := 7 } }.fwuShow, .done St.ok [])
    else (d.fwuActivate d.fwu.target (flags % 2 = 1 && s ≠ 3) 1, .done St.ok [])

/-- End the trial: the bank is the boot bank and its rollback index the lowest accepted (R503). -/
def Dev.confirm (d : Dev) : Dev :=
  let r := ((d.bank d.bankRuns).map (·.rollback)).getD 0
  ((d.setFwu fun f => { f with trialAt := none, boot := d.bankRuns, prev := d.bankRuns }).setBit Reg.FWU_STATUS 4 false).wn Reg.FWU_ROLLBACK (max r (d.rn Reg.FWU_ROLLBACK))

/-- FWU_CONFIRM (0x0705). -/
def opFwuConfirm (d : Dev) (c : Cmd) : Dev × Ans :=
  check d [(c.payload.length ≠ 0, St.badLength)] (if d.trial then d.confirm else d, .done St.ok [])

/-- FWU_ABORT (0x0706): an open load closes, a staged bank is unstaged; the idle bank is then invalid (R495). -/
def opFwuAbort (d : Dev) (c : Cmd) : Dev × Ans :=
  check d [(c.payload.length ≠ 0, St.badLength)] <|
    if d.fwu.load.isSome || d.fwu.staged then
      (((d.setBank d.fwu.target none).setFwu fun f => { f with load := none, staged := false }).fwuShow, .done St.ok [])
    else (d, .done St.ok [])

/-- FWU_TRIAL_EXPIRY (R503): the trial has lasted FWU_CFG.trial pips; the previous bank is activated with carry. -/
def Dev.trialExpiry (d : Dev) : Dev :=
  if d.trial && d.fwu.trialAt.any (fun t => t + d.fld Reg.FWU_CFG 23 0 ≤ d.pip) && d.sys.resetReq.isNone then d.fwuActivate d.fwu.prev true 3 else d

end Sys2Proof.Machine
end

