-- ==== Sys2Proof/Machine/MemInt.lean ====
section
/-!
DEFINITION. Memory integrity and self-test (18_memory_integrity_bist.md): SECDED words, row tests and repairs, the logic BIST, the test modes and the flash.
-/
namespace Sys2Proof.Machine

/-- Change what stands behind the integrity unit. -/
def Dev.setMem (d : Dev) (f : MemU → MemU) : Dev := { d with mem := f d.mem }

/-- The memories and flash regions of R30; each has one owner, and no block uses another's. -/
inductive Region where
  | shellSram | huskSram | kernelSram | displayMemory | ledgerFlash | shellLog | bankA | bankB | configuration
  deriving DecidableEq, Repr

/-- The bytes of a region (R30). -/
def Region.bytes : Region → Nat
  | .shellSram => 8 * 2 ^ 20 | .huskSram => 2 * 2 ^ 20 | .kernelSram => 3 * 2 ^ 19 | .displayMemory => 2 ^ 19
  | .ledgerFlash => 64 * 2 ^ 20 | .shellLog => 128 * 2 ^ 20 | .bankA | .bankB => 24 * 2 ^ 20 | .configuration => 16 * 2 ^ 20

/-- The copies of Kernel records that the Shell's ledger and log region holds, as of the last latch (R30); the legal record is the Kernel's own ring. -/
def Dev.recordCopies (d : Dev) : List KRec := d.mirror.ring

/-- The macros of memory `m` (18, "Rows and spares"). -/
def memMacros (m : Nat) : Nat := [128, 32, 8].getD m 0

/-- The rows of memory `m`. -/
def memRows (m : Nat) : Nat := 512 * memMacros m

/-- The bytes of memory `m`. -/
def memBytes (m : Nat) : Nat := 65536 * memMacros m

/-- Whether a row is in the soft repair table. -/
def MemU.inTable (u : MemU) (m row : Nat) : Bool := u.repair.any fun r => r.mem = m && r.macro_ = row / 512 && r.row = row % 512

/-- Whether a row is repaired, by a fuse, or stands in the soft repair table (R511, R516). -/
def MemU.repairs (u : MemU) (m row : Nat) : Bool := u.inTable m row || (Config.fuseMap m (row / 512)).contains (row % 512)

/-- MBIST_ROW_FAIL (R515, R516): a failing row is recorded and logged; one that no repair replaces sets MEMORY_SELFTEST. The spec gives a spare row no address and no row number of its own: both are free values,
and it holds no data that a repair could move, so it sets no cause (DEDUCED, log entry 39). -/
def Dev.rowFail (d : Dev) (x : RowDefect) : Dev :=
  let addr := if x.spare then Config.freeNat d.fresh % 2 ^ 23 else x.row * 128 + x.word * 8
  let macro_ := if x.spare then x.row / 10 else x.row / 512
  let row := if x.spare then Config.freeNat (d.fresh + 1) else x.row % 512
  let d := (d.wn Reg.MEM_MBIST_FAIL_ADDR (x.mem * 2 ^ 28 + addr)).wn Reg.MEM_MBIST_FAIL_BIT x.bit
  let d := ((d.inc Reg.MEM_MBIST_FAIL_CNT).raise Reg.MEM_EVENT 2).log 77 1 ([byte x.mem, byte macro_] ++ leN row 2)
  if x.spare then d.draw 2
  else
    let d := d.setMem fun u => { u with failing := u.failing.filter (· ≠ (x.mem, x.row)) ++ [(x.mem, x.row)] }
    if d.mem.repairs x.mem x.row then d else (d.setBit Reg.MEM_STATUS 1 true).degrade 6

/-- The first defect of each failing row: a row fails once in a run (R515, R522). -/
def firstDefects (l : List RowDefect) : List RowDefect :=
  l.foldl (fun (a : List RowDefect) x => if a.any fun y => y.spare == x.spare && y.mem = x.mem && y.row = x.row then a else a ++ [x]) []

/-- Whether `addr` is a word of memory `m`'s test window (R520). -/
def inWindow (m addr : Nat) : Bool := addr % 8 = 0 && memBytes m - 4096 ≤ addr && addr < memBytes m

/-- The place of a test-window word. -/
def windowKey (m addr : Nat) : Nat := m * 512 + (addr - (memBytes m - 4096)) / 8

/-- A test-window word and its check byte. -/
def Dev.windowWord (d : Dev) (m addr : Nat) : BitVec 64 × Byte := (tget none d.mem.window (windowKey m addr)).getD (0, Config.secded 0)

/-- Store a test-window word. -/
def Dev.setWindow (d : Dev) (m addr : Nat) (w : BitVec 64) (cb : Byte) : Dev :=
  d.setMem fun u => { u with window := tset none u.window (windowKey m addr) (if w = 0 && cb = Config.secded 0 then none else some (w, cb)) }

/-- What a read of a word finds: the corrected data and the result, 0 clean, 1 corrected, 2 uncorrectable (R507). -/
def eccRead (w : BitVec 64) (cb : Byte) : BitVec 64 × Nat :=
  if Config.secded w = cb then (w, 0)
  else match (List.range 64).find? fun i => Config.secded (w ^^^ (1#64 <<< i)) = cb with
    | some i => (w ^^^ (1#64 <<< i), 1)
    | none => if (List.range 8).any fun i => Config.secded w = cb ^^^ (1#8 <<< i) then (w, 1) else (w, 2)

/-- SRAM_CORRECTABLE_ERROR (R509). -/
def Dev.sramCe (d : Dev) (m addr : Nat) : Dev := (d.inc (Reg.MEM_RAM_CE_CNT m)).wn (Reg.MEM_RAM_LAST_CE_ADDR m) (addr % 2 ^ 23)

/-- The record of an uncorrectable error (R510). -/
def Dev.sramUe (d : Dev) (m addr : Nat) : Dev := ((d.inc (Reg.MEM_RAM_UE_CNT m)).wn (Reg.MEM_RAM_LAST_UE_ADDR m) (addr % 2 ^ 23)).raise Reg.MEM_EVENT 1

/-- A read of a test-window word through its code: a correctable word is written back corrected and counted, an uncorrectable one recorded (R507, R509, R510). -/
def Dev.windowRead (d : Dev) (m addr : Nat) : Dev :=
  match d.mem.window.find? fun x => x.1 = windowKey m addr with
  | some _ =>
    let r := eccRead (d.windowWord m addr).1 (d.windowWord m addr).2
    if r.2 = 0 then d else if r.2 = 1 then (d.setWindow m addr r.1 (Config.secded r.1)).sramCe m addr else d.sramUe m addr
  | none => d

/-- The memory BIST reads a row's words and writes them back, which corrects every correctable word in it (R513); only words of the test window can differ from their codes here. -/
def Dev.scrubRow (d : Dev) (m row : Nat) : Dev :=
  (List.range 16).foldl (fun (d : Dev) i => if inWindow m (row * 128 + i * 8) then d.windowRead m (row * 128 + i * 8) else d) d

/-- MBIST_ROW_TEST (R513 to R515): the next row, when it is due; `fail` the first failing word and bit. -/
def Dev.mbistRow (d : Dev) (fail : Option (Fin 16 × Fin 72)) : Dev :=
  if !d.rbit Reg.MEM_CTRL 1 || d.pip < d.mem.rowAt then d
  else
    let m := d.fld Reg.MEM_MBIST_POS 29 28
    let row := d.fld Reg.MEM_MBIST_POS 16 0
    let next := if row + 1 < memRows m then m * 2 ^ 28 + row + 1 else (m + 1) % 3 * 2 ^ 28
    let d := ((d.scrubRow m row).wn Reg.MEM_MBIST_POS next).setMem fun u => { u with rowAt := d.pip + d.fld Reg.MEM_MBIST_CFG 7 0 }
    match fail with
    | some (w, b) => d.rowFail { spare := false, mem := m, row := row, word := w.val, bit := b.val }
    | none => d

/-- The scan chains of the logic BIST. -/
def chains : Nat := 2400

/-- LBIST_CHAIN_TEST (R517 to R519): the next chain in its slice, one in a pip; with no 20 µs free the test waits, which is counted. -/
def Dev.lbistTest (d : Dev) (free : Bool) (sig : Word) (bit : Nat) : Dev :=
  let due : Bool := d.mem.waits || decide (d.pip % max 1 (d.fld Reg.MEM_LBIST_CFG 15 0) = 0)
  if !d.rbit Reg.MEM_CTRL 0 || !due || d.mem.slice = some d.pip then d
  else if !free then (if d.mem.waits then d else (d.inc Reg.MEM_LBIST_DEFER_CNT).setMem fun u => { u with waits := true })
  else
    let c := d.fld Reg.MEM_LBIST_POS 11 0
    let d := (d.wn Reg.MEM_LBIST_POS ((c + 1) % chains)).setMem fun u => { u with waits := false, slice := some d.pip }
    let d := if c + 1 = chains then d.inc Reg.MEM_LBIST_CYCLE_CNT else d
    if sig = Config.lbistSignature c then
      let bad := d.mem.bad.filter (· ≠ (c, true))
      let d := d.setMem fun u => { u with bad := bad }
      if bad = [] && d.rbit Reg.MEM_STATUS 0 then (d.setBit Reg.MEM_STATUS 0 false).undegrade 7 else d
    else
      let d := (d.wn Reg.MEM_LBIST_FAIL (c * 65536 + bit % 2048)).wr Reg.MEM_LBIST_SIG sig
      d.setMem fun u => { u with retest := u.retest.filter (· ≠ c) ++ [c], bad := u.bad.map fun (x : Nat × Bool) => if x.1 = c then (c, false) else x }

/-- LBIST_RETEST (R518), of the chain that has waited longest: a pass makes the failure transient; a second failure is written as the first was and sets LOGIC_SELFTEST. -/
def Dev.lbistRetest (d : Dev) (x : LbistSig) : Dev :=
  match d.mem.retest with
  | [] => d
  | c :: rest =>
    let d := (d.inc Reg.MEM_LBIST_FAIL_CNT).setMem fun u => { u with retest := rest }
    if x.sig = Config.lbistSignature c then d.log 77 0xFF (d.regBytes [Reg.MEM_LBIST_FAIL, Reg.MEM_LBIST_SIG])
    else
      let d := (d.wn Reg.MEM_LBIST_FAIL (c * 65536 + x.bit % 2048)).wr Reg.MEM_LBIST_SIG x.sig
      let d := d.setMem fun u => { u with bad := u.bad.filter (fun y => y.1 ≠ c) ++ [(c, false)] }
      ((d.setBit Reg.MEM_STATUS 0 true).raise Reg.MEM_EVENT 4).degrade 7

/-- A reset of the block of chains `lo` to `hi` (R519): their next test may clear LOGIC_SELFTEST. -/
def Dev.lbistReset (d : Dev) (lo hi : Nat) : Dev := d.setMem fun u => { u with bad := u.bad.map fun (x : Nat × Bool) => if lo ≤ x.1 && x.1 ≤ hi then (x.1, true) else x }

/-- How many bits the last read of Shell flash has corrected in its worst codeword (R523): the BCH code corrects up to 40. A free value (log entry 86). -/
def Dev.flashBits (d : Dev) : Nat := Config.freeNat d.fresh % 41

/-- FLASH_REFRESH (R523): a read that corrects more than MEM_FLASH_CFG.refresh bits in a codeword has its block rewritten into a spare block. -/
def Dev.flashRefresh (d : Dev) : Dev := (if d.fld Reg.MEM_FLASH_CFG 5 0 < d.flashBits then d.inc Reg.MEM_FLASH_REFRESH_CNT else d).draw 1

/-- The record of an uncorrectable flash codeword (R524). -/
def Dev.flashUe (d : Dev) (block : Nat) : Dev := ((d.wn Reg.MEM_FLASH_LAST_UE_BLOCK (block % 2048)).inc Reg.MEM_FLASH_UE_CNT).raise Reg.MEM_EVENT 8

/-! ### Repairs (R511, R512) -/

/-- The spare rows taken in a macro: by fuses and by the table's entries. -/
def Dev.sparesTaken (d : Dev) (m k : Nat) : Nat := Config.fuseRows m k + ((d.mem.repair.filter fun r => r.mem = m && r.macro_ = k).map (·.uses)).sum

/-- BOOT after POR or the power-fail reset (R511, R516): the repairs are applied, and MEMORY_SELFTEST clears if every failing row is repaired and every replacement passed its test. -/
def Dev.repairBoot (d : Dev) (spareFails : List RowDefect) : Dev :=
  let fixed := d.mem.failing.all fun x => d.mem.repairs x.1 x.2
  let d := d.setMem fun u => { u with applied := u.repair, failing := [] }
  let d := (List.range 3).foldl (fun (d : Dev) m =>
    let soft := (d.mem.applied.filter (·.mem = m)).length
    d.wn (Reg.MEM_RAM_SPARES m) (soft * 65536 + ((List.range (memMacros m)).map fun k => Config.fuseRows m k).sum % 65536)) d
  let bad := (firstDefects spareFails).filter fun x => !x.spare && d.mem.inTable x.mem x.row
  let d := bad.foldl (fun (d : Dev) x => d.rowFail x) d
  if fixed && bad = [] && d.rbit Reg.SYS_DEGRADE_CAUSE 6 then (d.setBit Reg.MEM_STATUS 1 false).undegrade 6 else d

/-! ### Opcodes of the 0x0Fxx family -/

/-- MEM_STATUS_GET (0x0F00). -/
def opMemStatus (d : Dev) (c : Cmd) : Dev × Ans :=
  check d [(c.payload.length ≠ 0, St.badLength)]
    (d, .done St.ok (d.regBytes [Reg.MEM_STATUS, Reg.MEM_EVENT, Reg.MEM_LBIST_FAIL, Reg.MEM_MBIST_FAIL_ADDR, Reg.MEM_MBIST_FAIL_BIT, Reg.MEM_REPAIR_USED]))

/-- MEM_ECC_WRITE_RAW (0x0F01). -/
def opEccWrite (d : Dev) (c : Cmd) : Dev × Ans :=
  let p := c.payload
  let m := num p 0 1
  let a := num p 4 4
  check d [(p.length ≠ 16, St.badLength), (num p 2 2 ≠ 0, St.badParam), (2 < m || !inWindow m a, St.badParam)]
    (d.setWindow m a (BitVec.ofNat 64 (num p 8 8)) (byte (num p 1 1)), .done St.ok [])

/-- MEM_ECC_READ (0x0F02): through the normal path, so that a correctable word is written back and counted (R509, R521). -/
def opEccRead (d : Dev) (c : Cmd) : Dev × Ans :=
  let p := c.payload
  let m := num p 0 1
  let a := num p 4 4
  check d [(p.length ≠ 8, St.badLength), (num p 1 3 ≠ 0, St.badParam), (2 < m || !inWindow m a, St.badParam)] <|
    let x := d.windowWord m a
    let r := eccRead x.1 x.2
    (d.windowRead m a, .done St.ok (leN r.1.toNat 8 ++ [x.2, byte r.2, 0, 0]))

/-- The place of what a MEM_MBIST_RUN finds. -/
def mbistKey (q t : Nat) : Nat := q * 65536 + t

/-- A MEM_MBIST_RUN that is sent brings with it what it would find (log entry 15). -/
def Dev.mbistGiven (d : Dev) (q t : Nat) (l : List RowDefect) : Dev :=
  if tget [] d.mem.defects (mbistKey q t) = l then d else d.setMem fun u => { u with defects := tset [] u.defects (mbistKey q t) l }

/-- The failing rows that a run over macros `k` to `k + n - 1` of memory `m` finds: rows, and spare rows that neither a fuse nor the table's entries take (R522; DEDUCED that they are those of the named macros, log entry 39). -/
def Dev.mbistHits (d : Dev) (m k n : Nat) (l : List RowDefect) : List RowDefect :=
  firstDefects (l.filter fun x =>
    let j := if x.spare then x.row / 10 else x.row / 512
    x.mem = m && k ≤ j && j < k + n && (!x.spare || decide (d.sparesTaken m j ≤ x.row % 10)))

/-- MEM_MBIST_RUN (0x0F03): the rows and unused spare rows of the named macros at full rate; what the march finds is the command's own `defects` (log entry 15). -/
def opMbistRun (d : Dev) (c : Cmd) : Dev × Ans :=
  let p := c.payload
  let m := num p 0 1
  let k := num p 1 1
  let n := num p 2 1
  check d [(p.length ≠ 4, St.badLength), (num p 3 1 ≠ 0, St.badParam), (2 < m || n < 1 || 32 < n || memMacros m < k + n, St.badParam)] <|
    let l := d.mbistHits m k n (tget [] d.mem.defects (mbistKey c.queue c.tag))
    let d := d.setMem fun u => { u with defects := tset [] u.defects (mbistKey c.queue c.tag) [] }
    (l.foldl (fun (d : Dev) x => d.rowFail x) ((List.range (512 * n)).foldl (fun (d : Dev) i => if memRows m - 32 ≤ 512 * k + i then d.scrubRow m (512 * k + i) else d) d), .done St.ok (leN l.length 4))

/-- MEM_REPAIR_ADD (0x0F04): a row already in the table adds nothing, but moves to the next spare where the spare in use has failed (R512, "When a spare row itself fails"). -/
def opRepairAdd (d : Dev) (c : Cmd) : Dev × Ans :=
  let p := c.payload
  let m := num p 0 1
  let k := num p 1 1
  let row := num p 2 2
  let same := fun r : Repair => r.mem = m && r.macro_ = k && r.row = row
  let noSpare : Bool := 10 ≤ d.sparesTaken m k
  let reply := fun d : Dev => leN d.mem.repair.length 4
  check d [(p.length ≠ 4, St.badLength), (2 < m || memMacros m ≤ k || 511 < row, St.badParam)] <|
    match d.mem.repair.find? same with
    | some r =>
      if d.mem.applied.contains r && d.mem.failing.contains (m, k * 512 + row) then
        check d [(noSpare, St.f1)] <|
          let d := d.setMem fun u => { u with repair := u.repair.map fun (x : Repair) => if same x then { x with uses := x.uses + 1 } else x }
          (d, .done St.ok (reply d))
      else (d, .done St.ok (reply d))
    | none =>
      check d [(256 ≤ d.mem.repair.length, St.f0), (noSpare, St.f1)] <|
        let d := d.setMem fun u => { u with repair := u.repair ++ [{ mem := m, macro_ := k, row := row, uses := 1 }] }
        (d.wn Reg.MEM_REPAIR_USED d.mem.repair.length, .done St.ok (reply d))

/-- MEM_REPAIR_LIST (0x0F05). -/
def opRepairList (d : Dev) (c : Cmd) : Dev × Ans :=
  let p := c.payload
  let n := num p 1 1
  check d [(p.length ≠ 4, St.badLength), (num p 2 2 ≠ 0, St.badParam), (n < 1 || 128 < n, St.badParam)]
    (d, .done St.ok (((d.mem.repair.drop (num p 0 1)).take n).flatMap fun r => [byte r.mem, byte r.macro_] ++ leN r.row 2))

end Sys2Proof.Machine
end

