-- ==== Sys2Proof/Machine/Power.lean ====
section
/-!
DEFINITION. Power, resets, clocks and the event log's opcodes (19_power_reset_clocks.md): what each reset source resets (R31, R543), BOOT (R553), the feeds, power failure,
PLL_SYS and the clock domains.
-/
namespace Sys2Proof.Machine

/-- Change what stands behind the system unit. -/
def Dev.setSys (d : Dev) (f : Sys → Sys) : Dev := { d with sys := f d.sys }

/-! ### Saved configuration (R544) -/

/-- The block of a bit of R66, by R598. -/
def maskBlock (b : Nat) : Nat := if b = 14 then 16 else if b = 16 then 48 else b

/-- The bits of R66. -/
def maskAll : Nat := 0x17FFF

/-- Whether a mask selects only blocks of R66. -/
def maskOk (m : Nat) : Bool := (m ||| maskAll) = maskAll

/-- The blocks a mask selects; 0 selects every block of `all`. -/
def maskBits17 (m all : Nat) : List Nat := maskBits 17 (if m = 0 then all else m)

/-- Whether a register is of the copy that SYS_CFG_SAVE stores. -/
def savedReg (b a : Nat) : Bool :=
  a / 0x10000 == maskBlock b && (regAt a).any (·.access == .rw) && !((List.range 32).any fun n => a == Reg.GUARD_CH_CTRL n) && !((List.range 80).any fun n => a == Reg.LSW_CH_CMD n)

/-- The copy of a block's live RW registers. -/
def Dev.saveBlock (d : Dev) (b : Nat) : SavedBlock := { block := b, values := d.regs.filter fun e => savedReg b e.1 }

/-- Reload a block from its saved copy (R544): `lost` where the copy fails its CRC. -/
def Dev.loadBlock (d : Dev) (lost : Nat) (b : Nat) : Dev :=
  match d.sys.saved.find? (·.block = b) with
  | none => d
  | some s => if lost.testBit b then d.raise Reg.SYS_EVENT 32 else s.values.foldl (fun (d : Dev) e => { d with regs := tset 0 d.regs e.1 e.2 }) d

/-- The clock of a domain in kHz (R546): RCOSC, PLL_SYS at its full or its coasting frequency, or REFCLK; none for ETH on a coasting PLL_SYS and for a domain that hangs. -/
def Dev.domainKHz (d : Dev) (i : Nat) : Nat :=
  if !d.domainRuns i then 0
  else match d.fld Reg.SYS_CLK_STATUS (2 * i + 1) (2 * i) with
    | 0 => 50000
    | 1 => if d.rbit Reg.SYS_CLK_STATUS 28 then [200000, 100000, 150000, 0, 31250, 50000, 25000].getD i 0 else [800000, 400000, 600000, 125000, 125000, 200000, 100000].getD i 0
    | _ => 25000

/-- CFG_SAVE_COMPLETE (R544). -/
def Dev.cfgSaved (d : Dev) : Dev :=
  match d.sys.save with
  | some (id, l) =>
    (d.setSys fun s => { s with save := none, saved := l ++ s.saved.filter fun x => !(l.any (·.block = x.block)) }).finish id St.ok []
  | none => d

/-- A save completes within 400 pips of its acceptance. -/
def Dev.saveDue (d : Dev) : Dev := if d.sys.save.isSome && decide (d.sys.saveAt + 400 ≤ d.pip) then d.cfgSaved else d

/-! ### What a reset resets (R31, R543) -/

/-- The registers that no reset of their block clears: what lies in flash, latches, key cells and fuses (R254, R424, R487, R512, R557). -/
def keptRegs : List Nat :=
  [Reg.BILL_TOKEN_FLOOR, Reg.BILL_TOKEN_USED, Reg.BILL_TXN_HEAD, Reg.TWIN_CFG, Reg.KEY_TAMPER_STATUS, Reg.KEY_TAMPER_TIME, Reg.KEY_TAMPER_ARMED, Reg.KEY_KEK_GEN,
   Reg.FWU_ROLLBACK, Reg.FWU_SAFETY_VERSION, Reg.MEM_REPAIR_USED, Reg.SYS_LOG_HEAD, Reg.SYS_PFAIL_CNT]

/-- The registers of the given blocks take their Reset values, live and shadow; writes that wait for a boundary are lost. -/
def Dev.clearBlocks (d : Dev) (bs : List Nat) : Dev :=
  let gone := fun a : Nat => bs.contains (a / 0x10000)
  { d with regs := d.regs.filter (fun e => !gone e.1 || keptRegs.contains e.1), shadow := d.shadow.filter (fun e => !gone e.1),
           live := d.live.filter fun e => !gone (match e with | .set a _ _ => a | .clear a _ => a) }

/-- Show PLL_COAST in the blocks that carry it (R96, R328, R466). -/
def Dev.coastShow (d : Dev) (on : Bool) : Dev :=
  ((((d.setBit Reg.SYS_CLK_STATUS 28 on).setBit Reg.GUARD_STATUS 0 on).setBit Reg.DISP_STATUS 4 on).setBit Reg.TIME_STATUS 9 on).alignShow

/-- SPROUT and HOSTSEL are sampled at the release of a reset that begins a BOOT, and ROLE with them at that of POR and of the power-fail reset (R76, R394, R553 step 1, R570). -/
def Dev.sampleStraps (d : Dev) (role : Bool) : Dev :=
  d.wn Reg.SYS_STRAPS (b2n d.straps.hostsel * 4 + b2n d.straps.sprout * 2 + b2n (if role then d.straps.role else d.rbit Reg.SYS_STRAPS 0))

/-- A reset of the application cores during trial activates the previous bank as FWU_ACTIVATE does, with carry at 1 and reason TRIAL (R503): the carry image is that of the reset's instant (DEDUCED, log entry 87). -/
def Dev.trialReset (d : Dev) : Dev :=
  ((d.setFwu fun f => { f with boot := f.prev, reason := 3, carry := some d.carryImage, carryAsked := true }).inc Reg.FWU_ACTIVATE_CNT).raise Reg.FWU_EVENT 1

/-- The application cores and the fabric are reset (R498), and but for an activation's reset the pilot generators, which drives every CP_PWM_nn low (R568): FAB, OUT, BILL, TAG and TWIN; CORE runs from RCOSC (R552, R615); an open load of a bank is lost (R496). What the pause of an activation keeps at work goes when BOOT ends it (R500). -/
def Dev.coreReset (d : Dev) (cause : Nat) : Dev :=
  let d := if cause = 6 then d else if d.trial then d.trialReset else d.setFwu fun f => { f with carry := none, carryAsked := false }
  let role := d.roleB
  let kept := cause = 6 && !d.passive
  let held := d.regs.filter fun e => kept && pauseKept e.1
  let d := (d.clearBlocks [1, 16, 48, 7, 11]).updDrop
  let d := held.foldl (fun (d : Dev) e => { d with regs := tset 0 d.regs e.1 e.2 }) d
  let d := (d.setBit Reg.TWIN_STATUS 11 role).wn Reg.TWIN_EPOCH d.twin.stored
  let d := { d with outbox := [], out := { OutUnit.reset with flashList := d.out.flashList, flashVersion := d.out.flashVersion, tpls := if kept then d.out.tpls else [] },
                    time := { d.time with sent := [], followUp := [] }, bill := { Bill.reset with used := d.bill.used, txns := d.bill.txns, flashAccounts := d.bill.flashAccounts, flashOuts := d.bill.flashOuts, midnight := d.bill.midnight, writes := d.bill.writes },
                    tag := { TagU.reset with fram := d.tag.fram, fe := d.tag.fe, emuCell := d.tag.emuCell, accs := d.tag.accs.filter FramAcc.isField }, twin := { TwinU.reset with stored := d.twin.stored } }
  let d := (d.setFld Reg.SYS_CLK_SEL 1 0 0).setFld Reg.SYS_CLK_STATUS 1 0 0
  let d := if d.rbit Reg.SYS_CLK_STATUS 16 then
      let d := d.setBit Reg.SYS_CLK_STATUS 16 false
      if d.fld Reg.SYS_CLK_STATUS 22 16 = 0 then d.undegrade 2 else d
    else d
  let d := (if d.fwu.load.isSome then (d.setBank d.fwu.target none).setFwu fun f => { f with load := none } else d).setFwu fun f => { f with busy := none }
  let d := (d.setFwu fun f => { f with trialAt := none, pauseFrom := none }).setBit Reg.FWU_STATUS 4 false
  let d := ((d.fwuShow.lbistReset 0 1919).framServe.sampleStraps false).setMode .boot
  d.setSys fun s => { s with resetCause := cause, resetPip := d.pip, wdtAt := d.osc, resetReq := none, save := none, fabReset := true, cuts := [], pilots := s.pilots && cause == 6 }

/-- The safety core pair is reset: it sends no word until BOOT has started the safety task (R31, R38). -/
def Dev.safetyReset (d : Dev) : Dev := ((d.pairReboot.setSys fun s => { s with safetyHalt := true, safetyForced := false })).setFld Reg.FWU_STATUS 5 5 0

/-- Whether a Husk-scope reset clears a register: events, counters and measurements of HUSK and MESH, whose configuration and associations the Shell reloads (R31, "When the Husk is reset"). -/
def huskCleared (a : Nat) : Bool :=
  let b := a / 0x10000
  (b == 13 && (regAt a).any (·.access != .rw) && !((List.range 33).any fun n => a == Reg.LANE_STATUS n || a == Reg.LANE_SLAC n) && !((List.range 8).any fun n => a == Reg.T1S_STATUS n))
    || (b == 12 && (a == Reg.MESH_EVENT || (0x50 ≤ a % 0x10000 && a % 0x10000 < 0x80)))

/-- What a running mesh keeps through a Shell reset (R282): MESH's configuration, and LANE_32's level, blanking and station address. -/
def meshKept (a : Nat) : Bool :=
  (a / 0x10000 == 12 && !huskCleared a) || [Reg.LANE_CFG 32, Reg.LANE_BLANK_CFG 32, Reg.LANE_MAC_LO 32, Reg.LANE_MAC_HI 32].contains a

/-- What `meshKept` names, written over the registers of `d`. -/
def Dev.meshRegs (d kept : Dev) : Dev := (kept.regs.filter fun e => meshKept e.1).foldl (fun (d : Dev) e => { d with regs := tset 0 d.regs e.1 e.2 }) d

/-- The mesh stops, its receive ring and its numbering with it, and what `meshKept` names takes its Reset value (R31, R543). -/
def Dev.meshOff (d : Dev) : Dev := { d with mesh := { d.mesh.stop with rx := [], nextSeq := 0 }, regs := d.regs.filter fun e => !meshKept e.1 }

/-- The Husk is reset with the application cores: HUSK takes its Reset values, contexts are freed and counted as lost, and MESH's counters are cleared (R280, R312).
A mesh that runs keeps running (R282), and only waits until the front ends run again: its state and its configuration stay (DEDUCED, log entry 36). -/
def Dev.huskFullReset (d : Dev) : Dev :=
  let n := (d.clearBlocks [12, 13]).huskReset
  let n := if d.mesh.st = .off then n.meshOff else n.meshRegs d
  { n with husk := { Husk.reset with resetting := true } }.lbistReset 1920 2319

/-- The Husk alone is reset (R31); display updates running or pending are dropped, and their commands get no reply of theirs (R464; DEDUCED, log entry 85). -/
def Dev.huskScopeReset (d : Dev) : Dev := (({ d with regs := d.regs.filter fun e => !huskCleared e.1 }.huskReset).lbistReset 1920 2319).updDrop

/-- A reset of the Shell by RESET_N, the internal watchdog, an uncorrectable error or a Shell-scope command (R31). -/
def Dev.shellReset (d : Dev) (cause : Nat) : Dev := ((d.coreReset cause).safetyReset).huskFullReset

/-- The safety block after POR or the power-fail reset (R358, R362): every SLS released and HUB_STOP_N asserted until BOOT has loaded the stored image. -/
def Dev.stonePor (d : Dev) : Dev :=
  let levels := (List.range 8).foldl (fun (t : Tab SPair) p =>
    let x := d.pair p
    tset SPair.reset t p { SPair.reset with a := x.a, b := x.b, openSeen := !x.a && !x.b }) []
  { d with safe := { SafeU.reset with stored := d.safe.stored, pairs := levels, hubSince := d.osc, hubExt := d.safe.hubExt } }.clearBlocks [9]

/-- What POR and the power-fail reset share (R535, R543): every part but the Kernel and the time unit. Degrade causes whose clearing later tests decide stay (R487, R516, R519), and so does what the supply monitor has judged of the feeds (R528). -/
def Dev.fullReset (d : Dev) (cause : Nat) : Dev :=
  let kept := d.rd Reg.SYS_DEGRADE_CAUSE &&& 0x4C0
  let selftest := d.rd Reg.MEM_STATUS &&& 3
  let feeds := d.rd Reg.SYS_POWER_STATUS &&& 0xF
  let d := (d.shellReset cause).meshOff
  let d := d.keyReset.stonePor
  let d := { d with guard := [], lsw := { Lsw.reset with lastFrame := d.osc }, disp := { DispU.reset with saved := d.disp.saved }, mem := { d.mem with rowAt := 0, waits := false, slice := none, retest := [], window := [] },
                    fwu := { d.fwu with staged := false, carry := none } }
  let d := d.clearBlocks [0, 3, 4, 5, 6, 8, 10]
  let d := (((d.wr Reg.SYS_DEGRADE_CAUSE kept).wr Reg.MEM_STATUS selftest).wr Reg.SYS_POWER_STATUS feeds).lbistReset 2320 2399
  let d := ((d.setBit Reg.TWIN_STATUS 11 d.straps.role).sampleStraps true).coastShow false
  ((d.stoneEval 0).hubUpdate).setSys fun s => { s with coldClk := true, coldCfg := max s.coldCfg 1, pfailPip := none, node175Since := none }

/-- POWER_ON_RESET (R530, R93, R394): the time unit restarts at pip 0 too; a feed that rose with the module is good (R528); the strap pins as they stand. RESET_N held low holds the reset of the application cores (R540). -/
def Dev.powerOnReset (d : Dev) (good : Bool × Bool) (straps : Straps) : Dev :=
  let d := ({ d with straps := straps } : Dev).fullReset 0
  let d := { d with pip := 0, time := TimeU.reset }.clearBlocks [2]
  let d := (d.setBit Reg.SYS_POWER_STATUS 2 good.1).setBit Reg.SYS_POWER_STATUS 3 good.2
  d.setSys fun s => { s with coldCfg := 2, resetPip := 0, inReset := s.resetLow, pfReset := false, bothGoodSince := if good.1 && good.2 then some 0 else none }

/-! ### BOOT (R553) -/

/-- Whether no BOOT has brought up a bank since POR or the power-fail reset, so that this one loads what they cleared (R475, R543, R553). -/
def Dev.fullBoot (d : Dev) : Bool := d.sys.coldCfg ≠ 0

/-- PLL_SYS coasts (R548). -/
def Dev.coastBegin (d : Dev) : Dev :=
  let d := ((d.setBit Reg.SYS_CLK_STATUS 30 false).setBit Reg.SYS_CLK_STATUS 29 false).coastShow true
  (((d.raise Reg.SYS_EVENT 8).degrade 1).inc Reg.SYS_COAST_CNT).setSys fun s => { s with refValid := 0 }

/-- Steps 1 to 3 (R542, R545, R550, R553, R615). A REFCLK that has failed before them and is not valid again leaves PLL_SYS coasting at once (R548; DEDUCED, log entry 87). -/
def Dev.bootClocks (d : Dev) (b : BootIn) : Dev :=
  let c := d.sys.resetCause
  let d := d.wn Reg.SYS_RESET_CAUSE c
  let d := if c = 3 then d.inc Reg.SYS_WDT_RESET_CNT else if c = 5 then d.inc Reg.SYS_CMD_RESET_CNT else if c = 4 then d.inc Reg.MEM_CORE_UE_RESET_CNT else d
  let d := d.log 78 0xFF [byte c]
  if d.sys.coldClk then
    let d := (d.setSys fun s => { s with coldClk := false }).wn Reg.SYS_CLK_SEL 0x1555
    let d := d.setFld Reg.SYS_CLK_STATUS 13 0 0x1555
    let d := ((d.setBit Reg.SYS_CLK_STATUS 31 b.refInput).setBit Reg.SYS_CLK_STATUS 30 true).setBit Reg.SYS_CLK_STATUS 29 true
    if d.sys.refBad then d.coastBegin else d
  else (d.setFld Reg.SYS_CLK_SEL 1 0 1).setFld Reg.SYS_CLK_STATUS 1 0 1

/-- The boot bank's choice (R493, R501, R503, R504): the bank booted, none for SPROUT, with FWU_BOOT_STATUS's reason, and which banks were checked. -/
def Dev.bootChoice (d : Dev) (b : BootIn) : Option Bool × Nat × Bool × Bool :=
  let bad := fun k : Bool => if k then b.badB else b.badA
  let ok := fun k : Bool => d.bankResult k (bad k) = 1
  let want := d.fwu.boot
  let reason := d.fwu.reason
  if d.rbit Reg.SYS_STRAPS 1 then (none, 4, false, false)
  else if ok want then (some want, reason, !want, want)
  else if ok (!want) then (some (!want), 2, true, true)
  else (none, 5, true, true)

/-- FWU after step 5: the bank running, the boot status, which a reset for an uncorrectable error leaves (R510), the trial (R500 to R503). -/
def Dev.bootBank (d : Dev) (b : BootIn) (k : Bool) (reason : Nat) (chkA chkB : Bool) : Dev :=
  let act : Bool := reason = 1
  let rA := if chkA then d.bankResult false b.badA else 0
  let rB := if chkB then d.bankResult true b.badB else 0
  let d := (if d.sys.resetCause = 4 && reason = 0 then d else d.wn Reg.FWU_BOOT_STATUS (reason * 4096 + rB * 256 + rA * 16 + b2n k)).setBit Reg.FWU_STATUS 3 k
  let d := if reason = 2 then (d.inc Reg.FWU_FALLBACK_CNT).raise Reg.FWU_EVENT 2 else if reason = 3 then (d.inc Reg.FWU_FALLBACK_CNT).raise Reg.FWU_EVENT 4 else d
  let d := (d.setBit Reg.FWU_STATUS 4 false).setFwu fun f => { f with trialAt := none, boot := k, reason := 0 }
  let d := if act then
      if d.fld Reg.FWU_CFG 23 0 = 0 then d.confirm
      else (d.setBit Reg.FWU_STATUS 4 true).setFwu fun f => { f with trialAt := some d.pip }
    else d
  let safety := ((d.bank k).map (·.safety)).getD 0
  let d := if d.sys.resetCause = 6 then d else d.wn Reg.FWU_SAFETY_VERSION safety
  d.setBit Reg.FWU_STATUS 5 (decide (safety ≠ d.rn Reg.FWU_SAFETY_VERSION))

/-- Step 6: configuration from its saved copies (R543, R544); a load of LSW_ch_CFG writes it, which loads the retry counters (R380); TWIN_CFG stands as flash holds it (R424). A saved TIME_PIP_OFFSET takes effect as a write of it does, by a renumbering at the next boundary (R91, R610; DEDUCED, log entry 77). A mesh that ran through the reset keeps its configuration (R282). -/
def Dev.bootConfig (d : Dev) (b : BootIn) : Dev :=
  let husk := d.sys.resetCause ≠ 6
  let blocks := [1, 14, 16, 7, 11] ++ (if husk then [12, 13] else []) ++ (if d.fullBoot then [0, 3, 10, 6, 5, 8] else []) ++ (if d.sys.coldCfg = 2 then [2] else [])
  let clk := d.rd Reg.SYS_CLK_SEL
  let offs := d.rd Reg.TIME_PIP_OFFSET
  let twin := d.rd Reg.TWIN_CFG
  let n := if d.mesh.st = .off then d else { d with regs := d.regs.filter fun e => !meshKept e.1 }
  let n := ((blocks.foldl (fun (d : Dev) k => d.loadBlock b.lost k) n).wr Reg.SYS_CLK_SEL clk).wr Reg.TWIN_CFG twin
  let d := if d.mesh.st = .off then n else { n with regs := n.regs.filter fun e => !meshKept e.1 }.meshRegs d
  let d := if blocks.contains 8 then (List.range 80).foldl (fun (d : Dev) ch => d.retryReload ch) d else d
  let saved := d.rd Reg.TIME_PIP_OFFSET
  let d := if saved = offs then d else (d.wr Reg.TIME_PIP_OFFSET offs).setTime fun t => { t with offsRaise := some saved.toNat }
  if d.fullBoot then { d with disp := { d.disp with stress := d.disp.saved } }.keyBoot.dispRun else d

/-- Whether the new image restores the carry image, as FWU_BOOT_STATUS codes it (R499). -/
def Dev.carryCode (d : Dev) (b : BootIn) : Nat :=
  if !d.fwu.carryAsked then 0
  else match d.fwu.carry, d.bank d.bankRuns with
    | some c, some k => if b.carryBad then 3 else if k.oldest ≤ c.fmt && c.fmt ≤ k.carry then 1 else 2
    | _, _ => 3

/-- Restore the carry image (R499); what flash holds stays (R252, R254), as does what the FRAM took up during the pause. -/
def Dev.restoreCarry (d : Dev) : Dev :=
  match d.fwu.carry with
  | some c =>
    let d := (c.regs.filter fun e => !keptRegs.contains e.1).foldl (fun (d : Dev) e => { d with regs := tset 0 d.regs e.1 e.2 }) { d with regs := d.regs.filter fun e => !carried e.1 || keptRegs.contains e.1 }
    let bill := { c.bill with used := d.bill.used, txns := d.bill.txns, flashAccounts := d.bill.flashAccounts, flashOuts := d.bill.flashOuts, midnight := d.bill.midnight, writes := d.bill.writes }
    let d := { d with out := { c.out with flashList := d.out.flashList, flashVersion := d.out.flashVersion } }.setList d.out.flashList d.out.flashVersion
    { d with bill := bill, tag := { c.tag with fram := d.tag.fram, fe := d.tag.fe, emuCell := d.tag.emuCell, accs := d.tag.accs, serving := d.tag.serving, cycle := none, exch := none } }
  | none => d

/-- The session side of BOOT: the local list and BILL from flash, interrupted sessions (R124, R129, R242). -/
def Dev.bootSessions (d : Dev) : Dev :=
  let d := (d.setList d.out.flashList d.out.flashVersion).billBoot
  let d := (List.range 64).foldl (fun (d : Dev) t => if d.rbit (Reg.OUT_TPL_CFG t) 31 then d.tplArm t else d) d
  if d.twinEn then d else d.coldOutlets

/-- TAMPER_UNWATCHED_CHECK (R488): an armed input that is tripped fires the burr line. -/
def Dev.tamperCheck (d : Dev) (b : BootIn) : Dev :=
  if !b.unwatched then d
  else
    let d := (d.setBit Reg.KEY_TAMPER_STATUS 6 true).raise Reg.KEY_EVENT 8
    let t := b.tripped &&& d.fld Reg.KEY_TAMPER_ARMED 4 0
    if t = 0 then d else (d.burr t d.kern.utc).kernDo fun k => k.tamper d.pip

/-- What befell restored outlets while the application cores were away (R353, R382): cuts and coil trips take the safety-cut row now, and so does, with CONTROLLER_RESET, an outlet whose SLS_nn the Stone has released for the lost heartbeat (DEDUCED, log entry 87). -/
def Dev.carryCuts (d : Dev) : Dev :=
  let d := d.sys.cuts.foldl (fun (d : Dev) x => if (d.ost x.1).running then d.outCut x.1 x.2 else d) d
  (List.range 32).foldl (fun (d : Dev) n => if (d.ost n).running && !d.sls n then d.outCut n 14 else d) d

/-- Steps 7 to 9, once a bank runs. What went on through a pause goes on where the carry image is restored, and ends otherwise (R499, R500). -/
def Dev.bootUp (d : Dev) (b : BootIn) : Dev :=
  let held := d.regs.filter fun e => d.sys.resetCause = 6 && pauseKept e.1
  let tpls := d.out.tpls
  let d := ({ d with regs := d.regs.filter (fun e => !pauseKept e.1), out := { d.out with tpls := [] } } : Dev).bootConfig b
  let carry := d.carryCode b
  let d := if d.sys.resetCause = 4 && carry = 0 then d else d.setFld Reg.FWU_BOOT_STATUS 19 16 carry
  let d := if carry ≠ 1 then d else if d.sys.resetCause ≠ 6 then d.restoreCarry
    else held.foldl (fun (d : Dev) e => { d with regs := tset 0 d.regs e.1 e.2 }) { d.restoreCarry with out := { d.restoreCarry.out with tpls := tpls }, regs := d.restoreCarry.regs.filter fun e => !pauseKept e.1 }
  let d := (d.setFwu fun f => { f with carry := none, carryAsked := false }).tamperCheck b
  let d := (((d.setBit Reg.TAG_STATUS 8 b.antenna).setFe fun f => { f with ant := b.antenna }).framShow.rdrShow).framServe
  let d := if d.fullBoot then d.safeBoot else (d.setStaging (if d.safe.active = [] then d.staging else d.safe.active)).cfgPending
  let d := d.setSys fun s => { s with safetyHalt := if d.sys.resetCause = 6 then s.safetyHalt else false }
  let d := if carry = 1 then d else d.bootSessions
  let d := if d.rbit Reg.KEY_TAMPER_STATUS 7 then d.degrade 10 else d
  let d := if carry = 1 then (List.range 32).foldl (fun (d : Dev) n => d.coilShow n) d else d.lswBoot
  let d := (List.range 32).foldl (fun (d : Dev) n => d.guardTask n) d
  let d := if carry = 1 then d.carryCuts else d
  let d := if d.mesh.st = .off && d.rbit Reg.MESH_CTRL 0 then d.meshEnable else d
  let d := d.setMode (if d.rn Reg.SYS_DEGRADE_CAUSE = 0 then .service else .degraded)
  let d := if d.twinEn then d.twinStart else d
  (d.setSys fun s => { s with coldCfg := 0, cuts := [], wdtAt := d.osc }).wn Reg.SYS_BOOT_PIPS (d.pip - d.sys.resetPip)

/-- SPROUT (R504, R505): the safety core pair does not run; over UDP the ROM uses FAB_UDP_IP from the configuration region, or 169.254.64.32. -/
def Dev.sprout (d : Dev) (b : BootIn) : Dev :=
  let d := if b.lost.testBit 1 then d else
    (d.sys.saved.find? (·.block = 1)).elim d fun s => { d with regs := tset 0 d.regs Reg.FAB_UDP_IP (tget 0 s.values Reg.FAB_UDP_IP) }
  let d := if d.rn Reg.FAB_UDP_IP = 0 then d.wn Reg.FAB_UDP_IP 0xA9FE4020 else d
  (((d.setSys fun s => { s with safetyHalt := true, wdtAt := d.osc }).setFwu fun f => { f with pauseFrom := none, carry := none, carryAsked := false }).setMode .sprout).wn Reg.SYS_BOOT_PIPS (d.pip - d.sys.resetPip)

/-- BOOT (R553): from the release of a reset to SERVICE, DEGRADED or SPROUT. -/
def Dev.boot (d : Dev) (b : BootIn) : Dev :=
  if d.mode ≠ .boot || d.sys.inReset then d
  else
    let cold := d.sys.coldClk
    let d := d.bootClocks b
    let d := if cold then (d.wn Reg.KEY_KEK_GEN d.key.kekGen).repairBoot b.spareFails else d
    match d.bootChoice b with
    | (some k, reason, chkA, chkB) => (d.bootBank b k reason chkA chkB).bootUp b
    | (none, reason, chk, _) =>
      let rA := if chk then d.bankResult false b.badA else 0
      let rB := if chk then d.bankResult true b.badB else 0
      ((d.wn Reg.FWU_BOOT_STATUS (reason * 4096 + rB * 256 + rA * 16)).tamperCheck b).sprout b

/-! ### Resets by pin, watchdog and command -/

/-- RESET_N_PIN (R540): held low it resets; BOOT begins at its release. A power-fail reset in force, whose scope takes in that of the pin, goes on by itself, and ends with the later of the two (DEDUCED, log entry 87). -/
def Dev.resetPin (d : Dev) (low : Bool) : Dev :=
  let d := d.setSys fun s => { s with resetLow := low }
  if d.sys.pfReset then d
  else if low then (d.shellReset 2).setSys fun s => { s with inReset := true }
  else if d.sys.inReset then (d.sampleStraps false).setSys fun s => { s with inReset := false, resetPip := d.pip, wdtAt := d.osc } else d

/-- The watchdog's limit in pips: SYS_WDT_CFG.timeout, and 8,000 during BOOT (R541). -/
def Dev.wdtLimit (d : Dev) : Nat := if d.mode == .boot then 8000 else d.fld Reg.SYS_WDT_CFG 11 0

/-- INTERNAL_WATCHDOG_EXPIRY (R541): the application cores have missed it for its limit, which they cannot have done before so long has passed since the end of BOOT, or in BOOT since the release of the reset, by RCOSC. -/
def Dev.watchdog (d : Dev) : Dev := if d.sys.inReset || decide (d.osc < d.sys.wdtAt + d.wdtLimit) then d else d.shellReset 3

/-- The reset that a command has asked for (R497, R505, R556), after the frame of its pip or at the latest at its end. -/
def Dev.resetDue (d : Dev) : Dev :=
  if due d.sys.resetReq d.pip then
    if d.sys.resetCause = 6 then (d.coreReset 6).setFwu fun f => { f with pauseFrom := some d.pip } else d.shellReset d.sys.resetCause
  else d

/-! ### Feeds and power failure (R527 to R537) -/

/-- The good bit of a feed (false VFEED_A, true VFEED_B). -/
def feedBit (f : Bool) : Nat := if f then 3 else 2

/-- Whether a feed is marked fitted. -/
def Dev.fitted (d : Dev) (f : Bool) : Bool := d.rbit Reg.SYS_FEED_CFG (if f then 1 else 0)

/-- FEED_GOOD (R528). -/
def Dev.feedGood (d : Dev) (f : Bool) : Dev :=
  let d := d.setBit Reg.SYS_POWER_STATUS (feedBit f) true
  if d.rbit Reg.SYS_POWER_STATUS 2 && d.rbit Reg.SYS_POWER_STATUS 3 then d.setSys fun s => { s with bothGoodSince := some (s.bothGoodSince.getD d.pip) } else d

/-- FEED_LOST (R529). -/
def Dev.feedLost (d : Dev) (f : Bool) : Dev :=
  if !d.rbit Reg.SYS_POWER_STATUS (feedBit f) then d
  else
    let d := (d.setBit Reg.SYS_POWER_STATUS (feedBit f) false).setSys fun s => { s with bothGoodSince := none }
    if d.fitted f && d.fitted (!f) && d.rbit Reg.SYS_POWER_STATUS (feedBit (!f)) then ((d.degrade 0).raise Reg.SYS_EVENT (if f then 2 else 1)).inc Reg.SYS_FEED_LOSS_CNT else d

/-- FEED_LOSS_CLEAR (R529): both feeds good for 4,000 pips. -/
def Dev.feedLossClear (d : Dev) : Dev :=
  if d.rbit Reg.SYS_DEGRADE_CAUSE 0 && d.sys.bothGoodSince.any (fun t => t + 4000 ≤ d.pip) then d.undegrade 0 else d

/-- POWER_FAIL (R531, R532): BILL's, the display's and the tag unit's power-fail work; the Kernel's follows at the end of the pip (`Dev.pfailEnd`); `lines` of a host FRAM access in progress are written. -/
def Dev.powerFail (d : Dev) (lines : Nat) : Dev :=
  if d.rbit Reg.SYS_POWER_STATUS 5 then d
  else
    let d := ((d.setBit Reg.SYS_POWER_STATUS 5 true).inc Reg.SYS_PFAIL_CNT).setSys fun s => { s with pfailPip := some d.pip }
    (d.billSave.dispRun.dispSave.framCut lines).passportNow

/-- The end of the PFAIL pip: the Kernel's power-fail work, once every sample of that pip has been integrated (R235). -/
def Dev.pfailEnd (d : Dev) : Dev := if d.rbit Reg.SYS_POWER_STATUS 5 && !d.sys.pfReset && !d.kern.pfail then d.kernDo fun k => k.powerFail d.pip else d

/-- HOLDUP_COLLAPSE (R534): with the Kernel's commit unfinished, records not yet programmed are lost. -/
def Dev.holdupCollapse (d : Dev) : Dev :=
  if d.rbit Reg.SYS_POWER_STATUS 5 && !(d.kern.pfail && d.kern.commitOk) then d.kernDo fun k => k.collapse d.pip else d

/-- POWER_FAIL_RESET (R535): with the ORed node above 17.5 V for 80 pips and the power-fail work done, the power-fail reset is asserted until the next pip. -/
def Dev.powerFailReset (d : Dev) : Dev :=
  if d.rbit Reg.SYS_POWER_STATUS 5 && d.kern.pfail && d.kern.commitOk && d.sys.node175Since.any (fun t => t + 80 ≤ d.pip) then
    (d.fullReset 1).setSys fun s => { s with inReset := true, pfReset := true }
  else d

/-- The release of the power-fail reset, one pip after it was asserted: bring-up follows as after POR, once RESET_N is high too (R540), and the Kernel restores at this latch (R535). -/
def Dev.pfailRelease (d : Dev) : Dev :=
  if d.sys.pfReset then (((d.setBit Reg.TWIN_STATUS 11 d.straps.role).sampleStraps true).setSys fun s => { s with resetPip := d.pip, wdtAt := d.osc, inReset := s.resetLow, pfReset := false }).kernDo fun k => k.toBoundary.restore d.pip d.pip k.toBoundary.now true else d

/-- What the pip boundary measures of the supply (R528, R531, R537), VBAT once per second, and the levels of the strap pins, which act at the next sampling (R570). -/
def Dev.powerPip (d : Dev) (i : PipIn) : Dev :=
  let d := { d with straps := i.straps }
  let node := max i.feedA i.feedB
  let d := (d.wn Reg.SYS_FEED_A (min i.feedA 0xFFFF)).wn Reg.SYS_FEED_B (min i.feedB 0xFFFF)
  let d := (d.setBit Reg.SYS_POWER_STATUS 0 i.diodeA).setBit Reg.SYS_POWER_STATUS 1 i.diodeB
  let d := (d.setBit Reg.SYS_POWER_STATUS 4 (decide (node < 1600))).wn Reg.SYS_TEMP (ofSigned 16 i.temp)
  let d := d.setSys fun s => { s with node175Since := if 1750 < node then some (s.node175Since.getD d.pip) else none }
  if d.pip % 4000 ≠ 0 then d
  else
    let d := (d.wn Reg.SYS_VBAT (min i.vbat 0xFFFF)).setBit Reg.SYS_POWER_STATUS 6 (decide (i.vbat < 2700))
    if i.vbat < 2700 then (d.degrade 3).raise Reg.SYS_EVENT 4
    else if 2800 ≤ i.vbat then d.undegrade 3
    else d

/-! ### Clocks (R545 to R552) -/

/-- REFCLK_FAIL (R548): PLL_SYS coasts; where it does already its wait for 4,000 pips of a valid REFCLK begins again; where BOOT has still to lock it, step 3 finds REFCLK failed. -/
def Dev.refclkFail (d : Dev) : Dev :=
  let d := d.setSys fun s => { s with refBad := true, refValid := 0 }
  if d.sys.coldClk then d
  else if d.rbit Reg.SYS_CLK_STATUS 28 then d.setBit Reg.SYS_CLK_STATUS 30 false
  else d.coastBegin

/-- What a pip boundary finds of a REFCLK that has failed (R548, R615): refclk_ok follows it, and the coasting pips through which it has been valid count. -/
def Dev.refTick (d : Dev) (ok : Bool) : Dev :=
  let coast := d.rbit Reg.SYS_CLK_STATUS 28
  let d := d.setSys fun s => { s with refBad := !ok && (s.refBad || coast), refValid := if coast && ok then s.refValid + 1 else 0 }
  if coast then d.setBit Reg.SYS_CLK_STATUS 30 ok else d

/-- PLL_RELOCK (R548): REFCLK has been valid for 4,000 coasting pips. -/
def Dev.pllRelock (d : Dev) : Dev :=
  if !d.rbit Reg.SYS_CLK_STATUS 28 || decide (d.sys.refValid < 4000) then d
  else (((d.setBit Reg.SYS_CLK_STATUS 30 true).setBit Reg.SYS_CLK_STATUS 29 true).coastShow false).undegrade 1

/-- CLK_MUX_HANG (R551). -/
def Dev.muxHang (d : Dev) (i : Nat) : Dev := (((d.setBit Reg.SYS_CLK_STATUS (16 + i) true).raise Reg.SYS_EVENT 16).inc Reg.SYS_MUX_HANG_CNT).degrade 2

/-- A write of SYS_CLK_SEL takes effect: the domains run from their new sources (R550, R615). -/
def Dev.clkSel (d : Dev) (v : Word) : Dev := (d.wr Reg.SYS_CLK_SEL v).setFld Reg.SYS_CLK_STATUS 13 0 (wfld v 13 0)

/-- A reset of the safety core pair starts the safety task of the running image (R503). -/
def Dev.safetyTask (d : Dev) : Dev := (d.wn Reg.FWU_SAFETY_VERSION (((d.bank d.bankRuns).map (·.safety)).getD 0)).setBit Reg.FWU_STATUS 5 false

/-- FORCED_SELECTION of a domain other than CORE (R552), with what its owner does while it is held in reset. -/
def Dev.forceSel (d : Dev) (i src : Nat) : Dev :=
  let d := (d.setFld Reg.SYS_CLK_SEL (2 * i + 1) (2 * i) src).setFld Reg.SYS_CLK_STATUS (2 * i + 1) (2 * i) src
  let d := d.inc Reg.SYS_CMD_RESET_CNT
  let d := if i = 1 then (d.pairReboot.safetyTask).setSys fun s => { s with safetyHalt := true, safetyForced := true }
    else if i = 2 then d.huskScopeReset
    else if i = 4 then d.enterRecovery.alignShow
    else d
  let d := d.setBit Reg.SYS_CLK_STATUS (16 + i) false
  if d.fld Reg.SYS_CLK_STATUS 22 16 = 0 then d.undegrade 2 else d

/-! ### Opcodes of the 0x00xx family -/

/-- SYS_STATUS_GET (0x0000). -/
def opSysStatus (d : Dev) (c : Cmd) : Dev × Ans :=
  check d [(c.payload.length ≠ 0, St.badLength)]
    (d, .done St.ok (d.regBytes [Reg.SYS_MODE, Reg.SYS_DEGRADE_CAUSE, Reg.SYS_RESET_CAUSE, Reg.SYS_POWER_STATUS, Reg.SYS_CLK_STATUS, Reg.SYS_BOOT_PIPS]))

/-- SYS_INFO (0x0001). -/
def opSysInfo (d : Dev) (c : Cmd) : Dev × Ans :=
  check d [(c.payload.length ≠ 0, St.badLength)]
    (d, .done St.ok ((List.range 12).map Config.serial ++ [if Config.gradeIsM then 0x4D else 0x45, byte (d.fld Reg.SYS_STRAPS 7 0), 0, 0] ++ leN (d.bankVersion d.bankRuns) 4 ++ leN Config.bootRomVersion.toNat 4))

/-- SYS_RESET (0x0002): scope Shell at its quiet pip L (R556); scope Husk at once, completed when the front ends run again (R282). -/
def opSysReset (d : Dev) (c : Cmd) : Dev × Ans :=
  let p := c.payload
  let scope := num p 0 1
  check d [(p.length ≠ 4, St.badLength), (num p 1 3 ≠ 0, St.badParam), (scope ≠ 1 && scope ≠ 2, St.badParam)] <|
    if scope = 1 then (d.setSys fun s => { s with resetReq := some (d.pip + 1), resetCause := 5 }, .done St.ok [])
    else
      let d := d.huskScopeReset.inc Reg.SYS_CMD_RESET_CNT
      ({ d with husk := { d.husk with resetWaits := d.husk.resetWaits ++ [c.id] } }, .running)

/-- SYS_FORCE_SEL (0x0003). -/
def opForceSel (d : Dev) (c : Cmd) : Dev × Ans :=
  let p := c.payload
  let i := num p 0 1
  let src := num p 1 1
  check d [(p.length ≠ 4, St.badLength), (num p 2 2 ≠ 0, St.badParam), (i < 1 || 6 < i || 2 < src, St.badParam)] (d.forceSel i src, .done St.ok [])

/-- SYS_SET_MODE (0x0004; R18, R20). -/
def opSetMode (d : Dev) (c : Cmd) : Dev × Ans :=
  let p := c.payload
  let m := num p 0 1
  let busy := (List.range 32).any fun n => let s := d.ost n; s == .precharge || s == .energy || s == .rampdown || s == .weldCheck
  check d [(p.length ≠ 4, St.badLength), (num p 1 3 ≠ 0, St.badParam), (m ≠ 2 && m ≠ 3, St.badParam), (m == 2 && busy, St.busy)] <|
    let d := if m = 2 then d.setMode .maintenance
      else if d.mode = .maintenance then d.setMode (if d.rn Reg.SYS_DEGRADE_CAUSE = 0 then .service else .degraded) else d
    (d, .done St.ok [byte d.mode.code, 0, 0, 0])

/-- SYS_CFG_SAVE (0x0005; R544). -/
def opCfgSave (d : Dev) (c : Cmd) : Dev × Ans :=
  let p := c.payload
  let m := num p 0 4
  check d [(p.length ≠ 4, St.badLength), (!maskOk m || m.testBit 9, St.badParam), (d.sys.save.isSome, St.busy)]
    (d.setSys fun s => { s with saveAt := d.pip, save := some (c.id, (maskBits17 m (maskAll - 512)).filter (· ≠ 15) |>.map d.saveBlock) }, .running)

/-- SYS_LOG_READ (0x0006; R608). -/
def opLogRead (d : Dev) (c : Cmd) : Dev × Ans :=
  let p := c.payload
  let n := num p 4 1
  let head := d.rn Reg.SYS_LOG_HEAD
  let oldest := (d.sys.log.getLast?.map (·.seq)).getD 1
  check d [(p.length ≠ 8, St.badLength), (num p 5 3 ≠ 0, St.badParam), (n < 1 || 31 < n, St.badParam)]
    (logRead d head oldest (num p 0 4) n St.f0 fun s => ((d.sys.log.find? (·.seq = s)).map (·.bytes)).getD [])

end Sys2Proof.Machine
end

