-- ==== Sys2Proof/Machine/Regs.lean ====
section
/-!
DEFINITION. Register access (R9 to R15, R601, R602, R605): what a read returns, the checks of a write, the three classes of write, the shadows and their commit, and what a write of a register with behaviour of its own does.
-/
namespace Sys2Proof.Machine

/-! ### Reading -/

/-- Whether an address lies in the KERN span (R15). -/
def inKern (a : Nat) : Bool := 0x200000 ≤ a && a < 0x300000

/-- The value a read of a defined register outside the KERN span returns: the time unit's counters, the strap, the bank versions and, until BOOT has started it, the safety task version in flash are views of other state. -/
def Dev.view (d : Dev) (a : Nat) : Word :=
  if a = Reg.TIME_PIP_LO then word d.pip
  else if a = Reg.TIME_PIP_HI then word (d.pip / 2 ^ 32 % 65536)
  else if a = Reg.TIME_TB0_SEC_LO then word (d.time.tb0 / 1000000000)
  else if a = Reg.TIME_TB0_SEC_HI then word (d.time.tb0 / 1000000000 / 2 ^ 32 % 65536)
  else if a = Reg.TIME_TB0_NS then word (d.time.tb0 % 1000000000)
  else if a = Reg.FAB_HOST_SEL then word (d.fld Reg.SYS_STRAPS 2 2)
  else if a = Reg.FWU_BANK_A_VERSION then word (d.bankVersion false)
  else if a = Reg.FWU_BANK_B_VERSION then word (d.bankVersion true)
  else if a = Reg.FWU_SAFETY_VERSION && d.mode == .boot && d.sys.coldClk then word (((d.bank d.fwu.boot).map (·.safety)).getD 0)
  else d.rd a

/-- The word at an address, if a register is defined there (R13, R28). -/
def Dev.readWord (d : Dev) (a : Nat) : Option Word :=
  if a % 4 ≠ 0 then none
  else if inKern a then d.mirror.word (a - 0x200000)
  else if (regAt a).isSome then some (d.view a) else none

/-- The shadow of a Framed register. -/
def Dev.readShadow (d : Dev) (a : Nat) : Option Word :=
  if a % 4 ≠ 0 then none
  else match regAt a with
    | some r => if r.cls = .framed then some (d.shadowAt a) else none
    | none => none

/-- Consecutive words, or none if one is missing (R601). -/
def readRun (f : Nat → Option Word) (a : Nat) : Nat → Option Bytes
  | 0 => some []
  | k + 1 => match f a, readRun f (a + 4) k with
    | some w, some bs => some (leN w.toNat 4 ++ bs)
    | _, _ => none

/-! ### The checks of a write (R602) -/

/-- Bits of the KERN registers that their field tables call reserved. -/
def kernReserved (a : Nat) : Word :=
  let o := a - 0x200000
  if o = 0x004 then 0xFFFF8E08
  else if o = 0x800 then 0xFFFF0000
  else if o = 0x804 then 0xFFFFF0F8
  else if 0x820 ≤ o && o < 0x860 && o % 16 = 0 then 0x00FE0000
  else if 0x1000 ≤ o && o < 0x9000 && o % 0x400 = 0 then 0xFFFFF000
  else if 0x1000 ≤ o && o < 0x9000 && o % 0x400 = 4 then 0xFFF0FCE8
  else if 0x1000 ≤ o && o < 0x9000 && o % 0x400 = 0x10C then 0xFFFFF000
  else 0

/-- Whether OUT_n is a slot taken by a CCS-AC outlet (R115). -/
def slotTaken (ty : Nat → Nat) (n : Nat) : Bool := (1 ≤ n && ty (n - 1) = 2) || (2 ≤ n && ty (n - 2) = 2)

/-- The slot rules for a type of OUT_n (R116). -/
def slotOk (ty : Nat → Nat) (n t : Nat) : Bool :=
  !(t = 3 && n < 24) && !(t = 2 && 29 < n) && !(t = 2 && (ty (n + 1) ≠ 0 || ty (n + 2) ≠ 0)) && !(t ≠ 0 && slotTaken ty n)

/-- Whether the first `n` entries of a list of places are all different. -/
def noRepeat : List (Nat × Nat) → Bool
  | [] => true
  | x :: l => !l.contains x && noRepeat l

/-- The format of a template (R140): bit-rate switching and DLC codes above 8 are CAN FD's, enabled or not. -/
def tplFormatOk (c : Word) : Bool := wbit c 27 || (decide (wfld c 19 16 ≤ 8) && !wbit c 26)

/-- A template checked as a whole when it is enabled (R131, R140): each field's extent and source, no overlap. -/
def tplOk (w : Nat → Word) (t : Nat) : Bool :=
  let c := w (Reg.OUT_TPL_CFG t)
  let len := dlcBytes (wfld c 19 16)
  let fs := (List.range (wfld c 15 12 + 1)).map fun f => w (Reg.OUT_TPL_FPOS t f)
  let src := fun (p : Word) => let s := wfld p 31 27; if wbit c 30 then decide (16 ≤ s ∧ s ≤ 20) else decide (1 ≤ s ∧ s ≤ 7)
  let places := fs.flatMap fun p => (List.range (wfld p 15 11 + 1)).map fun k => bitPlace (wbit p 26) (wfld p 24 16 + k)
  fs.all src && places.all (fun x => decide (x.1 < len)) && noRepeat places

/-- Whether two regions overlap (R460). -/
def regionsMeet (a b : Word) : Bool :=
  decide (wfld a 30 24 ≤ wfld b 22 16) && decide (wfld b 30 24 ≤ wfld a 22 16) && decide (wfld a 13 8 ≤ wfld b 5 0) && decide (wfld b 13 8 ≤ wfld a 5 0)

/-- The stated ranges of LSW_ch_CFG and LSW_ch_HOLD that differ between coil and auxiliary channels (R393). -/
def lswRangeOk (ch : Nat) (hold : Bool) (v : Word) : Bool :=
  let coil := decide (ch < 64)
  if hold then
    if coil then decide (20 ≤ wfld v 25 16 ∧ wfld v 25 16 ≤ 240 ∧ 100 ≤ wfld v 9 0 ∧ wfld v 9 0 ≤ 1000)
    else decide (120 ≤ wfld v 25 16 ∧ wfld v 25 16 ≤ 320 ∧ wfld v 9 0 = 0)
  else
    let common := decide (1 ≤ wfld v 23 16 ∧ 1 ≤ wfld v 15 8 ∧ wfld v 15 8 ≤ 200)
    common && if coil then decide ((wfld v 31 30 = 0 ∨ wfld v 31 30 = 2) ∧ wfld v 29 28 ≤ 1 ∧ 2 ≤ wfld v 7 0 ∧ wfld v 7 0 ≤ 50)
      else decide (wfld v 31 30 ≤ 2 ∧ wfld v 29 28 ≤ 2 ∧ wfld v 7 0 = 0)

/-- The rules that a block states beyond the ranges of single fields; `w` gives the values as the whole write leaves them. -/
def Dev.ruleOk (d : Dev) (w : Nat → Word) (a : Nat) (v : Word) : Bool :=
  let b := a / 0x10000
  let o := a % 0x10000
  if b = 16 then
    if o < 0x8000 && o % 0x400 = 0 then
      let n := o / 0x400
      decide (wfld v 2 0 = d.outType n) || slotOk (fun m => if 31 < m then 0 else wfld (w (Reg.OUT_CFG m)) 2 0) n (wfld v 2 0)
    else if 0x9000 ≤ o && o % 0x100 = 0 then tplFormatOk v && (!wbit v 31 || tplOk w ((o - 0x9000) / 0x100))
    else if 0x9000 ≤ o && 0x40 ≤ o % 0x100 && o % 8 = 0 then let s := wfld v 31 27; decide ((1 ≤ s ∧ s ≤ 7) ∨ (16 ≤ s ∧ s ≤ 20))
    else true
  else if b = 8 then
    if o < 0x1400 && o % 0x40 = 0 then lswRangeOk (o / 0x40) false v
    else if o < 0x1400 && o % 0x40 = 8 then lswRangeOk (o / 0x40) true v
    else true
  else if a = Reg.FAB_CLASS_LIMIT then decide (wfld v 31 24 + wfld v 23 16 + wfld v 15 8 + wfld v 7 0 ≤ 128)
  else if a = Reg.TIME_PIP_OFFSET then decide (d.rn a ≤ v.toNat)
  else if a = Reg.BILL_METER_INTERVAL then decide (v = 0 ∨ (4000 ≤ v.toNat ∧ v.toNat ≤ 14400000))
  else if a = Reg.FWU_CFG then decide (wfld v 23 0 = 0 ∨ (40000 ≤ wfld v 23 0 ∧ wfld v 23 0 ≤ 14400000))
  else if a = Reg.SYS_CLK_SEL then decide (wfld v 1 0 = 1) && (List.range 7).all fun i => decide (wfld v (2 * i + 1) (2 * i) ≤ 2)
  else if a = Reg.MESH_CTRL then !wbit v 0 || decide (d.rd Reg.MESH_NETWORK_ID ≠ 0)
  else if b = 9 && 0x200 ≤ o && o < 0x300 && o % 0x20 = 0 then connTimeOk v
  else if b = 6 && 0x80 ≤ o && o < 0xA0 then
    let r := (o - 0x80) / 4
    !wbit v 31 || (decide (wfld v 30 24 ≤ wfld v 22 16) && decide (wfld v 13 8 ≤ wfld v 5 0)
      && (List.range 8).all fun k => k = r || !wbit (w (Reg.DISP_REGION_CFG k)) 31 || !regionsMeet v (w (Reg.DISP_REGION_CFG k)))
  else true

/-- Whether the block of an Idle register runs (R10; R87, R109, R138, R254, R279, R311, R314, R393, R424, R446, R468, R506, R557). -/
def Dev.idleRuns (d : Dev) (a : Nat) : Bool :=
  let b := a / 0x10000
  let o := a % 0x10000
  if b = 0 then a = Reg.SYS_CLK_SEL && d.mode ≠ .maintenance
  else if b = 1 then let q := (o - 0x100) / 16; d.rbit Reg.FAB_Q_EN q || decide (0 < d.fld (Reg.FAB_Q_STAT q) 4 0)
  else if b = 2 then d.inService
  else if b = 5 then d.trial
  else if b = 6 then if a = Reg.DISP_CFG then d.rbit Reg.DISP_CTRL 0 else let u := d.upd ((o - 0x80) / 4); u.run.isSome || u.pending.isSome
  else if b = 7 then if a = Reg.TAG_RDR_CFG then d.rbit Reg.TAG_CTRL 0 else if a = Reg.TAG_EMU_CFG then d.rbit Reg.TAG_CTRL 1 || d.rbit Reg.TAG_STATUS 6 else d.rbit Reg.TAG_CTRL 2
  else if b = 8 then
    let runs := fun ch => d.lst ch ≠ 0 || d.rbit (Reg.LSW_CH_CMD ch) 31
    if o < 0x1400 then runs (o / 0x40) else (List.range 80).any runs
  else if b = 10 then
    let runs := fun n => d.gstate n = 2 || d.gstate n = 3
    if o < 0x800 then runs (o / 0x40) else (List.range 32).any runs
  else if b = 11 then let s := d.twinState; s = 2 || s = 3 || (s = 4 && d.rbit Reg.TWIN_STATUS 6)
  else if b = 12 then d.mesh.st ≠ .off
  else if b = 13 then
    let lane := fun n => if n = 32 then d.rbit Reg.MESH_CTRL 0 else d.ost n != .idle
    if a = Reg.HUSK_CTX_CFG then (List.range 33).any lane
    else if 0x800 ≤ o && o < 0x1000 then d.ost (24 + (o - 0x800) / 0x40) != .idle
    else lane ((o - 0x1000) / 0x100)
  else if b = 16 then
    if o < 0x8000 then d.ost (o / 0x400) != .idle
    else (List.range 32).any fun n => let s := d.ost n; s.running || s == .weldCheck
  else if b = 48 then d.rbit Reg.BILL_CTRL 1
  else false

/-- The status with which a Live register's own rules refuse a value (R316, R371, R373). -/
def Dev.liveRefuses (d : Dev) (a : Nat) (v : Word) : Option Nat :=
  let o := a % 0x10000
  if a / 0x10000 = 10 && o < 0x800 && o % 0x40 = 4 then d.guardRefuses (o / 0x40) v
  else if a / 0x10000 = 8 && o < 0x1400 && o % 0x40 = 4 then d.lswRefuses (o / 0x40) (wbit v 31)
  else none

/-- The status of one word of a write; 0 where nothing refuses it. `sel` masks the bits the write chooses (R605).
DESIGN CHOICE (log entry 28): a read-only register is refused with DENIED whatever values stand in its fields; only a reserved bit set to 1 ranks before that. -/
def Dev.wordStatus (d : Dev) (w : Nat → Word) (a : Nat) (v sel : Word) : Nat :=
  if a % 4 ≠ 0 then St.badParam
  else if inKern a then (if v &&& sel &&& kernReserved a ≠ 0 then St.badParam else St.denied)
  else match regAt a with
    | none => St.badParam
    | some r =>
      if v &&& sel &&& ~~~r.fields ≠ 0 then St.badParam
      else match r.access with
        | .ro => St.denied
        | .w1c => 0
        | .rw =>
          if !r.inRange v || !d.ruleOk w a v then St.badParam
          else match d.liveRefuses a v with
            | some st => st
            | none => if r.cls = .idle && d.idleRuns a then St.locked else 0

/-- The one status of a whole write: the first in the order of R602 that a word has, then any other refusal. -/
def worst (l : List Nat) : Nat :=
  if l.contains St.badParam then St.badParam
  else if l.contains St.denied then St.denied
  else if l.contains St.locked then St.locked
  else (l.find? (· ≠ 0)).getD 0

/-! ### Writing -/

/-- A write of an Idle register, with what its block does on it (R116, R316, R380, R550, R610, R402).
DESIGN CHOICE (log entry 77): of several raises of TIME_PIP_OFFSET written in one pip the last counts, checked against the value in force; a write of that value leaves a pending raise standing. -/
def Dev.idleWrite (d : Dev) (a : Nat) (v : Word) : Dev :=
  let b := a / 0x10000
  let o := a % 0x10000
  if a = Reg.TWIN_CFG then d.twinCfg v
  else if a = Reg.LSW_CFG then (d.wr a v).lswShow
  else if a = Reg.SYS_CLK_SEL then d.clkSel v
  else if a = Reg.TIME_PIP_OFFSET then (if d.rd a = v then d else d.setTime fun t => { t with offsRaise := some v.toNat })
  else if a = Reg.TAG_EMU_CFG then (d.wr a v).setTag fun t => { t with emuCell := v }
  else if b = 8 && o < 0x1400 then (d.wr a v).retryReload (o / 0x40)
  else if b = 10 && o < 0x800 && o % 0x40 = 0 then (if wfld v 17 16 = d.gmode (o / 0x40) then d.wr a v else (d.wr a v).guardMode (o / 0x40))
  else if b = 16 && o < 0x8000 && o % 0x400 = 0 then (let n := o / 0x400; if (d.wr a v).outType n = d.outType n then (d.wr a v).coilShow n else ((d.wr a v).guardTask n).coilShow n)
  else if b = 16 && o < 0x8000 && o % 0x400 = 0x10 then (d.wr a v).setO (o / 0x400) fun x => { x with confK := false, confS := false }
  else if b = 16 && 0x9000 ≤ o && o % 0x100 = 0 then (if wbit v 31 && !d.rbit a 31 then d.tplArm ((o - 0x9000) / 0x100) else d).wr a v
  else d.wr a v

/-- One word of a write that nothing refuses (R10, R84). -/
def Dev.writeWord (d : Dev) (a : Nat) (v : Word) : Dev :=
  match regAt a with
  | some r =>
    match r.access, r.cls with
    | .ro, _ => d
    | .w1c, _ => { d with live := d.live ++ [.clear a v] }
    | .rw, .live => d.pendSet a v
    | .rw, .framed => d.setShadow a v
    | .rw, .idle => d.idleWrite a v
  | none => d

/-- A pending Live write takes effect, with what its block does on it (R35, R290, R294, R316, R453). -/
def Dev.livePut (d : Dev) (a : Nat) (v : Word) : Dev :=
  let o := a % 0x10000
  if a / 0x10000 = 10 && o < 0x800 && o % 0x40 = 4 then d.guardApply (o / 0x40) v
  else if a = Reg.DISP_CTRL then d.dispCtrl v
  else if a = Reg.MESH_CTRL then
    let old := d.rbit a 0
    let d := d.wr a v
    if wbit v 0 then (if old then d else d.meshEnable) else if old then d.meshDisable else d
  else if a = Reg.TAG_CTRL then (d.wr a v).rdrShow
  else if stagingAddrs.contains a then (d.wr a v).cfgPending
  else d.wr a v

/-- The pending changes of commanded state of the pip that ended, in the order they were made. -/
def Dev.pendCmds (d : Dev) : List (Nat × Word) :=
  d.live.filterMap fun (p : LivePend) => match p with | .set a v _ => if isChCmd a then some (a, v) else none | .clear _ _ => none

/-- How many of the changes of commanded state of the pip that ended were made by its +200 µs (R407): all of them unless the partner is in STANDBY; then those that its boundary made and a free value of the others, since no row tells its offset in the pip (DESIGN CHOICE, log entry 83). -/
def Dev.timely (d : Dev) : Nat := if d.twinState = 4 && d.inSync then d.twin.early + Config.freeNat d.fresh else d.pendCmds.length

/-- The Live writes of the pip that ended take effect, in the order they were executed (R35, R85), after the changes of commanded state held from the pip before; those made after its +200 µs are held for the frame of the pip after (R407). -/
def Dev.applyLive (d : Dev) : Dev :=
  let rest := d.live.filter fun (p : LivePend) => match p with | .set a _ _ => !isChCmd a | .clear _ _ => true
  let now := (d.twin.held ++ d.pendCmds.take d.timely).map fun e => LivePend.set e.1 e.2 false
  (now ++ rest).foldl (fun (d : Dev) (p : LivePend) => match p with | .set a v _ => d.livePut a v | .clear a bits => d.wr a (d.rd a &&& ~~~bits))
    ({ d with live := [], fresh := d.fresh + 1, twin := { d.twin with held := d.pendCmds.drop d.timely } } : Dev)

/-! ### Shadows and commit (R66 to R71) -/

/-- Whether an address lies in a block that a mask of R66 selects. -/
def inMask (m a : Nat) : Bool := (maskBits17 m maskAll).any fun b => b ≠ 15 && maskBlock b = a / 0x10000

/-- The selected shadows move to live (R68); a change of the PTP port's configuration restarts it (R98; what TIME_PTP_STATUS shows of port and grandmaster stays until the next event of the BMCA: DESIGN CHOICE, log entry 77), and a new holdover limit shows in tb1_aligned (R94). -/
def Dev.commitSel (d : Dev) (sels : Nat → Bool) : Dev :=
  let sel := d.shadow.filter fun (e : Nat × Word) => sels e.1
  let ptp := sel.any fun e => e.1 = Reg.TIME_PTP_CFG || e.1 = Reg.TIME_PTP_INTERVALS
  let d := sel.foldl (fun (d : Dev) e => d.wr e.1 (d.rd e.1 ^^^ e.2)) { d with shadow := d.shadow.filter fun (e : Nat × Word) => !sels e.1 }
  if ptp then d.masterChanged else if sel.any (fun e => e.1 = Reg.TIME_HOLDOVER_LIMIT) then d.alignShow else d

/-- COMMIT_POINT: the shadows of the blocks that a mask selects (R66, R68). -/
def Dev.commit (d : Dev) (m : Nat) : Dev := d.commitSel (inMask m)

/-- FAB_DISCARD: the selected shadows equal live (R71). -/
def Dev.discard (d : Dev) (m : Nat) : Dev := { d with shadow := d.shadow.filter fun (e : Nat × Word) => !inMask m e.1 }

/-! ### Opcodes -/

/-- The words a REG_WRITE carries, each with its address. -/
def writeWords (p : Bytes) : List (Nat × Word) := (List.range (num p 4 2)).map fun k => (num p 0 4 + 4 * k, word (num p (8 + 4 * k) 4))

/-- The value at an address as a write leaves it. -/
def Dev.after (d : Dev) (ws : List (Nat × Word)) (a : Nat) : Word := ((ws.find? fun e => e.1 = a).map (·.2)).getD (d.rd a)

/-- Execute a write: every word is checked before any is written (R602). -/
def Dev.regWrite (d : Dev) (ws : List (Nat × Word)) : Dev × Ans :=
  let st := worst (ws.map fun e => d.wordStatus (d.after ws) e.1 e.2 0xFFFFFFFF)
  if st ≠ 0 then (d, .done st []) else (ws.foldl (fun (d : Dev) e => d.writeWord e.1 e.2) d, .done St.ok [])

/-- REG_READ (0x0100). -/
def opRegRead (d : Dev) (c : Cmd) : Dev × Ans :=
  let p := c.payload
  let n := num p 4 2
  let run := readRun d.readWord (num p 0 4) n
  check d [(p.length ≠ 8, St.badLength), (num p 6 2 ≠ 0, St.badParam), (n < 1 || 256 < n, St.badParam), (run.isNone, St.badParam)] (d, .done St.ok (run.getD []))

/-- REG_WRITE (0x0101). -/
def opRegWrite (d : Dev) (c : Cmd) : Dev × Ans :=
  let p := c.payload
  let n := num p 4 2
  check d [(p.length < 8 || p.length ≠ 8 + 4 * n, St.badLength), (num p 6 2 ≠ 0, St.badParam), (n < 1 || 254 < n, St.badParam)] (d.regWrite (writeWords p))

/-- The value that a write of a register builds on (R605). -/
def Dev.oldValue (d : Dev) (a : Nat) : Word :=
  match regAt a with
  | some r => if r.cls = .framed then d.shadowAt a else if r.cls = .live then d.hostPended a else d.rd a
  | none => 0

/-- REG_MODIFY (0x0102). -/
def opRegModify (d : Dev) (c : Cmd) : Dev × Ans :=
  let p := c.payload
  let a := num p 0 4
  let mask := word (num p 4 4)
  let old := d.oldValue a
  let v := (old &&& ~~~mask) ||| (word (num p 8 4) &&& mask)
  let new := if inKern a then word (num p 8 4) &&& mask else if ((regAt a).map (·.access)) = some .ro then word (num p 8 4) &&& mask else v
  let st := d.wordStatus (d.after [(a, v)]) a new mask
  check d [(p.length ≠ 12, St.badLength), (((regAt a).map (·.access)) = some .w1c, St.badParam), (st ≠ 0, st)] (d.writeWord a v, .done St.ok (leN old.toNat 4))

/-- REG_READ_SHADOW (0x0103). -/
def opRegReadShadow (d : Dev) (c : Cmd) : Dev × Ans :=
  let p := c.payload
  let n := num p 4 2
  let run := readRun d.readShadow (num p 0 4) n
  check d [(p.length ≠ 8, St.badLength), (num p 6 2 ≠ 0, St.badParam), (n < 1 || 256 < n, St.badParam), (run.isNone, St.badParam)] (d, .done St.ok (run.getD []))

/-- FAB_DISCARD (0x0105). -/
def opFabDiscard (d : Dev) (c : Cmd) : Dev × Ans :=
  let m := num c.payload 0 4
  check d [(c.payload.length ≠ 4, St.badLength), (!maskOk m, St.badParam)] (d.discard m, .done St.ok [])

/-- FAB_NOP (0x0108). -/
def opFabNop (d : Dev) (c : Cmd) : Dev × Ans := (d, .done St.ok c.payload)

end Sys2Proof.Machine
end

