-- ==== Sys2Proof/Machine/OpTable.lean ====
section
/-!
DEFINITION. The opcode table: every opcode with its Class column, whether it is immediate (R45), the source index of its final reply (R72) and its meaning.
-/
namespace Sys2Proof.Machine

/-- System (0x00xx). -/
def ops0 : List OpSpec := [
  { opcode := 0x0000, classes := [0, 1, 2, 3], immediate := true, source := fun _ => 78, run := some opSysStatus },
  { opcode := 0x0001, classes := [0, 1, 2, 3], immediate := true, source := fun _ => 78, run := some opSysInfo },
  { opcode := 0x0002, classes := [2, 3], immediate := false, source := fun _ => 78, run := some opSysReset },
  { opcode := 0x0003, classes := [1, 2, 3], immediate := false, source := fun _ => 78, run := some opForceSel },
  { opcode := 0x0004, classes := [1, 2, 3], immediate := true, source := fun _ => 78, run := some opSetMode },
  { opcode := 0x0005, classes := [2, 3], immediate := false, source := fun _ => 78, run := some opCfgSave },
  { opcode := 0x0006, classes := [0, 1, 2, 3], immediate := true, source := fun _ => 78, run := some opLogRead }]

/-- Registers and fabric (0x01xx). -/
def ops1 : List OpSpec := [
  { opcode := 0x0100, classes := [0, 1, 2, 3], immediate := true, source := fun _ => 79, run := some opRegRead },
  { opcode := 0x0101, classes := [0, 1, 2, 3], immediate := true, source := fun _ => 79, run := some opRegWrite },
  { opcode := 0x0102, classes := [0, 1, 2, 3], immediate := true, source := fun _ => 79, run := some opRegModify },
  { opcode := 0x0103, classes := [0, 1, 2, 3], immediate := true, source := fun _ => 79, run := some opRegReadShadow },
  { opcode := 0x0104, classes := [0, 1, 2, 3], immediate := false, source := fun _ => 79, run := none },
  { opcode := 0x0105, classes := [0, 1, 2, 3], immediate := true, source := fun _ => 79, run := some opFabDiscard },
  { opcode := 0x0106, classes := [0, 1, 2, 3], immediate := true, source := fun _ => 79, run := none },
  { opcode := 0x0107, classes := [0, 1, 2, 3], immediate := true, source := fun _ => 79, run := none },
  { opcode := 0x0108, classes := [0, 1, 2, 3], immediate := true, source := fun _ => 79, run := some opFabNop }]

/-- Outlets (0x02xx). -/
def ops2 : List OpSpec := [
  { opcode := 0x0200, classes := [0, 1, 2, 3], immediate := true, source := fun p => num p 0 1 % 32, run := some opOutStatusGet },
  { opcode := 0x0201, classes := [0, 1, 2, 3], immediate := true, source := fun p => num p 0 1 % 32, run := some opOutAuthorise },
  { opcode := 0x0202, classes := [0, 1, 2, 3], immediate := true, source := fun p => num p 0 1 % 32, run := some opOutStartRemote },
  { opcode := 0x0203, classes := [0, 1, 2, 3], immediate := true, source := fun p => num p 0 1 % 32, run := some opOutStop },
  { opcode := 0x0204, classes := [0, 1, 2, 3], immediate := true, source := fun p => num p 0 1 % 32, run := some opOutSetAvailable },
  { opcode := 0x0205, classes := [0, 1, 2, 3], immediate := true, source := fun p => num p 0 1 % 32, run := some opOutClearFault },
  { opcode := 0x0206, classes := [0, 1, 2, 3], immediate := true, source := fun p => num p 0 1 % 32, run := some opOutSessionInfo },
  { opcode := 0x0207, classes := [0, 1, 2, 3], immediate := true, source := fun p => num p 0 1 % 32, run := some opOutEventRead },
  { opcode := 0x0208, classes := [2, 3], immediate := true, source := fun p => num p 0 1 % 32, run := some opListUpdate },
  { opcode := 0x0209, classes := [0, 1, 2, 3], immediate := true, source := fun p => num p 0 1 % 32, run := some opListQuery },
  { opcode := 0x020A, classes := [1, 2, 3], immediate := true, source := fun p => num p 0 1 % 32, run := some opOutCertResponse }]

/-- Kernel (0x03xx). -/
def ops3 : List OpSpec := [
  { opcode := 0x0300, classes := [0, 1, 2, 3], immediate := true, source := fun _ => 64, run := some opKernStatus },
  { opcode := 0x0301, classes := [0, 1, 2, 3], immediate := true, source := fun _ => 64, run := some opKernCertRead },
  { opcode := 0x0302, classes := [0, 1, 2, 3], immediate := true, source := fun _ => 64, run := some opKernPubkeyRead },
  { opcode := 0x0303, classes := [2, 3], immediate := false, source := fun _ => 64, run := some opKernLedgerRead },
  { opcode := 0x0304, classes := [0, 1, 2, 3], immediate := false, source := fun p => 32 + num p 0 1 % 32, run := some opKernIntervalWait },
  { opcode := 0x0305, classes := [2, 3], immediate := false, source := fun _ => 64, run := some opKernReceiptGet },
  { opcode := 0x0306, classes := [1, 2, 3], immediate := false, source := fun _ => 64, run := some opKernSetChannel },
  { opcode := 0x0307, classes := [1, 2, 3], immediate := false, source := fun _ => 64, run := some opKernSetCal },
  { opcode := 0x0308, classes := [1, 2, 3], immediate := false, source := fun _ => 64, run := some opKernSetMclk },
  { opcode := 0x0309, classes := [1, 2, 3], immediate := false, source := fun _ => 64, run := some opKernSetPulse },
  { opcode := 0x030A, classes := [1, 2, 3], immediate := false, source := fun _ => 64, run := some opKernSetBalance },
  { opcode := 0x030B, classes := [1, 2, 3], immediate := false, source := fun _ => 64, run := some opKernSetLimits },
  { opcode := 0x030C, classes := [2, 3], immediate := false, source := fun _ => 64, run := some opKernFwBegin },
  { opcode := 0x030D, classes := [2, 3], immediate := false, source := fun _ => 64, run := some opKernFwChunk },
  { opcode := 0x030E, classes := [3], immediate := false, source := fun _ => 64, run := some opKernFwEnd },
  { opcode := 0x030F, classes := [1, 2, 3], immediate := false, source := fun _ => 64, run := some opKernFwActivate },
  { opcode := 0x0310, classes := [1, 2, 3], immediate := false, source := fun _ => 64, run := some opKernArchiveAck },
  { opcode := 0x0311, classes := [2, 3], immediate := false, source := fun _ => 64, run := some opKernCheckpoint }]

/-- Tariffs and billing (0x04xx). -/
def ops4 : List OpSpec := [
  { opcode := 0x0400, classes := [2, 3], immediate := false, source := fun _ => 64, run := some opTariffBegin },
  { opcode := 0x0401, classes := [2, 3], immediate := false, source := fun _ => 64, run := some opTariffChunk },
  { opcode := 0x0402, classes := [2, 3], immediate := false, source := fun _ => 64, run := some opTariffEnd },
  { opcode := 0x0403, classes := [1, 2, 3], immediate := false, source := fun _ => 64, run := some opTariffAbort },
  { opcode := 0x0404, classes := [2, 3], immediate := false, source := fun _ => 64, run := some opTariffRead },
  { opcode := 0x0405, classes := [1, 2, 3], immediate := false, source := fun _ => 64, run := some opLegalTimeAdjust },
  { opcode := 0x0406, classes := [0, 1, 2, 3], immediate := true, source := fun _ => 65, run := some opLegalTimeGet },
  { opcode := 0x0410, classes := [1, 2, 3], immediate := true, source := fun _ => 65, run := some opAccountSet },
  { opcode := 0x0411, classes := [1, 2, 3], immediate := true, source := fun _ => 65, run := some opAccountAdjust },
  { opcode := 0x0412, classes := [0, 1, 2, 3], immediate := true, source := fun _ => 65, run := some opAccountGet },
  { opcode := 0x0413, classes := [0, 1, 2, 3], immediate := true, source := fun _ => 65, run := some opTxnRead },
  { opcode := 0x0414, classes := [1, 2, 3], immediate := false, source := fun _ => 65, run := some opTokenSubmit },
  { opcode := 0x0415, classes := [2, 3], immediate := true, source := fun _ => 65, run := some opTokenList }]

/-- Husk (0x05xx). -/
def ops5 : List OpSpec := [
  { opcode := 0x0500, classes := [0, 1, 2, 3], immediate := true, source := fun _ => 66, run := some opHuskStatus },
  { opcode := 0x0501, classes := [0, 1, 2, 3], immediate := true, source := fun _ => 66, run := some opLaneStats },
  { opcode := 0x0502, classes := [1, 2, 3], immediate := true, source := fun _ => 66, run := some opSlacProfile },
  { opcode := 0x0503, classes := [2, 3], immediate := false, source := fun _ => 66, run := some opLaneReset },
  { opcode := 0x0504, classes := [0, 1, 2, 3], immediate := true, source := fun _ => 66, run := some opT1sStatus },
  { opcode := 0x0505, classes := [2, 3], immediate := false, source := fun _ => 66, run := some opLaneTxTest }]

/-- Time (0x06xx). -/
def ops6 : List OpSpec := [
  { opcode := 0x0600, classes := [0, 1, 2, 3], immediate := true, source := fun _ => 68, run := some opTimeGet },
  { opcode := 0x0601, classes := [0, 1, 2, 3], immediate := true, source := fun _ => 68, run := some opTimeSetState },
  { opcode := 0x0602, classes := [1, 2, 3], immediate := false, source := fun _ => 68, run := some opTimeSetTb0 },
  { opcode := 0x0603, classes := [0, 1, 2, 3], immediate := true, source := fun _ => 68, run := some opTimePtpStatus }]

/-- Firmware (0x07xx). -/
def ops7 : List OpSpec := [
  { opcode := 0x0700, classes := [0, 1, 2, 3], immediate := true, source := fun _ => 76, run := some opFwuStatus },
  { opcode := 0x0701, classes := [2, 3], immediate := false, source := fun _ => 76, run := some opFwuBegin },
  { opcode := 0x0702, classes := [3], immediate := false, source := fun _ => 76, run := some opFwuChunk },
  { opcode := 0x0703, classes := [3], immediate := false, source := fun _ => 76, run := some opFwuEnd },
  { opcode := 0x0704, classes := [2, 3], immediate := false, source := fun _ => 76, run := some opFwuActivate },
  { opcode := 0x0705, classes := [1, 2, 3], immediate := true, source := fun _ => 76, run := some opFwuConfirm },
  { opcode := 0x0706, classes := [1, 2, 3], immediate := false, source := fun _ => 76, run := some opFwuAbort }]

/-- Keys (0x08xx). -/
def ops8 : List OpSpec := [
  { opcode := 0x0800, classes := [0, 1, 2, 3], immediate := true, source := fun _ => 73, run := some opKeyStatus },
  { opcode := 0x0801, classes := [1, 2, 3], immediate := false, source := fun _ => 73, run := some opKeyLoad },
  { opcode := 0x0802, classes := [1, 2, 3], immediate := false, source := fun _ => 73, run := some opKeyClear },
  { opcode := 0x0803, classes := [2, 3], immediate := false, source := fun _ => 73, run := some opKeyGenerate },
  { opcode := 0x0804, classes := [2, 3], immediate := false, source := fun _ => 73, run := some opKeyImport },
  { opcode := 0x0805, classes := [0, 1, 2, 3], immediate := true, source := fun _ => 73, run := some opKeyPubkey },
  { opcode := 0x0806, classes := [2, 3], immediate := false, source := fun _ => 73, run := some opKeyCsr },
  { opcode := 0x0807, classes := [1, 2, 3], immediate := false, source := fun _ => 73, run := some opKeyAead },
  { opcode := 0x0808, classes := [1, 2, 3], immediate := true, source := fun _ => 73, run := some opTamperArm },
  { opcode := 0x0809, classes := [2, 3], immediate := false, source := fun _ => 73, run := some opChainWrite }]

/-- Display (0x09xx). -/
def ops9 : List OpSpec := [
  { opcode := 0x0900, classes := [0, 1, 2, 3], immediate := true, source := fun _ => 74, run := some opDispStatus },
  { opcode := 0x0901, classes := [0, 1, 2, 3], immediate := true, source := fun _ => 74, run := some opDispWrite },
  { opcode := 0x0902, classes := [1, 2, 3], immediate := false, source := fun _ => 74, run := some opDispUpdate },
  { opcode := 0x0903, classes := [0, 1, 2, 3], immediate := true, source := fun _ => 74, run := some opDispStressRead },
  { opcode := 0x0904, classes := [1, 2, 3], immediate := true, source := fun _ => 74, run := some opDispStressReset }]

/-- Tag, reader and keypad (0x0Axx). -/
def opsA : List OpSpec := [
  { opcode := 0x0A00, classes := [0, 1, 2, 3], immediate := true, source := fun _ => 75, run := some opTagStatus },
  { opcode := 0x0A01, classes := [0, 1, 2, 3], immediate := true, source := fun _ => 75, run := some opRdrList },
  { opcode := 0x0A02, classes := [3], immediate := false, source := fun _ => 75, run := some opRdrApdu },
  { opcode := 0x0A03, classes := [1, 2, 3], immediate := false, source := fun _ => 75, run := some opFramRead },
  { opcode := 0x0A04, classes := [1, 2, 3], immediate := false, source := fun _ => 75, run := some opFramWrite },
  { opcode := 0x0A05, classes := [1, 2, 3], immediate := false, source := fun _ => 75, run := some opFramHold },
  { opcode := 0x0A06, classes := [1, 2, 3], immediate := false, source := fun _ => 75, run := some opFramRelease },
  { opcode := 0x0A07, classes := [0, 1, 2, 3], immediate := true, source := fun _ => 75, run := some opKpRead }]

/-- Twin (0x0Bxx). -/
def opsB : List OpSpec := [
  { opcode := 0x0B00, classes := [0, 1, 2, 3], immediate := true, source := fun _ => 72, run := some opTwinStatus },
  { opcode := 0x0B01, classes := [2, 3], immediate := false, source := fun _ => 72, run := some opTwinSwitchover },
  { opcode := 0x0B02, classes := [1, 2, 3], immediate := true, source := fun _ => 72, run := some opTwinResync },
  { opcode := 0x0B03, classes := [0, 1, 2, 3], immediate := true, source := fun _ => 72, run := some opTwinKcmp }]

/-- Mesh (0x0Cxx). -/
def opsC : List OpSpec := [
  { opcode := 0x0C00, classes := [0, 1, 2, 3], immediate := true, source := fun _ => 67, run := some opMeshStatus },
  { opcode := 0x0C01, classes := [0, 1, 2, 3], immediate := true, source := fun _ => 67, run := some opMeshTable },
  { opcode := 0x0C02, classes := [0, 1, 2, 3], immediate := true, source := fun _ => 67, run := some opMeshSend },
  { opcode := 0x0C03, classes := [0, 1, 2, 3], immediate := true, source := fun _ => 67, run := some opMeshRxRead },
  { opcode := 0x0C04, classes := [1, 2, 3], immediate := true, source := fun _ => 67, run := some opMeshRescan },
  { opcode := 0x0C05, classes := [1, 2, 3], immediate := true, source := fun _ => 67, run := some opMeshEvict }]

/-- Safety and Guard (0x0Dxx). -/
def opsD : List OpSpec := [
  { opcode := 0x0D00, classes := [0, 1, 2, 3], immediate := true, source := fun _ => 69, run := some opSafeStatus },
  { opcode := 0x0D01, classes := [1, 2, 3], immediate := true, source := fun _ => 69, run := some opSafeReset },
  { opcode := 0x0D02, classes := [2, 3], immediate := false, source := fun _ => 69, run := some opSafeCheck },
  { opcode := 0x0D03, classes := [2, 3], immediate := false, source := fun _ => 69, run := some opSafeActivate },
  { opcode := 0x0D04, classes := [1, 2, 3], immediate := true, source := fun _ => 69, run := some opSafeDiscard },
  { opcode := 0x0D05, classes := [0, 1, 2, 3], immediate := true, source := fun _ => 69, run := some opSafeHubStop },
  { opcode := 0x0D80, classes := [0, 1, 2, 3], immediate := true, source := fun _ => 71, run := some opGuardStatus },
  { opcode := 0x0D81, classes := [1, 2, 3], immediate := true, source := fun _ => 71, run := some opGuardTest },
  { opcode := 0x0D82, classes := [1, 2, 3], immediate := true, source := fun _ => 71, run := some opGuardClear }]

/-- Load switches (0x0Exx). -/
def opsE : List OpSpec := [
  { opcode := 0x0E00, classes := [0, 1, 2, 3], immediate := true, source := fun _ => 70, run := some opLswStatus },
  { opcode := 0x0E01, classes := [0, 1, 2, 3], immediate := true, source := fun _ => 70, run := some opLswSet },
  { opcode := 0x0E02, classes := [0, 1, 2, 3], immediate := true, source := fun _ => 70, run := some opLswSetAx },
  { opcode := 0x0E03, classes := [1, 2, 3], immediate := true, source := fun _ => 70, run := some opLswClear }]

/-- Memory (0x0Fxx). -/
def opsF : List OpSpec := [
  { opcode := 0x0F00, classes := [0, 1, 2, 3], immediate := true, source := fun _ => 77, run := some opMemStatus },
  { opcode := 0x0F01, classes := [1, 2, 3], immediate := true, source := fun _ => 77, run := some opEccWrite },
  { opcode := 0x0F02, classes := [1, 2, 3], immediate := true, source := fun _ => 77, run := some opEccRead },
  { opcode := 0x0F03, classes := [3], immediate := false, source := fun _ => 77, run := some opMbistRun },
  { opcode := 0x0F04, classes := [1, 2, 3], immediate := false, source := fun _ => 77, run := some opRepairAdd },
  { opcode := 0x0F05, classes := [0, 1, 2, 3], immediate := true, source := fun _ => 77, run := some opRepairList }]

/-- Every opcode the part defines (R22). -/
def allOps : List OpSpec := ops0 ++ ops1 ++ ops2 ++ ops3 ++ ops4 ++ ops5 ++ ops6 ++ ops7 ++ ops8 ++ ops9 ++ opsA ++ opsB ++ opsC ++ opsD ++ opsE ++ opsF

end Sys2Proof.Machine
end

