-- ==== Sys2Proof/Machine/Fabric.lean ====
section
/-!
DEFINITION. The command fabric (R42 to R87): admission, credits, start and deadline, the answer FIFO, the completion collector and the host transports.
-/
namespace Sys2Proof.Machine

/-! ### State and fabric accessors -/

/-- Change the device. -/
def State.onDev (s : State) (f : Dev → Dev) : State := { s with dev := f s.dev }

/-- Change the fabric. -/
def State.onFab (s : State) (f : Fab → Fab) : State := { s with fab := f s.fab }

/-- Commands in flight in a queue. -/
def Fab.inQueue (f : Fab) (q : Nat) : List Flight := f.flights.filter fun x => x.cmd.queue = q

/-- Commands in flight of a class. -/
def Fab.inClass (f : Fab) (c : Nat) : List Flight := f.flights.filter fun x => x.cmd.cls = c

/-- Whether a command's final reply stands in the completion ring. -/
def Flight.ready (x : Flight) : Bool :=
  match x.phase with
  | .delivered _ _ => true
  | _ => false

/-- Whether the fabric works: RESET_N released, no update pause (R500), CORE not hung (R551). -/
def State.fabRuns (s : State) : Bool := !s.dev.sys.inReset && !(s.dev.fwu.pauseFrom.isSome && s.dev.mode == .boot) && s.dev.domainRuns 0

/-- Whether the host speaks over UDP (R76). -/
def State.udp (s : State) : Bool := s.dev.rbit Reg.SYS_STRAPS 2

/-- Show the credits in use and the levels of FIFO and rings in the FAB registers. -/
def Fab.show (f : Fab) (d : Dev) : Dev :=
  let n := fun c => (f.inClass c).length
  let d := d.wn Reg.FAB_CLASS_INUSE (n 0 + 256 * n 1 + 65536 * n 2 + 16777216 * n 3)
  let d := (d.wn Reg.FAB_POOL_INUSE f.flights.length).wn Reg.FAB_ANSWER_LEVEL f.answers.length
  (List.range 32).foldl (fun (d : Dev) q => d.wn (Reg.FAB_Q_STAT q) ((f.inQueue q).length + 256 * ((f.inQueue q).filter Flight.ready).length)) d

/-- The FAB registers follow the fabric. -/
def State.shown (s : State) : State := { s with dev := s.fab.show s.dev }

/-! ### Replies -/

/-- The bytes of a reply packet (R43, R44). -/
def Reply.bytes (r : Reply) : Bytes :=
  let b := [0xB7, 0x01, byte r.queue, byte r.status] ++ leN r.tag 2 ++ leN r.opcode 2 ++ leN r.payload.length 2 ++ leN r.pip 4 ++ leN r.epoch 2 ++ r.payload
  b ++ leN (crc32c b).toNat 4

/-- The reply to a command now. -/
def Dev.reply (d : Dev) (c : Cmd) (st : Nat) (pl : Bytes) : Reply :=
  { queue := c.queue, status := st, tag := c.tag, opcode := c.opcode, payload := pl, pip := d.pip % 2 ^ 32, epoch := d.rn Reg.TWIN_EPOCH % 65536 }

/-- Keep a final reply among the last 256 (R82). -/
def Fab.keep (f : Fab) (r : Reply) : Fab := { f with history := (r :: f.history).take 256 }

/-- Set the phase of the command in flight with an id. -/
def Fab.setPhase (f : Fab) (id : Nat) (p : Phase) : Fab := { f with flights := f.flights.map fun (x : Flight) => if x.cmd.id = id then { x with phase := p } else x }

/-- A unit's final reply reaches the fabric: of a command it works on, or of one that has missed its deadline (R63). -/
def Fab.finish (f : Fab) (r : Done) : Fab :=
  { f with flights := f.flights.map fun (x : Flight) => if x.cmd.id = r.id && x.phase == .running then { x with phase := .produced r.status r.payload r.pip } else x,
           late := f.late.map fun (l : Late) => if l.cmd.id = r.id && l.ended.isNone then { l with ended := some r.pip } else l }

/-- Take what the units have produced. -/
def State.drain (s : State) : State :=
  { s with dev := { s.dev with outbox := [] }, fab := s.dev.outbox.foldl Fab.finish s.fab }

/-- The place of a delivered reply in the order of R72: its opening, then source, queue and acceptance order. -/
def Flight.order (x : Flight) : Nat :=
  match x.phase with
  | .delivered p _ => (p * 128 + x.cmd.src) * 32 + x.cmd.queue
  | _ => 0

/-- Deliver the produced replies of the chosen commands into the completion rings now (R72, R75). -/
def State.deliver (s : State) (sel : Flight → Bool) : State :=
  let pick := fun (x : Flight) => match x.phase with
    | .produced st pl _ => if sel x then some (s.dev.reply x.cmd st pl) else none
    | _ => none
  let now := sortBy (fun x : Flight => x.cmd.src * 32 + x.cmd.queue) (s.fab.flights.filter fun x => (pick x).isSome)
  let f := (now.filterMap pick).foldl Fab.keep s.fab
  { s with fab := { f with flights := f.flights.map fun (x : Flight) => match pick x with | some r => { x with phase := .delivered s.dev.pip r } | none => x } }

/-- The delivered replies not yet read, oldest first. -/
def Fab.unread (f : Fab) : List Flight := sortBy Flight.order (f.flights.filter Flight.ready)

/-- The reply that is read next (R79), where a UDP reply goes and the own address it leaves from, and the fabric once it has been read (R54). -/
def Fab.next (f : Fab) : Option (Reply × (Nat × Nat × Nat) × Fab) :=
  match f.answers with
  | a :: rest =>
    let f := { f with answers := rest }
    some (a.reply, (a.ip, a.port, a.own), match a.kind with | .final id => { f with flights := f.flights.filter fun x => x.cmd.id ≠ id } | _ => f)
  | [] =>
    let own := f.unread.head?
    let old := f.stale.head?
    let oldFirst := match old, own with | some x, some y => decide (x.order ≤ y.order) | some _, none => true | none, _ => false
    match if oldFirst then old else own with
    | some x => match x.phase with
      | .delivered _ r =>
        some (r, (x.cmd.ip, x.cmd.port, x.cmd.own), if oldFirst then { f with stale := f.stale.tail } else { f with flights := f.flights.filter fun y => y.cmd.id ≠ x.cmd.id })
      | _ => none
    | none => none

/-! ### From arrival to acceptance (R46) -/

/-- A packet whose header has been read. -/
structure Packet where
  queue : Nat
  cls : Nat
  tag : Nat
  opcode : Nat
  launch : Nat
  epoch : Nat
  payload : Bytes
  ip : Nat
  port : Nat
  own : Nat
  deriving DecidableEq, Repr

/-- The packet as a command, before it is accepted. -/
def Packet.cmd (p : Packet) : Cmd :=
  { id := 0, queue := p.queue, cls := p.cls, tag := p.tag, opcode := p.opcode, payload := p.payload, accPip := 0, launch := none, deadline := 0, src := 0, ip := p.ip, port := p.port, own := p.own }

/-- A rejection (R51, R74). -/
def State.reject (s : State) (p : Packet) (st : Nat) (pl : Bytes) : State :=
  if 32 ≤ (s.fab.answers.filter fun a => a.kind == .rejected).length then s.onDev fun d => (d.inc Reg.FAB_REJECT_DROP).raise Reg.FAB_EVENT FabEv.rejectDrop
  else
    let r := s.dev.reply p.cmd st pl
    let s := s.onFab fun f => { f.keep r with answers := f.answers ++ [{ reply := r, kind := .rejected, ip := p.ip, port := p.port, own := p.own }] }
    if st = St.notAdmitted then s.onDev fun d => (d.inc Reg.FAB_NOT_ADMITTED).raise Reg.FAB_EVENT FabEv.notAdmitted else s

/-- The opcode's row, if it is defined. -/
def opSpec (op : Nat) : Option OpSpec := allOps.find? fun o => o.opcode = op

/-- Whether a mode accepts an opcode (R16, R520). -/
def Mode.accepts (m : Mode) (op : Nat) : Bool :=
  match m with
  | .boot => op = 0x0000 || op = 0x0001
  | .sprout => (0x0700 ≤ op && op ≤ 0x0704) || op = 0x0706
  | .maintenance => true
  | .service | .degraded => !(0x0F01 ≤ op && op ≤ 0x0F03)

/-- Whether every block that a mask of R66 selects is one that the twin does not copy (R406, R411). -/
def maskOwn (m : Nat) : Bool := m ≠ 0 && (maskBits17 m maskAll).all fun b => !([1, 6, 7, 12, 13, 14, 16].contains b)

/-- Whether a register lies in a block that the twin copies, or is an LSW_ch_CMD (R406, R411). -/
def inCopied (a : Nat) : Bool := [1, 6, 7, 12, 13, 16, 48].contains (a / 0x10000) || isChCmd a

/-- Whether a module in SEARCH, SYNCING or STANDBY accepts an opcode with its payload (R411). -/
def passiveAccepts (op : Nat) (p : Bytes) : Bool :=
  [0x00, 0x03, 0x06, 0x07, 0x08, 0x0B, 0x0F].contains (op / 256)
    || [0x0100, 0x0103, 0x0107, 0x0108, 0x0200, 0x0206, 0x0207, 0x0209, 0x0413, 0x0500, 0x0501, 0x0502, 0x0504, 0x0C00, 0x0C01, 0x0E00].contains op
    || (0x0400 ≤ op && op ≤ 0x0406) || (0x0D00 ≤ op && op ≤ 0x0D05) || (0x0D80 ≤ op && op ≤ 0x0D82)
    || (op = 0x0101 && (writeWords p).all fun e => !inCopied e.1)
    || (op = 0x0102 && !inCopied (num p 0 4))
    || ((op = 0x0104 || op = 0x0105) && maskOwn (num p 0 4))

/-- The launch pip that a launch field names (R48): within 2^31 pips of the current one; none where that pip has come.
DESIGN CHOICE (log entry 76): a field exactly 2^31 pips away fits both before and after, and is taken as after, so that R46 answers reason 7. -/
def launchPip (pip l : Nat) : Option Nat :=
  let delta := (l + 2 ^ 32 - pip % 2 ^ 32) % 2 ^ 32
  if delta = 0 || 2 ^ 31 < delta then none else some (pip + delta)

/-- Retry-after (R57) from the commands that hold a credit of the exhausted limit. -/
def retryAfter (l : List Flight) (pip : Nat) : Nat :=
  match (l.map fun x => x.cmd.deadline) with
  | [] => 65535
  | d :: ds => min 65535 (max 1 (ds.foldl min d + 1 - pip))

/-- The limit of a class (FAB_CLASS_LIMIT). -/
def Dev.classLimit (d : Dev) (c : Nat) : Nat := d.fld Reg.FAB_CLASS_LIMIT (8 * c + 7) (8 * c)

/-- Step 13 (R46, R56): the first exhausted limit with the commands that hold its credits. -/
def State.noCredit (s : State) (p : Packet) : Option (Nat × List Flight) :=
  let q := s.fab.inQueue p.queue
  let c := s.fab.inClass p.cls
  if s.dev.fld (Reg.FAB_Q_CFG p.queue) 4 0 ≤ q.length then some (0, q)
  else if s.dev.classLimit p.cls ≤ c.length then some (1, c)
  else if 128 ≤ s.fab.flights.length then some (2, s.fab.flights)
  else none

/-- Steps 5 to 13 of R46: the status and payload with which a packet is rejected.
DESIGN CHOICE (log entry 76): R411 says DENIED for an opcode that SEARCH, SYNCING or STANDBY refuses and names no step; it is refused at step 9, with reason 0x08. -/
def State.refusal (s : State) (p : Packet) : Option (Nat × Bytes) :=
  let d := s.dev
  let spec := opSpec p.opcode
  if 31 < p.queue then some (St.badParam, reason 2)
  else if !d.rbit Reg.FAB_Q_EN p.queue then some (St.denied, reason 3)
  else if 3 < p.cls || !d.rbit (Reg.FAB_Q_CFG p.queue) (8 + p.cls) || !(spec.map fun o => o.classes.contains p.cls).getD true then some (St.badParam, reason 4)
  else if spec.isNone then some (St.badOpcode, [])
  else if !d.mode.accepts p.opcode || (d.passive && !passiveAccepts p.opcode p.payload) then some (St.denied, reason 8)
  else if d.rbit Reg.FAB_CTRL 0 && p.epoch ≠ d.rn Reg.TWIN_EPOCH % 65536 then some (St.staleEpoch, leN (d.rn Reg.TWIN_EPOCH) 4)
  else if (s.fab.inQueue p.queue).any fun x => x.cmd.tag = p.tag then some (St.busy, reason 5)
  else if p.launch ≠ 0 && (launchPip d.pip p.launch).isNone then some (St.badParam, reason 6)
  else if p.launch ≠ 0 && d.pip + 2400000 < (launchPip d.pip p.launch).getD 0 then some (St.badParam, reason 7)
  else match s.noCredit p with
    | some (limit, l) => some (St.notAdmitted, leN (retryAfter l d.pip) 2 ++ [byte limit, 0])
    | none => none

/-! ### What an opcode does when it starts -/

/-- FAB_CANCEL (0x0106). -/
def State.fabCancel (s : State) (c : Cmd) : State × Ans :=
  let p := c.payload
  let hit := s.fab.flights.find? fun x => x.cmd.queue = num p 0 1 && x.cmd.tag = num p 2 2 && x.phase == .waitLaunch
  if p.length ≠ 4 then (s, .done St.badLength [])
  else if num p 1 1 ≠ 0 || 31 < num p 0 1 then (s, .done St.badParam [])
  else match hit with
    | none => (s, .done St.f1 [])
    | some x =>
      (s.onFab fun f => { f with flights := f.flights.map fun (y : Flight) =>
        if y.cmd.id = x.cmd.id then { cmd := { y.cmd with src := 79 }, phase := .produced St.denied [] s.dev.pip } else y }, .done St.ok [])

/-- REPLY_RECALL (0x0107; R83). -/
def State.replyRecall (s : State) (c : Cmd) : Ans :=
  let p := c.payload
  let off := num p 4 2
  if p.length ≠ 8 then .done St.badLength []
  else if num p 1 1 ≠ 0 || num p 6 2 ≠ 0 || 1043 < off then .done St.badParam []
  else match s.fab.history.find? fun r => r.queue = num p 0 1 && r.tag = num p 2 2 with
    | none => .done St.f0 []
    | some r =>
      let b := r.bytes
      if b.length ≤ off then .done St.badParam [] else .done St.ok (leN b.length 2 ++ [0, 0] ++ (b.drop off).take 1020)

/-- A command met by data that cannot be corrected: the error names it until it comes to act (R510, R524; log entry 33). -/
def Fab.faulted (f : Fab) (c : Cmd) : Bool := f.faults.contains (c.queue, c.tag)

/-- The error has ended the command. -/
def Fab.dropFault (f : Fab) (c : Cmd) : Fab := { f with faults := f.faults.filter (· ≠ (c.queue, c.tag)) }

/-- Run an opcode: what it changes, and its answer. Where data that it reads cannot be corrected it ends with MEMORY_FAULT and nothing of it is done (R508, R510, R524). -/
def State.runOp (s : State) (c : Cmd) : State × Ans :=
  if s.fab.faulted c then (s.onFab fun f => f.dropFault c, .done St.memoryFault [])
  else if c.opcode = 0x0106 then s.fabCancel c
  else if c.opcode = 0x0107 then (s, s.replyRecall c)
  else match (opSpec c.opcode).bind (·.run) with
    | some f => let (d, a) := f s.dev c; ({ s with dev := d }, a)
    | none => (s, .done St.badOpcode [])

/-- The status with which FAB_COMMIT refuses its payload, if it does (R66). -/
def commitRefuses (p : Bytes) : Option Nat := if p.length ≠ 4 then some St.badLength else if !maskOk (num p 0 4) then some St.badParam else none

/-- Whether a command acts only at a quiet pip (R607). -/
def Cmd.needsQuiet (c : Cmd) : Bool := c.opcode = 0x0704 || c.opcode = 0x0B01 || (c.opcode = 0x0002 && num c.payload 0 1 = 1)

/-- Whether the flight with an id still waits to start. -/
def Fab.waits (f : Fab) (id : Nat) : Bool := f.flights.any fun x => x.cmd.id = id && (x.phase == .waitLaunch || x.phase == .running)

/-- Start a command in flight that answers through the collector: it completes at once, waits for a quiet pip or its commit point, or is worked on. -/
def State.start (s : State) (c : Cmd) : State :=
  let first := s.dev.pip + (if c.launch.isSome then 0 else 1)
  if !s.fab.waits c.id then s
  else if c.opcode = 0x0104 then
    s.onFab fun f => f.setPhase c.id (match commitRefuses c.payload with | some st => .produced st [] s.dev.pip | none => .waitCommit first)
  else
    match s.runOp c with
    | (s', .done st pl) =>
      if c.needsQuiet && st = 0 then s.onFab fun f => f.setPhase c.id (.waitQuiet first (min (first + 39) c.deadline))
      else s'.onFab fun f => f.setPhase c.id (.produced st pl s.dev.pip)
    | (s', .running) =>
      if c.needsQuiet then s.onFab fun f => f.setPhase c.id (.waitQuiet first (min (first + 39) c.deadline))
      else s'.onFab fun f => f.setPhase c.id .running

/-- The command that an admitted packet becomes (R49, R60, R604). -/
def State.accepted (s : State) (p : Packet) : Cmd :=
  let pip := s.dev.pip
  let spec := opSpec p.opcode
  let launch := if p.launch = 0 then none else launchPip pip p.launch
  { p.cmd with id := s.fab.nextId, accPip := pip, launch := launch, deadline := launch.getD pip + classPips p.cls - 1,
               src := if (spec.any (·.immediate)) && launch.isSome then 79 else (spec.map fun o => o.source p.payload).getD 79 }

/-- Accept a packet (R45, R49): an immediate opcode without a launch pip completes in its answer. -/
def State.accept (s : State) (p : Packet) : State :=
  let c := s.accepted p
  let now := ((opSpec p.opcode).any (·.immediate)) && c.launch.isNone
  let s := s.onDev fun d => (d.inc (Reg.FAB_Q_ACCEPTED p.queue)).setBit Reg.OUT_STATUS 0 true
  let s := s.onDev fun d => { d with out := { d.out with lastAccept := d.pip } }
  let ans := fun (st : Nat) (pl : Bytes) (k : AnsKind) (f : Fab) (d : Dev) => { f with answers := f.answers ++ [{ reply := d.reply c st pl, kind := k, ip := p.ip, port := p.port, own := p.own }] }
  let s := s.onFab fun f => { f with nextId := f.nextId + 1, flights := f.flights ++ [{ cmd := c, phase := if now then .answered else if c.launch.isSome then .waitLaunch else .running }] }
  if now then
    match s.shown.runOp c with
    | (s, .done st pl) => s.onFab fun f => ans st pl (.final c.id) (f.keep (s.dev.reply c st pl)) s.dev
    | (s, .running) => s.onFab fun f => ans St.accepted [] .accepted (f.setPhase c.id .running) s.dev
  else
    let s := (s.onFab fun f => ans St.accepted [] .accepted f s.dev).shown
    if c.launch.isSome then s else s.start c

/-- A packet that has passed steps 1 to 4 of R46. -/
def State.arrive (s : State) (p : Packet) : State :=
  match s.refusal p with
  | some (st, pl) => s.reject p st pl
  | none => s.accept p

/-! ### After every command of the block -/

/-- Take the Kernel's and the units' results, let a reset of the application cores take the fabric with it, and show the FAB registers. -/
def State.settle (s : State) : State :=
  let s := (s.onDev Dev.takeKernel).drain
  let s := if s.dev.sys.fabReset then { s with fab := { Fab.reset with nextId := s.fab.nextId }, dev := { s.dev with outbox := [], sys := { s.dev.sys with fabReset := false } } } else s
  s.shown

/-- A step of the device. -/
def State.devStep (s : State) (f : Dev → Dev) : State := (s.onDev f).settle

/-- A step of the device at the sample latch or boundary of this pip: the final replies it produces are delivered at this pip's collector opening (R75). -/
def State.latchStep (s : State) (f : Dev → Dev) : State :=
  let s1 := s.onDev fun d => (f d).takeKernel
  let ids := s1.dev.outbox.map (·.id)
  (s1.drain.deliver fun x => ids.contains x.cmd.id && s1.dev.pip ≤ x.cmd.deadline).settle

/-- A step of the device at the boundary of this pip where `b` holds, else within the pip. -/
def State.latchIf (s : State) (b : Bool) (f : Dev → Dev) : State := if b then s.latchStep f else s.devStep f

/-! ### Arrival and transports -/

/-- The address at which the module takes commands over UDP: FAB_UDP_IP, or where it does not act for its twin its own TWIN_OWN_IP (R81, R410). -/
def Dev.ownAddr (d : Dev) : Nat := if d.passive then d.rn Reg.TWIN_OWN_IP else d.rn Reg.FAB_UDP_IP

/-- Whether the module accepts a command at one of its addresses: FAB_UDP_IP where it acts for its twin, TWIN_OWN_IP of a twin in either state (R81, R410). -/
def Dev.hears (d : Dev) (ip : Nat) : Bool := (!d.passive && ip = d.rn Reg.FAB_UDP_IP) || (d.twinEn && ip = d.rn Reg.TWIN_OWN_IP)

/-- A command of an opcode row: its packet arrives over the selected transport with a good header and CRC (R46, R81); over UDP none does while the Ethernet ports are stopped (R549, R551). -/
def State.submit (s : State) (h : Hdr) (op : Nat) (payload : Bytes) : State :=
  let p : Packet := { queue := h.queue.toNat, cls := h.cls.toNat, tag := h.tag.toNat, opcode := op, launch := h.launch.toNat, epoch := h.epoch.toNat, payload := payload,
                      ip := if s.udp then h.ip.toNat else 0, port := if s.udp then h.port.toNat else 0, own := if s.udp then s.dev.ownAddr else 0 }
  if !s.fabRuns || (s.udp && !s.dev.ethRuns) then s
  else if s.udp && s.dev.rn Reg.FAB_UDP_PEER ≠ 0 && h.ip.toNat ≠ s.dev.rn Reg.FAB_UDP_PEER then s.devStep fun d => d.inc Reg.FAB_RX_SYNC_ERR
  else if 1024 < payload.length then (s.reject p St.badLength []).settle
  else (s.arrive p).settle

/-- Steps 1 to 4 of R46 on the bytes of a packet, then the rest. -/
def State.packet (s : State) (b : Bytes) (ip port own : Nat) : State :=
  let p : Packet := { queue := num b 2 1, cls := num b 3 1, tag := num b 4 2, opcode := num b 6 2, launch := num b 10 4, epoch := num b 14 2, payload := (b.drop 16).take (num b 8 2), ip := ip, port := port, own := own }
  if b.head? ≠ some 0xB6 || b.length < 16 then s.onDev fun d => d.inc Reg.FAB_RX_SYNC_ERR
  else if b.length < 20 || 1024 < num b 8 2 || b.length ≠ 20 + num b 8 2 then s.reject p St.badLength []
  else if num b (b.length - 4) 4 ≠ (crc32c (b.take (b.length - 4))).toNat then s.reject p St.crcError []
  else if num b 1 1 ≠ 1 then s.reject p St.badParam (reason 1)
  else s.arrive p

/-- COMMAND_PACKET_ARRIVAL (R46, R76, R81): a datagram to another address or a closed port is none of the fabric's and is not counted; with the Ethernet ports stopped none arrives (R549). -/
def State.arrival (s : State) (i : PacketIn) : State :=
  if !s.fabRuns then s
  else match i with
    | .spi => if s.udp then s else match s.fab.rxBufs with
      | b :: rest => (({ s with fab := { s.fab with rxBufs := rest } } : State).packet b 0 0 0).settle
      | [] => s
    | .udp ip port toIp toPort fragmented b =>
      if !s.udp || !s.dev.ethRuns || toPort.toNat ≠ s.dev.rn Reg.FAB_UDP_PORT || !s.dev.hears toIp.toNat then s
      else if fragmented || (s.dev.rn Reg.FAB_UDP_PEER ≠ 0 && ip.toNat ≠ s.dev.rn Reg.FAB_UDP_PEER) then s.devStep fun d => d.inc Reg.FAB_RX_SYNC_ERR
      else (s.packet b ip.toNat port.toNat toIp.toNat).settle

/-- WRITE_PACKET (R78). -/
def State.writePacket (s : State) (b : Bytes) : State :=
  if s.udp || !s.fabRuns then s
  else if 4 ≤ s.fab.rxBufs.length then s.devStep fun d => (d.inc Reg.FAB_RX_OVERRUN).raise Reg.FAB_EVENT FabEv.rxOverrun
  else s.onFab fun f => { f with rxBufs := f.rxBufs ++ [b.take 1045] }

/-- Whether HOST_IRQ_N is driven low (R80, R82). -/
def State.irq (s : State) : Bool := !s.udp && s.fabRuns && (s.fab.answers ≠ [] || s.fab.flights.any Flight.ready || s.fab.stale ≠ [])

/-- READ_STATUS (R77): zeros while the fabric is in reset or paused (R500), nothing where HOSTSEL is high. -/
def State.readStatus (s : State) : State :=
  let v := min 255 s.fab.answers.length + 256 * min 255 ((s.fab.flights.filter Flight.ready).length + s.fab.stale.length) + 65536 * b2n (decide (s.fab.rxBufs.length < 4)) + 131072 * b2n s.irq
  s.onFab fun f => { f with spiOut := if s.udp then [] else if s.fabRuns then leN v 4 else [0, 0, 0, 0] }

/-- READ_REPLY (R79): the host clocks out `n` bytes; the reply counts as read with its last CRC byte.
DESIGN CHOICE (log entry 76): an answer that enters the FIFO after a ring's reply was cut short goes before it, by R79's first sentence; the reply cut short follows it. -/
def State.readReply (s : State) (n : Nat) : State :=
  if s.udp then s.onFab fun f => { f with spiOut := [] }
  else if !s.fabRuns then s.onFab fun f => { f with spiOut := List.replicate n 0 }
  else match s.fab.next with
    | none => s.onFab fun f => { f with spiOut := List.replicate n 0 }
    | some (r, _, f) =>
      let b := r.bytes
      ({ s with fab := { (if b.length ≤ n then f else s.fab) with spiOut := padTo n b } } : State).settle

/-- Any other HOST_SPI instruction byte (R77). -/
def State.spiUnknown (s : State) : State := if s.udp || !s.fabRuns then s else s.devStep fun d => d.inc Reg.FAB_RX_SYNC_ERR

/-- Whether a reply still leaves the module over UDP: none from FAB_UDP_IP once it no longer acts for its twin (R420), but for those up to the reply of a switch-over (R422). -/
def Dev.mayReply (d : Dev) (own : Nat) : Bool := !d.passive || d.twin.lastReply || (d.twinEn && own = d.rn Reg.TWIN_OWN_IP)

/-- UDP_REPLY_SEND (R54, R82): one datagram from FAB_UDP_PORT at the address the command came to. A reply that a demoted module may no longer send is dropped (R420). -/
def State.udpSend (s : State) : State :=
  if !s.udp || !s.fabRuns || !s.dev.ethRuns then s
  else match s.fab.next with
    | none => s
    | some (r, (ip, port, own), f) =>
      if s.dev.mayReply own then
        let d := if r.opcode = 0x0B01 && r.status ≠ St.accepted then s.dev.setTwin fun t => { t with lastReply := false } else s.dev
        ({ s with dev := d, fab := { f with udpOut := some { own := own, source := s.dev.rn Reg.FAB_UDP_PORT, ip := ip, port := port, bytes := r.bytes } } } : State).settle
      else ({ s with fab := f } : State).settle

/-! ### At the pip boundary -/

/-- The numbers skipped at a renumbering are added to launch and deadline pips (R107). -/
def Flight.shift (k : Nat) (x : Flight) : Flight :=
  { cmd := { x.cmd with launch := x.cmd.launch.map (· + k), deadline := x.cmd.deadline + k },
    phase := match x.phase with | .waitQuiet a b => .waitQuiet (a + k) (b + k) | .waitCommit p => .waitCommit (p + k) | ph => ph }

/-- A renumbering moves every command in flight (R107). -/
def Fab.shift (f : Fab) (k : Nat) : Fab := { f with flights := f.flights.map (Flight.shift k) }

/-- The command has still to act. -/
def Phase.waits : Phase → Bool
  | .waitLaunch | .waitQuiet _ _ | .waitCommit _ => true
  | .running | .produced _ _ _ | .answered | .delivered _ _ => false

/-- An error met for a command that has not come to act stands for the pip, or as long as the command waits (DEDUCED, log entry 33). -/
def Fab.keepFaults (f : Fab) : Fab := { f with faults := f.faults.filter fun e => f.flights.any fun x => x.cmd.queue = e.1 && x.cmd.tag = e.2 && x.phase.waits }

/-- A renumbering moves the copied in-flight table of a standby too, and that of a copy that waits (R107, R408). -/
def Dev.shiftCopied (d : Dev) (k : Nat) : Dev :=
  d.setTwin fun t => { t with inflight := t.inflight.map (Flight.shift k), copy := t.copy.map fun c => { c with flights := c.flights.map (Flight.shift k) } }

/-- Whether a FAB_COMMIT in flight is due at this pip's commit point (R67). -/
def Flight.commitDue (x : Flight) (pip : Nat) : Bool :=
  x.cmd.opcode = 0x0104 && match x.phase with
    | .waitCommit p => p ≤ pip
    | .waitLaunch => x.cmd.launch.any (· ≤ pip)
    | _ => false

/-- A launch that fires while tb1_aligned is 0 is counted, flagged and logged (R110). -/
def Dev.unaligned (d : Dev) (c : Cmd) : Dev :=
  if c.launch.isNone || d.rbit Reg.TIME_STATUS 8 then d
  else ((d.inc Reg.TIME_UNALIGNED_LAUNCH).raise Reg.TIME_EVENT 128).log 68 7 ([byte c.queue] ++ leN c.tag 2 ++ leN d.pip 6)

/-- A command that a module has accepted as ACTIVE and that falls due after it has given that up: one that the module would now refuse completes with DENIED and changes nothing (R410, R411; DEDUCED, log entry 63). -/
def Dev.refusesNow (d : Dev) (c : Cmd) : Bool := d.passive && !passiveAccepts c.opcode c.payload

/-- COMMIT_POINT: every FAB_COMMIT that is due acts, in ascending queue index and acceptance order (R68, R70). -/
def State.commitPoint (s : State) : State :=
  (sortBy (fun x : Flight => x.cmd.queue) (s.fab.flights.filter fun x => x.commitDue s.dev.pip)).foldl (fun (s : State) x =>
    let s := s.onDev fun d => d.unaligned x.cmd
    match if s.dev.refusesNow x.cmd then some St.denied else if s.fab.faulted x.cmd then some St.memoryFault else commitRefuses x.cmd.payload with
    | some st => s.onFab fun f => (if st = St.memoryFault then f.dropFault x.cmd else f).setPhase x.cmd.id (.produced st [] s.dev.pip)
    | none => (s.onDev fun d => d.commit (num x.cmd.payload 0 4)).onFab fun f => f.setPhase x.cmd.id (.produced St.ok (leN s.dev.pip 8) s.dev.pip)) s

/-- SCHEDULED_ACTION_FIRE (R59): launched commands fire in ascending queue index and, within a queue, in acceptance order, which the model takes for its "slot order" (R34; DESIGN CHOICE, log entry 89); then a command that waits for a quiet pip acts if no other is in flight (R607). -/
def State.fire (s : State) : State :=
  let due := sortBy (fun x : Flight => x.cmd.queue) (s.fab.flights.filter fun x => x.phase == .waitLaunch && x.cmd.launch.any (· ≤ s.dev.pip))
  let s := due.foldl (fun (s : State) x =>
    if !s.fab.waits x.cmd.id then s
    else if s.dev.refusesNow x.cmd then s.onFab fun f => f.setPhase x.cmd.id (.produced St.denied [] s.dev.pip)
    else (s.onDev fun d => d.unaligned x.cmd).start x.cmd) s
  match s.fab.flights with
  | [x] => match x.phase with
    | .waitQuiet a b =>
      if a ≤ s.dev.pip && s.dev.pip ≤ b then
        match s.runOp x.cmd with
        | (s', .done st pl) => s'.onFab fun f => f.setPhase x.cmd.id (.produced st pl s.dev.pip)
        | (s', .running) => s'.onFab fun f => f.setPhase x.cmd.id .running
      else s
    | _ => s
  | _ => s

/-- What a command has done to the copied state alone, `e` being `d` with all that it did (R406, R408). -/
def Dev.onCopied (d e : Dev) : Dev :=
  let pend := fun x : LivePend => copied (match x with | .set a _ _ => a | .clear a _ => a)
  { d with regs := mergeCopied d.regs e.regs, shadow := mergeCopied d.shadow e.shadow, live := d.live.filter (fun x => !pend x) ++ e.live.filter (fun x => pend x),
           out := e.out, bill := e.bill, mesh := e.mesh, disp := e.disp, tag := e.tag, fresh := e.fresh }

/-- A standby in sync fires the launches of its copied in-flight table on its own copy of the state and nothing else, without reply (R110, R408); they stay in the table of its last copy (R418). -/
def Dev.standbyFire (d : Dev) (commits : Bool) : Dev :=
  if d.twinState ≠ 3 then d
  else
    (sortBy (fun x : Flight => x.cmd.queue) (d.twin.inflight.filter fun x => x.phase == .waitLaunch && x.cmd.launch.any (· ≤ d.pip) && (x.cmd.opcode = 0x0104) == commits)).foldl (fun (d : Dev) x =>
      let c : Cmd := { x.cmd with id := 0 }
      let d := (d.unaligned x.cmd).setTwin fun t => { t with inflight := t.inflight.map fun (y : Flight) => if y.cmd.id = x.cmd.id then { y with phase := .answered } else y }
      if commits then (if (commitRefuses c.payload).isNone then d.commitSel (fun a => inMask (num c.payload 0 4) a && copied a) else d)
      else if c.needsQuiet then d
      else match (opSpec c.opcode).bind (·.run) with
        | some f => d.onCopied (f d c).1
        | none => d) d

/-- The first collector opening after a promotion answers the commands of the silent partner with STALE_EPOCH (R418). -/
def State.staleReplies (s : State) : State :=
  let l := s.dev.twin.stale
  if l = [] then s
  else
    let pl := leN (s.dev.rn Reg.TWIN_EPOCH) 4
    let new := sortBy (fun x : Flight => x.cmd.src * 32 + x.cmd.queue) (l.map fun c => Flight.mk c (.delivered s.dev.pip (s.dev.reply c St.staleEpoch pl)))
    let f := (l.map fun c => s.dev.reply c St.staleEpoch pl).foldl Fab.keep s.fab
    { s with dev := s.dev.setTwin fun t => { t with stale := [] }, fab := { f with stale := f.stale ++ new } }

/-- The commands whose window for a quiet pip ends with this pip complete with BUSY (R607). -/
def Fab.endQuiet (f : Fab) (pip : Nat) : Fab :=
  { f with flights := f.flights.map fun (x : Flight) => match x.phase with
      | .waitQuiet _ b => if b ≤ pip then { x with phase := .produced St.busy [] pip } else x
      | _ => x }

/-- COLLECTOR_OPENING (R72): the final replies produced since the previous opening, but for those whose deadline has passed (R62); BUSY for a window that ends without a quiet pip (R607). -/
def State.collector (s : State) : State := ((s.staleReplies.drain).onFab fun f => f.endQuiet s.dev.pip).deliver fun x => s.dev.pip ≤ x.cmd.deadline

/-! ### Deadlines -/

/-- Whether a FRAM access is a command's. -/
def FramAcc.isOf (id : Nat) : FramAcc → Bool
  | .read i _ _ => i = id
  | .write i _ _ => i = id
  | .passport _ | .field _ => false

/-- Whether a Kernel command is a host command's. -/
def KCmd.isOf (id : Nat) : KCmd → Bool
  | .host _ _ i _ => i = id
  | .renumber _ _ _ | .sessOpen _ _ _ | .sessClose _ _ _ | .iBreak _ _ _ => false

/-- Whether a unit has not begun to act on a command (R63): its FRAM access stands behind another (R437), its display update behind one that runs (R463), or the Kernel has not executed it (R184). -/
def Dev.queued (d : Dev) (id : Nat) : Bool :=
  (d.tag.accs.drop (b2n d.tag.serving)).any (FramAcc.isOf id) || ((List.range 8).any fun r => (d.upd r).pending = some id) || d.kern.inbox.any (KCmd.isOf id)

/-- Withdraw a command on which its unit has not begun to act: nothing of it is done (R63). -/
def Dev.withdraw (d : Dev) (id : Nat) : Dev :=
  let d := d.setTag fun t => { t with accs := t.accs.take (b2n t.serving) ++ (t.accs.drop (b2n t.serving)).filter fun a => !a.isOf id }
  let d := (List.range 8).foldl (fun (d : Dev) r => if (d.upd r).pending = some id then d.setUpd r { d.upd r with pending := none } else d) d
  { d with kern := { d.kern with inbox := d.kern.inbox.filter fun c => !c.isOf id } }

/-- Whether a command's deadline pip has passed without a delivered final reply, and if so whether it had begun to act (R62, R63). A command that waits for a quiet pip never misses (R607). -/
def Flight.missed (d : Dev) (x : Flight) : Option Bool :=
  if d.pip ≤ x.cmd.deadline then none
  else match x.phase with
    | .waitLaunch | .waitCommit _ => some false
    | .running => some (!d.queued x.cmd.id)
    | .produced _ _ _ => some true
    | .waitQuiet _ _ | .answered | .delivered _ _ => none

/-- Count, record and log a missed deadline (R62). -/
def Dev.missed (d : Dev) (c : Cmd) (started : Bool) : Dev :=
  let d := (d.inc (Reg.FAB_DL_MISS_D0 + 4 * c.cls)).inc (Reg.FAB_Q_DL_MISS c.queue)
  let d := (d.wn Reg.FAB_LAST_MISS (c.tag * 65536 + c.queue * 256 + c.opcode % 256)).wn Reg.FAB_LAST_MISS_PIP d.pip
  (d.raise Reg.FAB_EVENT FabEv.dlMiss).log 79 0 ([byte c.queue] ++ leN c.tag 2 ++ leN c.opcode 2 ++ leN d.pip 6 ++ [byte (b2n started)])

/-- DEADLINE_MISS (R62, R63). -/
def State.deadlineMiss (s : State) : State :=
  let hit := s.fab.flights.filter fun x => (x.missed s.dev).isSome
  let s := hit.foldl (fun (s : State) x =>
    let started := (x.missed s.dev).getD false
    let ended := match x.phase with | .produced _ _ p => some p | _ => none
    let s := s.onDev fun d => (if started then d else d.withdraw x.cmd.id).missed x.cmd started
    s.onFab fun f => { f with late := if started then f.late ++ [{ cmd := x.cmd, ended := ended }] else f.late,
                              flights := f.flights.map fun (y : Flight) => if y.cmd.id = x.cmd.id then { cmd := { y.cmd with src := 79 }, phase := .produced St.deadlineMissed [byte (b2n started), 0, 0, 0] s.dev.pip } else y }) s
  let ids := hit.map (·.cmd.id)
  (s.deliver fun x => ids.contains x.cmd.id).settle

/-- STARTED_COMMAND_END (R63): the second record of a command that ended after its deadline. -/
def State.startedEnd (s : State) : State :=
  let done := s.fab.late.filter fun l => l.ended.isSome
  let s := s.onFab fun f => { f with late := f.late.filter fun l => l.ended.isNone }
  s.devStep fun d => done.foldl (fun (d : Dev) l => d.log 79 0xFF ([byte l.cmd.queue] ++ leN l.cmd.tag 2 ++ leN l.cmd.opcode 2 ++ leN (l.ended.getD 0) 6)) d

/-- QUIET_PIP_WINDOW_EXPIRY (R607). -/
def State.quietExpiry (s : State) : State :=
  let past := fun (x : Flight) => match x.phase with | .waitQuiet _ b => decide (b ≤ s.dev.pip) | _ => false
  let ids := (s.fab.flights.filter past).map (·.cmd.id)
  let s := s.onFab fun f => f.endQuiet s.dev.pip
  (s.deliver fun x => ids.contains x.cmd.id).settle

end Sys2Proof.Machine
end

