-- ==== Sys2Proof/Machine/PipBoundary.lean ====
section
/-!
DEFINITION. The pip boundary (R7), the switch-die frame of the pip (R370), the session task's Kernel sessions (R612), and the work that crosses blocks: mesh actions (R305), uncorrectable errors (R510, R524).
-/
namespace Sys2Proof.Machine

/-! ### The sample latch (R28, R173, R241, R132 to R136) -/

/-- The Kernel channels that carry an outlet: three for a CCS-AC outlet (R117). -/
def Dev.outChans (d : Dev) (n : Nat) : List Nat := if d.outType n = 2 then [n, n + 1, n + 2] else [n]

/-- Both samples of the last pip, as the mirror shows a channel: voltages in mV and currents in mA with 16 fraction bits. -/
def Dev.bothSamples (d : Dev) (m : Nat) : List (Int × Int) :=
  let s := (d.mirror.ch m).shown
  [(s.1, s.2.2.1), (s.2.1, s.2.2.2)]

/-- Whether every sample that the latch shows of an outlet meets a test; a latch of fewer than two samples meets none. -/
def Dev.shownAll (d : Dev) (n : Nat) (f : Int → Int → Bool) : Bool :=
  decide (2 ≤ d.mirror.latchCount) && (d.outChans n).all fun m => (d.bothSamples m).all fun x => f x.1 x.2

/-- The session's part of the sample latch (R133 to R136). -/
def Dev.outLatches (d : Dev) (n : Nat) : Dev :=
  let mV : Int := 65536
  let tv := (d.rn (Reg.OUT_SP_VOLT n) : Int) * 100 * mV
  let rv := (d.rn (Reg.OUT_EV_REQ_V n) : Int) * 100 * mV
  if d.outType n = 0 then d
  else
    d.outLatch n (d.flagBelow n)
      (d.shownAll n fun v _ => decide (v.natAbs < 60000 * 65536))
      (decide (0 < tv) && d.shownAll n fun v _ => decide (20 * (v - tv).natAbs ≤ tv.natAbs))
      (d.shownAll n fun v i => decide ((v - rv).natAbs ≤ 20000 * 65536) && decide (i.natAbs ≤ 2000 * 65536))

/-- Whether the session and billing tasks act at a latch: the application cores run and the module is not a passive twin. -/
def Dev.latchRuns (d : Dev) : Bool := !d.passive && d.domainRuns 0 && d.mode != .boot && d.mode != .sprout && !d.sys.inReset

/-- SAMPLE_LATCH (R28): the Kernel shows the pip's samples, the mirror copies it, and the Stone and the sessions judge what it shows. -/
def Dev.sampleLatch (d : Dev) : Dev :=
  let d := d.pfailRelease.kernDo fun k => k.latch.applyNext d.pip
  let d := ({ d with mirror := d.kern } : Dev).meteredLatch
  let d := if d.mirror.signer ≠ 0 then d.degrade 4 else d.undegrade 4
  if d.latchRuns then (List.range 32).foldl (fun (d : Dev) n => d.outLatches n) d else d

/-- The copy that waits is applied at the boundary (R405). -/
def Dev.boundaryCopy (d : Dev) : Dev := if d.shellRuns then d.copyApply else d

/-- The changes of commanded state that the boundary has made were made before the pip's +200 µs (R407). -/
def Dev.early (d : Dev) : Dev := d.setTwin fun t => { t with early := d.pendCmds.length }

/-- BILL at the latch, with the prices that the commit point of this pip has put in force (R241). -/
def Dev.billPip (d : Dev) : Dev := if d.latchRuns then d.billLatch else d

/-! ### The rest of the boundary -/

/-- The work of the pip that does not pass through the fabric: supply, load switches, pilots, Husk, display, twin, FRAM. -/
def Dev.pipWork (d : Dev) (i : PipIn) : Dev :=
  let d := d.powerPip i
  let d := (({ d with safe := { d.safe with hubExt := i.hubLow } } : Dev).setBit Reg.SAFE_STATUS 3 (d.rbit Reg.SAFE_STATUS 2 || i.hubLow)).lswTick (max i.feedA i.feedB)
  let d := if d.pausing then d.pmAges else if d.passive || !d.domainRuns 0 || d.mode == .boot || d.mode == .sprout then d else d.outTick i.pilots
  let d := if d.domainRuns 2 && !d.husk.resetting then d.huskTick else d
  let d := if d.shellRuns then (List.range 8).foldl (fun (d : Dev) t => d.t1sTick t) d else d
  let d := if d.domainRuns 6 then (if d.passive then d else d.dispPip).dispScan else d
  let d := if d.domainRuns 6 && d.pip % 4000 = 0 then d.dispTemp i.temp else d
  let d := if d.shellRuns then d.rdrPip.kpPip else d
  d.twinPip.framShow

/-- PIP_BOUNDARY (R7): a reset due in the pip that ends takes place, where no frame has brought it (R497, R556), the Guard takes that pip's samples (R314), and the pip has sent its Pod frame (R398), the next one begins, then latch, commit point, scheduled firings and collector opening in that order. While the time unit hangs (R551) no pip begins: the row then stands for 250 µs of the Stone's and the
switch die's own oscillators (R33; DESIGN CHOICE, log entry 78). -/
def State.pipBoundary (s : State) (i : PipIn) : State :=
  let s := (if due s.dev.sys.resetReq s.dev.pip then s.devStep Dev.resetDue else s).onDev fun d => ({ d.pfailEnd with osc := d.osc + 1 } : Dev).refTick i.refOk
  if !s.dev.domainRuns 4 then (s.onDev fun d => d.lswTick (max i.feedA i.feedB)).settle
  else
    let s := s.onDev fun d => d.guardPips i.guards
    let (d, k) := s.dev.nextPip
    let d := ((d.shiftCopied k).applyLive).podSend s.dev.pip s.fab.flights
    let d := { d with safe := { d.safe with forceOff := d.safe.forceOff ||| d.safe.forceNext, forceNext := 0 } }
    let s := { s with dev := d.lagTick.handoverEnd.tamperHand.boundaryCopy.keyDue.saveDue.sampleLatch, fab := (s.fab.shift k).keepFaults }
    let s := s.commitPoint.onDev fun d => d.billPip.standbyFire true
    let s := s.fire.onDev fun d => d.standbyFire false
    (s.collector.onDev fun d => (d.pipWork i).early).settle

/-! ### The switch-die frame (R370, R388) -/

/-- SWITCH_DIE_FRAME: none is sent while the Shell is held in reset or before BOOT has ended, and none while no pip begins (R34, R551); the first valid one ends an update pause (R500), and after one an accepted activation or reset acts (R497). -/
def Dev.dieFrame (d : Dev) (f : DieIn) (meas : List (Fin 80 × Nat × Int)) : Dev :=
  if d.sys.inReset || d.mode == .boot || d.mode == .sprout || !d.domainRuns 0 || !d.domainRuns 4 then d
  else
    let good := d.frameValid f
    let d := d.switchFrame f meas
    let d := match d.fwu.pauseFrom with
      | some p =>
        let took := d.fld Reg.FWU_BOOT_STATUS 19 16 = 1 && d.fld Reg.FWU_BOOT_STATUS 15 12 ≠ 2
        if good then (if took then d.wn Reg.FWU_LAST_PAUSE ((d.pip - p) % 65536) else d).setFwu fun f => { f with pauseFrom := none } else d
      | none => d
    (if good && due d.sys.resetReq d.pip && d.sys.resetCause = 6 then d.armActHold else d).resetDue

/-! ### The session task's Kernel commands (R175, R409, R612) -/

/-- KERNEL_SESSION_OPEN: the session task sends the command to open the Kernel session that an outlet wants; the Kernel carries it out or refuses it (R184, R612). A module that does not act for its twin opens none of its own (R409). -/
def Dev.sessOpen (d : Dev) (n : Nat) : Dev := if d.shellRuns && !d.passive && (d.o n).kWant then d.kernSend (.sessOpen n (d.sessionId n) d.kern.latches) else d

/-- KERNEL_SESSION_CLOSE: the session task sends the command to close a Kernel session, with whether the Stone forced the opening (R201); the Kernel carries it out or refuses it (R184, R612). A standby issues only the commands of the copy (R409). -/
def Dev.sessClose (d : Dev) (n : Nat) : Dev :=
  if d.shellRuns && d.twinState ≠ 3 && !d.sessWanted n then (d.kernSend (.sessClose n (d.o n).forced d.kern.latches)).setO n fun o => { o with forced := false } else d

/-- I_BREAK_PASS: I_break goes to the Kernel as a command and t_force to the Stone; the Stone confirms at once, the Kernel when it carries the command out (R175, R184). -/
def Dev.iBreakPass (d : Dev) (n : Nat) : Dev :=
  if !d.shellRuns || d.passive then d
  else
    let d := d.kernSend (.iBreak n (d.fld (Reg.OUT_BREAK n) 7 0) d.kern.latches)
    ({ d with safe := { d.safe with tForce := tset 400 d.safe.tForce n (d.fld (Reg.OUT_BREAK n) 26 16) } }).setO n fun o => { o with confS := true }

/-! ### Mesh actions (R305) -/

/-- Whether an ACTION's instant has come. -/
def MeshAct.ready (a : MeshAct) (m : Mesh) (osc : Nat) : Bool := a.period = 0 || a.period < m.period || (a.period = m.period && m.periodAt + a.offset ≤ osc)

/-- Carry out one ACTION as OUT_STOP or OUT_SET_AVAILABLE. -/
def Dev.meshAct (d : Dev) (a : MeshAct) : Dev :=
  let c : Cmd := { id := 0, queue := 0, cls := 0, tag := 0, opcode := 0, payload := if a.action = 1 then [byte a.outlet, 0, 0, 0] else [byte a.outlet, byte a.arg, 0, 0],
                   accPip := d.pip, launch := none, deadline := d.pip, src := 0, ip := 0, port := 0, own := 0 }
  let (d, st) := match (if a.action = 1 then opOutStop d c else if a.action = 2 then opOutSetAvailable d c else (d, .done St.badParam [])) with
    | (d, .done st _) => (d, st)
    | (d, .running) => (d, St.ok)
  let d := if st = St.ok then d.inc Reg.MESH_ACTION_CNT else d
  if a.answer then d.meshResult a.src a.seq st else d

/-- MESH_ACTION_EXECUTE: every ACTION whose instant has come acts. -/
def Dev.meshExecute (d : Dev) : Dev :=
  let now := d.mesh.actions.filter fun a => a.ready d.mesh d.osc
  now.foldl (fun (d : Dev) a => d.meshAct a) { d with mesh := { d.mesh with actions := d.mesh.actions.filter fun a => !a.ready d.mesh d.osc } }

/-! ### Uncorrectable errors (R510, R524) -/

/-- A command's key operation ends with nothing done. -/
def Dev.dropKey (d : Dev) (id : Nat) : Dev :=
  (d.key.ops.filter fun x => x.2.id = id).foldl (fun (d : Dev) x => ({ d with key := { d.key with ops := d.key.ops.filter fun y => y.1 ≠ x.1 } } : Dev).keyShow x.1) d

/-- A command's work on a save, a load of firmware, a step of TB0, a hand-over or by the Kernel ends with nothing more done. -/
def Dev.dropTask (d : Dev) (id : Nat) : Dev :=
  let d := if d.sys.save.any (fun x => x.1 = id) then d.setSys fun s => { s with save := none } else d
  let d := if d.fwu.busy.any (fun x => x.1 = id) then (d.setFwu fun f => { f with busy := none }).fwuShow else d
  let given : Bool := match d.time.pend with
    | some (.given _ _ i) => i == id
    | some (.agreed _ _) => false
    | none => false
  let d : Dev := if given then d.setTime fun t => { t with pend := none } else d
  let d := if d.twin.handover = some id then d.setTwin fun t => { t with handover := none } else d
  { d with kern := { d.kern with inbox := d.kern.inbox.filter (fun c => !c.isOf id), waits := d.kern.waits.filter fun w => w.2 ≠ id } }

/-- What a command that ends with MEMORY_FAULT had not yet done is not done (R510): its display update, FRAM access, test frames or reader exchange ends. -/
def Dev.dropWork (d : Dev) (id : Nat) : Dev :=
  let d := (List.range 8).foldl (fun (d : Dev) r =>
    let u := d.upd r
    let next : RegionUpd := if u.pending.isSome then { run := u.pending, line := (d.region r).2.2.1, copied := 0, pending := none } else RegionUpd.none
    if u.run = some id then d.setUpd r next else if u.pending = some id then d.setUpd r { u with pending := none } else d) d
  let d := { d with husk := { d.husk with tests := d.husk.tests.filter fun t => t.id ≠ id } }
  let d := if d.tag.exch.any (fun e => e.id = id) then (d.setTag fun t => { t with exch := none }).rdrShow else d
  if d.tag.accs.any (FramAcc.isOf id) then
    (d.setTag fun t => { t with serving := t.serving && !(t.accs.head?.any (FramAcc.isOf id)), accs := t.accs.filter fun a => !a.isOf id }).framServe
  else d

/-- All the work of a command ends. -/
def Dev.dropAll (d : Dev) (id : Nat) : Dev := ((d.dropWork id).dropKey id).dropTask id

/-- What happens to the requester of data that cannot be corrected. A command that is worked on ends at once; of one that has still to act, or that arrives in this pip, the data are read when it acts, and it ends then with nothing done (`State.runOp`). -/
def State.memoryFault (s : State) (r : Requester) : State :=
  match r with
  | .host q t =>
    let arm := s.onFab fun f => { f with faults := (q.val, t.toNat) :: f.faults.filter (· ≠ (q.val, t.toNat)) }
    match s.fab.flights.find? fun x => x.cmd.queue = q.val && x.cmd.tag = t.toNat with
    | some x => match x.phase with
      | .running => s.onDev fun d => (d.dropAll x.cmd.id).finish x.cmd.id St.memoryFault []
      | .waitLaunch | .waitQuiet _ _ | .waitCommit _ => arm
      | .answered | .produced _ _ _ | .delivered _ _ => s
    | none => arm
  | .core => s.onDev fun d => d.shellReset 4
  | .safety => s.onDev fun d => d.setSys fun x => { x with safetyHalt := true }
  | .husk n => s.onDev fun d => d.frameDelivery { lane := n, ok := false, snr := 0, level := 0, symbols := [], frame := .other }
  | .copy => s.onDev fun d => if d.twinState = 4 then d.setTwin fun t => { t with copyUe := true } else d
  | .display | .none => s

/-- SRAM_UNCORRECTABLE_ERROR (R509, R510). -/
def State.sramUncorrectable (s : State) (m addr : Nat) (r : Requester) : State :=
  let s := (s.onDev fun d => d.sramUe m addr).memoryFault r
  (if r = .display then s.onDev fun d => d.scanUe addr else s).settle

/-- FLASH_UNCORRECTABLE (R524): a read of a codeword with more than 40 bit errors; a host read completes with MEMORY_FAULT. -/
def State.flashUncorrectable (s : State) (block : Nat) (r : Requester) : State :=
  let s := s.onDev fun d => d.flashUe block
  (match r with | .host q t => s.memoryFault (.host q t) | .core | .safety | .husk _ | .display | .copy | .none => s).settle

/-! ### Which units run -/

/-- Change the device where a condition on it holds. -/
def Dev.when (d : Dev) (b : Bool) (f : Dev → Dev) : Dev := if b then f d else d

/-- Whether the session, billing and mesh tasks act: the Shell runs and the module is not a passive twin (R402, R411). -/
def Dev.taskRuns (d : Dev) : Bool := d.shellRuns && !d.passive

/-- Whether the CAN ports serve their templates: with the session task, and through an update pause (R131, R500). -/
def Dev.canRuns (d : Dev) : Bool := d.taskRuns || d.pausing

/-- Whether the Husk works: out of its reset, its domain not hung (R282, R551). -/
def Dev.huskRuns (d : Dev) : Bool := d.domainRuns 2 && !d.husk.resetting

/-- Whether the mesh MAC works: it runs on the Husk, through a reset of the application cores and an update pause (R282), but not on a module that does not act for its twin (R411). -/
def Dev.meshRuns (d : Dev) : Bool := d.huskRuns && !d.passive

/-- The safety core pair sends its word while it runs, and forces off the coils of every outlet whose permit it withdraws; the word reaches the Stone whole where `good` (R333, R335, R357). -/
def Dev.pairWord (d : Dev) (good : Bool) : Dev := if d.safetyRuns then d.cpuDecide.permitWord good else d.permitWord false

/-- The heartbeat's loss; a pair silenced by a forced clock change runs again once the Stone has found it lost (R552). -/
def Dev.heartbeatGone (d : Dev) : Dev :=
  let d' := d.heartbeatLost
  if d'.safe.hbLost.isSome && d'.sys.safetyForced then d'.setSys fun s => { s with safetyHalt := false, safetyForced := false } else d'

/-- The session loses its vehicle link in a state from CABLE_CHECK to ENERGY (R277): it ramps down with PROTOCOL, by the row that ENERGY has for it (DEDUCED, log entry 81). -/
def Dev.linkLost (d : Dev) (n : Nat) : Dev :=
  match d.ost n with
  | .cableCheck | .precharge | .energy => (d.setO n fun o => { o with linkUp := false }).rampdown n 2
  | .idle | .plugged | .linking | .negotiating | .authorising | .rampdown | .weldCheck | .unplugged | .fault => d

/-- T1S_LINK_LOSS (R277): the port's link goes down, and a running session loses its vehicle link; a port not in use is idle (R275). -/
def Dev.t1sLoss (d : Dev) (t : Nat) (energy : Bool) : Dev :=
  if d.t1sLost t energy then (((d.setBit (Reg.T1S_STATUS t) 0 false).setBit (Reg.T1S_STATUS t) 1 energy).when (!d.passive) fun d => d.linkLost (24 + t))
  else if d.t1sUsed t && !energy then d.setBit (Reg.T1S_STATUS t) 1 false else d

/-- The VBAT-held legal clock in whole seconds (R486, R536): the Kernel's time, on VBAT alone with what has passed since it stopped. -/
def Dev.vbatLegal (d : Dev) (away : Nat) : Int := (d.kern.now + if d.rbit Reg.SYS_POWER_STATUS 5 && d.kern.pfail then away else 0) / 1000000

/-- BURR_LINE_FIRE (R486, R207): an armed input trips, and the key store, the latch and the Kernel's identity key follow; an ACTIVE module with its partner in STANDBY hands over at the next pip (R489). -/
def Dev.burrFire (d : Dev) (b : BurrIn) : Dev :=
  let t := b.tripped.toNat &&& d.fld Reg.KEY_TAMPER_ARMED 4 0
  if t = 0 then d else
    let d := if d.twinState = 4 && d.inSync then d.setTwin fun t => { t with tamper := 1 } else d
    (d.burr t (d.vbatLegal b.away)).kernDo fun k => k.tamper d.pip

/-! ### Commands that are writes of one register (R602) -/

/-- A REG_WRITE of one word. -/
def State.submitWrite (s : State) (h : Hdr) (a : Nat) (v : Word) : State := s.submit h 0x0101 (leN a 4 ++ leN 1 2 ++ leN 0 2 ++ leN v.toNat 4)

end Sys2Proof.Machine
end

