-- ==== Sys2Proof/Machine/BillCmds.lean ====
section
/-!
DEFINITION. Meanings: the opcodes 0x04xx of tariffs, legal time and billing.
-/
namespace Sys2Proof.Machine

/-- TARIFF_BEGIN (R222): Opcode 0x0400 opens a tariff-table load. -/
def execTariffBegin (h : Hdr) (p : List Byte) (s : State) : Host.Outcome State Fault Refusal :=
  .next (s.submit h 0x0400 p)

/-- TARIFF_CHUNK (R218): Opcode 0x0401 writes the next chunk of a tariff table. -/
def execTariffChunk (h : Hdr) (p : List Byte) (s : State) : Host.Outcome State Fault Refusal :=
  .next (s.submit h 0x0401 p)

/-- TARIFF_END (R219): Opcode 0x0402 verifies the tariff table and stages it. -/
def execTariffEnd (h : Hdr) (p : List Byte) (s : State) : Host.Outcome State Fault Refusal :=
  .next (s.submit h 0x0402 p)

/-- TARIFF_ABORT (R222): Opcode 0x0403 discards an open load or a staged table. -/
def execTariffAbort (h : Hdr) (p : List Byte) (s : State) : Host.Outcome State Fault Refusal :=
  .next (s.submit h 0x0403 p)

/-- TARIFF_READ (R218): Opcode 0x0404 returns bytes of the active tariff table. -/
def execTariffRead (h : Hdr) (p : List Byte) (s : State) : Host.Outcome State Fault Refusal :=
  .next (s.submit h 0x0404 p)

/-- LEGAL_TIME_ADJUST (R212): Opcode 0x0405 slews or steps legal time by a signed amount. -/
def execLegalTimeAdjust (h : Hdr) (p : List Byte) (s : State) : Host.Outcome State Fault Refusal :=
  .next (s.submit h 0x0405 p)

/-- LEGAL_TIME_GET (R211): Opcode 0x0406 returns legal time, offset, status and remaining slew. -/
def execLegalTimeGet (h : Hdr) (p : List Byte) (s : State) : Host.Outcome State Fault Refusal :=
  .next (s.submit h 0x0406 p)

/-- ACCOUNT_SET (R246): Opcode 0x0410 sets a fleet account's balance, limit, window mask and flags. -/
def execAccountSet (h : Hdr) (p : List Byte) (s : State) : Host.Outcome State Fault Refusal :=
  .next (s.submit h 0x0410 p)

/-- ACCOUNT_ADJUST (R247): Opcode 0x0411 adjusts a fleet account's balance once per reference. -/
def execAccountAdjust (h : Hdr) (p : List Byte) (s : State) : Host.Outcome State Fault Refusal :=
  .next (s.submit h 0x0411 p)

/-- ACCOUNT_GET (R243): Opcode 0x0412 returns a fleet account's data. -/
def execAccountGet (h : Hdr) (p : List Byte) (s : State) : Host.Outcome State Fault Refusal :=
  .next (s.submit h 0x0412 p)

/-- TXN_READ (R608): Opcode 0x0413 returns transaction records from a sequence number. -/
def execTxnRead (h : Hdr) (p : List Byte) (s : State) : Host.Outcome State Fault Refusal :=
  .next (s.submit h 0x0413 p)

/-- TOKEN_SUBMIT (R249): Opcode 0x0414 submits a walk-in token for an outlet, as a keypad entry does. -/
def execTokenSubmit (h : Hdr) (p : List Byte) (s : State) : Host.Outcome State Fault Refusal :=
  .next (s.submit h 0x0414 p)

/-- TOKEN_LIST_READ (R250): Opcode 0x0415 returns entries of the used-token list. -/
def execTokenListRead (h : Hdr) (p : List Byte) (s : State) : Host.Outcome State Fault Refusal :=
  .next (s.submit h 0x0415 p)

end Sys2Proof.Machine
end

