-- ==== Sys2Proof/Machine/BillEvents.lean ====
section
/-!
DEFINITION. Meanings: BILL's steps.
-/
namespace Sys2Proof.Machine

/-- FRIENDLY_WINDOW_CLOSE (R245): A friendly-hour window closes, and credit rules apply again from the next latch. -/
def execFriendlyWindowClose (s : State) : Host.Outcome State Fault Refusal :=
  .next (s.devStep fun d => d)

/-- BILL_STATE_SAVE (R242): Every 4,000 pips and at PFAIL, BILL saves balances, session bases and remainders to Shell flash. -/
def execBillStateSave (s : State) : Host.Outcome State Fault Refusal :=
  .next (s.devStep fun d => d.when (d.shellRuns && d.pip % 4000 = 0) Dev.billSave)

/-- BILL_METER_RECORD (R252): Every BILL_METER_INTERVAL pips of an open session, BILL writes a METER transaction record. -/
def execBillMeterRecord (n : Fin 32) (s : State) : Host.Outcome State Fault Refusal :=
  .next (s.devStep fun d => d.when d.taskRuns fun d => d.billMeter n.val)

/-- TOKEN_MIDNIGHT_PURGE (R250): At each local midnight BILL purges expired entries from the used-token list. -/
def execTokenMidnightPurge (s : State) : Host.Outcome State Fault Refusal :=
  .next (s.devStep fun d => d.when d.taskRuns Dev.tokenPurge)

end Sys2Proof.Machine
end

