-- ==== Sys2Proof/Machine/DisplayCmds.lean ====
section
/-!
DEFINITION. Meanings: the opcodes 0x09xx of the display.
-/
namespace Sys2Proof.Machine

/-- DISP_STATUS_GET (R453): Opcode 0x0900 returns the display status, temperature, VPANEL and frame count. -/
def execDispStatusGet (h : Hdr) (p : List Byte) (s : State) : Host.Outcome State Fault Refusal :=
  .next (s.submit h 0x0900 p)

/-- DISP_WRITE (R467): Opcode 0x0901 writes a rectangle of pixels into the staging buffer. -/
def execDispWrite (h : Hdr) (p : List Byte) (s : State) : Host.Outcome State Fault Refusal :=
  .next (s.submit h 0x0901 p)

/-- DISP_UPDATE (R463): Opcode 0x0902 starts or queues the copy of a region from staging to active, superseding an earlier update. -/
def execDispUpdate (h : Hdr) (p : List Byte) (s : State) : Host.Outcome State Fault Refusal :=
  .next (s.submit h 0x0902 p)

/-- DISP_STRESS_READ (R457): Opcode 0x0903 returns pixel stress counters. -/
def execDispStressRead (h : Hdr) (p : List Byte) (s : State) : Host.Outcome State Fault Refusal :=
  .next (s.submit h 0x0903 p)

/-- DISP_STRESS_RESET (R457): Opcode 0x0904 clears every stress counter, accumulator and saved copy. -/
def execDispStressReset (h : Hdr) (p : List Byte) (s : State) : Host.Outcome State Fault Refusal :=
  .next (s.submit h 0x0904 p)

end Sys2Proof.Machine
end

