-- ==== Sys2Proof/Machine/DisplayEvents.lean ====
section
/-!
DEFINITION. Meanings: the display's steps.
-/
namespace Sys2Proof.Machine

/-- DISP_FRAME_START (R449): A 120 Hz display frame begins, applying a band change and scanning the 64 commons. -/
def execDispFrameStart (volt : Nat) (curr : Nat) (s : State) : Host.Outcome State Fault Refusal :=
  .next (s.devStep fun d => d.when (d.domainRuns 6) fun d => d.dispFrame volt curr)

/-- DISP_UPDATE_DONE (R462): A region update handles its last line and completes OK. -/
def execDispUpdateDone (r : Fin 8) (s : State) : Host.Outcome State Fault Refusal :=
  .next (s.devStep fun d => d.when (d.domainRuns 6) fun d => d.dispDone r.val)

/-- DISP_VP_FAULT (R453): Panel overcurrent or low VPANEL switches VPANEL off and stops the scan. -/
def execDispVpFault (s : State) : Host.Outcome State Fault Refusal :=
  .next (s.devStep fun d => d.dispFault)

/-- DISP_STRESS_SAVE (R459): Hourly and at PFAIL, the stress counters are saved to Shell flash. -/
def execDispStressSave (s : State) : Host.Outcome State Fault Refusal :=
  .next (s.devStep fun d => d.when (d.domainRuns 6 && d.domainRuns 0) Dev.dispHourly)

end Sys2Proof.Machine
end

