-- ==== Sys2Proof/Machine/FabricCmds.lean ====
section
/-!
DEFINITION. Meanings: packet arrival, the host transports, the pip and the opcodes 0x01xx of registers and fabric.
-/
namespace Sys2Proof.Machine

/-- COMMAND_PACKET_ARRIVAL (R46): A whole command packet arrives over the selected transport and is checked in order: admitted and accepted, answered with a rejection, or discarded. -/
def execCommandPacketArrival (i : PacketIn) (s : State) : Host.Outcome State Fault Refusal :=
  .next (s.arrival i)

/-- WRITE_PACKET (R77): HOST_SPI instruction 0x02: the host sends one command packet into a free receive buffer, or the packet is discarded and counted as an overrun. -/
def execWritePacket (b : List Byte) (s : State) : Host.Outcome State Fault Refusal :=
  .next (s.writePacket b)

/-- READ_STATUS (R77): HOST_SPI instruction 0x05 returns the answer FIFO level, the ring entries ready, rx_ready and irq. -/
def execReadStatus (s : State) : Host.Outcome State Fault Refusal :=
  .next (s.readStatus)

/-- READ_REPLY (R79): HOST_SPI instruction 0x0B returns the oldest answer, or else the oldest delivered final reply; a reply read to its last CRC byte returns its credits. -/
def execReadReply (n : Nat) (s : State) : Host.Outcome State Fault Refusal :=
  .next (s.readReply n)

/-- SPI_UNKNOWN_INSTRUCTION (R77): Any other HOST_SPI instruction byte ends the transaction, which is ignored and counted in FAB_RX_SYNC_ERR. -/
def execSpiUnknownInstruction (s : State) : Host.Outcome State Fault Refusal :=
  .next (s.spiUnknown)

/-- UDP_REPLY_SEND (R82): A reply leaves ETH0 as one datagram when the datagrams ahead of it have gone, and a final reply then returns its credits. -/
def execUdpReplySend (s : State) : Host.Outcome State Fault Refusal :=
  .next (s.udpSend)

/-- PIP_BOUNDARY (R7): At each 250 µs pip boundary the module runs the sample latch, the commit point, the scheduled firings and the collector opening, in that order. -/
def execPipBoundary (i : PipIn) (s : State) : Host.Outcome State Fault Refusal :=
  .next (s.pipBoundary i)

/-- DEADLINE_MISS (R62): At the collector opening after its deadline pip, a command without a final reply gets DEADLINE_MISSED and is counted, recorded and logged. -/
def execDeadlineMiss (s : State) : Host.Outcome State Fault Refusal :=
  .next (s.deadlineMiss)

/-- STARTED_COMMAND_END (R63): A command that missed its deadline after it had started runs to its end, and a second event-log record of kind 0xFF gives its finishing pip. -/
def execStartedCommandEnd (s : State) : Host.Outcome State Fault Refusal :=
  .next (s.startedEnd)

/-- QUIET_PIP_WINDOW_EXPIRY (R607): A command that waits for a quiet pip finds none within its window and completes with BUSY. -/
def execQuietPipWindowExpiry (s : State) : Host.Outcome State Fault Refusal :=
  .next (s.quietExpiry)

/-- REG_READ (R601): Opcode 0x0100 reads consecutive registers in one pip. -/
def execRegRead (h : Hdr) (p : List Byte) (s : State) : Host.Outcome State Fault Refusal :=
  .next (s.submit h 0x0100 p)

/-- REG_WRITE (R602): Opcode 0x0101 checks every word and then writes registers, the general write to any register without behaviour of its own. -/
def execRegWrite (h : Hdr) (p : List Byte) (s : State) : Host.Outcome State Fault Refusal :=
  .next (s.submit h 0x0101 p)

/-- REG_MODIFY (R605): Opcode 0x0102 writes a masked value to a register and returns the old value its write builds on. -/
def execRegModify (h : Hdr) (p : List Byte) (s : State) : Host.Outcome State Fault Refusal :=
  .next (s.submit h 0x0102 p)

/-- REG_READ_SHADOW (R69): Opcode 0x0103 returns the shadow values of Framed registers. -/
def execRegReadShadow (h : Hdr) (p : List Byte) (s : State) : Host.Outcome State Fault Refusal :=
  .next (s.submit h 0x0103 p)

/-- FAB_COMMIT (R67): Opcode 0x0104 commits the shadows of the selected blocks at the next commit point or at its launch pip. -/
def execFabCommit (h : Hdr) (p : List Byte) (s : State) : Host.Outcome State Fault Refusal :=
  .next (s.submit h 0x0104 p)

/-- FAB_DISCARD (R71): Opcode 0x0105 sets the shadows of the selected blocks equal to their live values. -/
def execFabDiscard (h : Hdr) (p : List Byte) (s : State) : Host.Outcome State Fault Refusal :=
  .next (s.submit h 0x0105 p)

/-- FAB_CANCEL (R65): Opcode 0x0106 withdraws a command of a queue and tag that waits for its launch pip. -/
def execFabCancel (h : Hdr) (p : List Byte) (s : State) : Host.Outcome State Fault Refusal :=
  .next (s.submit h 0x0106 p)

/-- REPLY_RECALL (R83): Opcode 0x0107 returns a past final reply by queue and tag, from a byte offset. -/
def execReplyRecall (h : Hdr) (p : List Byte) (s : State) : Host.Outcome State Fault Refusal :=
  .next (s.submit h 0x0107 p)

/-- FAB_NOP (R45): Opcode 0x0108 echoes its payload, at once or at its launch pip. -/
def execFabNop (h : Hdr) (p : List Byte) (s : State) : Host.Outcome State Fault Refusal :=
  .next (s.submit h 0x0108 p)

end Sys2Proof.Machine
end

