-- ==== Sys2Proof/Machine/FirmwareCmds.lean ====
section
/-!
DEFINITION. Meanings: the opcodes 0x07xx of firmware update.
-/
namespace Sys2Proof.Machine

/-- FWU_STATUS_GET (R494): Opcode 0x0700 returns the update status, bank versions and last pause. -/
def execFwuStatusGet (h : Hdr) (p : List Byte) (s : State) : Host.Outcome State Fault Refusal :=
  .next (s.submit h 0x0700 p)

/-- FWU_BEGIN (R495): Opcode 0x0701 opens a load of the idle firmware bank. -/
def execFwuBegin (h : Hdr) (p : List Byte) (s : State) : Host.Outcome State Fault Refusal :=
  .next (s.submit h 0x0701 p)

/-- FWU_CHUNK (R494): Opcode 0x0702 writes the next chunk of a Shell image, erasing each block first. -/
def execFwuChunk (h : Hdr) (p : List Byte) (s : State) : Host.Outcome State Fault Refusal :=
  .next (s.submit h 0x0702 p)

/-- FWU_END (R494): Opcode 0x0703 checks the loaded image and marks the bank staged. -/
def execFwuEnd (h : Hdr) (p : List Byte) (s : State) : Host.Outcome State Fault Refusal :=
  .next (s.submit h 0x0703 p)

/-- FWU_ACTIVATE (R497): Opcode 0x0704 activates the staged bank at its quiet pip, with carry image and activation hold, and resets the application cores. -/
def execFwuActivate (h : Hdr) (p : List Byte) (s : State) : Host.Outcome State Fault Refusal :=
  .next (s.submit h 0x0704 p)

/-- FWU_CONFIRM (R503): Opcode 0x0705 ends the trial and raises the rollback index. -/
def execFwuConfirm (h : Hdr) (p : List Byte) (s : State) : Host.Outcome State Fault Refusal :=
  .next (s.submit h 0x0705 p)

/-- FWU_ABORT (R495): Opcode 0x0706 closes an open load or unstages a staged bank. -/
def execFwuAbort (h : Hdr) (p : List Byte) (s : State) : Host.Outcome State Fault Refusal :=
  .next (s.submit h 0x0706 p)

end Sys2Proof.Machine
end

