-- ==== Sys2Proof/Machine/GuardEvents.lean ====
section
/-!
DEFINITION. Meanings: the Guard's steps.
-/
namespace Sys2Proof.Machine

/-- RCM_STAGE_TRIP (R318): An RCM stage timer reaches its time, and the channel's trip line is asserted. -/
def execRcmStageTrip (n : Fin 32) (s : State) : Host.Outcome State Fault Refusal :=
  .next (s.devStep fun d => d.when (d.domainRuns 5) fun d => d.rcmTrip n.val)

/-- IMD_WINDOW_START (R321): An IMD injection window begins at its phase pip, driving IMD_INJ_nn high. -/
def execImdWindowStart (n : Fin 32) (s : State) : Host.Outcome State Fault Refusal :=
  .next (s.devStep fun d => d.when (d.domainRuns 5 && !d.passive) fun d => d.imdStart n.val)

/-- IMD_WINDOW_END (R322): An IMD window ends, and the insulation resistance is computed, judged and written. -/
def execImdWindowEnd (n : Fin 32) (s : State) : Host.Outcome State Fault Refusal :=
  .next (s.devStep fun d => d.when (d.domainRuns 5) fun d => d.imdEnd n.val)

/-- GUARD_STREAM_FAULT (R329): A Guard stream is stuck or its clock is absent, and the channel enters FAULT with its trip line asserted. -/
def execGuardStreamFault (n : Fin 32) (s : State) : Host.Outcome State Fault Refusal :=
  .next (s.devStep fun d => d.when (d.domainRuns 5) fun d => d.guardStream n.val)

/-- GUARD_SELF_TEST_END (R330): A Guard self-check ends with pass to STANDBY or failure to FAULT. -/
def execGuardSelfTestEnd (n : Fin 32) (s : State) : Host.Outcome State Fault Refusal :=
  .next (s.devStep fun d => d.when (d.domainRuns 5) fun d => d.guardTestEnd n.val)

end Sys2Proof.Machine
end

