-- ==== Sys2Proof/Machine/HuskCmds.lean ====
section
/-!
DEFINITION. Meanings: the opcodes 0x05xx of the Husk.
-/
namespace Sys2Proof.Machine

/-- HUSK_STATUS_GET (R265): Opcode 0x0500 returns the Husk status and counters. -/
def execHuskStatusGet (h : Hdr) (p : List Byte) (s : State) : Host.Outcome State Fault Refusal :=
  .next (s.submit h 0x0500 p)

/-- LANE_STATS_GET (R278): Opcode 0x0501 returns a lane's status and counters. -/
def execLaneStatsGet (h : Hdr) (p : List Byte) (s : State) : Host.Outcome State Fault Refusal :=
  .next (s.submit h 0x0501 p)

/-- SLAC_PROFILE_GET (R270): Opcode 0x0502 returns the last SLAC decision involving a lane. -/
def execSlacProfileGet (h : Hdr) (p : List Byte) (s : State) : Host.Outcome State Fault Refusal :=
  .next (s.submit h 0x0502 p)

/-- LANE_RESET (R280): Opcode 0x0503 resets a lane and clears its counters. -/
def execLaneReset (h : Hdr) (p : List Byte) (s : State) : Host.Outcome State Fault Refusal :=
  .next (s.submit h 0x0503 p)

/-- T1S_STATUS_GET (R277): Opcode 0x0504 returns a 10BASE-T1S port's status and counters. -/
def execT1sStatusGet (h : Hdr) (p : List Byte) (s : State) : Host.Outcome State Fault Refusal :=
  .next (s.submit h 0x0504 p)

/-- LANE_TX_TEST (R257): Opcode 0x0505 sends broadcast test frames on a lane for a time. -/
def execLaneTxTest (h : Hdr) (p : List Byte) (s : State) : Host.Outcome State Fault Refusal :=
  .next (s.submit h 0x0505 p)

end Sys2Proof.Machine
end

