-- ==== Sys2Proof/Machine/HuskEvents.lean ====
section
/-!
DEFINITION. Meanings: the Husk's steps.
-/
namespace Sys2Proof.Machine

/-- FC_DECODE (R262): A lane decodes a valid frame control and filters, accepts or drops the frame. -/
def execFcDecode (f : FcIn) (s : State) : Host.Outcome State Fault Refusal :=
  .next (s.devStep fun d => d.when d.huskRuns fun d => d.fcDecode f)

/-- FRAME_DELIVERY (R263): A decoded frame is written into the lane's receive ring, or counted as a CRC failure. -/
def execFrameDelivery (f : FrameIn) (s : State) : Host.Outcome State Fault Refusal :=
  .next (s.devStep fun d => d.when d.huskRuns fun d => d.frameDelivery f)

/-- FRAME_LATE (R265): An accepted frame is not delivered by pip A+7, and the miss is counted and logged. -/
def execFrameLate (n : Fin 33) (s : State) : Host.Outcome State Fault Refusal :=
  .next (s.devStep fun d => d.when d.huskRuns fun d => d.frameLate n.val)

/-- HUSK_SLICE (R261): Every 10 µs the Husk datapath is given to one context by precedence. -/
def execHuskSlice (l : SliceIn) (s : State) : Host.Outcome State Fault Refusal :=
  .next (s.devStep fun d => d.when d.huskRuns fun d => d.huskSlice l.arrived l.idle l.again)

/-- NOISE_WINDOW_END (R258): A 64 µs window without a preamble ends, and the lane's noise floor is updated. -/
def execNoiseWindowEnd (n : Fin 33) (w : NoiseIn) (gain : Nat) (preamble : Bool) (s : State) : Host.Outcome State Fault Refusal :=
  .next (s.devStep fun d => d.when d.huskRuns fun d => d.noiseWindow n.val w.rms gain w.peak preamble)

/-- SLAC_PARM_REQ (R268): An eligible lane answers a CM_SLAC_PARM.REQ. -/
def execSlacParmReq (n : Fin 32) (s : State) : Host.Outcome State Fault Refusal :=
  .next (s.devStep fun d => d.when (d.huskRuns && d.taskRuns) fun d => d.slacParm n.val)

/-- SOUND_CAPTURE (R269): Front ends capture attenuation profiles of a preamble, tied across lanes to one RunID. -/
def execSoundCapture (i : SoundIn) (s : State) : Host.Outcome State Fault Refusal :=
  .next (s.devStep fun d => d.when d.huskRuns fun d => d.soundCapture i)

/-- SLAC_DECISION (R271): A RunID is decided on one lane or declared ambiguous, and CM_ATTEN_CHAR.IND is sent or withheld. -/
def execSlacDecision (run : List Byte) (s : State) : Host.Outcome State Fault Refusal :=
  .next (s.devStep fun d => d.when (d.huskRuns && d.taskRuns) fun d => d.slacDecision run)

/-- SLAC_MATCH_REQ (R274): A CM_SLAC_MATCH.REQ is answered with the lane's NID and NMK, and the lane is matched. -/
def execSlacMatchReq (n : Fin 32) (run : List Byte) (s : State) : Host.Outcome State Fault Refusal :=
  .next (s.devStep fun d => d.when (d.huskRuns && d.taskRuns) fun d => d.slacMatch n.val run)

/-- T1S_FRAME_RX (R277): A 10BASE-T1S MAC receives a frame into Shell memory or counts it as an error. -/
def execT1sFrameRx (t : Fin 8) (e : T1sIn) (s : State) : Host.Outcome State Fault Refusal :=
  .next (s.devStep fun d => d.when d.shellRuns fun d => d.t1sRx t.val e)

/-- T1S_LINK_LOSS (R277): A T1S link goes down, and a running session counts it as loss of the vehicle link. -/
def execT1sLinkLoss (t : Fin 8) (energy : Bool) (s : State) : Host.Outcome State Fault Refusal :=
  .next (s.devStep fun d => d.when d.shellRuns fun d => d.t1sLoss t.val energy)

/-- HUSK_FRONT_ENDS_RUNNING (R282): After a Husk or lane reset, the front ends run again, the mesh resumes, and SYS_RESET of scope Husk or LANE_RESET completes. -/
def execHuskFrontEndsRunning (s : State) : Host.Outcome State Fault Refusal :=
  .next (s.devStep fun d => d.when (!d.sys.inReset && d.domainRuns 2) Dev.frontEndsRun)

end Sys2Proof.Machine
end

