-- ==== Sys2Proof/Machine/KernelCmds.lean ====
section
/-!
DEFINITION. Meanings: the opcodes 0x03xx of the Kernel.
-/
namespace Sys2Proof.Machine

/-- KERN_STATUS (R28): Opcode 0x0300 returns the Kernel state, seal counter, ledger head and head hash. -/
def execKernStatus (h : Hdr) (p : List Byte) (s : State) : Host.Outcome State Fault Refusal :=
  .next (s.submit h 0x0300 p)

/-- KERN_CERT_READ (R204): Opcode 0x0301 returns bytes of the Kernel certificate. -/
def execKernCertRead (h : Hdr) (p : List Byte) (s : State) : Host.Outcome State Fault Refusal :=
  .next (s.submit h 0x0301 p)

/-- KERN_PUBKEY_READ (R204): Opcode 0x0302 returns the Kernel public key. -/
def execKernPubkeyRead (h : Hdr) (p : List Byte) (s : State) : Host.Outcome State Fault Refusal :=
  .next (s.submit h 0x0302 p)

/-- KERN_LEDGER_READ (R197): Opcode 0x0303 returns whole ledger records from a counter. -/
def execKernLedgerRead (h : Hdr) (p : List Byte) (s : State) : Host.Outcome State Fault Refusal :=
  .next (s.submit h 0x0303 p)

/-- KERN_INTERVAL_WAIT (R200): Opcode 0x0304 waits for a channel's next interval close and returns its INTERVAL record. -/
def execKernIntervalWait (h : Hdr) (p : List Byte) (s : State) : Host.Outcome State Fault Refusal :=
  .next (s.submit h 0x0304 p)

/-- KERN_RECEIPT_GET (R201): Opcode 0x0305 returns the receipt of a session. -/
def execKernReceiptGet (h : Hdr) (p : List Byte) (s : State) : Host.Outcome State Fault Refusal :=
  .next (s.submit h 0x0305 p)

/-- KERN_SET_CHANNEL (R153): Opcode 0x0306 sets a channel's role, kind, gang position, frequency and balance group. -/
def execKernSetChannel (h : Hdr) (p : List Byte) (s : State) : Host.Outcome State Fault Refusal :=
  .next (s.submit h 0x0306 p)

/-- KERN_SET_CAL (R157): Opcode 0x0307 loads a channel's calibration and full scales under an open seal. -/
def execKernSetCal (h : Hdr) (p : List Byte) (s : State) : Host.Outcome State Fault Refusal :=
  .next (s.submit h 0x0307 p)

/-- KERN_SET_MCLK (R172): Opcode 0x0308 sets a modulator clock's rate and direction under an open seal. -/
def execKernSetMclk (h : Hdr) (p : List Byte) (s : State) : Host.Outcome State Fault Refusal :=
  .next (s.submit h 0x0308 p)

/-- KERN_SET_PULSE (R176): Opcode 0x0309 assigns a pulse output and its constant under an open seal. -/
def execKernSetPulse (h : Hdr) (p : List Byte) (s : State) : Host.Outcome State Fault Refusal :=
  .next (s.submit h 0x0309 p)

/-- KERN_SET_BALANCE (R180): Opcode 0x030A sets a balance group's losses and tolerances. -/
def execKernSetBalance (h : Hdr) (p : List Byte) (s : State) : Host.Outcome State Fault Refusal :=
  .next (s.submit h 0x030A p)

/-- KERN_SET_LIMITS (R213): Opcode 0x030B sets the legal-time adjustment limit and the tariff-signer key under an open seal. -/
def execKernSetLimits (h : Hdr) (p : List Byte) (s : State) : Host.Outcome State Fault Refusal :=
  .next (s.submit h 0x030B p)

/-- KERN_FW_BEGIN (R208): Opcode 0x030C opens a Kernel firmware load and erases the idle slot. -/
def execKernFwBegin (h : Hdr) (p : List Byte) (s : State) : Host.Outcome State Fault Refusal :=
  .next (s.submit h 0x030C p)

/-- KERN_FW_CHUNK (R208): Opcode 0x030D writes the next chunk of a Kernel firmware image. -/
def execKernFwChunk (h : Hdr) (p : List Byte) (s : State) : Host.Outcome State Fault Refusal :=
  .next (s.submit h 0x030D p)

/-- KERN_FW_END (R208): Opcode 0x030E verifies the loaded Kernel firmware image. -/
def execKernFwEnd (h : Hdr) (p : List Byte) (s : State) : Host.Outcome State Fault Refusal :=
  .next (s.submit h 0x030E p)

/-- KERN_FW_ACTIVATE (R208): Opcode 0x030F marks the verified Kernel firmware slot to boot. -/
def execKernFwActivate (h : Hdr) (p : List Byte) (s : State) : Host.Outcome State Fault Refusal :=
  .next (s.submit h 0x030F p)

/-- KERN_ARCHIVE_ACK (R195): Opcode 0x0310 tells the Kernel up to which counter the host holds an archived copy. -/
def execKernArchiveAck (h : Hdr) (p : List Byte) (s : State) : Host.Outcome State Fault Refusal :=
  .next (s.submit h 0x0310 p)

/-- KERN_CHECKPOINT (R203): Opcode 0x0311 writes a CHECKPOINT at once and returns it. -/
def execKernCheckpoint (h : Hdr) (p : List Byte) (s : State) : Host.Outcome State Fault Refusal :=
  .next (s.submit h 0x0311 p)

end Sys2Proof.Machine
end

