-- ==== Sys2Proof/Machine/KernelEvents.lean ====
section
/-!
DEFINITION. Meanings: the Kernel's steps and the session task's Kernel commands.
-/
namespace Sys2Proof.Machine

/-- KERNEL_COMMAND_EXECUTE (R184): At the latch of the pip after its arrival, the Kernel checks a Kernel command against the seal, the ranges and its state, carries it out or refuses it, and audits it. -/
def execKernelCommandExecute (s : State) : Host.Outcome State Fault Refusal :=
  .next (s.latchStep fun d => d.kernDo fun k => k.executeNext d.pip)

/-- KERNEL_SESSION_OPEN (R612): The session task's Kernel command opens a Kernel session on an outlet's channel, at the latch of the next pip (R184). -/
def execKernelSessionOpen (n : Fin 32) (s : State) : Host.Outcome State Fault Refusal :=
  .next (s.devStep fun d => d.sessOpen n.val)

/-- KERNEL_SESSION_CLOSE (R612): The session task's Kernel command closes a Kernel session, at the latch of the next pip (R184), and the Kernel writes its receipt. -/
def execKernelSessionClose (n : Fin 32) (s : State) : Host.Outcome State Fault Refusal :=
  .next (s.devStep fun d => d.sessClose n.val)

/-- I_BREAK_PASS (R175): The Shell passes an outlet's I_break to the Kernel's live-magnitude comparison and t_force to the Stone. -/
def execIBreakPass (n : Fin 32) (s : State) : Host.Outcome State Fault Refusal :=
  .next (s.devStep fun d => d.iBreakPass n.val)

/-- KERNEL_SAMPLE (R159): Every 125 µs the Kernel forms each channel's power, sorts the sample energy into import or export and feeds the pulse outputs.
The first sample of a pip falls at its boundary, so what an interval closed there answers is delivered at this pip's opening. -/
def execKernelSample (i : KSampleIn) (s : State) : Host.Outcome State Fault Refusal :=
  .next (s.latchIf (s.dev.kern.nSince = 0) fun d => d.kernDo fun k => k.sampled i d.pip)

/-- PIP_STROBE (R147): The time unit's pip strobe reaches the Kernel, which trims its sample grid or enters FREE on an irregular pip. -/
def execPipStrobe (len : Option Nat) (s : State) : Host.Outcome State Fault Refusal :=
  .next (s.devStep fun d => d.kernDo fun k => k.strobe len)

/-- KERNEL_REALIGN_START (R147): After 16 consecutive regular pips in FREE, the Kernel enters REALIGNING. -/
def execKernelRealignStart (s : State) : Host.Outcome State Fault Refusal :=
  .next (s.devStep fun d => d.kernDo fun k => k.realign)

/-- KERNEL_ALIGNED (R146): The sample phase reaches the pip boundaries, and the Kernel enters ALIGNED. -/
def execKernelAligned (s : State) : Host.Outcome State Fault Refusal :=
  .next (s.devStep fun d => d.kernDo fun k => k.aligned)

/-- NO_ZC (R168): An AC channel has seen no crossing for 400 samples, and NO_ZC is flagged, counted and audited. -/
def execNoZc (s : State) : Host.Outcome State Fault Refusal :=
  .next (s.devStep fun d => d.kernDo fun k => (List.range 32).foldl (fun (k : Kernel) m => k.noZc m d.pip) k)

/-- STREAM_RECOVERED (R170): A stuck stream has run 80 plus 8 samples clean, and its stuck flag clears with a STREAM_RECOVERED record. -/
def execStreamRecovered (s : State) : Host.Outcome State Fault Refusal :=
  .next (s.devStep fun d => d.kernDo fun k => (List.range 64).foldl (fun (k : Kernel) i => k.streamRecovered i d.pip) k)

/-- MCLK_CLOCK_FAULT (R143): An input-mode modulator clock is absent or out of tolerance, and its sixteen streams are treated as stuck. -/
def execMclkClockFault (n : Fin 4) (s : State) : Host.Outcome State Fault Refusal :=
  .next (s.devStep fun d => d.kernDo fun k => k.mclkFault n.val d.pip)

/-- MCLK_SETTLING_END (R172): Eight samples after an MCLK change, the streams leave settling. -/
def execMclkSettlingEnd (s : State) : Host.Outcome State Fault Refusal :=
  .next (s.devStep fun d => d.kernDo fun k => (List.range 4).foldl (fun (k : Kernel) i => k.settlingEnd i) k)

/-- PENDING_PULSE_EMIT (R179): A pending pulse is emitted once 40 samples have passed since the previous one. -/
def execPendingPulseEmit (s : State) : Host.Outcome State Fault Refusal :=
  .next (s.devStep fun d => d.kernDo fun k => (List.range 4).foldl (fun (k : Kernel) i => k.pendingPulse i) k)

/-- BALANCE_CHECK (R180): Once per second each balance group's residual is checked, and the balance flag is set or cleared after count checks. -/
def execBalanceCheck (s : State) : Host.Outcome State Fault Refusal :=
  .next (s.devStep fun d => d.kernDo fun k => k.balanceCheck d.pip)

/-- SEAL_OPEN (R187): The seal reads open after 800 matching samples, and the counter rises with a SEAL_OPEN record. -/
def execSealOpen (s : State) : Host.Outcome State Fault Refusal :=
  .next (s.devStep fun d => d.kernDo fun k => k.sealOpens d.pip)

/-- SEAL_CLOSE (R187): The seal reads closed, a SEAL_CLOSE record is written, and an open firmware load ends. -/
def execSealClose (s : State) : Host.Outcome State Fault Refusal :=
  .next (s.devStep fun d => d.kernDo fun k => k.sealCloses d.pip)

/-- LEDGER_RECORD_PROGRAM (R194): A closed record is programmed into the ledger ring, reclaiming the oldest block when space is needed. -/
def execLedgerRecordProgram (s : State) : Host.Outcome State Fault Refusal :=
  .next (s.devStep fun d => d.kernDo fun k => k.program d.pip)

/-- CHECKPOINT_DUE (R199): After 256 unsigned records or at each 15-minute pip, the Kernel writes a CHECKPOINT. -/
def execCheckpointDue (s : State) : Host.Outcome State Fault Refusal :=
  .next (s.devStep fun d => d.kernDo fun k => k.checkpointDue d.pip)

/-- METER_FAULT_ENTRY (R206): A Kernel memory, accumulator or self-test failure puts the Kernel in METER_FAULT with an audit record. -/
def execMeterFaultEntry (cause : Fin 4) (s : State) : Host.Outcome State Fault Refusal :=
  .next (s.devStep fun d => d.kernDo fun k => k.meterFault (cause.val + 1) d.pip)

/-- KERNEL_POWER_ON (R236): The Kernel's power-on restores from the snapshot, writes CHECKPOINT and OUTAGE, fires missed boundaries and opens a PARTIAL interval. -/
def execKernelPowerOn (us : Int) (kept : Bool) (slot0 : Bool) (slot1 : Bool) (s : State) : Host.Outcome State Fault Refusal :=
  .next (s.devStep fun d => d.kernDo fun k => k.powerOn d.pip us kept slot0 slot1)

/-- INTERVAL_BOUNDARY (R234): At a demand-interval boundary the Kernel closes intervals, fires billing boundaries, activates a staged table, switches tariff and opens new intervals. -/
def execIntervalBoundary (s : State) : Host.Outcome State Fault Refusal :=
  .next (s.latchStep fun d => d.kernDo fun k => k.intervalBoundary d.pip)

/-- OFFSET_CHANGE (R225): A scheduled local-offset change applies at its UTC instant without a split. -/
def execOffsetChange (s : State) : Host.Outcome State Fault Refusal :=
  .next (s.latchStep fun d => d.kernDo fun k => k.offsetChange d.pip)

/-- LEGAL_TIME_SLEW_TICK (R214): Every 8 samples while a slew remains, legal time is advanced or held back by 1 µs. -/
def execLegalTimeSlewTick (s : State) : Host.Outcome State Fault Refusal :=
  .next (s.devStep fun d => d.kernDo fun k => k.slewStep)

/-- LXO_STOP (R538): The legal-clock oscillator stops, and the Kernel continues from KREF with time_suspect. -/
def execLxoStop (s : State) : Host.Outcome State Fault Refusal :=
  .next (s.devStep fun d => d.kernDo fun k => k.lxoStop d.pip)

/-- KREF_FAIL (R539): KREF is absent or out of range, and the Kernel stops MCLK and treats all streams as stuck. -/
def execKrefFail (s : State) : Host.Outcome State Fault Refusal :=
  .next (s.devStep fun d => d.kernDo fun k => k.krefFail d.pip)

end Sys2Proof.Machine
end

