-- ==== Sys2Proof/Machine/KeyCmds.lean ====
section
/-!
DEFINITION. Meanings: the opcodes 0x08xx of the key store.
-/
namespace Sys2Proof.Machine

/-- KEY_STATUS_GET (R490): Opcode 0x0800 returns the key-store status, tamper status, KEK generation and key-slot map. -/
def execKeyStatusGet (h : Hdr) (p : List Byte) (s : State) : Host.Outcome State Fault Refusal :=
  .next (s.submit h 0x0800 p)

/-- KEY_LOAD (R475): Opcode 0x0801 loads a blob into a slot, optionally persisting it. -/
def execKeyLoad (h : Hdr) (p : List Byte) (s : State) : Host.Outcome State Fault Refusal :=
  .next (s.submit h 0x0801 p)

/-- KEY_CLEAR (R477): Opcode 0x0802 zeroes a slot, optionally deleting its persisted blob. -/
def execKeyClear (h : Hdr) (p : List Byte) (s : State) : Host.Outcome State Fault Refusal :=
  .next (s.submit h 0x0802 p)

/-- KEY_GENERATE (R480): Opcode 0x0803 generates a key into a slot and returns its blob. -/
def execKeyGenerate (h : Hdr) (p : List Byte) (s : State) : Host.Outcome State Fault Refusal :=
  .next (s.submit h 0x0803 p)

/-- KEY_IMPORT (R481): Opcode 0x0804 unwraps an imported key under a WRAP slot and returns a new blob. -/
def execKeyImport (h : Hdr) (p : List Byte) (s : State) : Host.Outcome State Fault Refusal :=
  .next (s.submit h 0x0804 p)

/-- KEY_PUBKEY (R480): Opcode 0x0805 returns the public key of a SIGN slot. -/
def execKeyPubkey (h : Hdr) (p : List Byte) (s : State) : Host.Outcome State Fault Refusal :=
  .next (s.submit h 0x0805 p)

/-- KEY_CSR (R482): Opcode 0x0806 builds a certificate signing request with a host-enabled SIGN slot. -/
def execKeyCsr (h : Hdr) (p : List Byte) (s : State) : Host.Outcome State Fault Refusal :=
  .next (s.submit h 0x0806 p)

/-- KEY_AEAD (R482): Opcode 0x0807 encrypts or decrypts with a host-enabled GCM slot. -/
def execKeyAead (h : Hdr) (p : List Byte) (s : State) : Host.Outcome State Fault Refusal :=
  .next (s.submit h 0x0807 p)

/-- KEY_TAMPER_ARM (R485): Opcode 0x0808 arms tamper inputs. -/
def execKeyTamperArm (h : Hdr) (p : List Byte) (s : State) : Host.Outcome State Fault Refusal :=
  .next (s.submit h 0x0808 p)

/-- KEY_CHAIN_WRITE (R483): Opcode 0x0809 writes a chunk of a certificate set. -/
def execKeyChainWrite (h : Hdr) (p : List Byte) (s : State) : Host.Outcome State Fault Refusal :=
  .next (s.submit h 0x0809 p)

end Sys2Proof.Machine
end

