-- ==== Sys2Proof/Machine/MemoryCmds.lean ====
section
/-!
DEFINITION. Meanings: the opcodes 0x0Fxx of memory integrity.
-/
namespace Sys2Proof.Machine

/-- MEM_STATUS_GET (R516): Opcode 0x0F00 returns the memory-integrity status and last failures. -/
def execMemStatusGet (h : Hdr) (p : List Byte) (s : State) : Host.Outcome State Fault Refusal :=
  .next (s.submit h 0x0F00 p)

/-- MEM_ECC_WRITE_RAW (R521): Opcode 0x0F01 writes a data word and check byte in the test window exactly as given. -/
def execMemEccWriteRaw (h : Hdr) (p : List Byte) (s : State) : Host.Outcome State Fault Refusal :=
  .next (s.submit h 0x0F01 p)

/-- MEM_ECC_READ (R521): Opcode 0x0F02 reads a test-window word and reports the check byte and ECC result. -/
def execMemEccRead (h : Hdr) (p : List Byte) (s : State) : Host.Outcome State Fault Refusal :=
  .next (s.submit h 0x0F02 p)

/-- MEM_MBIST_RUN (R522): Opcode 0x0F03 runs March C− at full rate on spare rows and on macros of one memory. -/
def execMemMbistRun (fails : List RowDefect) (h : Hdr) (p : List Byte) (s : State) : Host.Outcome State Fault Refusal :=
  .next ((s.onDev fun d => d.mbistGiven h.queue.toNat h.tag.toNat fails).submit h 0x0F03 p)

/-- MEM_REPAIR_ADD (R512): Opcode 0x0F04 appends a row to the soft repair table. -/
def execMemRepairAdd (h : Hdr) (p : List Byte) (s : State) : Host.Outcome State Fault Refusal :=
  .next (s.submit h 0x0F04 p)

/-- MEM_REPAIR_LIST (R512): Opcode 0x0F05 returns entries of the soft repair table. -/
def execMemRepairList (h : Hdr) (p : List Byte) (s : State) : Host.Outcome State Fault Refusal :=
  .next (s.submit h 0x0F05 p)

end Sys2Proof.Machine
end

