-- ==== Sys2Proof/Machine/MeshCmds.lean ====
section
/-!
DEFINITION. Meanings: the opcodes 0x0Cxx of the mesh.
-/
namespace Sys2Proof.Machine

/-- MESH_STATUS_GET (R311): Opcode 0x0C00 returns the mesh status, epoch, period, nodes, path cost and map version. -/
def execMeshStatusGet (h : Hdr) (p : List Byte) (s : State) : Host.Outcome State Fault Refusal :=
  .next (s.submit h 0x0C00 p)

/-- MESH_NODE_TABLE (R291): Opcode 0x0C01 returns the node table of the current map. -/
def execMeshNodeTable (h : Hdr) (p : List Byte) (s : State) : Host.Outcome State Fault Refusal :=
  .next (s.submit h 0x0C01 p)

/-- MESH_SEND (R305): Opcode 0x0C02 queues a USER or ACTION message for a node. -/
def execMeshSend (h : Hdr) (p : List Byte) (s : State) : Host.Outcome State Fault Refusal :=
  .next (s.submit h 0x0C02 p)

/-- MESH_RX_READ (R303): Opcode 0x0C03 takes entries from the mesh receive ring. -/
def execMeshRxRead (h : Hdr) (p : List Byte) (s : State) : Host.Outcome State Fault Refusal :=
  .next (s.submit h 0x0C03 p)

/-- MESH_RESCAN (R306): Opcode 0x0C04 makes a member stop sending at the next period and scan. -/
def execMeshRescan (h : Hdr) (p : List Byte) (s : State) : Host.Outcome State Fault Refusal :=
  .next (s.submit h 0x0C04 p)

/-- MESH_EVICT (R293): Opcode 0x0C05 makes the coordinator remove a node and raise the epoch. -/
def execMeshEvict (h : Hdr) (p : List Byte) (s : State) : Host.Outcome State Fault Refusal :=
  .next (s.submit h 0x0C05 p)

end Sys2Proof.Machine
end

