-- ==== Sys2Proof/Machine/MeshEvents.lean ====
section
/-!
DEFINITION. Meanings: the mesh's steps.
-/
namespace Sys2Proof.Machine

/-- MESH_PERIOD_START (R285): A 200-pip beacon period begins, and the coordinator sends its beacon. -/
def execMeshPeriodStart (s : State) : Host.Outcome State Fault Refusal :=
  .next (s.devStep fun d => d.when d.meshRuns fun d => d.meshPeriodStart)

/-- MESH_BEACON_RX (R288): A node receives a beacon and takes timing and map from it. -/
def execMeshBeaconRx (b : List Byte) (snr : Nat) (s : State) : Host.Outcome State Fault Refusal :=
  .next (s.devStep fun d => d.when d.meshRuns fun d => d.meshBeaconRx b snr)

/-- MESH_SLOT_FRAME_RX (R302): A node receives a slot frame, SACKs it, and forwards, delivers or discards its messages. -/
def execMeshSlotFrameRx (b : List Byte) (snr : Nat) (ok : Bool) (s : State) : Host.Outcome State Fault Refusal :=
  .next (s.devStep fun d => d.when d.meshRuns fun d => d.meshSlotRx Dev.meshSafeFrame b snr ok)

/-- MESH_SACK_RX (R300): A sender receives or misses the SACK of its slot frame and resends or drops. -/
def execMeshSackRx (positive : Bool) (s : State) : Host.Outcome State Fault Refusal :=
  .next (s.devStep fun d => d.when d.meshRuns fun d => d.meshSack positive)

/-- MESH_PERIOD_END (R306): At the end of each period a member updates its missed-period count and its parent choice, and rescans at 3. -/
def execMeshPeriodEnd (s : State) : Host.Outcome State Fault Refusal :=
  .next (s.devStep fun d => d.when d.meshRuns fun d => d.meshPeriodEnd)

/-- MESH_SCAN_END (R290): A scan ends, and the module chooses a parent or, as role 1, becomes coordinator. -/
def execMeshScanEnd (s : State) : Host.Outcome State Fault Refusal :=
  .next (s.devStep fun d => d.when d.meshRuns fun d => d.meshScanEnd)

/-- MESH_JOIN_REQ (R290): A JOIN_REQ reaches the coordinator, which answers with a node id or a refusal. -/
def execMeshJoinReq (ident : List Byte) (parent : Nat) (s : State) : Host.Outcome State Fault Refusal :=
  .next (s.devStep fun d => d.when d.meshRuns fun d => d.meshJoinReq ident parent)

/-- MESH_JOIN_ACK (R290): A JOIN_ACK reaches the joining module, which becomes MEMBER. -/
def execMeshJoinAck (ident : List Byte) (id : Nat) (epoch : Nat) (s : State) : Host.Outcome State Fault Refusal :=
  .next (s.devStep fun d => d.when d.meshRuns fun d => d.meshJoinAck ident id epoch)

/-- MESH_JOIN_TIMEOUT (R290): No JOIN_ACK arrives within 16 periods, and the module retries or scans again. -/
def execMeshJoinTimeout (s : State) : Host.Outcome State Fault Refusal :=
  .next (s.devStep fun d => d.when d.meshRuns fun d => d.meshJoinTimeout)

/-- MESH_NODE_TIMEOUT (R293): A node silent for MESH_NODE_TIMEOUT periods is removed and the epoch raised. -/
def execMeshNodeTimeout (n : Fin 64) (s : State) : Host.Outcome State Fault Refusal :=
  .next (s.devStep fun d => d.when d.meshRuns fun d => d.meshNodeTimeout n.val)

/-- MESH_BACKUP_PROMOTION (R307): A backup that heard no frame of its network long enough becomes coordinator. -/
def execMeshBackupPromotion (s : State) : Host.Outcome State Fault Refusal :=
  .next (s.devStep fun d => d.when d.meshRuns fun d => d.meshPromote)

/-- MESH_ACTION_EXECUTE (R305): At its launch instant a received ACTION is carried out as OUT_STOP or OUT_SET_AVAILABLE. -/
def execMeshActionExecute (s : State) : Host.Outcome State Fault Refusal :=
  .next (s.devStep fun d => d.when (d.huskRuns && d.taskRuns) fun d => d.meshExecute)

/-- MESH_TRANSMIT_OPPORTUNITY (R292): The node's own mesh slot, or the contention region it chose for a JOIN_REQ, begins on its mesh timing, and it sends its frame. -/
def execMeshTransmitOpportunity (o : MeshOpp) (s : State) : Host.Outcome State Fault Refusal :=
  .next (s.devStep fun d => d.when d.meshRuns fun d => match o with | .slot i => (d.when (d.slotOpen i.val) fun d => d.meshLocal Dev.meshSafeFrame).meshSlot i.val | .contention => d.meshContention)

end Sys2Proof.Machine
end

