-- ==== Sys2Proof/Machine/OutletCmds.lean ====
section
/-!
DEFINITION. Meanings: the opcodes 0x02xx of the outlets.
-/
namespace Sys2Proof.Machine

/-- OUT_STATUS_GET (R137): Opcode 0x0200 returns an outlet's state, pilot, proximity, setpoints and session id. -/
def execOutStatusGet (h : Hdr) (p : List Byte) (s : State) : Host.Outcome State Fault Refusal :=
  .next (s.submit h 0x0200 p)

/-- OUT_AUTHORISE (R129): Opcode 0x0201 grants or denies an outlet that awaits a host decision. -/
def execOutAuthorise (h : Hdr) (p : List Byte) (s : State) : Host.Outcome State Fault Refusal :=
  .next (s.submit h 0x0201 p)

/-- OUT_START_REMOTE (R137): Opcode 0x0202 grants an outlet in AUTHORISING, stores a pre-authorisation, or stores a floating pre-authorisation. -/
def execOutStartRemote (h : Hdr) (p : List Byte) (s : State) : Host.Outcome State Fault Refusal :=
  .next (s.submit h 0x0202 p)

/-- OUT_STOP (R124): Opcode 0x0203 ends an outlet's session by the OUT_STOP row of its state. -/
def execOutStop (h : Hdr) (p : List Byte) (s : State) : Host.Outcome State Fault Refusal :=
  .next (s.submit h 0x0203 p)

/-- OUT_SET_AVAILABLE (R137): Opcode 0x0204 sets an outlet available or unavailable from its next IDLE. -/
def execOutSetAvailable (h : Hdr) (p : List Byte) (s : State) : Host.Outcome State Fault Refusal :=
  .next (s.submit h 0x0204 p)

/-- OUT_CLEAR_FAULT (R124): Opcode 0x0205 clears a latching fault of an outlet that reads pilot A. -/
def execOutClearFault (h : Hdr) (p : List Byte) (s : State) : Host.Outcome State Fault Refusal :=
  .next (s.submit h 0x0205 p)

/-- OUT_SESSION_INFO (R137): Opcode 0x0206 returns the data of the current or last session. -/
def execOutSessionInfo (h : Hdr) (p : List Byte) (s : State) : Host.Outcome State Fault Refusal :=
  .next (s.submit h 0x0206 p)

/-- OUT_EVENT_READ (R608): Opcode 0x0207 returns outlet event records from a sequence number. -/
def execOutEventRead (h : Hdr) (p : List Byte) (s : State) : Host.Outcome State Fault Refusal :=
  .next (s.submit h 0x0207 p)

/-- LIST_UPDATE (R129): Opcode 0x0208 applies a differential or full update to the local authorisation list. -/
def execListUpdate (h : Hdr) (p : List Byte) (s : State) : Host.Outcome State Fault Refusal :=
  .next (s.submit h 0x0208 p)

/-- LIST_QUERY (R129): Opcode 0x0209 returns the local-list entry of an identifier. -/
def execListQuery (h : Hdr) (p : List Byte) (s : State) : Host.Outcome State Fault Refusal :=
  .next (s.submit h 0x0209 p)

/-- OUT_CERT_RESPONSE (R128): Opcode 0x020A carries a chunk of the host's answer to a certificate request and sends it to the vehicle when complete. -/
def execOutCertResponse (h : Hdr) (p : List Byte) (s : State) : Host.Outcome State Fault Refusal :=
  .next (s.submit h 0x020A p)

end Sys2Proof.Machine
end

