-- ==== Sys2Proof/Machine/RegWrites.lean ====
section
/-!
DEFINITION. Meanings: the writes of one register that the opcode table lists as steps of their own (each is a REG_WRITE, R602).
-/
namespace Sys2Proof.Machine

/-- GUARD_STATE_REQUEST (R316): A write of GUARD_nn_CTRL requests a Guard channel state or imd_arm, within the limits of its channel. -/
def execGuardStateRequest (h : Hdr) (n : Fin 32) (v : Word) (s : State) : Host.Outcome State Fault Refusal :=
  .next (s.submitWrite h (Reg.GUARD_CH_CTRL n.val) v)

/-- LSW_CHANNEL_COMMAND (R371): A write of LSW_ch_CMD commands a channel's state and duty for the next frame. -/
def execLswChannelCommand (h : Hdr) (ch : Fin 80) (v : Word) (s : State) : Host.Outcome State Fault Refusal :=
  .next (s.submitWrite h (Reg.LSW_CH_CMD ch.val) v)

/-- MESH_ENABLE (R290): Writing MESH_CTRL.en to 1 starts the scan and join of the mesh. -/
def execMeshEnable (h : Hdr) (s : State) : Host.Outcome State Fault Refusal :=
  .next (s.submitWrite h Reg.MESH_CTRL 1)

/-- MESH_DISABLE (R294): Writing MESH_CTRL.en to 0 sends a leaving frame and stops the node. -/
def execMeshDisable (h : Hdr) (s : State) : Host.Outcome State Fault Refusal :=
  .next (s.submitWrite h Reg.MESH_CTRL 0)

/-- TIME_PIP_OFFSET_WRITE (R610): A write of TIME_PIP_OFFSET raises the pip numbering at the next boundary as a renumbering. -/
def execTimePipOffsetWrite (h : Hdr) (v : Word) (s : State) : Host.Outcome State Fault Refusal :=
  .next (s.submitWrite h Reg.TIME_PIP_OFFSET v)

/-- TWIN_ENABLE (R402): Writing TWIN_CFG.en to 1 starts Pod link training and enters SEARCH. -/
def execTwinEnable (h : Hdr) (v : Word) (s : State) : Host.Outcome State Fault Refusal :=
  .next (s.submitWrite h Reg.TWIN_CFG (v ||| 0x10000#32))

/-- TWIN_DISABLE (R402): Writing TWIN_CFG.en to 0 powers the Pod link down and enters OFF. -/
def execTwinDisable (h : Hdr) (v : Word) (s : State) : Host.Outcome State Fault Refusal :=
  .next (s.submitWrite h Reg.TWIN_CFG (v &&& 0xFFFEFFFF#32))

/-- DISP_VP_RESTART (R453): Writing DISP_CTRL.vp_en to 0 and then 1 clears vp_fault and restarts the panel regulator. -/
def execDispVpRestart (h : Hdr) (v : Word) (on : Bool) (s : State) : Host.Outcome State Fault Refusal :=
  .next (s.submitWrite h Reg.DISP_CTRL (if on then v ||| 2#32 else v &&& 0xFFFFFFFD#32))

/-- SYS_CLK_SEL_WRITE (R550): A write of SYS_CLK_SEL in MAINTENANCE moves clock domains to new sources through their multiplexers. -/
def execSysClkSelWrite (h : Hdr) (v : Word) (s : State) : Host.Outcome State Fault Refusal :=
  .next (s.submitWrite h Reg.SYS_CLK_SEL v)

/-- LSW_CFG_WRITE (R380): A write of LSW_ch_CFG loads the channel's retry counter with retry_max besides setting its configuration. -/
def execLswCfgWrite (h : Hdr) (ch : Fin 80) (v : Word) (s : State) : Host.Outcome State Fault Refusal :=
  .next (s.submitWrite h (Reg.LSW_CH_CFG ch.val) v)

/-- GUARD_MODE_WRITE (R316): A write of GUARD_nn_CFG.mode puts the channel in OFF for mode OFF, and the session task then puts an outlet's channel in STANDBY. -/
def execGuardModeWrite (h : Hdr) (n : Fin 32) (v : Word) (s : State) : Host.Outcome State Fault Refusal :=
  .next (s.submitWrite h (Reg.GUARD_CH_CFG n.val) v)

/-- OUTLET_TYPE_CHANGE (R116): A write of OUT_nn_CFG.type is checked against the slot rules, claims or frees slots, lanes and T1S ports, and makes the session task set the Guard channel to STANDBY. -/
def execOutletTypeChange (h : Hdr) (n : Fin 32) (v : Word) (s : State) : Host.Outcome State Fault Refusal :=
  .next (s.submitWrite h (Reg.OUT_CFG n.val) v)

end Sys2Proof.Machine
end

