-- ==== Sys2Proof/Machine/SafetyCmds.lean ====
section
/-!
DEFINITION. Meanings: the opcodes 0x0Dxx of safety and Guard.
-/
namespace Sys2Proof.Machine

/-- SAFE_STATUS_GET (R334): Opcode 0x0D00 returns the safety status, masks, hub causes and pair status. -/
def execSafeStatusGet (h : Hdr) (p : List Byte) (s : State) : Host.Outcome State Fault Refusal :=
  .next (s.submit h 0x0D00 p)

/-- SAFE_RESET (R350): Opcode 0x0D01 resets named pairs and connections that wait for a reset. -/
def execSafeReset (h : Hdr) (p : List Byte) (s : State) : Host.Outcome State Fault Refusal :=
  .next (s.submit h 0x0D01 p)

/-- SAFE_CFG_CHECK (R360): Opcode 0x0D02 has both evaluators check the staging image and compute its CRC. -/
def execSafeCfgCheck (h : Hdr) (p : List Byte) (s : State) : Host.Outcome State Fault Refusal :=
  .next (s.submit h 0x0D02 p)

/-- SAFE_CFG_ACTIVATE (R361): Opcode 0x0D03 makes the staging image the active safety configuration in both evaluators. -/
def execSafeCfgActivate (h : Hdr) (p : List Byte) (s : State) : Host.Outcome State Fault Refusal :=
  .next (s.submit h 0x0D03 p)

/-- SAFE_CFG_DISCARD (R368): Opcode 0x0D04 sets the staging image equal to the active configuration. -/
def execSafeCfgDiscard (h : Hdr) (p : List Byte) (s : State) : Host.Outcome State Fault Refusal :=
  .next (s.submit h 0x0D04 p)

/-- SAFE_HUB_STOP (R354): Opcode 0x0D05 sets or clears the host cause of HUB_STOP_N. -/
def execSafeHubStop (h : Hdr) (p : List Byte) (s : State) : Host.Outcome State Fault Refusal :=
  .next (s.submit h 0x0D05 p)

/-- GUARD_STATUS_GET (R331): Opcode 0x0D80 returns a Guard channel's status, RCM value, IMD result and trip count. -/
def execGuardStatusGet (h : Hdr) (p : List Byte) (s : State) : Host.Outcome State Fault Refusal :=
  .next (s.submit h 0x0D80 p)

/-- GUARD_SELF_TEST (R330): Opcode 0x0D81 puts a Guard channel into TEST. -/
def execGuardSelfTest (h : Hdr) (p : List Byte) (s : State) : Host.Outcome State Fault Refusal :=
  .next (s.submit h 0x0D81 p)

/-- GUARD_CLEAR_FAULT (R329): Opcode 0x0D82 returns a Guard channel in FAULT with a sound stream to STANDBY. -/
def execGuardClearFault (h : Hdr) (p : List Byte) (s : State) : Host.Outcome State Fault Refusal :=
  .next (s.submit h 0x0D82 p)

end Sys2Proof.Machine
end

