-- ==== Sys2Proof/Machine/SafetyEvents.lean ====
section
/-!
DEFINITION. Meanings: the Stone's and the safety pair's steps.
-/
namespace Sys2Proof.Machine

/-- T_FORCE_EXPIRY (R132): T_force runs out with the flag above, and the Stone opens SLS_nn and records a forced break. -/
def execTForceExpiry (n : Fin 32) (s : State) : Host.Outcome State Fault Refusal :=
  .next (s.devStep fun d => d.tForceExpiry n.val)

/-- SAFETY_INPUT_CHANGE (R345): A safety input's filtered level changes, after it has held for the filter time, and both evaluators update the pair's function. -/
def execSafetyInputChange (i : Fin 16) (level : HeldLevel) (s : State) : Host.Outcome State Fault Refusal :=
  .next (s.devStep fun d => d.safetyInput i.val level.level level.held)

/-- DISCREPANCY_TIMEOUT (R347): The second channel does not follow within the discrepancy time, and the pair enters FAULT. -/
def execDiscrepancyTimeout (p : Fin 8) (s : State) : Host.Outcome State Fault Refusal :=
  .next (s.devStep fun d => d.discTimeout p.val)

/-- ANTIVALENCE_TIMEOUT (R348): A two-hand pair shows an invalid combination beyond its discrepancy time, and the function enters FAULT. -/
def execAntivalenceTimeout (p : Fin 8) (s : State) : Host.Outcome State Fault Refusal :=
  .next (s.devStep fun d => d.antivalence p.val)

/-- TEST_PULSE (R343): A test-pulse output pulls low for its width once per period. -/
def execTestPulse (k : Fin 4) (low : List Nat) (s : State) : Host.Outcome State Fault Refusal :=
  .next (s.devStep fun d => d.testPulse k.val low)

/-- RESET_BUTTON_RELEASE (R349): A RESET pair press of 50 ms to 3 s is released and resets every waiting pair. -/
def execResetButtonRelease (p : Fin 8) (s : State) : Host.Outcome State Fault Refusal :=
  .next (s.devStep fun d => d.resetButton p.val)

/-- CROSS_DISAGREEMENT (R340): The Stone and the safety task disagree beyond the allowed time, and the pair enters FAULT with CROSS. -/
def execCrossDisagreement (i : CrossIn) (s : State) : Host.Outcome State Fault Refusal :=
  .next (s.devStep fun d => d.crossFault i)

/-- STONE_SELF_FAULT (R341): The Stone finds a mismatch or oscillator failure, releases every SLS and asserts HUB_STOP_N. -/
def execStoneSelfFault (s : State) : Host.Outcome State Fault Refusal :=
  .next (s.devStep fun d => d.stoneSelfFault)

/-- PERMIT_WORD (R333): The safety core pair's per-pip heartbeat and permit word reach the Stone and drive SLS enables. -/
def execPermitWord (good : Bool) (s : State) : Host.Outcome State Fault Refusal :=
  .next (s.devStep fun d => d.pairWord good)

/-- HEARTBEAT_LOST (R357): No valid permit word for 4 pips: the Stone asserts HUB_STOP_N and opens outlets by metered switching. -/
def execHeartbeatLost (s : State) : Host.Outcome State Fault Refusal :=
  .next (s.devStep fun d => d.heartbeatGone)

/-- HEARTBEAT_VALID (R357): After 8 consecutive valid permit words, the heartbeat counts as valid. -/
def execHeartbeatValid (s : State) : Host.Outcome State Fault Refusal :=
  .next (s.devStep fun d => d.heartbeatValid)

/-- HUB_STOP_HOLD_END (R354): The 100 ms minimum ends, and HUB_STOP_N is released once no cause remains. -/
def execHubStopHoldEnd (s : State) : Host.Outcome State Fault Refusal :=
  .next (s.devStep fun d => d.hubHoldEnd)

/-- STONE_FRAME_RX (R366): A receive connection checks a Stone frame and accepts, discards or enters SAFE. -/
def execStoneFrameRx (c : Fin 8) (f : List Byte) (s : State) : Host.Outcome State Fault Refusal :=
  .next (s.devStep fun d => d.when d.safetyRuns fun d => d.connRxFrame c.val f)

/-- STONE_FRAME_TX (R365): A transmit connection sends a Stone frame at its period or on a change of data. -/
def execStoneFrameTx (c : Fin 8) (s : State) : Host.Outcome State Fault Refusal :=
  .next (s.devStep fun d => d.when (d.safetyRuns && d.twinState ≠ 1 && d.twinState ≠ 2) fun d => d.stoneTx c.val)

/-- STONE_CONN_WATCHDOG (R367): A receive connection's watchdog expires, and it enters SAFE. -/
def execStoneConnWatchdog (s : State) : Host.Outcome State Fault Refusal :=
  .next (s.devStep fun d => d.when d.safetyRuns fun d => (List.range 8).foldl (fun (d : Dev) c => d.connWatchdog c) d)

end Sys2Proof.Machine
end

