-- ==== Sys2Proof/Machine/SessionEvents.lean ====
section
/-!
DEFINITION. Meanings: the steps of pilots, sessions, CAN and power modules.
-/
namespace Sys2Proof.Machine

/-- PILOT_STATE_ACCEPTED (R120): A new pilot state is accepted after three agreeing periods and drives the session state machine. -/
def execPilotStateAccepted (n : Fin 32) (s : State) : Host.Outcome State Fault Refusal :=
  .next (s.devStep fun d => d.when d.taskRuns fun d => d.pilotAccepted n.val)

/-- FAULT_PILOT_PROBE (R126): Every 400 pips in FAULT, the pilot is driven high for 16 pips to probe for state A. -/
def execFaultPilotProbe (n : Fin 32) (code : Option Nat) (s : State) : Host.Outcome State Fault Refusal :=
  .next (s.devStep fun d => d.when d.taskRuns fun d => d.faultProbe n.val code)

/-- LINK_UP (R124): SLAC, SDP, TCP and TLS are up, and the outlet enters NEGOTIATING. -/
def execLinkUp (n : Fin 32) (offered : List Nat) (s : State) : Host.Outcome State Fault Refusal :=
  .next (s.devStep fun d => d.when d.taskRuns fun d => d.linkIsUp n.val offered)

/-- LINK_TIMER_EXPIRY (R124): The link timer expires in LINKING, giving basic fallback or FAULT with NO_LINK. -/
def execLinkTimerExpiry (n : Fin 32) (s : State) : Host.Outcome State Fault Refusal :=
  .next (s.devStep fun d => d.when d.taskRuns fun d => d.linkTimer n.val)

/-- PAYMENT_SELECTION_COMPLETE (R124): Payment selection completes, and the outlet starts authorisation. -/
def execPaymentSelectionComplete (n : Fin 32) (contract : Option (List Byte)) (s : State) : Host.Outcome State Fault Refusal :=
  .next (s.devStep fun d => d.when d.taskRuns fun d => (d.answerVehicle n.val).paymentSelected n.val contract)

/-- PROTOCOL_ERROR (R124): A protocol error or message timeout of the standard closes the link or ramps the outlet down. -/
def execProtocolError (n : Fin 32) (s : State) : Host.Outcome State Fault Refusal :=
  .next (s.devStep fun d => d.when d.taskRuns fun d => d.protocolError n.val)

/-- AUTHORISATION_TIMER_EXPIRY (R124): The authorisation timer expires, and the outlet refuses the vehicle and returns to PLUGGED. -/
def execAuthorisationTimerExpiry (n : Fin 32) (s : State) : Host.Outcome State Fault Refusal :=
  .next (s.devStep fun d => d.when d.taskRuns fun d => d.authTimer n.val)

/-- HOST_WAIT_EXPIRY (R129): The host decision wait expires, and the local list is consulted. -/
def execHostWaitExpiry (n : Fin 32) (s : State) : Host.Outcome State Fault Refusal :=
  .next (s.devStep fun d => d.when d.taskRuns fun d => d.hostWait n.val)

/-- HOST_OFFLINE (R129): No command has been accepted for OUT_HOST_WATCH pips, and the host counts as offline. -/
def execHostOffline (s : State) : Host.Outcome State Fault Refusal :=
  .next (s.devStep fun d => d.when d.shellRuns Dev.hostGone)

/-- PREAUTH_EXPIRY (R129): An outlet's pre-authorisation expires, and it is dropped and logged. -/
def execPreauthExpiry (s : State) : Host.Outcome State Fault Refusal :=
  .next (s.devStep fun d => d.when d.taskRuns fun d => (List.range 32).foldl (fun (d : Dev) n => d.preauthExpiry n) d)

/-- FLOATING_PREAUTH_EXPIRY (R137): A floating pre-authorisation expires, and it is dropped and logged with outlet 0xFF. -/
def execFloatingPreauthExpiry (s : State) : Host.Outcome State Fault Refusal :=
  .next (s.devStep fun d => d.when d.taskRuns Dev.floatingExpiry)

/-- CABLE_CHECK_TIMER_EXPIRY (R124): The cable-check timer expires, and the outlet ramps down with CABLE_TIMEOUT. -/
def execCableCheckTimerExpiry (n : Fin 32) (s : State) : Host.Outcome State Fault Refusal :=
  .next (s.devStep fun d => d.when d.taskRuns fun d => d.cableTimer n.val)

/-- POWER_DELIVERY_REQUEST (R124): The vehicle requests power delivery start, and a precharged outlet enters ENERGY. -/
def execPowerDeliveryRequest (n : Fin 32) (bpt : Bool) (s : State) : Host.Outcome State Fault Refusal :=
  .next (s.devStep fun d => d.when d.taskRuns fun d => (d.answerVehicle n.val).powerDelivery n.val bpt)

/-- PRECHARGE_TIMER_EXPIRY (R124): The precharge timer expires, and the outlet ramps down with PRECHARGE_TIMEOUT. -/
def execPrechargeTimerExpiry (n : Fin 32) (s : State) : Host.Outcome State Fault Refusal :=
  .next (s.devStep fun d => d.when d.taskRuns fun d => d.prechTimer n.val)

/-- VEHICLE_STOP_REQUEST (R124): The vehicle requests a stop in ENERGY, and the outlet ramps down. -/
def execVehicleStopRequest (n : Fin 32) (s : State) : Host.Outcome State Fault Refusal :=
  .next (s.devStep fun d => d.when d.taskRuns fun d => (d.answerVehicle n.val).vehicleStop n.val)

/-- CAN_RX_FRAME (R131): A frame matching a receive template is stored into the outlet's power-module registers. -/
def execCanRxFrame (f : CanFrame) (s : State) : Host.Outcome State Fault Refusal :=
  .next (s.devStep fun d => d.when d.canRuns fun d => d.canRx f)

/-- CAN_TX_TEMPLATE (R131): A transmit template whose period falls due sends its frame from the pip's mailbox. -/
def execCanTxTemplate (t : Fin 64) (s : State) : Host.Outcome State Fault Refusal :=
  .next (s.devStep fun d => d.when d.canRuns fun d => d.canTx t.val)

/-- PM_STATUS_TIMEOUT (R131): A receive template has had no frame for its timeout, and a running outlet takes the PM_LOST row. -/
def execPmStatusTimeout (s : State) : Host.Outcome State Fault Refusal :=
  .next (s.devStep fun d => d.when d.taskRuns fun d => (List.range 64).foldl (fun (d : Dev) t => d.pmTimeout t) d)

/-- WELD_CHECK_TIMEOUT (R124): 2,000 pips after release without a pass, the outlet enters FAULT with WELD. -/
def execWeldCheckTimeout (n : Fin 32) (s : State) : Host.Outcome State Fault Refusal :=
  .next (s.devStep fun d => d.when d.taskRuns fun d => d.weldTimeout n.val)

/-- UNPLUGGED_TO_IDLE (R124): At the pip after UNPLUGGED entry, the outlet releases its link, puts its Guard channel to standby and returns to IDLE. -/
def execUnpluggedToIdle (n : Fin 32) (s : State) : Host.Outcome State Fault Refusal :=
  .next (s.devStep fun d => d.when d.taskRuns fun d => d.toIdle n.val)

/-- VEHICLE_REQUEST_DECODED (R130): The session task decodes a vehicle's charging request and updates its target voltage, current request and state of charge for the next mailbox. -/
def execVehicleRequestDecoded (n : Fin 32) (r : EvRequest) (s : State) : Host.Outcome State Fault Refusal :=
  .next (s.devStep fun d => d.when d.taskRuns fun d => (d.answerVehicle n.val).vehicleRequest n.val r)

/-- CERTIFICATE_INSTALLATION_REQUEST (R128): A vehicle asks for certificate installation or update, and the module writes a CERT_REQUEST event record and relays the request to the host. -/
def execCertificateInstallationRequest (n : Fin 32) (s : State) : Host.Outcome State Fault Refusal :=
  .next (s.devStep fun d => d.when d.taskRuns fun d => (d.answerVehicle n.val).certRequest n.val)

end Sys2Proof.Machine
end

