-- ==== Sys2Proof/Machine/SwitchCmds.lean ====
section
/-!
DEFINITION. Meanings: the opcodes 0x0Exx of the load switches.
-/
namespace Sys2Proof.Machine

/-- LSW_STATUS_GET (R369): Opcode 0x0E00 returns a switch channel's configuration, status, measurement and counters. -/
def execLswStatusGet (h : Hdr) (p : List Byte) (s : State) : Host.Outcome State Fault Refusal :=
  .next (s.submit h 0x0E00 p)

/-- LSW_SET (R373): Opcode 0x0E01 commands a channel on or off with a duty. -/
def execLswSet (h : Hdr) (p : List Byte) (s : State) : Host.Outcome State Fault Refusal :=
  .next (s.submit h 0x0E01 p)

/-- LSW_SET_AX (R381): Opcode 0x0E02 commands several auxiliary channels in one frame. -/
def execLswSetAx (h : Hdr) (p : List Byte) (s : State) : Host.Outcome State Fault Refusal :=
  .next (s.submit h 0x0E02 p)

/-- LSW_CLEAR (R380): Opcode 0x0E03 reloads a channel's retry counter and takes it out of LOCKOUT. -/
def execLswClear (h : Hdr) (p : List Byte) (s : State) : Host.Outcome State Fault Refusal :=
  .next (s.submit h 0x0E03 p)

end Sys2Proof.Machine
end

