-- ==== Sys2Proof/Machine/SwitchEvents.lean ====
section
/-!
DEFINITION. Meanings: the switch die's own steps.
-/
namespace Sys2Proof.Machine

/-- SWITCH_DIE_FRAME (R370): The switch die receives the Shell's per-pip frame, applies the channel states at +60 µs if the frame is valid, and returns its status frame. -/
def execSwitchDieFrame (f : DieIn) (meas : List (Fin 80 × Nat × Int)) (s : State) : Host.Outcome State Fault Refusal :=
  .next (s.devStep fun d => d.dieFrame f meas)

/-- SWITCH_DIE_WATCHDOG_EXPIRY (R385): No valid frame has arrived for the watchdog time, and each channel takes its fail-safe state as target. -/
def execSwitchDieWatchdogExpiry (s : State) : Host.Outcome State Fault Refusal :=
  .next (s.devStep fun d => d.lswWatchdog)

/-- OVERCURRENT_TRIP (R377): A channel limiting too long trips off into RETRY_WAIT or LOCKOUT. -/
def execOvercurrentTrip (l : ChanLoad) (s : State) : Host.Outcome State Fault Refusal :=
  .next (s.devStep fun d => d.overcurrent l)

/-- INRUSH_WINDOW_END (R377): A channel's inrush window ends, and its lower current limit applies. -/
def execInrushWindowEnd (ch : Fin 80) (s : State) : Host.Outcome State Fault Refusal :=
  .next (s.devStep fun d => d.inrushEnd ch.val)

/-- THERMAL_LATCH_SET (R378): A junction reaches 175 °C, and the channel is turned off. -/
def execThermalLatchSet (ch : Fin 80) (s : State) : Host.Outcome State Fault Refusal :=
  .next (s.devStep fun d => d.thermalSet ch.val)

/-- THERMAL_LATCH_CLEAR (R378): A junction falls below 150 °C, and the channel resumes its target or backoff. -/
def execThermalLatchClear (ch : Fin 80) (s : State) : Host.Outcome State Fault Refusal :=
  .next (s.devStep fun d => d.thermalClear ch.val)

/-- RETRY_BACKOFF_ELAPSED (R380): A backoff elapses, and the channel retries turning on. -/
def execRetryBackoffElapsed (ch : Fin 80) (s : State) : Host.Outcome State Fault Refusal :=
  .next (s.devStep fun d => d.retry ch.val)

/-- RETRY_COUNTER_RELOAD (R380): A channel on for 10 s without a trip reloads its retry counter. -/
def execRetryCounterReload (ch : Fin 80) (s : State) : Host.Outcome State Fault Refusal :=
  .next (s.devStep fun d => d.reloadAfterOn ch.val)

/-- OPEN_LOAD_DETECT (R379): A channel on with too little current for 10 ms sets open_load. -/
def execOpenLoadDetect (l : ChanLoad) (s : State) : Host.Outcome State Fault Refusal :=
  .next (s.devStep fun d => d.openLoad l)

/-- PULL_IN_END (R374): An ECONOMY coil's pull-in time ends, and it begins to hold. -/
def execPullInEnd (ch : Fin 80) (s : State) : Host.Outcome State Fault Refusal :=
  .next (s.devStep fun d => d.pullInEnd ch.val)

/-- UNDER_VOLTAGE (R383): The ORed feed is below 16 V for 100 µs, and every CL and AX channel turns off. -/
def execUnderVoltage (s : State) : Host.Outcome State Fault Refusal :=
  .next (s.devStep fun d => d.underVoltage)

/-- UNDER_VOLTAGE_RESTORE (R383): After 80 pips above 17.5 V, channels with target ON restart, 8 per pip. -/
def execUnderVoltageRestore (s : State) : Host.Outcome State Fault Refusal :=
  .next (s.devStep fun d => d.uvRestore)

/-- ACT_HOLD_EXPIRY (R388): The activation hold window ends without a valid frame, and channels take their fail-safe states. -/
def execActHoldExpiry (s : State) : Host.Outcome State Fault Refusal :=
  .next (s.devStep fun d => d.actHoldExpiry)

end Sys2Proof.Machine
end

