-- ==== Sys2Proof/Machine/SystemCmds.lean ====
section
/-!
DEFINITION. Meanings: the opcodes 0x00xx of the system.
-/
namespace Sys2Proof.Machine

/-- SYS_STATUS_GET (R16): Opcode 0x0000 returns the mode, the degrade causes, the reset cause, the power and clock status and the boot time. -/
def execSysStatusGet (h : Hdr) (p : List Byte) (s : State) : Host.Outcome State Fault Refusal :=
  .next (s.submit h 0x0000 p)

/-- SYS_INFO (R16): Opcode 0x0001 returns the serial, the grade, the straps and the firmware and ROM versions. -/
def execSysInfo (h : Hdr) (p : List Byte) (s : State) : Host.Outcome State Fault Refusal :=
  .next (s.submit h 0x0001 p)

/-- SYS_RESET (R556): Opcode 0x0002 resets the Shell at its quiet pip, or resets the Husk. -/
def execSysReset (h : Hdr) (p : List Byte) (s : State) : Host.Outcome State Fault Refusal :=
  .next (s.submit h 0x0002 p)

/-- SYS_FORCE_SEL (R552): Opcode 0x0003 forces a clock domain onto a source, holding the domain in reset during the switch. -/
def execSysForceSel (h : Hdr) (p : List Byte) (s : State) : Host.Outcome State Fault Refusal :=
  .next (s.submit h 0x0003 p)

/-- SYS_SET_MODE (R18): Opcode 0x0004 requests MAINTENANCE or SERVICE. -/
def execSysSetMode (h : Hdr) (p : List Byte) (s : State) : Host.Outcome State Fault Refusal :=
  .next (s.submit h 0x0004 p)

/-- SYS_CFG_SAVE (R544): Opcode 0x0005 stores the live RW registers of the selected blocks in the configuration region of Shell flash. -/
def execSysCfgSave (h : Hdr) (p : List Byte) (s : State) : Host.Outcome State Fault Refusal :=
  .next (s.submit h 0x0005 p)

/-- SYS_LOG_READ (R608): Opcode 0x0006 returns Shell event-log records from a sequence number. -/
def execSysLogRead (h : Hdr) (p : List Byte) (s : State) : Host.Outcome State Fault Refusal :=
  .next (s.submit h 0x0006 p)

end Sys2Proof.Machine
end

