-- ==== Sys2Proof/Machine/SystemEvents.lean ====
section
/-!
DEFINITION. Meanings: steps of tamper, keys, firmware, memory, power, reset and clocks.
-/
namespace Sys2Proof.Machine

/-- BURR_LINE_FIRE (R486): An armed tamper input trips, and the KEK, slots and identity key are zeroed and the latch set. -/
def execBurrLineFire (b : BurrIn) (s : State) : Host.Outcome State Fault Refusal :=
  .next (s.devStep fun d => d.burrFire b)

/-- FWU_TRIAL_EXPIRY (R503): A trial passes without FWU_CONFIRM, and the previous bank is activated. -/
def execFwuTrialExpiry (s : State) : Host.Outcome State Fault Refusal :=
  .next (s.devStep fun d => d.when d.shellRuns Dev.trialExpiry)

/-- MBIST_ROW_TEST (R513): The background memory BIST tests one SRAM row transparently. -/
def execMbistRowTest (fail : Option (Fin 16 × Fin 72)) (s : State) : Host.Outcome State Fault Refusal :=
  .next (s.devStep fun d => d.when d.shellRuns fun d => d.mbistRow fail)

/-- LBIST_CHAIN_TEST (R517): The logic BIST tests the next scan chain in a 20 µs slice. -/
def execLbistChainTest (free : Bool) (sig : Word) (bit : Nat) (s : State) : Host.Outcome State Fault Refusal :=
  .next (s.devStep fun d => d.when d.shellRuns fun d => d.lbistTest free sig bit)

/-- LBIST_RETEST (R518): A failed chain is retested, and a second failure raises LOGIC_SELFTEST. -/
def execLbistRetest (sig : LbistSig) (s : State) : Host.Outcome State Fault Refusal :=
  .next (s.devStep fun d => d.when d.shellRuns fun d => d.lbistRetest sig)

/-- SRAM_CORRECTABLE_ERROR (R509): A read meets a single-bit error, which is corrected, written back and counted. -/
def execSramCorrectableError (m : Fin 3) (addr : Nat) (s : State) : Host.Outcome State Fault Refusal :=
  .next (s.devStep fun d => d.sramCe m.val addr)

/-- SRAM_UNCORRECTABLE_ERROR (R510): A read meets a double-bit error, and the requester is handled by the table. -/
def execSramUncorrectableError (m : Fin 3) (addr : Nat) (r : Requester) (s : State) : Host.Outcome State Fault Refusal :=
  .next (s.sramUncorrectable m.val addr r)

/-- FLASH_REFRESH (R523): A Shell flash block with too many corrected bits is rewritten into a spare block. -/
def execFlashRefresh (s : State) : Host.Outcome State Fault Refusal :=
  .next (s.devStep fun d => d.flashRefresh)

/-- FLASH_UNCORRECTABLE (R524): A flash codeword has more than 40 bit errors and is recorded and refused. -/
def execFlashUncorrectable (block : Nat) (r : Requester) (s : State) : Host.Outcome State Fault Refusal :=
  .next (s.flashUncorrectable block r)

/-- POWER_ON_RESET (R530): POR is released 20 ms after the ORed node rises, and every POR-reset part restarts. -/
def execPowerOnReset (good : Bool × Bool) (straps : Straps) (s : State) : Host.Outcome State Fault Refusal :=
  .next (s.devStep fun d => d.powerOnReset good straps)

/-- BOOT (R553): After a reset release, BOOT runs its steps and enters SERVICE, DEGRADED or SPROUT. -/
def execBoot (b : BootIn) (s : State) : Host.Outcome State Fault Refusal :=
  .next (s.devStep fun d => d.boot b)

/-- FEED_LOST (R529): A fitted feed stops being good, and FEED_LOSS is raised. -/
def execFeedLost (f : Bool) (s : State) : Host.Outcome State Fault Refusal :=
  .next (s.devStep fun d => d.feedLost f)

/-- FEED_LOSS_CLEAR (R529): Both fitted feeds have been good for 4,000 pips, and FEED_LOSS clears. -/
def execFeedLossClear (s : State) : Host.Outcome State Fault Refusal :=
  .next (s.devStep fun d => d.feedLossClear)

/-- POWER_FAIL (R531): The ORed node has been below 16 V for 1 ms, PFAIL is raised and every part does its power-fail work. -/
def execPowerFail (lines : Nat) (s : State) : Host.Outcome State Fault Refusal :=
  .next (s.devStep fun d => d.powerFail lines)

/-- HOLDUP_COLLAPSE (R534): The node falls below 9 V before the Kernel commit ends, and unprogrammed records are lost. -/
def execHoldupCollapse (s : State) : Host.Outcome State Fault Refusal :=
  .next (s.devStep fun d => d.holdupCollapse)

/-- POWER_FAIL_RESET (R535): After the power-fail work and 80 pips of good supply, a power-fail reset is asserted for one pip. -/
def execPowerFailReset (s : State) : Host.Outcome State Fault Refusal :=
  .next (s.devStep fun d => d.powerFailReset)

/-- RESET_N_PIN (R540): RESET_N held low resets the application cores, safety pair and Husk. -/
def execResetNPin (low : Bool) (s : State) : Host.Outcome State Fault Refusal :=
  .next (s.devStep fun d => d.resetPin low)

/-- INTERNAL_WATCHDOG_EXPIRY (R541): The application cores miss the watchdog for its timeout, and a reset follows. -/
def execInternalWatchdogExpiry (s : State) : Host.Outcome State Fault Refusal :=
  .next (s.devStep fun d => d.watchdog)

/-- REFCLK_FAIL (R548): REFCLK fails, and PLL_SYS coasts with the PLL_COAST degrade cause. -/
def execRefclkFail (s : State) : Host.Outcome State Fault Refusal :=
  .next (s.devStep fun d => d.refclkFail)

/-- PLL_RELOCK (R548): REFCLK valid for 4,000 coasting pips, PLL_SYS relocks and PLL_COAST clears. -/
def execPllRelock (s : State) : Host.Outcome State Fault Refusal :=
  .next (s.devStep fun d => d.pllRelock)

/-- CLK_MUX_HANG (R551): A clock-source change does not complete within 2 µs, and CLK_HANG is raised. -/
def execClkMuxHang (i : Fin 7) (s : State) : Host.Outcome State Fault Refusal :=
  .next (s.devStep fun d => d.muxHang i.val)

/-- FEED_GOOD (R528): A feed that has been above 17.5 V for 20 ms becomes good, setting its status bit and starting the 4,000 pips that FEED_LOSS_CLEAR needs. -/
def execFeedGood (f : Bool) (s : State) : Host.Outcome State Fault Refusal :=
  .next (s.devStep fun d => d.feedGood f)

/-- KEY_OPERATION_COMPLETE (R478): A key load, clear, generation or import finishes, and its slot leaves BUSY and holds the new key or none. -/
def execKeyOperationComplete (n : Fin 64) (s : State) : Host.Outcome State Fault Refusal :=
  .next (s.devStep fun d => d.when d.shellRuns fun d => d.keyComplete n.val)

/-- CFG_SAVE_COMPLETE (R544): A SYS_CFG_SAVE finishes writing its copies to Shell flash and completes, ending the period in which a further save completes with BUSY. -/
def execCfgSaveComplete (s : State) : Host.Outcome State Fault Refusal :=
  .next (s.devStep fun d => d.cfgSaved)

/-- FWU_COMMAND_COMPLETE (R495): A firmware-load command finishes its flash erase and programming and completes, so that the next command of the load is no longer refused with BUSY. -/
def execFwuCommandComplete (s : State) : Host.Outcome State Fault Refusal :=
  .next (s.devStep fun d => d.fwuDone)

end Sys2Proof.Machine
end

