-- ==== Sys2Proof/Machine/TagCmds.lean ====
section
/-!
DEFINITION. Meanings: the opcodes 0x0Axx of tag, reader and keypad.
-/
namespace Sys2Proof.Machine

/-- TAG_STATUS_GET (R426): Opcode 0x0A00 returns the tag, reader, FRAM and keypad status. -/
def execTagStatusGet (h : Hdr) (p : List Byte) (s : State) : Host.Outcome State Fault Refusal :=
  .next (s.submit h 0x0A00 p)

/-- RDR_LIST (R429): Opcode 0x0A01 returns the card list of the last poll cycle. -/
def execRdrList (h : Hdr) (p : List Byte) (s : State) : Host.Outcome State Fault Refusal :=
  .next (s.submit h 0x0A01 p)

/-- RDR_APDU (R431): Opcode 0x0A02 activates a listed card and exchanges one APDU with it. -/
def execRdrApdu (h : Hdr) (p : List Byte) (s : State) : Host.Outcome State Fault Refusal :=
  .next (s.submit h 0x0A02 p)

/-- TAG_FRAM_READ (R437): Opcode 0x0A03 reads bytes of the tag FRAM. -/
def execTagFramRead (h : Hdr) (p : List Byte) (s : State) : Host.Outcome State Fault Refusal :=
  .next (s.submit h 0x0A03 p)

/-- TAG_FRAM_WRITE (R435): Opcode 0x0A04 writes bytes of the FRAM host region. -/
def execTagFramWrite (h : Hdr) (p : List Byte) (s : State) : Host.Outcome State Fault Refusal :=
  .next (s.submit h 0x0A04 p)

/-- TAG_FRAM_HOLD (R438): Opcode 0x0A05 gives the host exclusive use of the FRAM. -/
def execTagFramHold (h : Hdr) (p : List Byte) (s : State) : Host.Outcome State Fault Refusal :=
  .next (s.submit h 0x0A05 p)

/-- TAG_FRAM_RELEASE (R438): Opcode 0x0A06 ends a host hold, or ends a cut. -/
def execTagFramRelease (h : Hdr) (p : List Byte) (s : State) : Host.Outcome State Fault Refusal :=
  .next (s.submit h 0x0A06 p)

/-- TAG_KP_READ (R443): Opcode 0x0A07 returns key events from the keypad ring. -/
def execTagKpRead (h : Hdr) (p : List Byte) (s : State) : Host.Outcome State Fault Refusal :=
  .next (s.submit h 0x0A07 p)

end Sys2Proof.Machine
end

