-- ==== Sys2Proof/Machine/TagEvents.lean ====
section
/-!
DEFINITION. Meanings: the steps of tag, FRAM, reader and keypad.
-/
namespace Sys2Proof.Machine

/-- READER_POLL_CYCLE (R427): The reader runs a poll cycle with anticollision and writes the card list. -/
def execReaderPollCycle (cards : List CardSeen) (s : State) : Host.Outcome State Fault Refusal :=
  .next (s.devStep fun d => d.when d.shellRuns fun d => d.readerPoll cards)

/-- TAG_ACTIVATION (R433): The tag port is powered by a field or deselected and draws a new UID. -/
def execTagActivation (r : BitVec 24) (s : State) : Host.Outcome State Fault Refusal :=
  .next (s.devStep fun d => d.tagActivate r.toNat)

/-- TAG_APDU (R434): The tag port answers an APDU from a field reader. -/
def execTagApdu (a : TagIn) (s : State) : Host.Outcome State Fault Refusal :=
  .next (s.devStep fun d => d.tagApdu a)

/-- FRAM_HOLD_CUT (R438): A host hold not released by pip H+80, or at PFAIL, is cut. -/
def execFramHoldCut (lines : Nat) (s : State) : Host.Outcome State Fault Refusal :=
  .next (s.devStep fun d => d.holdExpiry lines)

/-- PASSPORT_WRITE (R436): The module writes the passport after a change of its content or at PFAIL. -/
def execPassportWrite (s : State) : Host.Outcome State Fault Refusal :=
  .next (s.devStep fun d => d.when d.shellRuns Dev.passportWrite)

/-- KEYPAD_SCAN (R440): A keypad scan of all rows completes, and debounced presses and releases are accepted. -/
def execKeypadScan (keys : List (Fin 16)) (s : State) : Host.Outcome State Fault Refusal :=
  .next (s.devStep fun d => d.when d.shellRuns fun d => d.kpScan (keys.map (·.val)))

/-- KEYPAD_ENTRY_TIMEOUT (R442): The gap between keys exceeds the timeout, and the open entry is cancelled. -/
def execKeypadEntryTimeout (s : State) : Host.Outcome State Fault Refusal :=
  .next (s.devStep fun d => d.when d.shellRuns Dev.kpTimeout)

/-- KEYPAD_SELECTION_EXPIRY (R442): An outlet selection expires 60 s after its #. -/
def execKeypadSelectionExpiry (s : State) : Host.Outcome State Fault Refusal :=
  .next (s.devStep fun d => d.when d.shellRuns Dev.selExpiry)

/-- FRAM_ACCESS_COMPLETE (R437): A host FRAM access or passport write releases the FRAM after its lines are written, and the next waiting access is served. -/
def execFramAccessComplete (s : State) : Host.Outcome State Fault Refusal :=
  .next (s.devStep fun d => d.framDone)

/-- CARD_ANSWER (R431): A card answers a block of an RDR_APDU exchange, with an I-block, an S(WTX) or the response that ends the exchange. -/
def execCardAnswer (a : CardIn) (s : State) : Host.Outcome State Fault Refusal :=
  .next (s.devStep fun d => d.when d.shellRuns fun d => d.cardAnswer a)

/-- CARD_WAIT_EXPIRY (R431): A block's wait or the 392-pip exchange limit runs out, and the reader sends R(NAK) once or completes with CARD_TIMEOUT. -/
def execCardWaitExpiry (s : State) : Host.Outcome State Fault Refusal :=
  .next (s.devStep fun d => d.when d.shellRuns Dev.cardWait)

/-- TAG_FIELD_DROP (R433): The reader field on the tag antenna drops, the tag front end loses power, its UID is released and any ISO/IEC 14443-4 session ends. -/
def execTagFieldDrop (s : State) : Host.Outcome State Fault Refusal :=
  .next (s.devStep fun d => d.tagDrop)

end Sys2Proof.Machine
end

