-- ==== Sys2Proof/Machine/TimeCmds.lean ====
section
/-!
DEFINITION. Meanings: the opcodes 0x06xx of time.
-/
namespace Sys2Proof.Machine

/-- TIME_GET (R91): Opcode 0x0600 returns the pip, TB0 and TIME_STATUS. -/
def execTimeGet (h : Hdr) (p : List Byte) (s : State) : Host.Outcome State Fault Refusal :=
  .next (s.submit h 0x0600 p)

/-- TIME_SET_STATE (R103): Opcode 0x0601 moves the servo to NORMAL, RECOVERY or TEST. -/
def execTimeSetState (h : Hdr) (p : List Byte) (s : State) : Host.Outcome State Fault Refusal :=
  .next (s.submit h 0x0601 p)

/-- TIME_SET_TB0 (R609): Opcode 0x0602 schedules TB0 to take a given value at the next boundary. -/
def execTimeSetTb0 (h : Hdr) (p : List Byte) (s : State) : Host.Outcome State Fault Refusal :=
  .next (s.submit h 0x0602 p)

/-- TIME_PTP_STATUS (R97): Opcode 0x0603 returns the PTP grandmaster, port state, offset and path delay. -/
def execTimePtpStatus (h : Hdr) (p : List Byte) (s : State) : Host.Outcome State Fault Refusal :=
  .next (s.submit h 0x0603 p)

end Sys2Proof.Machine
end

