-- ==== Sys2Proof/Machine/TimeEvents.lean ====
section
/-!
DEFINITION. Meanings: the time unit's steps.
-/
namespace Sys2Proof.Machine

/-- PTP_OFFSET_MEASURED (R103): A measured offsetFromMaster drives the servo: slew, refusal, agreement and scheduled step, or lock. -/
def execPtpOffsetMeasured (m : PtpMeas) (s : State) : Host.Outcome State Fault Refusal :=
  .next (s.devStep fun d => d.ptpMeasured m)

/-- ANNOUNCE_RECEIPT_TIMEOUT (R103): No master is heard for the announce timeout, and a locked slave-only module enters HOLDOVER. -/
def execAnnounceReceiptTimeout (s : State) : Host.Outcome State Fault Refusal :=
  .next (s.devStep fun d => d.when d.ptpRuns Dev.announceTimeout)

/-- BMCA_OTHER_MASTER (R103): The BMCA selects another master, and master_changed is set. -/
def execBmcaOtherMaster (i : PtpInfo) (s : State) : Host.Outcome State Fault Refusal :=
  .next (s.devStep fun d => d.when (d.ptpRuns && d.ethRuns && d.rbit Reg.TIME_PTP_CFG 0) fun d => d.otherMaster i)

/-- BMCA_SELECTS_SELF (R103): The BMCA makes this module grandmaster. -/
def execBmcaSelectsSelf (s : State) : Host.Outcome State Fault Refusal :=
  .next (s.devStep fun d => d.when (d.ptpRuns && d.rbit Reg.TIME_PTP_CFG 0) Dev.selfMaster)

/-- HOLDOVER_LIMIT_REACHED (R103): TIME_HOLD_PIPS reaches the holdover limit, and tb1_aligned is cleared. -/
def execHoldoverLimitReached (s : State) : Host.Outcome State Fault Refusal :=
  .next (s.devStep fun d => d.when (d.domainRuns 4) Dev.holdoverLimit)

/-- TB0_STEP (R105): A pending step of TB0 takes effect at the boundary of pip L, which lasts the extra time that realigns the boundaries. -/
def execTb0Step (s : State) : Host.Outcome State Fault Refusal :=
  .next (s.latchStep fun d => d.when (d.domainRuns 4) Dev.tb0Step)

/-- PTP_EVENT_SENT (R100): A sent PTP event message pushes a transmit timestamp entry into its MAC's queue. -/
def execPtpEventSent (t : TxStamp) (s : State) : Host.Outcome State Fault Refusal :=
  .next (s.devStep fun d => d.when (d.ethRuns && d.domainRuns 4) fun d => d.ptpSent t)

end Sys2Proof.Machine
end

