-- ==== Sys2Proof/Machine/TwinCmds.lean ====
section
/-!
DEFINITION. Meanings: the opcodes 0x0Bxx of the twin.
-/
namespace Sys2Proof.Machine

/-- TWIN_STATUS_GET (R402): Opcode 0x0B00 returns the twin status, epochs, Pod status, copy status and comparison mask. -/
def execTwinStatusGet (h : Hdr) (p : List Byte) (s : State) : Host.Outcome State Fault Refusal :=
  .next (s.submit h 0x0B00 p)

/-- TWIN_SWITCHOVER (R422): Opcode 0x0B01 hands the active role to the standby at its quiet pip. -/
def execTwinSwitchover (h : Hdr) (p : List Byte) (s : State) : Host.Outcome State Fault Refusal :=
  .next (s.submit h 0x0B01 p)

/-- TWIN_RESYNC (R402): Opcode 0x0B02 discards the copy and returns the module to SYNCING. -/
def execTwinResync (h : Hdr) (p : List Byte) (s : State) : Host.Outcome State Fault Refusal :=
  .next (s.submit h 0x0B02 p)

/-- TWIN_KCMP_GET (R416): Opcode 0x0B03 returns own and partner energy advances for a channel. -/
def execTwinKcmpGet (h : Hdr) (p : List Byte) (s : State) : Host.Outcome State Fault Refusal :=
  .next (s.submit h 0x0B03 p)

end Sys2Proof.Machine
end

