-- ==== Sys2Proof/Machine/TwinEvents.lean ====
section
/-!
DEFINITION. Meanings: the twin's steps.
-/
namespace Sys2Proof.Machine

/-- POD_TRAINING_COMPLETE (R397): Pod link training ends with the state exchange, and the twin state machine acts on it. -/
def execPodTrainingComplete (t : TrainIn) (s : State) : Host.Outcome State Fault Refusal :=
  .next (s.devStep fun d => d.when d.shellRuns fun d => d.podTrain t)

/-- POD_LANE_LOCK_LOSS (R397): A Pod lane loses lock, and training restarts. -/
def execPodLaneLockLoss (lane : Fin 2) (s : State) : Host.Outcome State Fault Refusal :=
  .next (s.devStep fun d => d.when d.shellRuns fun d => d.podLost lane.val)

/-- POD_FRAME_RX (R398): A Pod frame arrives with copy, acknowledgement or comparison values, or fails its CRC. -/
def execPodFrameRx (f : PodFrame) (s : State) : Host.Outcome State Fault Refusal :=
  .next (s.devStep fun d => d.when d.shellRuns fun d => d.podFrame f)

/-- KCMP_MISMATCH_SET (R417): A channel mismatches for count pips, and its bit and event are set and logged. -/
def execKcmpMismatchSet (s : State) : Host.Outcome State Fault Refusal :=
  .next (s.devStep fun d => d.when d.shellRuns fun d => (List.range 32).foldl (fun (d : Dev) m => d.kcmpSet m) d)

/-- TWIN_LIVE_TOGGLE (R399): Each pip at +100 µs, the running module toggles TWIN_LIVE_OUT. -/
def execTwinLiveToggle (s : State) : Host.Outcome State Fault Refusal :=
  .next (s.devStep fun d => d.liveToggle)

/-- TWIN_SILENCE_PROMOTE (R418): After 3 silent pips on both paths, a standby promotes itself to ACTIVE. -/
def execTwinSilencePromote (s : State) : Host.Outcome State Fault Refusal :=
  .next ((s.onDev fun d => d.when d.shellRuns fun d => d.silencePromote).staleReplies.settle)

/-- PROMOTED_HUB_STOP_RAMPDOWN (R419): A promoted module that reads HUB_STOP_N low takes its running outlets through RAMPDOWN. -/
def execPromotedHubStopRampdown (s : State) : Host.Outcome State Fault Refusal :=
  .next (s.devStep fun d => d.when d.shellRuns fun d => d.promotedHub)

/-- POD_FAULT_DETECT (R402): The Pod link alone is silent for 3 pips, and the standby enters SYNCING with POD_FAULT. -/
def execPodFaultDetect (s : State) : Host.Outcome State Fault Refusal :=
  .next (s.devStep fun d => d.when d.shellRuns fun d => d.podFault)

/-- PARTNER_SILENT (R402): An active module's partner is silent for 3 pips, and partner_present clears. -/
def execPartnerSilent (s : State) : Host.Outcome State Fault Refusal :=
  .next (s.devStep fun d => d.when d.shellRuns fun d => d.partnerSilent)

/-- TWIN_COPY_LAG (R402): A standby goes 8 pips without an applied copy and enters SYNCING with LAG. -/
def execTwinCopyLag (s : State) : Host.Outcome State Fault Refusal :=
  .next (s.devStep fun d => d.when d.shellRuns fun d => d.copyLag)

/-- TWIN_COPY_APPLY (R405): The standby applies a received copy whole at the next boundary, including a handover copy. -/
def execTwinCopyApply (s : State) : Host.Outcome State Fault Refusal :=
  .next (s.devStep fun d => d.when (d.shellRuns && d.twin.copyAt + 1 = d.pip && d.lsw.lastFrame ≠ d.osc) fun d => d.copyApply)

/-- TWIN_SYNC_COMPLETE (R413): The sync conditions hold, and the module enters STANDBY and joins the drive. -/
def execTwinSyncComplete (s : State) : Host.Outcome State Fault Refusal :=
  .next (s.devStep fun d => d.when d.shellRuns fun d => d.syncComplete)

/-- TWIN_SEARCH_TIMEOUT (R402): The search time passes with no trained Pod link, and the module becomes active. -/
def execTwinSearchTimeout (s : State) : Host.Outcome State Fault Refusal :=
  .next (s.devStep fun d => d.when d.shellRuns fun d => d.searchTimeout)

/-- EPOCH_NOTICE_TX (R401): Every 40 pips the module sends an epoch notice to its partner. -/
def execEpochNoticeTx (s : State) : Host.Outcome State Fault Refusal :=
  .next (s.devStep fun d => d.when (d.shellRuns && d.ethRuns) Dev.noticeTx)

/-- EPOCH_NOTICE_RX (R401): A notice from the partner is checked and its epoch acted on. -/
def execEpochNoticeRx (ip : BitVec 32) (b : List Byte) (s : State) : Host.Outcome State Fault Refusal :=
  .next (s.devStep fun d => d.when (d.shellRuns && d.ethRuns) fun d => d.noticeRx ip.toNat b)

/-- TWIN_LIVE_IN_EDGE (R400): An edge arrives on TWIN_LIVE_IN, making that path not silent and setting live_ok and partner_present. -/
def execTwinLiveInEdge (s : State) : Host.Outcome State Fault Refusal :=
  .next (s.devStep fun d => d.when d.shellRuns fun d => d.liveEdge)

end Sys2Proof.Machine
end

