-- ==== Sys2Proof/Machine/Dispatch.lean ====
section
/-!
DEFINITION. The dispatch of a command to its meaning, one arm per command.
-/
namespace Sys2Proof.Machine

def exec (i : Instr) (s : State) : Host.Outcome State Fault Refusal :=
  match i with
  | .commandPacketArrival x => Sys2Proof.Machine.execCommandPacketArrival x s
  | .writePacket b => Sys2Proof.Machine.execWritePacket b s
  | .readStatus => Sys2Proof.Machine.execReadStatus s
  | .readReply n => Sys2Proof.Machine.execReadReply n s
  | .spiUnknownInstruction => Sys2Proof.Machine.execSpiUnknownInstruction s
  | .udpReplySend => Sys2Proof.Machine.execUdpReplySend s
  | .pipBoundary x => Sys2Proof.Machine.execPipBoundary x s
  | .deadlineMiss => Sys2Proof.Machine.execDeadlineMiss s
  | .startedCommandEnd => Sys2Proof.Machine.execStartedCommandEnd s
  | .quietPipWindowExpiry => Sys2Proof.Machine.execQuietPipWindowExpiry s
  | .switchDieFrame good meas => Sys2Proof.Machine.execSwitchDieFrame good meas s
  | .switchDieWatchdogExpiry => Sys2Proof.Machine.execSwitchDieWatchdogExpiry s
  | .sysStatusGet h p => Sys2Proof.Machine.execSysStatusGet h p s
  | .sysInfo h p => Sys2Proof.Machine.execSysInfo h p s
  | .sysReset h p => Sys2Proof.Machine.execSysReset h p s
  | .sysForceSel h p => Sys2Proof.Machine.execSysForceSel h p s
  | .sysSetMode h p => Sys2Proof.Machine.execSysSetMode h p s
  | .sysCfgSave h p => Sys2Proof.Machine.execSysCfgSave h p s
  | .sysLogRead h p => Sys2Proof.Machine.execSysLogRead h p s
  | .regRead h p => Sys2Proof.Machine.execRegRead h p s
  | .regWrite h p => Sys2Proof.Machine.execRegWrite h p s
  | .regModify h p => Sys2Proof.Machine.execRegModify h p s
  | .regReadShadow h p => Sys2Proof.Machine.execRegReadShadow h p s
  | .fabCommit h p => Sys2Proof.Machine.execFabCommit h p s
  | .fabDiscard h p => Sys2Proof.Machine.execFabDiscard h p s
  | .fabCancel h p => Sys2Proof.Machine.execFabCancel h p s
  | .replyRecall h p => Sys2Proof.Machine.execReplyRecall h p s
  | .fabNop h p => Sys2Proof.Machine.execFabNop h p s
  | .outStatusGet h p => Sys2Proof.Machine.execOutStatusGet h p s
  | .outAuthorise h p => Sys2Proof.Machine.execOutAuthorise h p s
  | .outStartRemote h p => Sys2Proof.Machine.execOutStartRemote h p s
  | .outStop h p => Sys2Proof.Machine.execOutStop h p s
  | .outSetAvailable h p => Sys2Proof.Machine.execOutSetAvailable h p s
  | .outClearFault h p => Sys2Proof.Machine.execOutClearFault h p s
  | .outSessionInfo h p => Sys2Proof.Machine.execOutSessionInfo h p s
  | .outEventRead h p => Sys2Proof.Machine.execOutEventRead h p s
  | .listUpdate h p => Sys2Proof.Machine.execListUpdate h p s
  | .listQuery h p => Sys2Proof.Machine.execListQuery h p s
  | .outCertResponse h p => Sys2Proof.Machine.execOutCertResponse h p s
  | .kernStatus h p => Sys2Proof.Machine.execKernStatus h p s
  | .kernCertRead h p => Sys2Proof.Machine.execKernCertRead h p s
  | .kernPubkeyRead h p => Sys2Proof.Machine.execKernPubkeyRead h p s
  | .kernLedgerRead h p => Sys2Proof.Machine.execKernLedgerRead h p s
  | .kernIntervalWait h p => Sys2Proof.Machine.execKernIntervalWait h p s
  | .kernReceiptGet h p => Sys2Proof.Machine.execKernReceiptGet h p s
  | .kernSetChannel h p => Sys2Proof.Machine.execKernSetChannel h p s
  | .kernSetCal h p => Sys2Proof.Machine.execKernSetCal h p s
  | .kernSetMclk h p => Sys2Proof.Machine.execKernSetMclk h p s
  | .kernSetPulse h p => Sys2Proof.Machine.execKernSetPulse h p s
  | .kernSetBalance h p => Sys2Proof.Machine.execKernSetBalance h p s
  | .kernSetLimits h p => Sys2Proof.Machine.execKernSetLimits h p s
  | .kernFwBegin h p => Sys2Proof.Machine.execKernFwBegin h p s
  | .kernFwChunk h p => Sys2Proof.Machine.execKernFwChunk h p s
  | .kernFwEnd h p => Sys2Proof.Machine.execKernFwEnd h p s
  | .kernFwActivate h p => Sys2Proof.Machine.execKernFwActivate h p s
  | .kernArchiveAck h p => Sys2Proof.Machine.execKernArchiveAck h p s
  | .kernCheckpoint h p => Sys2Proof.Machine.execKernCheckpoint h p s
  | .kernelCommandExecute => Sys2Proof.Machine.execKernelCommandExecute s
  | .kernelSessionOpen n => Sys2Proof.Machine.execKernelSessionOpen n s
  | .kernelSessionClose n => Sys2Proof.Machine.execKernelSessionClose n s
  | .iBreakPass n => Sys2Proof.Machine.execIBreakPass n s
  | .tariffBegin h p => Sys2Proof.Machine.execTariffBegin h p s
  | .tariffChunk h p => Sys2Proof.Machine.execTariffChunk h p s
  | .tariffEnd h p => Sys2Proof.Machine.execTariffEnd h p s
  | .tariffAbort h p => Sys2Proof.Machine.execTariffAbort h p s
  | .tariffRead h p => Sys2Proof.Machine.execTariffRead h p s
  | .legalTimeAdjust h p => Sys2Proof.Machine.execLegalTimeAdjust h p s
  | .legalTimeGet h p => Sys2Proof.Machine.execLegalTimeGet h p s
  | .accountSet h p => Sys2Proof.Machine.execAccountSet h p s
  | .accountAdjust h p => Sys2Proof.Machine.execAccountAdjust h p s
  | .accountGet h p => Sys2Proof.Machine.execAccountGet h p s
  | .txnRead h p => Sys2Proof.Machine.execTxnRead h p s
  | .tokenSubmit h p => Sys2Proof.Machine.execTokenSubmit h p s
  | .tokenListRead h p => Sys2Proof.Machine.execTokenListRead h p s
  | .huskStatusGet h p => Sys2Proof.Machine.execHuskStatusGet h p s
  | .laneStatsGet h p => Sys2Proof.Machine.execLaneStatsGet h p s
  | .slacProfileGet h p => Sys2Proof.Machine.execSlacProfileGet h p s
  | .laneReset h p => Sys2Proof.Machine.execLaneReset h p s
  | .t1sStatusGet h p => Sys2Proof.Machine.execT1sStatusGet h p s
  | .laneTxTest h p => Sys2Proof.Machine.execLaneTxTest h p s
  | .timeGet h p => Sys2Proof.Machine.execTimeGet h p s
  | .timeSetState h p => Sys2Proof.Machine.execTimeSetState h p s
  | .timeSetTb0 h p => Sys2Proof.Machine.execTimeSetTb0 h p s
  | .timePtpStatus h p => Sys2Proof.Machine.execTimePtpStatus h p s
  | .fwuStatusGet h p => Sys2Proof.Machine.execFwuStatusGet h p s
  | .fwuBegin h p => Sys2Proof.Machine.execFwuBegin h p s
  | .fwuChunk h p => Sys2Proof.Machine.execFwuChunk h p s
  | .fwuEnd h p => Sys2Proof.Machine.execFwuEnd h p s
  | .fwuActivate h p => Sys2Proof.Machine.execFwuActivate h p s
  | .fwuConfirm h p => Sys2Proof.Machine.execFwuConfirm h p s
  | .fwuAbort h p => Sys2Proof.Machine.execFwuAbort h p s
  | .keyStatusGet h p => Sys2Proof.Machine.execKeyStatusGet h p s
  | .keyLoad h p => Sys2Proof.Machine.execKeyLoad h p s
  | .keyClear h p => Sys2Proof.Machine.execKeyClear h p s
  | .keyGenerate h p => Sys2Proof.Machine.execKeyGenerate h p s
  | .keyImport h p => Sys2Proof.Machine.execKeyImport h p s
  | .keyPubkey h p => Sys2Proof.Machine.execKeyPubkey h p s
  | .keyCsr h p => Sys2Proof.Machine.execKeyCsr h p s
  | .keyAead h p => Sys2Proof.Machine.execKeyAead h p s
  | .keyTamperArm h p => Sys2Proof.Machine.execKeyTamperArm h p s
  | .keyChainWrite h p => Sys2Proof.Machine.execKeyChainWrite h p s
  | .dispStatusGet h p => Sys2Proof.Machine.execDispStatusGet h p s
  | .dispWrite h p => Sys2Proof.Machine.execDispWrite h p s
  | .dispUpdate h p => Sys2Proof.Machine.execDispUpdate h p s
  | .dispStressRead h p => Sys2Proof.Machine.execDispStressRead h p s
  | .dispStressReset h p => Sys2Proof.Machine.execDispStressReset h p s
  | .tagStatusGet h p => Sys2Proof.Machine.execTagStatusGet h p s
  | .rdrList h p => Sys2Proof.Machine.execRdrList h p s
  | .rdrApdu h p => Sys2Proof.Machine.execRdrApdu h p s
  | .tagFramRead h p => Sys2Proof.Machine.execTagFramRead h p s
  | .tagFramWrite h p => Sys2Proof.Machine.execTagFramWrite h p s
  | .tagFramHold h p => Sys2Proof.Machine.execTagFramHold h p s
  | .tagFramRelease h p => Sys2Proof.Machine.execTagFramRelease h p s
  | .tagKpRead h p => Sys2Proof.Machine.execTagKpRead h p s
  | .twinStatusGet h p => Sys2Proof.Machine.execTwinStatusGet h p s
  | .twinSwitchover h p => Sys2Proof.Machine.execTwinSwitchover h p s
  | .twinResync h p => Sys2Proof.Machine.execTwinResync h p s
  | .twinKcmpGet h p => Sys2Proof.Machine.execTwinKcmpGet h p s
  | .meshStatusGet h p => Sys2Proof.Machine.execMeshStatusGet h p s
  | .meshNodeTable h p => Sys2Proof.Machine.execMeshNodeTable h p s
  | .meshSend h p => Sys2Proof.Machine.execMeshSend h p s
  | .meshRxRead h p => Sys2Proof.Machine.execMeshRxRead h p s
  | .meshRescan h p => Sys2Proof.Machine.execMeshRescan h p s
  | .meshEvict h p => Sys2Proof.Machine.execMeshEvict h p s
  | .safeStatusGet h p => Sys2Proof.Machine.execSafeStatusGet h p s
  | .safeReset h p => Sys2Proof.Machine.execSafeReset h p s
  | .safeCfgCheck h p => Sys2Proof.Machine.execSafeCfgCheck h p s
  | .safeCfgActivate h p => Sys2Proof.Machine.execSafeCfgActivate h p s
  | .safeCfgDiscard h p => Sys2Proof.Machine.execSafeCfgDiscard h p s
  | .safeHubStop h p => Sys2Proof.Machine.execSafeHubStop h p s
  | .guardStatusGet h p => Sys2Proof.Machine.execGuardStatusGet h p s
  | .guardSelfTest h p => Sys2Proof.Machine.execGuardSelfTest h p s
  | .guardClearFault h p => Sys2Proof.Machine.execGuardClearFault h p s
  | .lswStatusGet h p => Sys2Proof.Machine.execLswStatusGet h p s
  | .lswSet h p => Sys2Proof.Machine.execLswSet h p s
  | .lswSetAx h p => Sys2Proof.Machine.execLswSetAx h p s
  | .lswClear h p => Sys2Proof.Machine.execLswClear h p s
  | .memStatusGet h p => Sys2Proof.Machine.execMemStatusGet h p s
  | .memEccWriteRaw h p => Sys2Proof.Machine.execMemEccWriteRaw h p s
  | .memEccRead h p => Sys2Proof.Machine.execMemEccRead h p s
  | .memMbistRun fails h p => Sys2Proof.Machine.execMemMbistRun fails h p s
  | .memRepairAdd h p => Sys2Proof.Machine.execMemRepairAdd h p s
  | .memRepairList h p => Sys2Proof.Machine.execMemRepairList h p s
  | .guardStateRequest h n v => Sys2Proof.Machine.execGuardStateRequest h n v s
  | .lswChannelCommand h ch v => Sys2Proof.Machine.execLswChannelCommand h ch v s
  | .meshEnable h => Sys2Proof.Machine.execMeshEnable h s
  | .meshDisable h => Sys2Proof.Machine.execMeshDisable h s
  | .timePipOffsetWrite h v => Sys2Proof.Machine.execTimePipOffsetWrite h v s
  | .twinEnable h v => Sys2Proof.Machine.execTwinEnable h v s
  | .twinDisable h v => Sys2Proof.Machine.execTwinDisable h v s
  | .dispVpRestart h v on => Sys2Proof.Machine.execDispVpRestart h v on s
  | .sysClkSelWrite h v => Sys2Proof.Machine.execSysClkSelWrite h v s
  | .ptpOffsetMeasured m => Sys2Proof.Machine.execPtpOffsetMeasured m s
  | .announceReceiptTimeout => Sys2Proof.Machine.execAnnounceReceiptTimeout s
  | .bmcaOtherMaster x => Sys2Proof.Machine.execBmcaOtherMaster x s
  | .bmcaSelectsSelf => Sys2Proof.Machine.execBmcaSelectsSelf s
  | .holdoverLimitReached => Sys2Proof.Machine.execHoldoverLimitReached s
  | .tb0Step => Sys2Proof.Machine.execTb0Step s
  | .ptpEventSent t => Sys2Proof.Machine.execPtpEventSent t s
  | .kernelSample x => Sys2Proof.Machine.execKernelSample x s
  | .pipStrobe len => Sys2Proof.Machine.execPipStrobe len s
  | .kernelRealignStart => Sys2Proof.Machine.execKernelRealignStart s
  | .kernelAligned => Sys2Proof.Machine.execKernelAligned s
  | .noZc => Sys2Proof.Machine.execNoZc s
  | .streamRecovered => Sys2Proof.Machine.execStreamRecovered s
  | .mclkClockFault n => Sys2Proof.Machine.execMclkClockFault n s
  | .mclkSettlingEnd => Sys2Proof.Machine.execMclkSettlingEnd s
  | .pendingPulseEmit => Sys2Proof.Machine.execPendingPulseEmit s
  | .balanceCheck => Sys2Proof.Machine.execBalanceCheck s
  | .sealOpen => Sys2Proof.Machine.execSealOpen s
  | .sealClose => Sys2Proof.Machine.execSealClose s
  | .ledgerRecordProgram => Sys2Proof.Machine.execLedgerRecordProgram s
  | .checkpointDue => Sys2Proof.Machine.execCheckpointDue s
  | .meterFaultEntry cause => Sys2Proof.Machine.execMeterFaultEntry cause s
  | .kernelPowerOn us kept slot0 slot1 => Sys2Proof.Machine.execKernelPowerOn us kept slot0 slot1 s
  | .intervalBoundary => Sys2Proof.Machine.execIntervalBoundary s
  | .offsetChange => Sys2Proof.Machine.execOffsetChange s
  | .legalTimeSlewTick => Sys2Proof.Machine.execLegalTimeSlewTick s
  | .friendlyWindowClose => Sys2Proof.Machine.execFriendlyWindowClose s
  | .billStateSave => Sys2Proof.Machine.execBillStateSave s
  | .billMeterRecord n => Sys2Proof.Machine.execBillMeterRecord n s
  | .tokenMidnightPurge => Sys2Proof.Machine.execTokenMidnightPurge s
  | .pilotStateAccepted n => Sys2Proof.Machine.execPilotStateAccepted n s
  | .faultPilotProbe n code => Sys2Proof.Machine.execFaultPilotProbe n code s
  | .linkUp n offered => Sys2Proof.Machine.execLinkUp n offered s
  | .linkTimerExpiry n => Sys2Proof.Machine.execLinkTimerExpiry n s
  | .paymentSelectionComplete n contract => Sys2Proof.Machine.execPaymentSelectionComplete n contract s
  | .protocolError n => Sys2Proof.Machine.execProtocolError n s
  | .authorisationTimerExpiry n => Sys2Proof.Machine.execAuthorisationTimerExpiry n s
  | .hostWaitExpiry n => Sys2Proof.Machine.execHostWaitExpiry n s
  | .hostOffline => Sys2Proof.Machine.execHostOffline s
  | .preauthExpiry => Sys2Proof.Machine.execPreauthExpiry s
  | .floatingPreauthExpiry => Sys2Proof.Machine.execFloatingPreauthExpiry s
  | .cableCheckTimerExpiry n => Sys2Proof.Machine.execCableCheckTimerExpiry n s
  | .powerDeliveryRequest n bpt => Sys2Proof.Machine.execPowerDeliveryRequest n bpt s
  | .prechargeTimerExpiry n => Sys2Proof.Machine.execPrechargeTimerExpiry n s
  | .vehicleStopRequest n => Sys2Proof.Machine.execVehicleStopRequest n s
  | .canRxFrame f => Sys2Proof.Machine.execCanRxFrame f s
  | .canTxTemplate t => Sys2Proof.Machine.execCanTxTemplate t s
  | .pmStatusTimeout => Sys2Proof.Machine.execPmStatusTimeout s
  | .tForceExpiry n => Sys2Proof.Machine.execTForceExpiry n s
  | .weldCheckTimeout n => Sys2Proof.Machine.execWeldCheckTimeout n s
  | .unpluggedToIdle n => Sys2Proof.Machine.execUnpluggedToIdle n s
  | .fcDecode f => Sys2Proof.Machine.execFcDecode f s
  | .frameDelivery f => Sys2Proof.Machine.execFrameDelivery f s
  | .frameLate n => Sys2Proof.Machine.execFrameLate n s
  | .huskSlice l => Sys2Proof.Machine.execHuskSlice l s
  | .noiseWindowEnd n w gain preamble => Sys2Proof.Machine.execNoiseWindowEnd n w gain preamble s
  | .slacParmReq n => Sys2Proof.Machine.execSlacParmReq n s
  | .soundCapture x => Sys2Proof.Machine.execSoundCapture x s
  | .slacDecision run => Sys2Proof.Machine.execSlacDecision run s
  | .slacMatchReq n run => Sys2Proof.Machine.execSlacMatchReq n run s
  | .t1sFrameRx t e => Sys2Proof.Machine.execT1sFrameRx t e s
  | .t1sLinkLoss t energy => Sys2Proof.Machine.execT1sLinkLoss t energy s
  | .meshPeriodStart => Sys2Proof.Machine.execMeshPeriodStart s
  | .meshBeaconRx b snr => Sys2Proof.Machine.execMeshBeaconRx b snr s
  | .meshSlotFrameRx b snr ok => Sys2Proof.Machine.execMeshSlotFrameRx b snr ok s
  | .meshSackRx positive => Sys2Proof.Machine.execMeshSackRx positive s
  | .meshPeriodEnd => Sys2Proof.Machine.execMeshPeriodEnd s
  | .meshScanEnd => Sys2Proof.Machine.execMeshScanEnd s
  | .meshJoinReq ident parent => Sys2Proof.Machine.execMeshJoinReq ident parent s
  | .meshJoinAck ident id epoch => Sys2Proof.Machine.execMeshJoinAck ident id epoch s
  | .meshJoinTimeout => Sys2Proof.Machine.execMeshJoinTimeout s
  | .meshNodeTimeout n => Sys2Proof.Machine.execMeshNodeTimeout n s
  | .meshBackupPromotion => Sys2Proof.Machine.execMeshBackupPromotion s
  | .meshActionExecute => Sys2Proof.Machine.execMeshActionExecute s
  | .rcmStageTrip n => Sys2Proof.Machine.execRcmStageTrip n s
  | .imdWindowStart n => Sys2Proof.Machine.execImdWindowStart n s
  | .imdWindowEnd n => Sys2Proof.Machine.execImdWindowEnd n s
  | .guardStreamFault n => Sys2Proof.Machine.execGuardStreamFault n s
  | .guardSelfTestEnd n => Sys2Proof.Machine.execGuardSelfTestEnd n s
  | .safetyInputChange x level => Sys2Proof.Machine.execSafetyInputChange x level s
  | .discrepancyTimeout p => Sys2Proof.Machine.execDiscrepancyTimeout p s
  | .antivalenceTimeout p => Sys2Proof.Machine.execAntivalenceTimeout p s
  | .testPulse k low => Sys2Proof.Machine.execTestPulse k low s
  | .resetButtonRelease p => Sys2Proof.Machine.execResetButtonRelease p s
  | .crossDisagreement x => Sys2Proof.Machine.execCrossDisagreement x s
  | .stoneSelfFault => Sys2Proof.Machine.execStoneSelfFault s
  | .permitWord good => Sys2Proof.Machine.execPermitWord good s
  | .heartbeatLost => Sys2Proof.Machine.execHeartbeatLost s
  | .heartbeatValid => Sys2Proof.Machine.execHeartbeatValid s
  | .hubStopHoldEnd => Sys2Proof.Machine.execHubStopHoldEnd s
  | .stoneFrameRx c f => Sys2Proof.Machine.execStoneFrameRx c f s
  | .stoneFrameTx c => Sys2Proof.Machine.execStoneFrameTx c s
  | .stoneConnWatchdog => Sys2Proof.Machine.execStoneConnWatchdog s
  | .overcurrentTrip ch => Sys2Proof.Machine.execOvercurrentTrip ch s
  | .inrushWindowEnd ch => Sys2Proof.Machine.execInrushWindowEnd ch s
  | .thermalLatchSet ch => Sys2Proof.Machine.execThermalLatchSet ch s
  | .thermalLatchClear ch => Sys2Proof.Machine.execThermalLatchClear ch s
  | .retryBackoffElapsed ch => Sys2Proof.Machine.execRetryBackoffElapsed ch s
  | .retryCounterReload ch => Sys2Proof.Machine.execRetryCounterReload ch s
  | .openLoadDetect ch => Sys2Proof.Machine.execOpenLoadDetect ch s
  | .pullInEnd ch => Sys2Proof.Machine.execPullInEnd ch s
  | .underVoltage => Sys2Proof.Machine.execUnderVoltage s
  | .underVoltageRestore => Sys2Proof.Machine.execUnderVoltageRestore s
  | .actHoldExpiry => Sys2Proof.Machine.execActHoldExpiry s
  | .podTrainingComplete t => Sys2Proof.Machine.execPodTrainingComplete t s
  | .podLaneLockLoss lane => Sys2Proof.Machine.execPodLaneLockLoss lane s
  | .podFrameRx f => Sys2Proof.Machine.execPodFrameRx f s
  | .kcmpMismatchSet => Sys2Proof.Machine.execKcmpMismatchSet s
  | .twinLiveToggle => Sys2Proof.Machine.execTwinLiveToggle s
  | .twinSilencePromote => Sys2Proof.Machine.execTwinSilencePromote s
  | .promotedHubStopRampdown => Sys2Proof.Machine.execPromotedHubStopRampdown s
  | .podFaultDetect => Sys2Proof.Machine.execPodFaultDetect s
  | .partnerSilent => Sys2Proof.Machine.execPartnerSilent s
  | .twinCopyLag => Sys2Proof.Machine.execTwinCopyLag s
  | .twinCopyApply => Sys2Proof.Machine.execTwinCopyApply s
  | .twinSyncComplete => Sys2Proof.Machine.execTwinSyncComplete s
  | .twinSearchTimeout => Sys2Proof.Machine.execTwinSearchTimeout s
  | .epochNoticeTx => Sys2Proof.Machine.execEpochNoticeTx s
  | .epochNoticeRx ip b => Sys2Proof.Machine.execEpochNoticeRx ip b s
  | .readerPollCycle cards => Sys2Proof.Machine.execReaderPollCycle cards s
  | .tagActivation r => Sys2Proof.Machine.execTagActivation r s
  | .tagApdu a => Sys2Proof.Machine.execTagApdu a s
  | .framHoldCut lines => Sys2Proof.Machine.execFramHoldCut lines s
  | .passportWrite => Sys2Proof.Machine.execPassportWrite s
  | .keypadScan keys => Sys2Proof.Machine.execKeypadScan keys s
  | .keypadEntryTimeout => Sys2Proof.Machine.execKeypadEntryTimeout s
  | .keypadSelectionExpiry => Sys2Proof.Machine.execKeypadSelectionExpiry s
  | .dispFrameStart volt curr => Sys2Proof.Machine.execDispFrameStart volt curr s
  | .dispUpdateDone r => Sys2Proof.Machine.execDispUpdateDone r s
  | .dispVpFault => Sys2Proof.Machine.execDispVpFault s
  | .dispStressSave => Sys2Proof.Machine.execDispStressSave s
  | .burrLineFire b => Sys2Proof.Machine.execBurrLineFire b s
  | .fwuTrialExpiry => Sys2Proof.Machine.execFwuTrialExpiry s
  | .mbistRowTest fail => Sys2Proof.Machine.execMbistRowTest fail s
  | .lbistChainTest free sig bit => Sys2Proof.Machine.execLbistChainTest free sig bit s
  | .lbistRetest sig => Sys2Proof.Machine.execLbistRetest sig s
  | .sramCorrectableError m addr => Sys2Proof.Machine.execSramCorrectableError m addr s
  | .sramUncorrectableError m addr r => Sys2Proof.Machine.execSramUncorrectableError m addr r s
  | .flashRefresh => Sys2Proof.Machine.execFlashRefresh s
  | .flashUncorrectable block r => Sys2Proof.Machine.execFlashUncorrectable block r s
  | .powerOnReset good straps => Sys2Proof.Machine.execPowerOnReset good straps s
  | .boot b => Sys2Proof.Machine.execBoot b s
  | .feedLost f => Sys2Proof.Machine.execFeedLost f s
  | .feedLossClear => Sys2Proof.Machine.execFeedLossClear s
  | .powerFail lines => Sys2Proof.Machine.execPowerFail lines s
  | .holdupCollapse => Sys2Proof.Machine.execHoldupCollapse s
  | .powerFailReset => Sys2Proof.Machine.execPowerFailReset s
  | .resetNPin low => Sys2Proof.Machine.execResetNPin low s
  | .internalWatchdogExpiry => Sys2Proof.Machine.execInternalWatchdogExpiry s
  | .lxoStop => Sys2Proof.Machine.execLxoStop s
  | .krefFail => Sys2Proof.Machine.execKrefFail s
  | .refclkFail => Sys2Proof.Machine.execRefclkFail s
  | .pllRelock => Sys2Proof.Machine.execPllRelock s
  | .clkMuxHang x => Sys2Proof.Machine.execClkMuxHang x s
  | .feedGood f => Sys2Proof.Machine.execFeedGood f s
  | .twinLiveInEdge => Sys2Proof.Machine.execTwinLiveInEdge s
  | .keyOperationComplete n => Sys2Proof.Machine.execKeyOperationComplete n s
  | .cfgSaveComplete => Sys2Proof.Machine.execCfgSaveComplete s
  | .fwuCommandComplete => Sys2Proof.Machine.execFwuCommandComplete s
  | .huskFrontEndsRunning => Sys2Proof.Machine.execHuskFrontEndsRunning s
  | .framAccessComplete => Sys2Proof.Machine.execFramAccessComplete s
  | .cardAnswer a => Sys2Proof.Machine.execCardAnswer a s
  | .cardWaitExpiry => Sys2Proof.Machine.execCardWaitExpiry s
  | .tagFieldDrop => Sys2Proof.Machine.execTagFieldDrop s
  | .meshTransmitOpportunity o => Sys2Proof.Machine.execMeshTransmitOpportunity o s
  | .vehicleRequestDecoded n r => Sys2Proof.Machine.execVehicleRequestDecoded n r s
  | .certificateInstallationRequest n => Sys2Proof.Machine.execCertificateInstallationRequest n s
  | .lswCfgWrite h ch v => Sys2Proof.Machine.execLswCfgWrite h ch v s
  | .guardModeWrite h n v => Sys2Proof.Machine.execGuardModeWrite h n v s
  | .outletTypeChange h n v => Sys2Proof.Machine.execOutletTypeChange h n v s

end Sys2Proof.Machine
end

