-- ==== Sys2Proof/Machine/Lands.lean ====
section
/-!
DEFINITION. What the block drives at its output lands (20_package_and_lands.md, R567, R568): one home for each land's level, read from the state of the unit that owns it. After a reset of that unit it is the Reset state
column's. Between the frames that other rows carry, a transmit land stands as in that column (log entries 49, 74, 75).
-/
namespace Sys2Proof.Machine

/-- The output lands, with their numbers. -/
inductive OutLand where
  | plcTx (k : Fin 33)
  | cpPwm (n : Fin 32)
  | imdInj (n : Fin 32)
  | mpulse (k : Fin 4)
  | mclk (k : Fin 4)
  | metsealA
  | gclk (k : Fin 2)
  | tp (k : Fin 4)
  | hubStopN
  | twinLiveOut
  | podTx (lane : Fin 2)
  | ethTx (n : Fin 2)
  | mdc
  | t1sTx (n : Fin 8)
  | canTx (n : Fin 4)
  | hostIrqN
  | kpRow (r : Fin 4)
  | rdant
  | col (x : Fin 128)
  | com (y : Fin 64)
  | vpanel
  | cl (ch : Fin 64)
  | sls (n : Fin 32)
  | ax (a : Fin 16)
  deriving DecidableEq, Repr

/-- What a land does: a level, high impedance, electrical idle, a supply or switch off or on, a square wave of so many tenths of a percent high, a clock, the display's scan (`Dev.comOut`, `Dev.colOut`). -/
inductive Level where
  | low
  | high
  | highZ
  | idle
  | off
  | on
  | duty (n : Nat)
  | clock (hz : Nat)
  | scan
  deriving DecidableEq, Repr

/-- CP_PWM_nn (R118, R568): low until the pilot generators drive again after their reset, then with the duty in use. -/
def Dev.cpPwm (d : Dev) (n : Nat) : Level :=
  let duty := if d.sys.pilots then d.rn (Reg.OUT_CP_DUTY n) else 0
  if duty = 0 then .low else if 1000 ≤ duty then .high else .duty duty

/-- MCLK_k: low until the Kernel runs, which the model takes from its first sample on (DEDUCED, log entry 90), and while KREF has failed (R539); an input where it is set as one (R143). -/
def Dev.mclkOut (d : Dev) (k : Nat) : Level :=
  let c := d.kern.mclks.getD k KMclk.reset
  if c.input then .highZ else if d.kern.clk = 0 || d.kern.krefFault then .low else .clock (c.mhz * 1000000)

/-- GCLK_k: low until PLL_SYS locks and while the Guard has no clock (R546, R551). -/
def Dev.gclkOut (d : Dev) (k : Nat) : Level :=
  if (d.rbit Reg.SYS_CLK_STATUS 29 || d.rbit Reg.SYS_CLK_STATUS 28) && d.domainRuns 5 then .clock (d.gclkHz k) else .low

/-- What a land does now, `us` µs into the current 250 µs for the test pulses. -/
def State.land (s : State) (us : Nat) (l : OutLand) : Level :=
  let d := s.dev
  match l with
  | .plcTx _ => .highZ
  | .cpPwm n => d.cpPwm n
  | .imdInj n => match (d.g n).inj with | 1 => .high | 2 => .low | _ => .highZ
  | .mpulse k => if (d.kern.pulses.getD k KPulse.reset).level then .high else .low
  | .mclk k => d.mclkOut k
  | .metsealA => if d.kern.sealA then .high else .low
  | .gclk k => d.gclkOut k
  | .tp k => if d.cfgValid && !d.tpLow k us then .high else .low
  | .hubStopN => if d.rbit Reg.SAFE_STATUS 2 then .low else .highZ
  | .twinLiveOut => if d.twin.liveOut then .high else .low
  | .podTx k => if d.twinEn && d.rbit Reg.TWIN_POD_STATUS k then .on else .idle
  | .ethTx _ | .mdc | .t1sTx _ => .low
  | .canTx _ => .high
  | .hostIrqN => if s.irq then .low else .high
  | .kpRow r => if d.kpRowLow = some r.val then .low else .highZ
  | .rdant => if d.tag.cycle.isSome || d.tag.exch.isSome then .on else .off
  | .col _ => if d.rbit Reg.DISP_STATUS 0 then .scan else .highZ
  | .com _ => if d.rbit Reg.DISP_STATUS 0 then .scan else .low
  | .vpanel => if d.disp.vset = 0 then .off else .on
  | .cl ch => if d.lst ch = 1 then .on else .off
  | .sls n => if d.sls n then .on else .off
  | .ax a => if d.lst (64 + a) = 1 then .on else .off

end Sys2Proof.Machine
end

