-- ==== Sys2Proof/Safety.lean ====
section
/-!
DEFINITION. The vocabulary of the claims: what an admitted command is, the state in which an accepted command acts and the states in which the fabric leaves it, and the invariants of the fabric.
-/
namespace Sys2Proof.Claims
open Sys2Proof.Machine

/-! ### A command that is accepted (R45, R46, R49) -/

/-- The packet of an opcode row's command (R42). -/
def packetOf (s : State) (h : Hdr) (op : Nat) (p : Bytes) : Packet :=
  { queue := h.queue.toNat, cls := h.cls.toNat, tag := h.tag.toNat, opcode := op, launch := h.launch.toNat, epoch := h.epoch.toNat, payload := p,
    ip := if s.udp then h.ip.toNat else 0, port := if s.udp then h.port.toNat else 0, own := if s.udp then s.dev.ownAddr else 0 }

/-- The fabric runs, and over UDP the Ethernet ports (R549, R551), the packet comes from an address it hears (R81), its payload is within the limit of R42, no step of R46 refuses it, and what it reads meets no uncorrectable error (R510). -/
abbrev Admitted (s : State) (h : Hdr) (op : Nat) (p : Bytes) : Prop :=
  (s.fabRuns = true ∧ (s.udp && !s.dev.ethRuns) = false) ∧ (s.udp && s.dev.rn Reg.FAB_UDP_PEER ≠ 0 && h.ip.toNat ≠ s.dev.rn Reg.FAB_UDP_PEER) = false ∧ p.length ≤ 1024 ∧ s.refusal (packetOf s h op p) = none ∧ (h.queue.toNat, h.tag.toNat) ∉ s.fab.faults

/-- The accepted command (R49, R60). -/
def cmdOf (s : State) (h : Hdr) (op : Nat) (p : Bytes) : Cmd := s.accepted (packetOf s h op p)

/-- The state with the accepted command in flight: it takes its credits, it is counted, and the host is online. -/
def taken (s : State) (h : Hdr) (op : Nat) (p : Bytes) (ph : Phase) : State :=
  let d := (s.dev.inc (Reg.FAB_Q_ACCEPTED h.queue.toNat)).setBit Reg.OUT_STATUS 0 true
  { s with fab := { s.fab with nextId := s.fab.nextId + 1, flights := s.fab.flights ++ [{ cmd := cmdOf s h op p, phase := ph }] },
           dev := { d with out := { d.out with lastAccept := d.pip } } }

/-- An entry of the answer FIFO for a packet (R74). -/
def answerOf (s : State) (h : Hdr) (op : Nat) (p : Bytes) (r : Reply) (k : AnsKind) : Answer :=
  { reply := r, kind := k, ip := (packetOf s h op p).ip, port := (packetOf s h op p).port, own := (packetOf s h op p).own }

/-- The state in which an immediate command without a launch pip acts. -/
def begun (s : State) (h : Hdr) (op : Nat) (p : Bytes) : State := (taken s h op p .answered).shown

/-- The state with the ACCEPTED answer of a command that goes on, in the given phase (R45). -/
def acceptedIn (s : State) (h : Hdr) (op : Nat) (p : Bytes) (ph : Phase) : State :=
  let t := taken s h op p ph
  ({ t with fab := { t.fab with answers := t.fab.answers ++ [answerOf s h op p (t.dev.reply (cmdOf s h op p) St.accepted []) .accepted] } } : State).shown

/-- The immediate command has acted on the device and its final reply is its answer (R45). -/
def answered (s : State) (h : Hdr) (op : Nat) (p : Bytes) (d : Dev) (st : Nat) (pl : Bytes) : State :=
  let b := begun s h op p
  let r := d.reply (cmdOf s h op p) st pl
  ({ b with dev := d, fab := { b.fab.keep r with answers := b.fab.answers ++ [answerOf s h op p r (.final (cmdOf s h op p).id)] } } : State).settle

/-- The asynchronous command has acted on the device and stands in a phase. -/
def goesOn (s : State) (h : Hdr) (op : Nat) (p : Bytes) (d : Dev) (ph : Phase) : State :=
  let b := acceptedIn s h op p .running
  ({ b with dev := d, fab := b.fab.setPhase (cmdOf s h op p).id ph } : State).settle

/-- The commands of an immediate opcode row, on states and payloads that meet `good`, act at once with `eff` on the device and answer OK with `pl`. -/
def AnswersAtOnce (mk : Hdr → Bytes → Instr) (op : Nat) (good : Dev → Bytes → Prop) (eff : Dev → Cmd → Dev) (pl : Dev → Cmd → Bytes) : Prop :=
  ∀ (s : State) (h : Hdr) (p : Bytes), Admitted s h op p → h.launch = 0 → good (begun s h op p).dev p →
    exec (mk h p) s = .next (answered s h op p (eff (begun s h op p).dev (cmdOf s h op p)) St.ok (pl (begun s h op p).dev (cmdOf s h op p)))

/-- The device on which an asynchronous command without a launch pip acts when it starts. -/
def startDev (s : State) (h : Hdr) (op : Nat) (p : Bytes) : Dev := (acceptedIn s h op p .running).dev

/-- The commands of an asynchronous opcode row, on states and payloads that meet `good`, are answered ACCEPTED, act with `eff` when they start, and their final reply OK with `pl` waits for the collector. -/
def ProducesReply (mk : Hdr → Bytes → Instr) (op : Nat) (good : Dev → Bytes → Prop) (eff : Dev → Cmd → Dev) (pl : Dev → Cmd → Bytes) : Prop :=
  ∀ (s : State) (h : Hdr) (p : Bytes), Admitted s h op p → h.launch = 0 → good (startDev s h op p) p →
    exec (mk h p) s = .next (goesOn s h op p (eff (startDev s h op p) (cmdOf s h op p)) (.produced St.ok (pl (startDev s h op p) (cmdOf s h op p)) (startDev s h op p).pip))

/-- The commands of an asynchronous opcode row, on states and payloads that meet `good`, are answered ACCEPTED and start with `eff`; their unit works on them from then on. -/
def StartsWork (mk : Hdr → Bytes → Instr) (op : Nat) (good : Dev → Bytes → Prop) (eff : Dev → Cmd → Dev) : Prop :=
  ∀ (s : State) (h : Hdr) (p : Bytes), Admitted s h op p → h.launch = 0 → good (startDev s h op p) p →
    exec (mk h p) s = .next (goesOn s h op p (eff (startDev s h op p) (cmdOf s h op p)) .running)

/-- The commands of an opcode row that acts only at a quiet pip, on states and payloads that meet `good`, are answered ACCEPTED and wait through the window of R607 with nothing done. -/
def AwaitsQuietPip (mk : Hdr → Bytes → Instr) (op : Nat) (good : Dev → Bytes → Prop) : Prop :=
  ∀ (s : State) (h : Hdr) (p : Bytes), Admitted s h op p → h.launch = 0 → good (startDev s h op p) p →
    exec (mk h p) s = .next (goesOn s h op p (startDev s h op p) (.waitQuiet (s.dev.pip + 1) (min (s.dev.pip + 40) (cmdOf s h op p).deadline)))

/-! ### The opcode rows -/

/-- What an opcode row's command is, given its packet. -/
abbrev Row := Nat × (Hdr → Bytes → State → Instr)

/-- Opcode rows, part 1. -/
def opcodeRows0 : List Row :=
  [(0x0000, fun h p _ => .sysStatusGet h p),
   (0x0001, fun h p _ => .sysInfo h p),
   (0x0002, fun h p _ => .sysReset h p),
   (0x0003, fun h p _ => .sysForceSel h p),
   (0x0004, fun h p _ => .sysSetMode h p),
   (0x0005, fun h p _ => .sysCfgSave h p),
   (0x0006, fun h p _ => .sysLogRead h p),
   (0x0100, fun h p _ => .regRead h p),
   (0x0101, fun h p _ => .regWrite h p),
   (0x0102, fun h p _ => .regModify h p),
   (0x0103, fun h p _ => .regReadShadow h p),
   (0x0104, fun h p _ => .fabCommit h p),
   (0x0105, fun h p _ => .fabDiscard h p),
   (0x0106, fun h p _ => .fabCancel h p),
   (0x0107, fun h p _ => .replyRecall h p),
   (0x0108, fun h p _ => .fabNop h p),
   (0x0200, fun h p _ => .outStatusGet h p),
   (0x0201, fun h p _ => .outAuthorise h p),
   (0x0202, fun h p _ => .outStartRemote h p),
   (0x0203, fun h p _ => .outStop h p),
   (0x0204, fun h p _ => .outSetAvailable h p),
   (0x0205, fun h p _ => .outClearFault h p),
   (0x0206, fun h p _ => .outSessionInfo h p),
   (0x0207, fun h p _ => .outEventRead h p),
   (0x0208, fun h p _ => .listUpdate h p),
   (0x0209, fun h p _ => .listQuery h p),
   (0x020A, fun h p _ => .outCertResponse h p),
   (0x0300, fun h p _ => .kernStatus h p),
   (0x0301, fun h p _ => .kernCertRead h p),
   (0x0302, fun h p _ => .kernPubkeyRead h p),
   (0x0303, fun h p _ => .kernLedgerRead h p),
   (0x0304, fun h p _ => .kernIntervalWait h p)]

/-- Opcode rows, part 2. -/
def opcodeRows1 : List Row :=
  [(0x0305, fun h p _ => .kernReceiptGet h p),
   (0x0306, fun h p _ => .kernSetChannel h p),
   (0x0307, fun h p _ => .kernSetCal h p),
   (0x0308, fun h p _ => .kernSetMclk h p),
   (0x0309, fun h p _ => .kernSetPulse h p),
   (0x030A, fun h p _ => .kernSetBalance h p),
   (0x030B, fun h p _ => .kernSetLimits h p),
   (0x030C, fun h p _ => .kernFwBegin h p),
   (0x030D, fun h p _ => .kernFwChunk h p),
   (0x030E, fun h p _ => .kernFwEnd h p),
   (0x030F, fun h p _ => .kernFwActivate h p),
   (0x0310, fun h p _ => .kernArchiveAck h p),
   (0x0311, fun h p _ => .kernCheckpoint h p),
   (0x0400, fun h p _ => .tariffBegin h p),
   (0x0401, fun h p _ => .tariffChunk h p),
   (0x0402, fun h p _ => .tariffEnd h p),
   (0x0403, fun h p _ => .tariffAbort h p),
   (0x0404, fun h p _ => .tariffRead h p),
   (0x0405, fun h p _ => .legalTimeAdjust h p),
   (0x0406, fun h p _ => .legalTimeGet h p),
   (0x0410, fun h p _ => .accountSet h p),
   (0x0411, fun h p _ => .accountAdjust h p),
   (0x0412, fun h p _ => .accountGet h p),
   (0x0413, fun h p _ => .txnRead h p),
   (0x0414, fun h p _ => .tokenSubmit h p),
   (0x0415, fun h p _ => .tokenListRead h p),
   (0x0500, fun h p _ => .huskStatusGet h p),
   (0x0501, fun h p _ => .laneStatsGet h p),
   (0x0502, fun h p _ => .slacProfileGet h p),
   (0x0503, fun h p _ => .laneReset h p),
   (0x0504, fun h p _ => .t1sStatusGet h p),
   (0x0505, fun h p _ => .laneTxTest h p)]

/-- Opcode rows, part 3. -/
def opcodeRows2 : List Row :=
  [(0x0600, fun h p _ => .timeGet h p),
   (0x0601, fun h p _ => .timeSetState h p),
   (0x0602, fun h p _ => .timeSetTb0 h p),
   (0x0603, fun h p _ => .timePtpStatus h p),
   (0x0700, fun h p _ => .fwuStatusGet h p),
   (0x0701, fun h p _ => .fwuBegin h p),
   (0x0702, fun h p _ => .fwuChunk h p),
   (0x0703, fun h p _ => .fwuEnd h p),
   (0x0704, fun h p _ => .fwuActivate h p),
   (0x0705, fun h p _ => .fwuConfirm h p),
   (0x0706, fun h p _ => .fwuAbort h p),
   (0x0800, fun h p _ => .keyStatusGet h p),
   (0x0801, fun h p _ => .keyLoad h p),
   (0x0802, fun h p _ => .keyClear h p),
   (0x0803, fun h p _ => .keyGenerate h p),
   (0x0804, fun h p _ => .keyImport h p),
   (0x0805, fun h p _ => .keyPubkey h p),
   (0x0806, fun h p _ => .keyCsr h p),
   (0x0807, fun h p _ => .keyAead h p),
   (0x0808, fun h p _ => .keyTamperArm h p),
   (0x0809, fun h p _ => .keyChainWrite h p),
   (0x0900, fun h p _ => .dispStatusGet h p),
   (0x0901, fun h p _ => .dispWrite h p),
   (0x0902, fun h p _ => .dispUpdate h p),
   (0x0903, fun h p _ => .dispStressRead h p),
   (0x0904, fun h p _ => .dispStressReset h p),
   (0x0A00, fun h p _ => .tagStatusGet h p),
   (0x0A01, fun h p _ => .rdrList h p),
   (0x0A02, fun h p _ => .rdrApdu h p),
   (0x0A03, fun h p _ => .tagFramRead h p),
   (0x0A04, fun h p _ => .tagFramWrite h p),
   (0x0A05, fun h p _ => .tagFramHold h p)]

/-- Opcode rows, part 4. -/
def opcodeRows3 : List Row :=
  [(0x0A06, fun h p _ => .tagFramRelease h p),
   (0x0A07, fun h p _ => .tagKpRead h p),
   (0x0B00, fun h p _ => .twinStatusGet h p),
   (0x0B01, fun h p _ => .twinSwitchover h p),
   (0x0B02, fun h p _ => .twinResync h p),
   (0x0B03, fun h p _ => .twinKcmpGet h p),
   (0x0C00, fun h p _ => .meshStatusGet h p),
   (0x0C01, fun h p _ => .meshNodeTable h p),
   (0x0C02, fun h p _ => .meshSend h p),
   (0x0C03, fun h p _ => .meshRxRead h p),
   (0x0C04, fun h p _ => .meshRescan h p),
   (0x0C05, fun h p _ => .meshEvict h p),
   (0x0D00, fun h p _ => .safeStatusGet h p),
   (0x0D01, fun h p _ => .safeReset h p),
   (0x0D02, fun h p _ => .safeCfgCheck h p),
   (0x0D03, fun h p _ => .safeCfgActivate h p),
   (0x0D04, fun h p _ => .safeCfgDiscard h p),
   (0x0D05, fun h p _ => .safeHubStop h p),
   (0x0D80, fun h p _ => .guardStatusGet h p),
   (0x0D81, fun h p _ => .guardSelfTest h p),
   (0x0D82, fun h p _ => .guardClearFault h p),
   (0x0E00, fun h p _ => .lswStatusGet h p),
   (0x0E01, fun h p _ => .lswSet h p),
   (0x0E02, fun h p _ => .lswSetAx h p),
   (0x0E03, fun h p _ => .lswClear h p),
   (0x0F00, fun h p _ => .memStatusGet h p),
   (0x0F01, fun h p _ => .memEccWriteRaw h p),
   (0x0F02, fun h p _ => .memEccRead h p),
   (0x0F03, fun h p s => .memMbistRun (tget [] s.dev.mem.defects (mbistKey h.queue.toNat h.tag.toNat)) h p),
   (0x0F04, fun h p _ => .memRepairAdd h p),
   (0x0F05, fun h p _ => .memRepairList h p)]

/-- Every opcode of the opcode table with its command. MEM_MBIST_RUN takes besides its packet which rows fail (log entry 15): here those that the state lists, and a state may list any. -/
def opcodeRows : List Row := opcodeRows0 ++ opcodeRows1 ++ opcodeRows2 ++ opcodeRows3

/-! ### A step of the device -/

/-- The command, on devices that meet `good`, has the effect `eff` on the device, after which the fabric takes what the units have produced and shows its registers. -/
def Acts (i : Instr) (good : Dev → Prop) (eff : Dev → Dev) : Prop :=
  ∀ s : State, good s.dev → exec i s = .next ({ s with dev := eff s.dev } : State).settle

/-- A step of the device at this pip's latch or boundary has left `d`: the final replies that it produced are delivered at this pip's collector opening (R75). -/
def latched (s : State) (d : Dev) : State :=
  let t : State := { s with dev := d.takeKernel }
  (t.drain.deliver fun x => (t.dev.outbox.map (·.id)).contains x.cmd.id && t.dev.pip ≤ x.cmd.deadline).settle

/-! ### Invariants -/

/-- The fabric between commands: at most 128 commands in flight (R53) with different ids, no two of one queue with one tag (R46 step 10), queues and classes in range;
at most 32 rejections (R74), and no more other answers than commands in flight; at most 256 replies kept (R83) and four receive buffers full (R78). -/
abbrev FabWf (f : Fab) : Prop :=
  f.flights.length ≤ 128 ∧ (∀ x ∈ f.flights, x.cmd.id < f.nextId ∧ x.cmd.queue ≤ 31 ∧ x.cmd.cls ≤ 3) ∧
  (f.flights.map fun x => x.cmd.id).Nodup ∧ (f.flights.map fun x => (x.cmd.queue, x.cmd.tag)).Nodup ∧
  (f.answers.filter fun a => a.kind == .rejected).length ≤ 32 ∧ (f.answers.filter fun a => a.kind != .rejected).length ≤ f.flights.length ∧
  f.history.length ≤ 256 ∧ f.rxBufs.length ≤ 4

/-- Nothing that a unit has produced waits for the fabric, and no reset of the fabric is due. -/
abbrev Quiet (d : Dev) : Prop := d.kern.done = [] ∧ d.kern.stored = [] ∧ d.kern.confirmed = [] ∧ d.outbox = [] ∧ d.sys.fabReset = false

/-- The addressed memories stand in their canonical form: the FRAM, the display's active and staging buffer. -/
abbrev MemWf (d : Dev) : Prop := Memory.wf d.tag.fram = true ∧ Memory.wf d.disp.active = true ∧ Memory.wf d.disp.staging = true

end Sys2Proof.Claims
end

