-- ==== Sys2Proof/Certificates/Slice0/Obligations.lean ====
section
/-!
DEFINITION. The statements for the provers. Those about single commands say, under conditions on the state and the operands alone, the next state that the command leaves.
-/
open Sys2Proof Sys2Proof.Machine Sys2Proof.Claims

/-! ### When the opcodes complete: their payload checks (R606), states and modes, named after the commands -/

namespace Sys2Proof.Claims.Enabled

/-- A payload of one outlet number and three zero bytes, for an outlet of some type (R137). -/
abbrev oneOutlet (d : Dev) (p : Bytes) : Prop := p.length = 4 ∧ num p 1 3 = 0 ∧ d.noOutlet (num p 0 1) = false
/-- A payload of one operand up to `top` and three zero bytes. -/
abbrev oneOf (top : Nat) (_d : Dev) (p : Bytes) : Prop := p.length = 4 ∧ num p 1 3 = 0 ∧ num p 0 1 ≤ top
/-- An empty payload. -/
abbrev empty (_d : Dev) (p : Bytes) : Prop := p.length = 0
/-- A Kernel command's payload of its fixed length; its fields are the Kernel's to check (R26, R606). -/
abbrev fixed (len : Nat) (_d : Dev) (p : Bytes) : Prop := p.length = len

abbrev sysReset (_d : Dev) (p : Bytes) : Prop := p.length = 4 ∧ num p 1 3 = 0 ∧ num p 0 1 = 2
abbrev sysResetShell (_d : Dev) (p : Bytes) : Prop := p.length = 4 ∧ num p 1 3 = 0 ∧ num p 0 1 = 1
abbrev sysForceSel (_d : Dev) (p : Bytes) : Prop := p.length = 4 ∧ num p 2 2 = 0 ∧ 1 ≤ num p 0 1 ∧ num p 0 1 ≤ 6 ∧ num p 1 1 ≤ 2
abbrev sysSetMode (d : Dev) (p : Bytes) : Prop :=
  p.length = 4 ∧ num p 1 3 = 0 ∧ (num p 0 1 = 3 ∨ (num p 0 1 = 2 ∧ ∀ n < 32, d.ost n ≠ .precharge ∧ d.ost n ≠ .energy ∧ d.ost n ≠ .rampdown ∧ d.ost n ≠ .weldCheck))
abbrev sysCfgSave (d : Dev) (p : Bytes) : Prop := p.length = 4 ∧ maskOk (num p 0 4) = true ∧ (num p 0 4).testBit 9 = false ∧ d.sys.save = none
/-- The log holds from `oldest`, the first record asked for is not older (R608). -/
abbrev sysLogRead (d : Dev) (p : Bytes) : Prop :=
  p.length = 8 ∧ num p 5 3 = 0 ∧ 1 ≤ num p 4 1 ∧ num p 4 1 ≤ 31 ∧ num p 0 4 ≠ 0 ∧ (d.sys.log.getLast?.map (·.seq)).getD 1 ≤ num p 0 4
abbrev regRead (d : Dev) (p : Bytes) : Prop :=
  p.length = 8 ∧ num p 6 2 = 0 ∧ 1 ≤ num p 4 2 ∧ num p 4 2 ≤ 256 ∧ (readRun d.readWord (num p 0 4) (num p 4 2)).isSome = true
abbrev regReadShadow (d : Dev) (p : Bytes) : Prop :=
  p.length = 8 ∧ num p 6 2 = 0 ∧ 1 ≤ num p 4 2 ∧ num p 4 2 ≤ 256 ∧ (readRun d.readShadow (num p 0 4) (num p 4 2)).isSome = true
/-- Every word of the write passes the checks of R602. -/
abbrev regWrite (d : Dev) (p : Bytes) : Prop :=
  p.length = 8 + 4 * num p 4 2 ∧ num p 6 2 = 0 ∧ 1 ≤ num p 4 2 ∧ num p 4 2 ≤ 254 ∧ ∀ e ∈ writeWords p, d.wordStatus (d.after (writeWords p)) e.1 e.2 0xFFFFFFFF = 0
/-- The merged value of a REG_MODIFY (R605). -/
abbrev modified (d : Dev) (p : Bytes) : Word := (d.oldValue (num p 0 4) &&& ~~~word (num p 4 4)) ||| (word (num p 8 4) &&& word (num p 4 4))
/-- The register takes writes, it is not W1C, and the merged value passes the checks of R602. -/
abbrev regModify (d : Dev) (p : Bytes) : Prop :=
  p.length = 12 ∧ inKern (num p 0 4) = false ∧ ((regAt (num p 0 4)).map (·.access)) = some .rw ∧
  d.wordStatus (d.after [(num p 0 4, modified d p)]) (num p 0 4) (modified d p) (word (num p 4 4)) = 0
abbrev fabDiscard (_d : Dev) (p : Bytes) : Prop := p.length = 4 ∧ maskOk (num p 0 4) = true

abbrev outAuthorise (d : Dev) (p : Bytes) : Prop :=
  p.length = 8 ∧ num p 2 2 = 0 ∧ num p 6 2 = 0 ∧ num p 1 1 ≤ 1 ∧ d.noOutlet (num p 0 1) = false ∧ d.ost (num p 0 1) = .authorising ∧ (d.o (num p 0 1)).waiting = true
/-- An outlet in IDLE that takes a pre-authorisation, or in AUTHORISING; or 0xFF, the floating one (R129). -/
abbrev outStartRemote (d : Dev) (p : Bytes) : Prop :=
  p.length = 16 ∧ num p 1 1 = 0 ∧ 1 ≤ num p 2 1 ∧ num p 2 1 ≤ 3 ∧ num p 3 1 ≤ 10 ∧
  (num p 0 1 = 0xFF ∨ (d.noOutlet (num p 0 1) = false ∧ d.rbit (Reg.OUT_AUTH_CFG (num p 0 1)) 7 = true ∧
    (d.ost (num p 0 1) = .idle ∨ d.ost (num p 0 1) = .authorising)))
/-- A state from which a session ends (R124). -/
abbrev outStop (d : Dev) (p : Bytes) : Prop :=
  oneOutlet d p ∧ d.ost (num p 0 1) ≠ .idle ∧ d.ost (num p 0 1) ≠ .unplugged ∧ d.ost (num p 0 1) ≠ .fault ∧ (d.ost (num p 0 1) = .plugged → d.rbit (Reg.OUT_STATE (num p 0 1)) 18 = false)
abbrev outSetAvailable (d : Dev) (p : Bytes) : Prop := p.length = 4 ∧ num p 2 2 = 0 ∧ num p 1 1 ≤ 1 ∧ d.noOutlet (num p 0 1) = false
abbrev outClearFault (d : Dev) (p : Bytes) : Prop := oneOutlet d p ∧ d.ost (num p 0 1) = .fault ∧ d.fld (Reg.OUT_CP_STATUS (num p 0 1)) 3 0 = 0
abbrev outEventRead (d : Dev) (p : Bytes) : Prop :=
  p.length = 8 ∧ num p 5 3 = 0 ∧ 1 ≤ num p 4 1 ∧ num p 4 1 ≤ 31 ∧ num p 0 4 ≠ 0 ∧ d.rn Reg.OUT_EVENT_HEAD + 1 - d.out.ring.length ≤ num p 0 4
/-- The entries of a LIST_UPDATE. -/
abbrev entries (p : Bytes) : List ListEntry := (List.range (num p 5 1)).map fun k => listEntryOf ((p.drop (8 + 16 * k)).take 16)
/-- The list that a LIST_UPDATE leaves: from the list in force (0), from nothing (1), from the staging copy (2, 3). -/
abbrev newList (d : Dev) (p : Bytes) : List ListEntry :=
  (entries p).foldl listApply (if num p 4 1 = 0 then d.out.list else if num p 4 1 = 1 then [] else d.out.staging)
abbrev listUpdate (d : Dev) (p : Bytes) : Prop :=
  p.length = 8 + 16 * num p 5 1 ∧ num p 6 2 = 0 ∧ (∀ k < num p 5 1, num p (8 + 16 * k + 13) 1 = 0) ∧ num p 4 1 ≤ 3 ∧ num p 5 1 ≤ 63 ∧
  (∀ e ∈ entries p, 1 ≤ e.kind ∧ e.kind ≤ 3 ∧ e.len ≤ 10 ∧ e.status ≤ 3 ∧ (e.status = 3 → num p 4 1 = 0)) ∧
  ((num p 4 1 = 0 ∨ num p 4 1 = 3) → d.rn Reg.OUT_LIST_VERSION < num p 0 4) ∧ (newList d p).length ≤ 65536
abbrev listQuery (d : Dev) (p : Bytes) : Prop :=
  p.length = 12 ∧ 1 ≤ num p 0 1 ∧ num p 0 1 ≤ 3 ∧ num p 1 1 ≤ 10 ∧ (d.listFind (num p 0 1) (num p 1 1) ((p.drop 2).take 10)).isSome = true
abbrev outCertResponse (d : Dev) (p : Bytes) : Prop :=
  p.length = 8 + num p 6 2 ∧ num p 1 1 = 0 ∧ num p 4 2 + num p 6 2 ≤ num p 2 2 ∧ d.noOutlet (num p 0 1) = false ∧ (d.o (num p 0 1)).certPending = true

abbrev kernCertRead (_d : Dev) (p : Bytes) : Prop := p.length = 4 ∧ 1 ≤ num p 2 2 ∧ num p 2 2 ≤ 1024 ∧ num p 0 2 + num p 2 2 ≤ Config.kernCert.length
abbrev kernPubkeyRead (d : Dev) (p : Bytes) : Prop := p.length = 0 ∧ d.mirror.signer ≠ 2
abbrev chunk (_d : Dev) (p : Bytes) : Prop := 5 ≤ p.length ∧ p.length ≤ 1024

abbrev accountSet (_d : Dev) (p : Bytes) : Prop := p.length = 20 ∧ num p 2 2 = 0 ∧ num p 18 2 = 0 ∧ num p 17 1 ≤ 3 ∧ num p 0 2 ≤ 4095
/-- The account will exist at the next latch and has not seen the reference (R246, R247). -/
abbrev accountAdjust (d : Dev) (p : Bytes) : Prop :=
  p.length = 16 ∧ num p 2 2 = 0 ∧ num p 0 2 ≤ 4095 ∧ ∃ x, d.acctSoon (num p 0 2) = some x ∧ x.refs.contains (num p 12 4) = false
abbrev accountGet (d : Dev) (p : Bytes) : Prop := p.length = 4 ∧ num p 2 2 = 0 ∧ num p 0 2 ≤ 4095 ∧ (d.acct (num p 0 2)).isSome = true
abbrev txnRead (d : Dev) (p : Bytes) : Prop :=
  p.length = 8 ∧ num p 5 3 = 0 ∧ 1 ≤ num p 4 1 ∧ num p 4 1 ≤ 15 ∧ num p 0 4 ≠ 0 ∧ d.rn Reg.BILL_TXN_HEAD + 1 - d.bill.txns.length ≤ num p 0 4
/-- Twenty decimal digits for an outlet of some type. -/
abbrev tokenSubmit (d : Dev) (p : Bytes) : Prop :=
  p.length = 24 ∧ num p 1 1 = 0 ∧ num p 22 2 = 0 ∧ (∀ b ∈ (p.drop 2).take 20, 48 ≤ b.toNat ∧ b.toNat ≤ 57) ∧ d.noOutlet (num p 0 1) = false
abbrev tokenListRead (_d : Dev) (p : Bytes) : Prop := p.length = 4 ∧ 1 ≤ num p 2 2 ∧ num p 2 2 ≤ 128

/-- The lane's outlet is in IDLE, UNPLUGGED or FAULT, or it is LANE_32 with the mesh off. -/
abbrev laneReset (d : Dev) (p : Bytes) : Prop :=
  oneOf 32 d p ∧ (num p 0 1 < 32 → d.ost (num p 0 1) = .idle ∨ d.ost (num p 0 1) = .unplugged ∨ d.ost (num p 0 1) = .fault) ∧ (num p 0 1 = 32 → d.rbit Reg.MESH_CTRL 0 = false)
abbrev slacProfileGet (d : Dev) (p : Bytes) : Prop := oneOf 31 d p ∧ (d.lane (num p 0 1)).last.isSome = true
abbrev t1sStatusGet (d : Dev) (p : Bytes) : Prop := oneOf 7 d p ∧ d.outType (24 + num p 0 1) = 3
abbrev laneTxTest (d : Dev) (p : Bytes) : Prop :=
  p.length = 8 ∧ num p 2 2 = 0 ∧ num p 0 1 ≤ 31 ∧ num p 1 1 ≤ 2 ∧ 1 ≤ num p 4 4 ∧ num p 4 4 ≤ 40000 ∧ d.mode = .maintenance ∧ d.ost (num p 0 1) = .idle ∧
  ∀ t ∈ d.husk.tests, t.lane ≠ num p 0 1

/-- The servo state that TIME_SET_STATE asks for is one that R103 reaches from the present one. -/
abbrev timeSetState (d : Dev) (p : Bytes) : Prop :=
  p.length = 4 ∧ num p 1 3 = 0 ∧ ((num p 0 1 = 1 ∧ d.servo = .test) ∨ (num p 0 1 = 3 ∧ d.inService = true) ∨ (num p 0 1 = 4 ∧ d.mode = .maintenance ∧ d.inService = true))
abbrev timeSetTb0 (d : Dev) (p : Bytes) : Prop :=
  p.length = 12 ∧ num p 0 8 < 2 ^ 48 ∧ num p 8 4 ≤ 999999999 ∧ d.inService = false ∧ ∀ a b c, d.time.pend ≠ some (.given a b c)

abbrev fwuBegin (d : Dev) (p : Bytes) : Prop :=
  p.length = 8 ∧ 160 ≤ num p 0 4 ∧ num p 0 4 ≤ imageMax ∧ d.fwu.load = none ∧ d.fwu.staged = false ∧ d.fwu.busy = none ∧ d.trial = false
abbrev fwuChunk (d : Dev) (p : Bytes) : Prop :=
  5 ≤ p.length ∧ p.length ≤ 1024 ∧ d.fwu.busy = none ∧ ∃ l, d.fwu.load = some l ∧ num p 0 4 = l.2.2.length ∧ l.2.2.length + (p.length - 4) ≤ l.1
/-- The load is complete, with the CRC given and a header of the right form (R494). -/
abbrev fwuEnd (d : Dev) (p : Bytes) : Prop :=
  p.length = 4 ∧ d.fwu.busy = none ∧ ∃ l, d.fwu.load = some l ∧ l.2.2.length = l.1 ∧ (crc32c l.2.2).toNat = num p 0 4 ∧ imageForm l.2.2 l.1 = true
/-- The staged version is named, and a twin in sync either is not ACTIVE or a pause is allowed (R497, R502). -/
abbrev fwuActivate (d : Dev) (p : Bytes) : Prop :=
  p.length = 8 ∧ num p 5 3 = 0 ∧ num p 4 1 ≤ 3 ∧ d.fwu.busy = none ∧ d.fwu.staged = true ∧ d.bankVersion d.fwu.target = num p 0 4 ∧
  (d.mode = .sprout ∨ d.twinState ≠ 4 ∨ d.inSync = false ∨ 2 ≤ num p 4 1)

/-- A good blob for a slot that is not busy, under a key of the module (R474, R478). -/
abbrev keyLoad (d : Dev) (p : Bytes) : Prop :=
  60 ≤ p.length ∧ p.length ≤ 116 ∧ num p 2 2 = 0 ∧ num p 0 1 ≤ 63 ∧ num p 1 1 ≤ 1 ∧ d.slotBusy (num p 0 1) = false ∧ d.noKek = false ∧ (openBlob (Config.kek d.key.kekGen) (p.drop 4)).isSome = true
abbrev keyClear (d : Dev) (p : Bytes) : Prop := p.length = 4 ∧ num p 2 2 = 0 ∧ num p 0 1 ≤ 63 ∧ num p 1 1 ≤ 1 ∧ d.slotBusy (num p 0 1) = false
abbrev keyGenerate (d : Dev) (p : Bytes) : Prop :=
  p.length = 12 ∧ num p 0 1 ≤ 63 ∧ num p 3 1 ≤ 1 ∧ keyCombo (num p 1 1) (num p 2 1) = true ∧ d.slotBusy (num p 0 1) = false ∧ d.noKek = false
abbrev keyImport (d : Dev) (p : Bytes) : Prop :=
  20 ≤ p.length ∧ num p 3 1 = 0 ∧ num p 0 1 ≤ 63 ∧ num p 1 1 ≤ 63 ∧ num p 2 1 ≤ 1 ∧ keyCombo (num p 9 1) (num p 10 1) = true ∧ d.slotBusy (num p 0 1) = false ∧ d.slotBusy (num p 1 1) = false ∧ d.noKek = false ∧
  (d.slot (num p 0 1)).use = 3 ∧ (openBlob (d.slot (num p 0 1)).key (p.drop 4)).isSome = true
abbrev keyPubkey (d : Dev) (p : Bytes) : Prop := oneOf 63 d p ∧ (d.slot (num p 0 1)).loaded = true ∧ (d.slot (num p 0 1)).use = 5
abbrev keyCsr (d : Dev) (p : Bytes) : Prop :=
  p.length = 4 + num p 2 2 ∧ 1 ≤ num p 2 2 ∧ num p 2 2 ≤ 64 ∧ num p 1 1 = 0 ∧ num p 0 1 ≤ 63 ∧ d.noKek = false ∧ d.hostSlot (num p 0 1) = true ∧
  (d.slot (num p 0 1)).loaded = true ∧ (d.slot (num p 0 1)).use = 5
/-- A host slot with an encryption key (use 1) and data of up to 736 bytes (R482). -/
abbrev keyAead (d : Dev) (p : Bytes) : Prop :=
  17 + num p 2 2 ≤ p.length ∧ p.length ≤ 752 + num p 2 2 ∧ num p 1 1 = 0 ∧ num p 0 1 ≤ 63 ∧ num p 2 2 ≤ 256 ∧ d.noKek = false ∧ d.hostSlot (num p 0 1) = true ∧
  (d.slot (num p 0 1)).loaded = true ∧ ((d.slot (num p 0 1)).alg = 1 ∨ (d.slot (num p 0 1)).alg = 2) ∧ (d.slot (num p 0 1)).use = 1
abbrev keyTamperArm (d : Dev) (p : Bytes) : Prop := oneOf 31 d p ∧ d.rbit Reg.KEY_TAMPER_STATUS 7 = false
abbrev keyChainWrite (_d : Dev) (p : Bytes) : Prop :=
  9 ≤ p.length ∧ p.length ≤ 1016 ∧ num p 2 2 = 0 ∧ num p 6 2 = 0 ∧ num p 0 1 ≤ 3 ∧ num p 1 1 = 0 ∧ num p 4 2 + (p.length - 8) ≤ 8192

/-- A rectangle within the panel with a byte for every two pixels (R448, R467). -/
abbrev dispWrite (_d : Dev) (p : Bytes) : Prop :=
  5 ≤ p.length ∧ p.length = 4 + num p 3 1 * ((num p 2 1 + 1) / 2) ∧ 1 ≤ num p 2 1 ∧ 1 ≤ num p 3 1 ∧ num p 0 1 + num p 2 1 ≤ 128 ∧ num p 1 1 + num p 3 1 ≤ 64
/-- A region that is defined and has no running update (R463). -/
abbrev dispUpdate (d : Dev) (p : Bytes) : Prop := oneOf 7 d p ∧ d.rbit (Reg.DISP_REGION_CFG (num p 0 1)) 31 = true ∧ (d.upd (num p 0 1)).run = none
abbrev dispStressRead (_d : Dev) (p : Bytes) : Prop := p.length = 4 ∧ 1 ≤ num p 2 2 ∧ num p 2 2 ≤ 512 ∧ num p 0 2 + num p 2 2 ≤ 8192
abbrev dispStressReset (d : Dev) (p : Bytes) : Prop := p.length = 0 ∧ d.mode = .maintenance

/-- A listed card that supports ISO/IEC 14443-4, and no exchange under way (R431). -/
abbrev rdrApdu (d : Dev) (p : Bytes) : Prop :=
  5 ≤ p.length ∧ p.length ≤ 254 ∧ num p 1 3 = 0 ∧ num p 0 1 ≤ 7 ∧ d.iface = true ∧ d.tag.exch = none ∧ ∃ x, d.tag.list[num p 0 1]? = some x ∧ x.sak.testBit 5 = true
abbrev framRead (d : Dev) (p : Bytes) : Prop := p.length = 4 ∧ num p 0 2 ≤ 0x3FFF ∧ 1 ≤ num p 2 2 ∧ num p 2 2 ≤ 1024 ∧ num p 0 2 + num p 2 2 ≤ 0x4000 ∧ d.tag.cut = false
abbrev framWrite (d : Dev) (p : Bytes) : Prop :=
  5 ≤ p.length ∧ p.length ≤ 1020 ∧ num p 2 2 = 0 ∧ num p 0 2 + (p.length - 4) ≤ 0x4000 ∧ 0x1000 ≤ num p 0 2 ∧ d.tag.cut = false
abbrev framHold (d : Dev) (p : Bytes) : Prop := p.length = 0 ∧ d.iface = true ∧ d.tag.hold = none ∧ d.tag.cut = false
abbrev framRelease (d : Dev) (p : Bytes) : Prop := p.length = 0 ∧ d.tag.cut = false ∧ d.tag.hold.isSome = true
abbrev kpRead (d : Dev) (p : Bytes) : Prop := oneOf 32 d p ∧ 1 ≤ num p 0 1 ∧ d.iface = true

abbrev twinSwitchover (d : Dev) (p : Bytes) : Prop := p.length = 4 ∧ num p 0 4 = 0 ∧ d.twinState = 4 ∧ d.inSync = true ∧ d.twin.handover = none
abbrev twinResync (d : Dev) (p : Bytes) : Prop := p.length = 4 ∧ num p 0 4 = 0 ∧ d.twinState ≠ 4 ∧ d.twinState ≠ 0
abbrev twinKcmpGet (d : Dev) (p : Bytes) : Prop := oneOf 31 d p ∧ d.twin.peerAdv.isSome = true

abbrev meshNodeTable (d : Dev) (p : Bytes) : Prop := p = [] ∧ d.mesh.st ≠ .off ∧ d.mesh.st ≠ .scanning
/-- A USER message of a joined node to a node of the map or to all (R298, R299). -/
abbrev meshSend (d : Dev) (p : Bytes) : Prop :=
  5 ≤ p.length ∧ p.length ≤ 484 ∧ num p 3 1 = 0 ∧ num p 0 1 = 1 ∧ num p 2 1 ≤ 1 ∧ (num p 1 1 = 0xFF ∨ (num p 1 1 ≤ 63 ∧ d.mesh.map.used (num p 1 1) = true)) ∧ d.mesh.joined = true ∧
  (d.mesh.originate 1 (num p 2 1) (num p 1 1) (p.drop 4)).2 = true
abbrev meshRxRead (d : Dev) (p : Bytes) : Prop := oneOf 8 d p ∧ 1 ≤ num p 0 1
abbrev meshRescan (d : Dev) (p : Bytes) : Prop := p = [] ∧ d.mesh.st ≠ .coordinator
abbrev meshEvict (d : Dev) (p : Bytes) : Prop := oneOf 63 d p ∧ 1 ≤ num p 0 1 ∧ d.mesh.st = .coordinator ∧ d.mesh.map.used (num p 0 1) = true

/-- The named pairs have no fault and no open input, the named receive connections have recovered (R350, R367). -/
abbrev safeReset (d : Dev) (p : Bytes) : Prop :=
  p.length = 4 ∧ num p 2 2 = 0 ∧ (∀ q ∈ maskBits 8 (num p 0 1), (d.pair (d.pairOwner q)).fault = 0 ∧ d.inputOpen (d.pairOwner q) = false) ∧
  (∀ k ∈ maskBits 8 (num p 1 1), d.connRx k = true → d.fld (Reg.SAFE_CONN_STATUS k) 1 0 = 2 ∨ 2 ≤ (d.conn k).run)
/-- MAINTENANCE, no outlet between PRECHARGE and WELD_CHECK, a staging image without fault and with the CRC expected (R361). -/
abbrev safeCfgActivate (d : Dev) (p : Bytes) : Prop :=
  p.length = 8 ∧ d.mode = .maintenance ∧ (∀ n < 32, (d.ost n).running = false ∧ d.ost n ≠ .weldCheck) ∧ d.stageCheck = none ∧ (imageCrc d.staging).toNat = num p 0 4
abbrev safeHubStop (_d : Dev) (p : Bytes) : Prop := oneOf 1 _d p
abbrev guardSelfTest (d : Dev) (p : Bytes) : Prop :=
  oneOf 31 d p ∧ d.domainRuns 5 = true ∧ (d.gstate (num p 0 1) = 1 ∨ (d.gstate (num p 0 1) = 0 ∧ d.gmode (num p 0 1) ≠ 0)) ∧ d.ost (num p 0 1) = .idle
abbrev guardClearFault (d : Dev) (p : Bytes) : Prop := oneOf 31 d p ∧ d.domainRuns 5 = true ∧ d.gstate (num p 0 1) = 4 ∧ 80 ≤ (d.g (num p 0 1)).clean

/-- A channel that the host may command and that is not locked out where it turns on (R371, R373, R381). -/
abbrev lswSet (d : Dev) (p : Bytes) : Prop :=
  p.length = 4 ∧ num p 0 1 ≤ 79 ∧ num p 1 1 ≤ 1 ∧ num p 2 2 ≤ 1000 ∧ d.lswRefuses (num p 0 1) (num p 1 1 = 1) = none ∧ (num p 1 1 = 1 → d.lst (num p 0 1) ≠ 4)
abbrev lswSetAx (d : Dev) (p : Bytes) : Prop := p.length = 4 ∧ ∀ a ∈ maskBits 16 (num p 0 2), (num p 2 2).testBit a = true → d.lst (64 + a) ≠ 4

abbrev memEccWriteRaw (_d : Dev) (p : Bytes) : Prop := p.length = 16 ∧ num p 2 2 = 0 ∧ num p 0 1 ≤ 2 ∧ inWindow (num p 0 1) (num p 4 4) = true
abbrev memEccRead (_d : Dev) (p : Bytes) : Prop := p.length = 8 ∧ num p 1 3 = 0 ∧ num p 0 1 ≤ 2 ∧ inWindow (num p 0 1) (num p 4 4) = true
abbrev memMbistRun (_d : Dev) (p : Bytes) : Prop :=
  p.length = 4 ∧ num p 3 1 = 0 ∧ num p 0 1 ≤ 2 ∧ 1 ≤ num p 2 1 ∧ num p 2 1 ≤ 32 ∧ num p 1 1 + num p 2 1 ≤ memMacros (num p 0 1)
/-- A row that the table does not hold, with room in the table and a spare row left in its macro (R512). -/
abbrev memRepairAdd (d : Dev) (p : Bytes) : Prop :=
  p.length = 4 ∧ num p 0 1 ≤ 2 ∧ num p 1 1 < memMacros (num p 0 1) ∧ num p 2 2 ≤ 511 ∧ d.mem.repair.length < 256 ∧ d.sparesTaken (num p 0 1) (num p 1 1) < 10 ∧
  ∀ r ∈ d.mem.repair, ¬ (r.mem = num p 0 1 ∧ r.macro_ = num p 1 1 ∧ r.row = num p 2 2)
abbrev memRepairList (_d : Dev) (p : Bytes) : Prop := p.length = 4 ∧ num p 2 2 = 0 ∧ 1 ≤ num p 1 1 ∧ num p 1 1 ≤ 128

end Sys2Proof.Claims.Enabled


/-! ### The opcode families: what each command does when it completes (R45, R49, R606) -/

/-- System opcodes 0x00xx. Choices of the model: log entries 36, 37. -/
def Obligations.SystemOpcodesComplete : Prop :=
  AnswersAtOnce .sysStatusGet 0x0000 Enabled.empty (fun d _ => d) (fun d _ => d.regBytes [Reg.SYS_MODE, Reg.SYS_DEGRADE_CAUSE, Reg.SYS_RESET_CAUSE, Reg.SYS_POWER_STATUS, Reg.SYS_CLK_STATUS, Reg.SYS_BOOT_PIPS]) ∧
  AnswersAtOnce .sysInfo 0x0001 Enabled.empty (fun d _ => d)
    (fun d _ => (List.range 12).map Config.serial ++ [if Config.gradeIsM then 0x4D else 0x45, byte (d.fld Reg.SYS_STRAPS 7 0), 0, 0] ++ leN (d.bankVersion d.bankRuns) 4 ++ leN Config.bootRomVersion.toNat 4) ∧
  AwaitsQuietPip .sysReset 0x0002 Enabled.sysResetShell ∧
  StartsWork .sysReset 0x0002 Enabled.sysReset (fun d c =>
    let d := d.huskScopeReset.inc Reg.SYS_CMD_RESET_CNT
    { d with husk := { d.husk with resetWaits := d.husk.resetWaits ++ [c.id] } }) ∧
  ProducesReply .sysForceSel 0x0003 Enabled.sysForceSel (fun d c => d.forceSel (num c.payload 0 1) (num c.payload 1 1)) (fun _ _ => []) ∧
  AnswersAtOnce .sysSetMode 0x0004 Enabled.sysSetMode
    (fun d c => if num c.payload 0 1 = 2 then d.setMode .maintenance else if d.mode = .maintenance then d.setMode (if d.rn Reg.SYS_DEGRADE_CAUSE = 0 then .service else .degraded) else d)
    (fun d c => [byte (if num c.payload 0 1 = 2 then d.setMode .maintenance else if d.mode = .maintenance then d.setMode (if d.rn Reg.SYS_DEGRADE_CAUSE = 0 then .service else .degraded) else d).mode.code, 0, 0, 0]) ∧
  StartsWork .sysCfgSave 0x0005 Enabled.sysCfgSave
    (fun d c => d.setSys fun s => { s with saveAt := d.pip, save := some (c.id, ((maskBits17 (num c.payload 0 4) (maskAll - 512)).filter (· ≠ 15)).map d.saveBlock) }) ∧
  AnswersAtOnce .sysLogRead 0x0006 Enabled.sysLogRead (fun d _ => d)
    (fun d c => ((List.range (num c.payload 4 1)).filter fun k => num c.payload 0 4 + k ≤ d.rn Reg.SYS_LOG_HEAD).flatMap
      fun k => ((d.sys.log.find? fun r => r.seq = num c.payload 0 4 + k).map (·.bytes)).getD [])

/-- Register opcodes 0x01xx (R601, R602, R605, R69, R71, R45). Choices of the model: log entries 28, 29, 30, 88. -/
def Obligations.RegisterOpcodesComplete : Prop :=
  AnswersAtOnce .regRead 0x0100 Enabled.regRead (fun d _ => d) (fun d c => (readRun d.readWord (num c.payload 0 4) (num c.payload 4 2)).getD []) ∧
  AnswersAtOnce .regWrite 0x0101 Enabled.regWrite (fun d c => (writeWords c.payload).foldl (fun d e => d.writeWord e.1 e.2) d) (fun _ _ => []) ∧
  AnswersAtOnce .regModify 0x0102 Enabled.regModify (fun d c => d.writeWord (num c.payload 0 4) (Enabled.modified d c.payload)) (fun d c => leN (d.oldValue (num c.payload 0 4)).toNat 4) ∧
  AnswersAtOnce .regReadShadow 0x0103 Enabled.regReadShadow (fun d _ => d) (fun d c => (readRun d.readShadow (num c.payload 0 4) (num c.payload 4 2)).getD []) ∧
  AnswersAtOnce .fabDiscard 0x0105 Enabled.fabDiscard (fun d c => d.discard (num c.payload 0 4)) (fun _ _ => []) ∧
  AnswersAtOnce .fabNop 0x0108 (fun _ _ => True) (fun d _ => d) (fun _ c => c.payload)

/-- The opcodes that act on the fabric itself. FAB_COMMIT without a launch pip waits for the commit point of the next pip (R67); FAB_CANCEL ends a command that waits for its launch pip: its final reply DENIED waits for the collector, and FAB_CANCEL answers OK (R59, R65); REPLY_RECALL returns the newest kept final reply of a queue and tag, from a byte offset, with its length (R83). Choices of the model: log entries 24, 76. -/
def Obligations.FabricOpcodesComplete : Prop :=
  (∀ (s : State) (h : Hdr) (p : Bytes), Admitted s h 0x0104 p → h.launch = 0 → p.length = 4 → maskOk (num p 0 4) = true →
    exec (.fabCommit h p) s = .next (goesOn s h 0x0104 p (startDev s h 0x0104 p) (.waitCommit (s.dev.pip + 1)))) ∧
  (∀ (s : State) (h : Hdr) (p : Bytes) (x : Flight), Admitted s h 0x0106 p → h.launch = 0 → p.length = 4 → num p 1 1 = 0 → num p 0 1 ≤ 31 →
    (begun s h 0x0106 p).fab.flights.find? (fun x => x.cmd.queue = num p 0 1 && x.cmd.tag = num p 2 2 && x.phase == .waitLaunch) = some x →
    let b := begun s h 0x0106 p
    let r := b.dev.reply (cmdOf s h 0x0106 p) St.ok []
    let f := b.fab.keep r
    exec (.fabCancel h p) s = .next ({ b with fab := { f with
      flights := f.flights.map fun y => if y.cmd.id = x.cmd.id then { cmd := { y.cmd with src := 79 }, phase := .produced St.denied [] b.dev.pip } else y,
      answers := f.answers ++ [answerOf s h 0x0106 p r (.final (cmdOf s h 0x0106 p).id)] } } : State).settle) ∧
  (∀ (s : State) (h : Hdr) (p : Bytes) (r : Reply), Admitted s h 0x0107 p → h.launch = 0 → p.length = 8 → num p 1 1 = 0 → num p 6 2 = 0 → num p 4 2 ≤ 1043 →
    (begun s h 0x0107 p).fab.history.find? (fun r => r.queue = num p 0 1 && r.tag = num p 2 2) = some r → num p 4 2 < r.bytes.length →
    exec (.replyRecall h p) s = .next (answered s h 0x0107 p (begun s h 0x0107 p).dev St.ok (leN r.bytes.length 2 ++ [0, 0] ++ (r.bytes.drop (num p 4 2)).take 1020)))

/-- Outlet opcodes 0x02xx (R124, R128, R129, R137). Choices of the model: log entries 53, 72, 79. -/
def Obligations.OutletOpcodesComplete : Prop :=
  AnswersAtOnce .outStatusGet 0x0200 Enabled.oneOutlet (fun d _ => d) (fun d c =>
    let n := num c.payload 0 1
    d.regBytes [Reg.OUT_STATE n, Reg.OUT_CP_STATUS n, Reg.OUT_PP_STATUS n, Reg.OUT_SP_MODE n, Reg.OUT_SP_VOLT n, Reg.OUT_SP_CURR n] ++ leN (d.sessionId n) 8) ∧
  AnswersAtOnce .outAuthorise 0x0201 Enabled.outAuthorise (fun d c =>
    let n := num c.payload 0 1
    if num c.payload 1 1 = 1 then d.grant n { (d.o n).ident.getD Ident.none with acct := num c.payload 4 2 } (d.o n).authSrc else d.deny n) (fun _ _ => []) ∧
  AnswersAtOnce .outStartRemote 0x0202 Enabled.outStartRemote (fun d c =>
    let n := num c.payload 0 1
    let i : Ident := { kind := num c.payload 2 1, len := num c.payload 3 1, bytes := (c.payload.drop 4).take 10, acct := num c.payload 14 2 }
    if n = 0xFF then { d with out := { d.out with floating := some (i, d.pip + 240000) } }
    else if d.ost n = .idle then d.setO n fun o => { o with preauth := some (i, d.pip + d.fld (Reg.OUT_AUTH_CFG n) 31 24 * 4000) }
    else d.grant n i 4) (fun _ _ => []) ∧
  AnswersAtOnce .outStop 0x0203 Enabled.outStop (fun d c =>
    let n := num c.payload 0 1
    if d.ost n = .plugged then d.setFld (Reg.OUT_STATE n) 18 18 1
    else if d.ost n = .linking ∨ d.ost n = .negotiating ∨ d.ost n = .authorising then ((d.closeLink n).setFld (Reg.OUT_STATE n) 18 18 1).goto n .plugged
    else if d.ost n = .rampdown ∨ d.ost n = .weldCheck then d
    else d.rampdown n 0) (fun _ _ => []) ∧
  AnswersAtOnce .outSetAvailable 0x0204 Enabled.outSetAvailable (fun d c =>
    let n := num c.payload 0 1
    let e := d.setO n fun o => { o with wantUnavail := num c.payload 1 1 = 0 }
    if num c.payload 1 1 = 1 then e.setBit (Reg.OUT_STATE n) 19 true else if e.ost n = .idle then e.setBit (Reg.OUT_STATE n) 19 false else e) (fun _ _ => []) ∧
  AnswersAtOnce .outClearFault 0x0205 Enabled.outClearFault (fun d c => d.goto (num c.payload 0 1) .unplugged) (fun _ _ => []) ∧
  AnswersAtOnce .outSessionInfo 0x0206 Enabled.oneOutlet (fun d _ => d) (fun d c =>
    let n := num c.payload 0 1
    let i := (d.o n).ident.getD Ident.none
    let ended := d.ost n = .idle ∨ d.ost n = .unplugged
    leN (d.sessionId n) 8 ++ leN (d.o n).pluggedPip 8 ++ [byte i.kind, byte i.len] ++ padTo 10 i.bytes ++ leN i.acct 2
      ++ [byte (if ended then (d.o n).lastProto else d.fld (Reg.OUT_STATE n) 11 8), byte (if ended then (d.o n).lastReason else d.fld (Reg.OUT_STATE n) 31 24)] ++ leN (d.o n).evMaxV 2 ++ leN (d.o n).evMaxI 2 ++ padTo 6 (d.o n).evcc ++ [0, 0]) ∧
  AnswersAtOnce .outEventRead 0x0207 Enabled.outEventRead (fun d _ => d) (fun d c =>
    ((List.range (num c.payload 4 1)).filter fun k => num c.payload 0 4 + k ≤ d.rn Reg.OUT_EVENT_HEAD).flatMap fun k =>
      match d.out.ring[d.rn Reg.OUT_EVENT_HEAD - (num c.payload 0 4 + k)]? with
      | some r => evRecBytes r
      | none => []) ∧
  AnswersAtOnce .listUpdate 0x0208 Enabled.listUpdate (fun d c =>
    let l := Enabled.newList d c.payload
    if num c.payload 4 1 = 0 then d.setList l (num c.payload 0 4)
    else if num c.payload 4 1 = 3 then ({ d with out := { d.out with staging := [] } } : Dev).setList l (num c.payload 0 4)
    else { d with out := { d.out with staging := l } }) (fun _ _ => []) ∧
  AnswersAtOnce .listQuery 0x0209 Enabled.listQuery (fun d _ => d)
    (fun d c => ((d.listFind (num c.payload 0 1) (num c.payload 1 1) ((c.payload.drop 2).take 10)).map ListEntry.bytes16).getD []) ∧
  AnswersAtOnce .outCertResponse 0x020A Enabled.outCertResponse (fun d c =>
    let n := num c.payload 0 1
    let buf := padTo (num c.payload 4 2) (d.o n).certBuf ++ c.payload.drop 8
    d.setO n fun o => if num c.payload 4 2 + num c.payload 6 2 = num c.payload 2 2 then { o with certPending := false, certBuf := [], certOut := buf } else { o with certBuf := buf }) (fun _ _ => [])

/-- What a command passed on to the Kernel does at its start: it waits for the latch of the next pip (R184). -/
def Sys2Proof.Claims.passedOn (d : Dev) (c : Cmd) : Dev := { d with kern := { d.kern with inbox := d.kern.inbox ++ [.host c.opcode c.payload c.id d.kern.latches] } }

/-- Kernel opcodes 0x03xx: three reads of the mirror, a wait for an interval, and commands that the Kernel takes in arrival order (R184, R210). Choices of the model: log entries 41, 43, 69, 80. -/
def Obligations.KernelOpcodesComplete : Prop :=
  AnswersAtOnce .kernStatus 0x0300 Enabled.empty (fun d _ => d) (fun d _ => d.mirror.statusReply) ∧
  AnswersAtOnce .kernCertRead 0x0301 Enabled.kernCertRead (fun d _ => d) (fun _ c => (Config.kernCert.drop (num c.payload 0 2)).take (num c.payload 2 2)) ∧
  AnswersAtOnce .kernPubkeyRead 0x0302 Enabled.kernPubkeyRead (fun d _ => d) (fun _ _ => padTo 65 (Config.ecPublic Config.kernKey) ++ [0, 0, 0]) ∧
  StartsWork .kernLedgerRead 0x0303 (Enabled.fixed 12) passedOn ∧
  StartsWork .kernIntervalWait 0x0304 (Enabled.oneOf 31) (fun d c => { d with kern := { d.kern with waits := d.kern.waits ++ [(num c.payload 0 1, c.id)] } }) ∧
  StartsWork .kernReceiptGet 0x0305 (Enabled.fixed 8) passedOn ∧
  StartsWork .kernSetChannel 0x0306 (Enabled.fixed 8) passedOn ∧
  StartsWork .kernSetCal 0x0307 (Enabled.fixed 28) passedOn ∧
  StartsWork .kernSetMclk 0x0308 (Enabled.fixed 4) passedOn ∧
  StartsWork .kernSetPulse 0x0309 (Enabled.fixed 8) passedOn ∧
  StartsWork .kernSetBalance 0x030A (Enabled.fixed 12) passedOn ∧
  StartsWork .kernSetLimits 0x030B (Enabled.fixed 72) passedOn ∧
  StartsWork .kernFwBegin 0x030C (Enabled.fixed 8) passedOn ∧
  StartsWork .kernFwChunk 0x030D Enabled.chunk passedOn ∧
  StartsWork .kernFwEnd 0x030E (Enabled.fixed 0) passedOn ∧
  StartsWork .kernFwActivate 0x030F (Enabled.fixed 4) passedOn ∧
  StartsWork .kernArchiveAck 0x0310 (Enabled.fixed 8) passedOn ∧
  StartsWork .kernCheckpoint 0x0311 (Enabled.fixed 0) passedOn

/-- Billing opcodes 0x04xx: tariff and legal-time commands pass on to the Kernel, accounts change at the next latch (R246, R247), tokens are decided (R249). Choices of the model: log entries 42, 51, 52, 80. -/
def Obligations.BillingOpcodesComplete : Prop :=
  StartsWork .tariffBegin 0x0400 (Enabled.fixed 8) passedOn ∧
  StartsWork .tariffChunk 0x0401 Enabled.chunk passedOn ∧
  StartsWork .tariffEnd 0x0402 (Enabled.fixed 0) passedOn ∧
  StartsWork .tariffAbort 0x0403 (Enabled.fixed 0) passedOn ∧
  StartsWork .tariffRead 0x0404 (Enabled.fixed 4) passedOn ∧
  StartsWork .legalTimeAdjust 0x0405 (Enabled.fixed 8) passedOn ∧
  AnswersAtOnce .legalTimeGet 0x0406 Enabled.empty (fun d _ => d) (fun d _ => d.mirror.timeReply) ∧
  AnswersAtOnce .accountSet 0x0410 Enabled.accountSet (fun d c =>
    let p := c.payload
    let op := if 2 ≤ num p 17 1 then AcctOp.delete else AcctOp.set (snum p 4 8) (num p 12 4) (num p 16 1) (num p 17 1 = 1)
    { d with bill := { d.bill with changes := d.bill.changes ++ [{ acct := num p 0 2, due := d.pip + 1, op := op }] } }) (fun _ _ => []) ∧
  AnswersAtOnce .accountAdjust 0x0411 Enabled.accountAdjust
    (fun d c => { d with bill := { d.bill with changes := d.bill.changes ++ [{ acct := num c.payload 0 2, due := d.pip + 1, op := .adjust (snum c.payload 4 8) (num c.payload 12 4) }] } })
    (fun d c => leI (((d.acctSoon (num c.payload 0 2)).map (·.balance)).getD 0 + snum c.payload 4 8) 8) ∧
  AnswersAtOnce .accountGet 0x0412 Enabled.accountGet (fun d _ => d) (fun d c =>
    match d.acct (num c.payload 0 2) with
    | some x => leI x.balance 8 ++ leN x.limit 4
        ++ [byte x.mask, byte (b2n x.blocked), byte ((List.range 32).filter fun n => (d.bo n).active && (d.bo n).cls = 1 && (d.bo n).acct = num c.payload 0 2).length, 0]
    | none => []) ∧
  AnswersAtOnce .txnRead 0x0413 Enabled.txnRead (fun d _ => d) (fun d c =>
    ((List.range (num c.payload 4 1)).filter fun k => num c.payload 0 4 + k ≤ d.rn Reg.BILL_TXN_HEAD).flatMap fun k =>
      match d.bill.txns[d.rn Reg.BILL_TXN_HEAD - (num c.payload 0 4 + k)]? with
      | some r => r.bytes
      | none => []) ∧
  ProducesReply .tokenSubmit 0x0414 Enabled.tokenSubmit
    (fun d c => (d.tokenDecide (num c.payload 0 1) (((c.payload.drop 2).take 20).map fun b => b.toNat - 48)).1)
    (fun d c => [byte (d.tokenDecide (num c.payload 0 1) (((c.payload.drop 2).take 20).map fun b => b.toNat - 48)).2, 0, 0, 0]) ∧
  AnswersAtOnce .tokenListRead 0x0415 Enabled.tokenListRead (fun d _ => d)
    (fun d c => ((d.bill.used.drop (num c.payload 0 2)).take (num c.payload 2 2)).flatMap fun t => leN t.id 4 ++ leN t.expiry 2 ++ [0, 0])

/-- Husk opcodes 0x05xx (R278). Choices of the model: log entries 48, 73, 81. -/
def Obligations.HuskOpcodesComplete : Prop :=
  AnswersAtOnce .huskStatusGet 0x0500 Enabled.empty (fun d _ => d) (fun d _ => d.regBytes [Reg.HUSK_STATUS, Reg.HUSK_LATE_CNT, Reg.HUSK_CTX_FULL_PIPS] ++ [0, 0, 0, 0]) ∧
  AnswersAtOnce .laneStatsGet 0x0501 (Enabled.oneOf 32) (fun d _ => d)
    (fun d c => d.regBytes (Reg.LANE_STATUS (num c.payload 0 1) :: (List.range 14).map fun k => Reg.LANE_FC_DETECT (num c.payload 0 1) + 4 * k)) ∧
  AnswersAtOnce .slacProfileGet 0x0502 Enabled.slacProfileGet (fun d _ => d) (fun d c =>
    match (d.lane (num c.payload 0 1)).last with
    | some s => padTo 8 s.run ++ [byte s.sounds, byte s.code, 0, 0] ++ padTo 58 (s.groups.map byte) ++ padTo 32 (s.figs.map byte) ++ [0, 0]
    | none => []) ∧
  StartsWork .laneReset 0x0503 Enabled.laneReset (fun d c =>
    let n := num c.payload 0 1
    let d := (((d.clearLane n).loseLane n).setFld (Reg.LANE_STATUS n) 11 0 3).setLane n fun l => { l with down := true, matched := none }
    { d with husk := { d.husk with resetWaits := d.husk.resetWaits ++ [c.id] } }) ∧
  AnswersAtOnce .t1sStatusGet 0x0504 Enabled.t1sStatusGet (fun d _ => d)
    (fun d c => let n := num c.payload 0 1; d.regBytes [Reg.T1S_STATUS n, Reg.T1S_RX_FRAMES n, Reg.T1S_TX_FRAMES n, Reg.T1S_RX_ERR n, Reg.T1S_PLCA_MISS n]) ∧
  StartsWork .laneTxTest 0x0505 Enabled.laneTxTest (fun d c =>
    { d with husk := { d.husk with tests := d.husk.tests ++ [{ lane := num c.payload 0 1, mode := num c.payload 1 1, till := d.pip + num c.payload 4 4, id := c.id, sent := 0 }] } })

/-- Time opcodes 0x06xx (R103, R609; TIME_GET shows the values of the pip boundary: time.bound is TIME_STATUS as the last boundary left it). Choices of the model: log entries 45, 47, 77. -/
def Obligations.TimeOpcodesComplete : Prop :=
  AnswersAtOnce .timeGet 0x0600 Enabled.empty (fun d _ => d)
    (fun d _ => leN d.pip 6 ++ [0, 0] ++ leN (d.time.tb0 / 1000000000) 6 ++ [0, 0] ++ leN (d.time.tb0 % 1000000000) 4 ++ leN d.time.bound.toNat 4) ∧
  AnswersAtOnce .timeSetState 0x0601 Enabled.timeSetState
    (fun d c => d.setTime fun u => { u with stateReq := some (if num c.payload 0 1 = 3 then .recovery else if num c.payload 0 1 = 4 then .test else .holdover) }) (fun _ _ => []) ∧
  StartsWork .timeSetTb0 0x0602 Enabled.timeSetTb0
    (fun d c => d.setTime fun t => { t with pend := some (.given (d.pip + 1) (num c.payload 0 8 * 1000000000 + num c.payload 8 4) c.id) }) ∧
  AnswersAtOnce .timePtpStatus 0x0603 Enabled.empty (fun d _ => d) (fun d _ =>
    let p := if d.rbit Reg.TIME_STATUS 11 = true then d.ownClock else d.time.ptp
    padTo 8 p.gmId ++ leN p.stepsRemoved 2 ++ [byte p.clockClass, byte p.accuracy, byte p.prio1, byte p.prio2, byte p.portState, 0] ++ d.regBytes [Reg.TIME_OFFSET, Reg.TIME_MEAN_DELAY])

/-- Firmware opcodes 0x07xx (R494 to R497, R503). Choices of the model: log entries 25, 34, 35, 87. -/
def Obligations.FirmwareOpcodesComplete : Prop :=
  AnswersAtOnce .fwuStatusGet 0x0700 Enabled.empty (fun d _ => d)
    (fun d _ => d.regBytes [Reg.FWU_STATUS, Reg.FWU_BOOT_STATUS] ++ leN (d.bankVersion false) 4 ++ leN (d.bankVersion true) 4 ++ d.regBytes [Reg.FWU_LOADED, Reg.FWU_LAST_PAUSE]) ∧
  StartsWork .fwuBegin 0x0701 Enabled.fwuBegin
    (fun d c => (((d.setBank d.bankIdle none).setFwu fun f => { f with load := some (num c.payload 0 4, num c.payload 4 4, []), target := d.bankIdle }).fwuBusy c St.ok []).1) ∧
  StartsWork .fwuChunk 0x0702 Enabled.fwuChunk
    (fun d c => ((d.setFwu fun f => { f with load := f.load.map fun l => (l.1, l.2.1, l.2.2 ++ c.payload.drop 4) }).fwuBusy c St.ok []).1) ∧
  StartsWork .fwuEnd 0x0703 Enabled.fwuEnd (fun d c =>
    let got := ((d.fwu.load.map fun l => l.2.2).getD [])
    let e := d.setFwu fun f => { f with load := none }
    (((e.setBank e.fwu.target (some (bankOf got))).setFwu fun f => { f with staged := true }).fwuBusy c St.ok (leN (bankOf got).version 4)).1) ∧
  AwaitsQuietPip .fwuActivate 0x0704 Enabled.fwuActivate ∧
  AnswersAtOnce .fwuConfirm 0x0705 Enabled.empty (fun d _ => if d.trial then d.confirm else d) (fun _ _ => []) ∧
  ProducesReply .fwuAbort 0x0706 Enabled.empty
    (fun d _ => if d.fwu.load.isSome || d.fwu.staged then ((d.setBank d.fwu.target none).setFwu fun f => { f with load := none, staged := false }).fwuShow else d) (fun _ _ => [])

/-- Key opcodes 0x08xx (R471 to R485). Choices of the model: log entries 7, 50, 87. -/
def Obligations.KeyOpcodesComplete : Prop :=
  AnswersAtOnce .keyStatusGet 0x0800 Enabled.empty (fun d _ => d)
    (fun d _ => d.regBytes [Reg.KEY_STATUS, Reg.KEY_TAMPER_STATUS, Reg.KEY_KEK_GEN] ++ (List.range 64).map fun n => byte (d.slot n).mapByte) ∧
  StartsWork .keyLoad 0x0801 Enabled.keyLoad (fun d c =>
    d.keyStart (num c.payload 0 1) { id := c.id, key := (openBlob (Config.kek d.key.kekGen) (c.payload.drop 4)).getD KeySlot.empty, blob := if num c.payload 1 1 = 1 then some (c.payload.drop 4) else none, forget := false, reply := [], load := true, due := some (d.pip + 4) }) ∧
  StartsWork .keyClear 0x0802 Enabled.keyClear (fun d c =>
    d.keyStart (num c.payload 0 1) { id := c.id, key := KeySlot.empty, blob := none, forget := num c.payload 1 1 = 1, reply := [], load := false, due := some (d.pip + 1) }) ∧
  StartsWork .keyGenerate 0x0803 Enabled.keyGenerate (fun d c =>
    let p := c.payload
    let k : KeySlot := { use := num p 1 1, alg := num p 2 1, origin := 1, label := num p 4 4, version := num p 8 4, key := padTo (keyLen (num p 2 1)) (Config.randomKey (num p 2 1) d.key.draws) }
    let d := ({ d with key := { d.key with draws := d.key.draws + 1 } } : Dev)
    d.keyStart (num p 0 1) { id := c.id, key := k, blob := if num p 3 1 = 1 then some (d.blobOf k) else none, forget := false, reply := d.blobOf k ++ (if k.use = 5 then k.public else []), load := true, due := none }) ∧
  StartsWork .keyImport 0x0804 Enabled.keyImport (fun d c =>
    let p := c.payload
    let k := { (openBlob (d.slot (num p 0 1)).key (p.drop 4)).getD KeySlot.empty with origin := 2 }
    (d.useKey (num p 0 1)).keyStart (num p 1 1) { id := c.id, key := k, blob := if num p 2 1 = 1 then some (d.blobOf k) else none, forget := false, reply := d.blobOf k, load := true, due := none }) ∧
  AnswersAtOnce .keyPubkey 0x0805 Enabled.keyPubkey (fun d _ => d) (fun d c => (d.slot (num c.payload 0 1)).public) ∧
  ProducesReply .keyCsr 0x0806 Enabled.keyCsr (fun d c => ({ d with key := { d.key with draws := d.key.draws + 1 } } : Dev).useKey (num c.payload 0 1))
    (fun d c => (Config.csrDer (d.slot (num c.payload 0 1)).key (c.payload.drop 4) d.key.draws).take 1024) ∧
  ProducesReply .keyAead 0x0807 Enabled.keyAead (fun d c => d.useKey (num c.payload 0 1)) (fun d c =>
    let p := c.payload
    let data := p.drop (16 + num p 2 2)
    let sealed := Config.gcmSeal (d.slot (num p 0 1)).key ((p.drop 4).take 12) ((p.drop 16).take (num p 2 2)) data
    padTo data.length sealed.1 ++ padTo 16 sealed.2) ∧
  AnswersAtOnce .keyTamperArm 0x0808 Enabled.keyTamperArm (fun d c => d.raise Reg.KEY_TAMPER_ARMED (num c.payload 0 1))
    (fun d c => [byte ((d.raise Reg.KEY_TAMPER_ARMED (num c.payload 0 1)).rn Reg.KEY_TAMPER_ARMED), 0, 0, 0]) ∧
  ProducesReply .keyChainWrite 0x0809 Enabled.keyChainWrite (fun d c =>
    let p := c.payload
    let old := d.key.staging.getD (num p 0 1) []
    { d with key := { d.key with staging := d.key.staging.set (num p 0 1) (padTo (num p 4 2) old ++ p.drop 8 ++ old.drop (num p 4 2 + (p.drop 8).length)) } }) (fun _ _ => [])

/-- Display opcodes 0x09xx (R448, R461 to R463, R457). Choices of the model: log entries 13, 62, 85. -/
def Obligations.DisplayOpcodesComplete : Prop :=
  AnswersAtOnce .dispStatusGet 0x0900 Enabled.empty (fun d _ => d) (fun d _ => d.regBytes [Reg.DISP_STATUS, Reg.DISP_TEMP, Reg.DISP_VPANEL_MEAS, Reg.DISP_FRAME_CNT]) ∧
  AnswersAtOnce .dispWrite 0x0901 Enabled.dispWrite (fun d c =>
    let p := c.payload
    { d with disp := { d.disp with staging := (List.range (num p 3 1)).foldl (fun b j => (List.range (num p 2 1)).foldl (fun b i =>
      setPixel b (num p 0 1 + i) (num p 1 1 + j) (num p (4 + j * ((num p 2 1 + 1) / 2) + i / 2) 1 / 16 ^ (i % 2))) b) d.disp.staging } }) (fun _ _ => []) ∧
  StartsWork .dispUpdate 0x0902 Enabled.dispUpdate
    (fun d c => d.setUpd (num c.payload 0 1) { run := some c.id, line := (d.region (num c.payload 0 1)).2.2.1, copied := 0, pending := none }) ∧
  AnswersAtOnce .dispStressRead 0x0903 Enabled.dispStressRead (fun d _ => d)
    (fun d c => (List.range (num c.payload 2 2)).flatMap fun k => leN (tget 0 d.disp.stress (num c.payload 0 2 + k)) 2) ∧
  AnswersAtOnce .dispStressReset 0x0904 Enabled.dispStressReset (fun d _ => { d with disp := { d.disp with stress := [], accum := [], saved := [] } }) (fun _ _ => [])

/-- Tag opcodes 0x0Axx (R427 to R443). Choices of the model: log entries 14, 61, 84, 88. -/
def Obligations.TagOpcodesComplete : Prop :=
  AnswersAtOnce .tagStatusGet 0x0A00 Enabled.empty (fun d _ => d) (fun d _ => d.regBytes [Reg.TAG_STATUS, Reg.TAG_RDR_PRESENT, Reg.TAG_EMU_UID, Reg.TAG_FRAM_HOLD_STATUS, Reg.TAG_KP_STATUS]) ∧
  AnswersAtOnce .rdrList 0x0A01 Enabled.empty (fun d _ => d) (fun d _ => [byte d.tag.list.length, 0, 0, 0] ++ d.tag.list.flatMap CardSeen.bytes) ∧
  StartsWork .rdrApdu 0x0A02 Enabled.rdrApdu
    (fun d c => (d.setTag fun t => { t with
      cycle := none,
      exch := some { id := c.id, uid := (t.list[num c.payload 0 1]?.map fun x => x.uid).getD [], apdu := c.payload.drop 4, start := d.pip, stage := .wupa, fwi := 4, fsc := 16, since := d.pip, mult := 1, nak := false, got := [] },
      rdrOut := [.wupa] }).rdrShow) ∧
  StartsWork .tagFramRead 0x0A03 Enabled.framRead (fun d c => d.framPush (.read c.id (num c.payload 0 2) (num c.payload 2 2))) ∧
  StartsWork .tagFramWrite 0x0A04 Enabled.framWrite (fun d c => d.framPush (.write c.id (num c.payload 0 2) (c.payload.drop 4))) ∧
  ProducesReply .tagFramHold 0x0A05 Enabled.framHold (fun d _ =>
    let e := (d.setTag fun t => { t with hold := some d.pip }).framShow
    if e.tag.accs.any FramAcc.isField = true then (e.setFe fun f => { f with out := [.wtx 5] }).inc Reg.TAG_EMU_WTX_CNT else e) (fun d _ => leN d.pip 8) ∧
  ProducesReply .tagFramRelease 0x0A06 Enabled.framRelease (fun d _ => d.holdEnd false) (fun _ _ => []) ∧
  AnswersAtOnce .tagKpRead 0x0A07 Enabled.kpRead (fun d c => d.setTag fun t => { t with ring := t.ring.drop (num c.payload 0 1) }) (fun d c =>
    let l := d.tag.ring.take (num c.payload 0 1)
    [byte l.length, 0, 0, 0] ++ l.flatMap fun e => [byte e.code, byte e.press] ++ leN e.pip 6)

/-- Twin opcodes 0x0Bxx (R402, R417, R422). Choices of the model: log entries 63, 64, 84. -/
def Obligations.TwinOpcodesComplete : Prop :=
  AnswersAtOnce .twinStatusGet 0x0B00 Enabled.empty (fun d _ => d)
    (fun d _ => d.regBytes [Reg.TWIN_STATUS, Reg.TWIN_EPOCH, Reg.TWIN_PEER_EPOCH, Reg.TWIN_POD_STATUS, Reg.TWIN_COPY_LAST, Reg.TWIN_KCMP_MASK]) ∧
  AwaitsQuietPip .twinSwitchover 0x0B01 Enabled.twinSwitchover ∧
  AnswersAtOnce .twinResync 0x0B02 Enabled.twinResync (fun d _ => if d.twinState = 1 then d else d.twinSyncing) (fun _ _ => []) ∧
  AnswersAtOnce .twinKcmpGet 0x0B03 Enabled.twinKcmpGet (fun d _ => d) (fun d c =>
    let a := d.advance (num c.payload 0 1)
    let b := (d.twin.peerAdv.getD []).getD (num c.payload 0 1) (0, 0)
    leN a.1 8 ++ leN a.2 8 ++ leN b.1 8 ++ leN b.2 8)

/-- Mesh opcodes 0x0Cxx (R290, R293, R298, R303). Choices of the model: log entries 49, 82. -/
def Obligations.MeshOpcodesComplete : Prop :=
  AnswersAtOnce .meshStatusGet 0x0C00 Enabled.empty (fun d _ => d)
    (fun d _ => d.regBytes [Reg.MESH_STATUS, Reg.MESH_EPOCH, Reg.MESH_PERIOD, Reg.MESH_NODES, Reg.MESH_PATH_COST, Reg.MESH_MAP_VERSION]) ∧
  AnswersAtOnce .meshNodeTable 0x0C01 Enabled.meshNodeTable (fun d _ => d) (fun d _ => (List.range 64).flatMap fun n =>
    [byte (d.mesh.map.parentOf n), byte (if d.mesh.map.used n then d.mesh.map.depth n else 0), byte (d.mesh.linkCost n), byte (d.mesh.snrShown n d.fresh),
     byte (d.mesh.map.owners.filter (· = n)).length, 0, 0, 0]) ∧
  AnswersAtOnce .meshSend 0x0C02 Enabled.meshSend (fun d c => d.setMesh (d.mesh.originate 1 (num c.payload 2 1) (num c.payload 1 1) (c.payload.drop 4)).1)
    (fun d c => leN (d.mesh.originate 1 (num c.payload 2 1) (num c.payload 1 1) (c.payload.drop 4)).1.nextSeq 2 ++ [0, 0]) ∧
  AnswersAtOnce .meshRxRead 0x0C03 Enabled.meshRxRead (fun d c => d.setMesh { d.mesh with rx := d.mesh.rx.drop (takeRx d.mesh.rx (num c.payload 0 1) 1020).length }) (fun d c =>
    let l := takeRx d.mesh.rx (num c.payload 0 1) 1020
    [byte l.length, 0, 0, 0] ++ l.flatMap fun x => [byte x.typ, byte x.src] ++ leN x.payload.length 2 ++ leN x.seq 2 ++ [0, 0] ++ leN x.pip 8 ++ x.payload) ∧
  AnswersAtOnce .meshRescan 0x0C04 Enabled.meshRescan (fun d _ => { d with mesh := { d.mesh with rescan := d.mesh.st = .member } }) (fun _ _ => []) ∧
  AnswersAtOnce .meshEvict 0x0C05 Enabled.meshEvict (fun d c => d.meshRemove (num c.payload 0 1)) (fun d c => leN (d.meshRemove (num c.payload 0 1)).mesh.epoch 4)

/-- Safety and Guard opcodes 0x0Dxx (R330, R329, R350, R354, R360, R361). Choices of the model: log entries 56, 57, 58, 83. -/
def Obligations.SafetyOpcodesComplete : Prop :=
  AnswersAtOnce .safeStatusGet 0x0D00 Enabled.empty (fun d _ => d)
    (fun d _ => d.regBytes ([Reg.SAFE_STATUS, Reg.SAFE_SLS_MASK, Reg.SAFE_PERMIT_MASK, Reg.SAFE_STONE_CUT_MASK, Reg.SAFE_CPU_CUT_MASK, Reg.SAFE_HUB_CAUSE] ++ (List.range 8).map Reg.SAFE_PAIR_STATUS)) ∧
  AnswersAtOnce .safeReset 0x0D01 Enabled.safeReset (fun d c =>
    ((maskBits 8 (num c.payload 1 1)).filter d.connRx).foldl (fun d k => (d.setConn k fun x => { x with needReset := false }).setFld (Reg.SAFE_CONN_STATUS k) 1 0 2)
      ((maskBits 8 (num c.payload 0 1)).foldl (fun d q => d.pairReset (d.pairOwner q)) d)) (fun _ _ => []) ∧
  ProducesReply .safeCfgCheck 0x0D02 Enabled.empty (fun d _ => d.wr Reg.SAFE_STAGE_CRC (imageCrc d.staging))
    (fun d _ => [byte (b2n d.stageCheck.isSome), 0] ++ leN (d.stageCheck.getD 0) 2 ++ leN (imageCrc d.staging).toNat 4 ++ leN (imageCrc d.staging).toNat 4) ∧
  ProducesReply .safeCfgActivate 0x0D03 Enabled.safeCfgActivate (fun d c =>
    let image := d.staging
    let v := word (num c.payload 4 4)
    let d := ({ d with safe := { d.safe with stored := some (image, imageCrc image, v) } } : Dev)
    ((((d.setBit Reg.SAFE_STATUS 5 true).wr Reg.SAFE_CFG_VERSION v).wr Reg.SAFE_CFG_CRC (imageCrc image)).safeRestart image).undegrade 9)
    (fun _ c => leN (word (num c.payload 4 4)).toNat 4) ∧
  AnswersAtOnce .safeCfgDiscard 0x0D04 Enabled.empty (fun d _ => ((d.dropPend stagingAddrs.contains).setStaging d.safe.active).cfgPending) (fun _ _ => []) ∧
  AnswersAtOnce .safeHubStop 0x0D05 Enabled.safeHubStop (fun d c => { d with safe := { d.safe with hubHost := num c.payload 0 1 = 1 } }) (fun _ _ => []) ∧
  AnswersAtOnce .guardStatusGet 0x0D80 (Enabled.oneOf 31) (fun d _ => d)
    (fun d c => let n := num c.payload 0 1; d.regBytes [Reg.GUARD_CH_STATUS n, Reg.GUARD_CH_RCM_VALUE n, Reg.GUARD_CH_IMD_RESULT n, Reg.GUARD_CH_TRIP_CNT n]) ∧
  AnswersAtOnce .guardSelfTest 0x0D81 Enabled.guardSelfTest (fun d c =>
    let n := num c.payload 0 1
    ((d.setG n fun g => { g with test := some g.t, testDc := [], inj := if d.passive then 0 else 1, imd := if d.gmode n = 2 then some d.pip else none, imdT := g.t, sums := [0, 0, 0, 0], peaks := (0, 0) }).setFld (Reg.GUARD_CH_STATUS n) 2 0 3).setFld (Reg.GUARD_CH_STATUS n) 17 16 1)
    (fun _ _ => []) ∧
  AnswersAtOnce .guardClearFault 0x0D82 Enabled.guardClearFault (fun d c => d.guardRest (num c.payload 0 1) (if d.gmode (num c.payload 0 1) = 0 then 0 else 1)) (fun _ _ => [])

/-- Load-switch opcodes 0x0Exx (R371, R373, R380, R381). Choices of the model: log entries 59, 83. -/
def Obligations.SwitchOpcodesComplete : Prop :=
  AnswersAtOnce .lswStatusGet 0x0E00 (Enabled.oneOf 79) (fun d _ => d) (fun d c =>
    let n := num c.payload 0 1
    d.regBytes [Reg.LSW_CH_CFG n, Reg.LSW_CH_STATUS n, Reg.LSW_CH_MEAS n, Reg.LSW_CH_TRIP_CNT n, Reg.LSW_CH_THERM_CNT n, Reg.LSW_CH_RETRY_CNT n, Reg.LSW_CH_LOCKOUT_CNT n]) ∧
  AnswersAtOnce .lswSet 0x0E01 Enabled.lswSet
    (fun d c => d.lswCommand c (num c.payload 0 1) (word ((if num c.payload 1 1 = 1 then 0x80000000 else 0) + num c.payload 2 2))) (fun _ _ => []) ∧
  AnswersAtOnce .lswSetAx 0x0E02 Enabled.lswSetAx (fun d c => (maskBits 16 (num c.payload 0 2)).foldl (fun d a =>
    d.lswCommand c (64 + a) (word ((if (num c.payload 2 2).testBit a then 0x80000000 else 0) + wfld (d.pended (Reg.LSW_CH_CMD (64 + a))) 9 0))) d) (fun _ _ => []) ∧
  AnswersAtOnce .lswClear 0x0E03 (Enabled.oneOf 79)
    (fun d c => let ch := num c.payload 0 1; if (d.retryReload ch).lst ch = 4 then (d.retryReload ch).setLst ch 0 else d.retryReload ch) (fun _ _ => [])

/-- The state in which `l` is what the memory BIST run of this packet finds (log entry 15). -/
def Sys2Proof.Claims.withDefects (s : State) (h : Hdr) (l : List RowDefect) : State :=
  if tget [] s.dev.mem.defects (mbistKey h.queue.toNat h.tag.toNat) = l then s
  else { s with dev := s.dev.setMem fun m => { m with defects := tset [] m.defects (mbistKey h.queue.toNat h.tag.toNat) l } }
/-- The failing rows that the run names, in its order: those of the macros tested, a spare row only where it is not in use. -/
def Sys2Proof.Claims.rowsHit (d : Dev) (p : Bytes) (l : List RowDefect) : List RowDefect :=
  firstDefects (l.filter fun x =>
    let j := if x.spare then x.row / 10 else x.row / 512
    x.mem = num p 0 1 && num p 1 1 ≤ j && j < num p 1 1 + num p 2 1 && (!x.spare || decide (d.sparesTaken (num p 0 1) j ≤ x.row % 10)))

/-- Memory opcodes 0x0Fxx (R512, R521, R522). Choices of the model: log entries 15, 16, 33, 39, 86. -/
def Obligations.MemoryOpcodesComplete : Prop :=
  AnswersAtOnce .memStatusGet 0x0F00 Enabled.empty (fun d _ => d)
    (fun d _ => d.regBytes [Reg.MEM_STATUS, Reg.MEM_EVENT, Reg.MEM_LBIST_FAIL, Reg.MEM_MBIST_FAIL_ADDR, Reg.MEM_MBIST_FAIL_BIT, Reg.MEM_REPAIR_USED]) ∧
  AnswersAtOnce .memEccWriteRaw 0x0F01 Enabled.memEccWriteRaw
    (fun d c => d.setWindow (num c.payload 0 1) (num c.payload 4 4) (BitVec.ofNat 64 (num c.payload 8 8)) (byte (num c.payload 1 1))) (fun _ _ => []) ∧
  AnswersAtOnce .memEccRead 0x0F02 Enabled.memEccRead (fun d c =>
    let m := num c.payload 0 1
    let a := num c.payload 4 4
    let r := eccRead (d.windowWord m a).1 (d.windowWord m a).2
    if r.2 = 0 then d else if r.2 = 1 then (d.setWindow m a r.1 (Config.secded r.1)).sramCe m a else d.sramUe m a) (fun d c =>
    let x := d.windowWord (num c.payload 0 1) (num c.payload 4 4)
    leN (eccRead x.1 x.2).1.toNat 8 ++ [x.2, byte (eccRead x.1 x.2).2, 0, 0]) ∧
  ProducesReply .memRepairAdd 0x0F04 Enabled.memRepairAdd
    (fun d c => (d.setMem fun u => { u with repair := u.repair ++ [{ mem := num c.payload 0 1, macro_ := num c.payload 1 1, row := num c.payload 2 2, uses := 1 }] }).wn Reg.MEM_REPAIR_USED (d.mem.repair.length + 1))
    (fun d _ => leN (d.mem.repair.length + 1) 4) ∧
  AnswersAtOnce .memRepairList 0x0F05 Enabled.memRepairList (fun d _ => d)
    (fun d c => ((d.mem.repair.drop (num c.payload 0 1)).take (num c.payload 1 1)).flatMap fun r => [byte r.mem, byte r.macro_] ++ leN r.row 2) ∧
  ∀ (l : List RowDefect) (s : State) (h : Hdr) (p : Bytes), Admitted (withDefects s h l) h 0x0F03 p → h.launch = 0 → Enabled.memMbistRun (startDev (withDefects s h l) h 0x0F03 p) p →
    let d := (startDev (withDefects s h l) h 0x0F03 p)
    let e := d.setMem fun m => { m with defects := tset [] m.defects (mbistKey h.queue.toNat h.tag.toNat) [] }
    let hit := rowsHit d p l
    exec (.memMbistRun l h p) s = .next (goesOn (withDefects s h l) h 0x0F03 p (hit.foldl (fun d x => d.rowFail x) ((List.range (512 * num p 2 1)).foldl (fun d i => if memRows (num p 0 1) - 32 ≤ 512 * num p 1 1 + i then d.scrubRow (num p 0 1) (512 * num p 1 1 + i) else d) e))
      (.produced St.ok (leN hit.length 4) d.pip))


/-! ### The events of the sessions (R120 to R137) -/

/-- Three consecutive periods have read pilot state `c`, which is not the state accepted, under a steady high or with the third period ended (R120); the session task runs. -/
abbrev Sys2Proof.Claims.Sampled (d : Dev) (n c : Nat) : Prop :=
  d.taskRuns = true ∧ 3 ≤ (d.o n).candN ∧ (d.o n).cand = c ∧ d.fld (Reg.OUT_CP_STATUS n) 3 0 ≠ c ∧ (d.o n).sampled.any (fun p => 1000 ≤ d.rn (Reg.OUT_CP_DUTY n) || (p / 4 + 1) * 4 ≤ d.pip) = true

/-- The protocols enabled for an outlet's type (R122, R123). -/
abbrev Sys2Proof.Claims.offers (d : Dev) (n p : Nat) : Bool :=
  (p = 2 && d.outType n = 1 && d.rbit (Reg.OUT_CFG n) 8) || (p = 3 && (d.outType n = 1 || d.outType n = 2) && d.rbit (Reg.OUT_CFG n) 9) || (p = 4 && d.rbit (Reg.OUT_CFG n) 10)

/-- The protocol that the vehicle wants of those enabled, and the one it gets: ISO 15118-20 only where its TLS handshake can be carried out (R472, R483). -/
abbrev Sys2Proof.Claims.wanted (d : Dev) (n : Nat) (l : List Nat) : Option Nat := l.find? fun p => offers d n p
abbrev Sys2Proof.Claims.gotten (d : Dev) (n : Nat) (l : List Nat) : Option Nat := l.find? fun p => offers d n p && (p ≠ 4 || d.tlsReady 1)

/-- The TLS handshake that the wanted protocol asks for has been tried. -/
abbrev Sys2Proof.Claims.tried (d : Dev) (n : Nat) (l : List Nat) : Dev := if wanted d n l = some 4 then d.tlsTry 1 else if wanted d n l = some 3 then d.tlsTry 0 else d

/-- The pilot's accepted states in the rows of R124, the start of a probe of R126, and UNPLUGGED to IDLE. Choices of the model: log entries 53, 54, 79. -/
def Obligations.PilotEventsComplete : Prop := ∀ n : Fin 32,
  (∀ c, 1 ≤ c → c ≤ 3 → Acts (.pilotStateAccepted n)
    (fun d => Sampled d n c ∧ d.ost n = .idle ∧ (d.wn (Reg.OUT_CP_STATUS n) c).mayPlug n = true)
    (fun d => (d.wn (Reg.OUT_CP_STATUS n) c).plugIn n)) ∧
  Acts (.pilotStateAccepted n)
    (fun d => Sampled d n 0 ∧ d.ost n = .plugged)
    (fun d => (d.wn (Reg.OUT_CP_STATUS n) 0).goto n .unplugged) ∧
  Acts (.pilotStateAccepted n)
    (fun d => Sampled d n 0 ∧ (d.ost n = .linking ∨ d.ost n = .negotiating ∨ d.ost n = .authorising))
    (fun d => ((d.wn (Reg.OUT_CP_STATUS n) 0).closeLink n).goto n .unplugged) ∧
  Acts (.pilotStateAccepted n)
    (fun d => Sampled d n 0 ∧ d.ost n = .energy)
    (fun d => (d.wn (Reg.OUT_CP_STATUS n) 0).rampdown n 9) ∧
  (∀ c, c = 4 ∨ c = 6 → Acts (.pilotStateAccepted n)
    (fun d => Sampled d n c ∧ d.ost n = .energy)
    (fun d => (d.wn (Reg.OUT_CP_STATUS n) c).rampdown n 10)) ∧
  (∀ code : Option Nat, Acts (.faultPilotProbe n code) (fun d => d.taskRuns = true ∧ d.ost n = .fault ∧ (d.o n).probeDue ≤ d.pip ∧ d.pip % 4 = 0)
    (fun d => (d.wn (Reg.OUT_CP_DUTY n) 1000).setO n fun o => { o with probeDue := d.pip + 400, probeFrom := some d.pip, probeN := 0 })) ∧
  (∀ (hi start : Nat), Acts (.faultPilotProbe n (some hi))
    (fun d => d.taskRuns = true ∧ d.ost n = .fault ∧ d.pip < (d.o n).probeDue ∧ (d.o n).probeFrom = some start ∧ d.pip = start + 12 ∧ (d.o n).sampled ≠ some d.pip ∧
      (d.o n).probeN = 2 ∧ pilotBand (d.cpScaled n hi) none = 0 ∧ d.fld (Reg.OUT_STATE n) 31 24 ≠ 13)
    (fun d => ((((d.setO n fun o => { o with sampled := some d.pip, probeN := 3 }).wn (Reg.OUT_CP_STATUS n) 0).setO n fun o => { o with probeN := 0 }).goto n .unplugged))) ∧
  Acts (.unpluggedToIdle n) (fun d => d.taskRuns = true ∧ d.ost n = .unplugged ∧ (d.o n).stateSince < d.pip)
    (fun d => let e := d.goto n .idle
      if (e.o n).wantUnavail = true then e.setBit (Reg.OUT_STATE n) 19 false else e)

/-- The vehicle link, payment, authorisation and pre-authorisation events (R123, R124, R129, R137). Choices of the model: log entries 53, 79, 81, 87. -/
def Obligations.AuthorisationEventsComplete : Prop := ∀ n : Fin 32,
  (∀ offered : List Nat, Acts (.linkUp n offered) (fun d => d.taskRuns = true ∧ d.ost n = .linking ∧ (wanted d n offered = none ∨ (gotten d n offered).isSome = true))
    (fun d =>
      let p := gotten d n offered
      let e := (tried d n offered).setFld (Reg.OUT_STATE n) 11 8 (p.getD 0)
      (e.setO n fun o => { o with linkUp := true, tls := if p = some 3 then e.tlsReady 0 else decide (p = some 4), linkDue := none }).goto n .negotiating)) ∧
  (∀ offered : List Nat, Acts (.linkUp n offered) (fun d => d.taskRuns = true ∧ d.ost n = .linking ∧ (wanted d n offered).isSome = true ∧ gotten d n offered = none) (fun d => tried d n offered)) ∧
  Acts (.linkTimerExpiry n) (fun d => d.taskRuns = true ∧ d.ost n = .linking ∧ due (d.o n).linkDue d.pip = true ∧ (d.outType n ≠ 2 ∨ d.rbit (Reg.OUT_CFG n) 11 = false))
    (fun d => d.outFault n 1) ∧
  Acts (.linkTimerExpiry n) (fun d => d.taskRuns = true ∧ d.ost n = .linking ∧ due (d.o n).linkDue d.pip = true ∧ d.outType n = 2 ∧ d.rbit (Reg.OUT_CFG n) 11 = true)
    (fun d => ((d.setFld (Reg.OUT_STATE n) 11 8 1).setO n fun o => { o with hlc := false, linkDue := none }).startAuth n) ∧
  Acts (.paymentSelectionComplete n none) (fun d => d.taskRuns = true ∧ (d.answerVehicle n).ost n = .negotiating) (fun d => (d.answerVehicle n).startAuth n) ∧
  (∀ emaid : List Byte, Acts (.paymentSelectionComplete n (some emaid)) (fun d => d.taskRuns = true ∧ (d.answerVehicle n).ost n = .negotiating)
    (fun d => let e := (d.answerVehicle n).startAuth n
      if e.fld (Reg.OUT_STATE n) 11 8 = 2 ∨ (e.o n).tls = false then e else e.present n { kind := 2, len := 10, bytes := (Config.sha256 emaid).take 10, acct := 0xFFFF } 2)) ∧
  Acts (.authorisationTimerExpiry n) (fun d => d.taskRuns = true ∧ d.ost n = .authorising ∧ d.rbit (Reg.OUT_STATE n) 17 = false)
    (fun d => ((((d.outRec n 3 (d.ost n).code (d.ost n).code []).closeLink n).setO n fun o => { o with waiting := false, hostDue := none }).setFld (Reg.OUT_STATE n) 18 18 1).goto n .plugged) ∧
  Acts (.hostWaitExpiry n) (fun d => d.taskRuns = true ∧ d.ost n = .authorising ∧ (d.o n).waiting = true ∧ due (d.o n).hostDue d.pip = true)
    (fun d => (d.setO n fun o => { o with waiting := false, hostDue := none }).consultList n ((d.o n).ident.getD Ident.none) (d.o n).authSrc) ∧
  Acts .hostOffline (fun d => d.shellRuns = true ∧ d.rbit Reg.OUT_STATUS 0 = true ∧ d.out.lastAccept + d.rn Reg.OUT_HOST_WATCH ≤ d.pip) (fun d => d.setBit Reg.OUT_STATUS 0 false) ∧
  Acts .preauthExpiry (fun d => d.taskRuns = true) (fun d => (List.range 32).foldl (fun (d : Dev) m =>
    if (d.o m).preauth.any (fun x => x.2 < d.pip) = true then (d.setO m fun o => { o with preauth := none }).outRecBy m 3 (d.ost m).code (d.ost m).code 0 4 (d.sessionId m) [] else d) d) ∧
  Acts .floatingPreauthExpiry (fun d => d.taskRuns = true ∧ d.out.floating.any (fun x => x.2 < d.pip) = true)
    (fun d => ({ d with out := { d.out with floating := none } } : Dev).outRecBy 0xFF 3 0 0 0 4 0 []) ∧
  Acts (.certificateInstallationRequest n) (fun d => d.taskRuns = true ∧ ((d.answerVehicle n).o n).linkUp = true ∧ (d.answerVehicle n).fld (Reg.OUT_STATE n) 11 8 = 3)
    (fun d => let e := d.answerVehicle n; (e.setO n fun o => { o with certPending := true, certBuf := [] }).outRec n 6 (e.ost n).code (e.ost n).code [])

/-- The power path: cable check, precharge, power delivery, stop, protocol errors, weld check, vehicle requests and power modules (R124, R130, R131). Choices of the model: log entries 53, 68, 79, 81. -/
def Obligations.PowerPathEventsComplete : Prop := ∀ n : Fin 32,
  Acts (.cableCheckTimerExpiry n) (fun d => d.taskRuns = true ∧ d.ost n = .cableCheck ∧ due (d.o n).cableDue d.pip = true) (fun d => ((d.outReason n 5).zeroAndRamp n).goto n .rampdown) ∧
  Acts (.prechargeTimerExpiry n) (fun d => d.taskRuns = true ∧ d.ost n = .precharge ∧ due (d.o n).prechDue d.pip = true) (fun d => ((d.outReason n 6).zeroAndRamp n).goto n .rampdown) ∧
  (∀ bpt : Bool, Acts (.powerDeliveryRequest n bpt) (fun d => d.taskRuns = true ∧ (d.answerVehicle n).ost n = .precharge ∧ ((d.answerVehicle n).o n).prechMet = true)
    (fun d => let e := d.answerVehicle n
      (e.setO n fun o => { o with bpt := bpt && e.rbit (Reg.OUT_CFG n) 12 && decide (e.outType n ≠ 2) && decide (e.fld (Reg.OUT_STATE n) 11 8 = 4) }).goto n .energy)) ∧
  Acts (.vehicleStopRequest n) (fun d => d.taskRuns = true ∧ (d.answerVehicle n).ost n = .energy) (fun d => ((d.answerVehicle n).zeroAndRamp n).goto n .rampdown) ∧
  Acts (.protocolError n) (fun d => d.taskRuns = true ∧ d.ost n = .negotiating) (fun d => (d.closeLink n).outFault n 2) ∧
  Acts (.protocolError n) (fun d => d.taskRuns = true ∧ d.ost n = .energy) (fun d => ((d.outReason n 2).zeroAndRamp n).goto n .rampdown) ∧
  Acts (.weldCheckTimeout n) (fun d => d.taskRuns = true ∧ d.ost n = .weldCheck ∧ due (d.o n).weldDue d.pip = true) (fun d => ((d.outReason n 13).setO n fun o => { o with kWant := false, endReason := 13 }).goto n .fault) ∧
  (∀ r : EvRequest, Acts (.vehicleRequestDecoded n r) (fun d => d.taskRuns = true) (fun d =>
    (((((d.answerVehicle n).wn (Reg.OUT_EV_REQ_V n) (r.volt % 65536)).wi (Reg.OUT_EV_REQ_I n) r.curr).wn (Reg.OUT_EV_SOC n) (r.soc % 256)).setO n fun o =>
      { o with evMaxV := r.maxV % 65536, evMaxI := r.maxI % 65536, evMaxP := r.maxP, evcc := if r.evcc = [] then o.evcc else padTo 6 r.evcc }).mailbox n)) ∧
  (∀ f : CanFrame, Acts (.canRxFrame f) (fun d => d.canRuns = true) (fun d => (List.range 64).foldl (fun (d : Dev) t =>
    if d.rbit (Reg.OUT_TPL_CFG t) 31 = true ∧ d.rbit (Reg.OUT_TPL_CFG t) 30 = true ∧ d.fld (Reg.OUT_TPL_CFG t) 29 28 = f.port ∧ d.rbit (Reg.OUT_TPL_CFG t) 27 = f.fd ∧ d.rbit (Reg.OUT_TPL_CFG t) 26 = f.brs ∧ d.rbit (Reg.OUT_TPL_CFG t) 25 = f.ext ∧
      d.fld (Reg.OUT_TPL_CANID t) 28 0 = f.id ∧ f.data.length = dlcBytes (d.fld (Reg.OUT_TPL_CFG t) 19 16) then d.tplReceive t f else d) d)) ∧
  (∀ t : Fin 64, Acts (.canTxTemplate t)
    (fun d => d.canRuns = true ∧ d.rbit (Reg.OUT_TPL_CFG t) 31 = true ∧ d.rbit (Reg.OUT_TPL_CFG t) 30 = false ∧ (tget Tpl.reset d.out.tpls t).last + d.fld (Reg.OUT_TPL_CFG t) 11 0 ≤ d.pip)
    (fun d =>
      let cfg := Reg.OUT_TPL_CFG t
      let tp := tget Tpl.reset d.out.tpls t
      let f : CanFrame := { port := d.fld cfg 29 28, fd := d.rbit cfg 27, brs := d.rbit cfg 26, ext := d.rbit cfg 25, id := d.fld (Reg.OUT_TPL_CANID t) 28 0, data := d.tplPayload t (d.fld cfg 24 20) tp.alive }
      ({ d with out := { d.out with tpls := tset Tpl.reset d.out.tpls t { last := d.pip, alive := (tp.alive + 1) % 16, frame := some f } }, fresh := d.fresh + 32 } : Dev).inc (Reg.OUT_TPL_COUNT t))) ∧
  Acts .pmStatusTimeout (fun d => d.taskRuns = true) (fun d => (List.range 64).foldl (fun (d : Dev) t =>
    let n := d.fld (Reg.OUT_TPL_CFG t) 24 20
    if d.rbit (Reg.OUT_TPL_CFG t) 31 = true ∧ d.rbit (Reg.OUT_TPL_CFG t) 30 = true ∧ (tget Tpl.reset d.out.tpls t).last + d.fld (Reg.OUT_TPL_CFG t) 11 0 ≤ d.pip ∧
      (d.ost n = .energy ∨ d.ost n = .precharge ∨ d.ost n = .cableCheck) then d.rampdown n 7 else d) d)


/-! ### The events of the Kernel (R143 to R239, R538, R539, R612) -/

/-- Sampling and alignment: the sample, the pip strobe, realignment, pulses, zero crossings, streams, modulator clocks and hub balance. Choices of the model: log entries 5, 6, 9, 11, 43, 44, 80. -/
def Obligations.MeasurementEventsComplete : Prop :=
  (∀ (i : KSampleIn) (s : State),
    let k := s.dev.kern
    let a := (k.advance i).timeWork (k.us / 1000000) s.dev.pip
    let found := if a.meters = true then (List.range 64).filter fun n => a.findsStuck i n else []
    let d := s.dev.kernDo fun _ => found.foldl (fun (k : Kernel) n => k.stuckAudit n s.dev.pip) (a.integrate i (k.window i.m))
    exec (.kernelSample i) s = .next (if k.nSince = 0 then latched s d else ({ s with dev := d } : State).settle)) ∧
  (∀ l : Nat, 249800 ≤ l → l ≤ 250200 → Acts (.pipStrobe (some l)) (fun _ => True)
    (fun d => d.kernDo fun k => { k with phase := wrapPhase (k.phase + (250000 - (l : Int)) / 10), strobeAge := 0, regular := k.regular + 1 })) ∧
  (∀ l : Nat, l < 249800 ∨ 250200 < l → Acts (.pipStrobe (some l)) (fun d => d.kern.mode ≠ 1)
    (fun d => d.kernDo fun k => { k with phase := wrapPhase (k.phase + (250000 - (l : Int)) / 10), strobeAge := 0, regular := 0, mode := 1, alignLost := (k.alignLost + 1) % 2 ^ 32 })) ∧
  Acts (.pipStrobe none) (fun d => d.kern.mode ≠ 1) (fun d => d.kernDo fun k => { k with regular := 0, mode := 1, alignLost := (k.alignLost + 1) % 2 ^ 32 }) ∧
  Acts .kernelRealignStart (fun d => d.kern.mode = 1 ∧ 16 ≤ d.kern.regular) (fun d => d.kernDo fun k => { k with mode := 2 }) ∧
  Acts .kernelAligned (fun d => d.kern.mode = 2 ∧ d.kern.phase.natAbs ≤ d.kern.trim.natAbs) (fun d => d.kernDo fun k => { k with mode := 0 }) ∧
  Acts .noZc (fun _ => True) (fun d => d.kernDo fun k => (List.range 32).foldl (fun (k : Kernel) m =>
    if (k.ch m).act.kind = 1 ∧ (k.ch m).zc.gap = false ∧ 400 ≤ (k.ch m).zc.since then
      (k.setCh m fun c => { c with noZcCnt := wrap32 (c.noZcCnt + 1), zc := { c.zc with noZc := true, gap := true, periods := [], goodRun := 0, last := none } }).audit 0x30 0 0 d.pip [byte m, 0, 0, 0]
    else k) k) ∧
  Acts .streamRecovered (fun _ => True) (fun d => d.kernDo fun k => (List.range 64).foldl (fun (k : Kernel) i =>
    let x := if i % 2 = 0 then (k.ch (i / 2)).sv else (k.ch (i / 2)).si
    if x.stuck = true ∧ 88 < x.clean then
      (k.setCh (i / 2) fun c => if i % 2 = 0 then { c with sv := { c.sv with stuck := false, clean := 0 } } else { c with si := { c.si with stuck := false, clean := 0 } }).audit 0x32 0 0 d.pip [byte (i / 2), byte (i % 2), 0, 0]
    else k) k) ∧
  (∀ (n : Fin 4) (c : KMclk), Acts (.mclkClockFault n) (fun d => d.kern.mclks[n.val]? = some c ∧ c.input = true ∧ c.fault = false)
    (fun d => d.kernDo fun k => ({ k with mclks := k.mclks.set n { c with fault := true } } : Kernel).audit 0x33 0 0 d.pip [byte n, 0, 0, 0])) ∧
  Acts .mclkSettlingEnd (fun _ => True) (fun d => d.kernDo fun k => (List.range 4).foldl (fun (k : Kernel) n =>
    if (k.mclks[n]?.any fun c => c.settle = 0) = true then (List.range 8).foldl (fun (k : Kernel) i => k.setCh (8 * n + i) fun c => { c with settling := false }) k else k) k) ∧
  Acts .pendingPulseEmit (fun _ => True) (fun d => d.kernDo fun k => (List.range 4).foldl (fun (k : Kernel) n => k.pendingPulse n) k) ∧
  Acts .balanceCheck (fun d => d.kern.mode ≠ 1 ∧ d.pip % 4000 = 0 ∧ d.kern.lastBal ≠ some d.kern.latches) (fun d => d.kernDo fun k =>
    let a := (List.range 8).foldl (fun (k : Kernel) g => k.balanceOne g) k
    let b := (List.range 32).foldl (fun (k : Kernel) m => k.setCh m fun c => { c with balBase := c.net }) a
    { b with lastBal := some b.latches, lastBalSample := b.sampleNo }) ∧
  Acts .krefFail (fun d => d.kern.krefFault = false) (fun d => d.kernDo fun k => ({ k with krefFault := true } : Kernel).audit 0x33 0 0 d.pip [4, 0, 0, 0])

/-- What the Kernel does at a power-on after a power-fail snapshot (R236, R237): legal time goes on, from the snapshot's time where the clock did not run; the accumulators, the tariff registers from their mWh and the demand maxima are the snapshot's, with no session and no open interval;
the CHECKPOINT, then, after an outage, its OUTAGE record, the billing boundaries that fell within it and the record of the recovery; the calendar's tariff at this time; a TAMPER record that waits (R207); and demand intervals opened now, flagged PARTIAL. -/
def Sys2Proof.Claims.restored (k : Kernel) (pip : Nat) (us : Int) (kept : Bool) : Kernel :=
  let s := k.snap.getD { us := k.now, pip := pip, chans := [], pulses := [] }
  let now := if kept = true then us else if k.outage.isSome = true then s.us else k.now
  let a := { k with us := now - k.lag, suspect := k.suspect || !kept, pfail := false, commitOk := true, outage := none, nowPip := pip }
  let b := (List.range 32).foldl (fun (k : Kernel) m => k.setCh m fun c =>
    let x := tget KSnapChan.zero s.chans m
    { c with accImp := x.imp * 2 ^ 40 / 2 ^ 40, accExp := x.exp * 2 ^ 40 / 2 ^ 40, oAccImp := x.oImp * 2 ^ 40 / 2 ^ 40, oAccExp := x.oExp * 2 ^ 40 / 2 ^ 40,
             tImp := x.tImp.map fun y => (y.1, y.2 * 1000 * 2 ^ 40), tExp := x.tExp.map fun y => (y.1, y.2 * 1000 * 2 ^ 40), mdImp := x.mdImp, mdExp := x.mdExp,
             seq := max c.seq x.seq, lastInterval := x.lastInterval, lastReceipt := x.lastReceipt, session := none, gangSession := 0, open_ := none, partialNext := true }) a
  let c := (List.range 32).foldl (fun (k : Kernel) m => k.setCh m fun c => { c with balBase := c.net }) b
  let e := ({ c with pulses := c.pulses.zipIdx.map fun (x : KPulse × Nat) => { x.1 with residue := s.pulses.getD x.2 0 / 2 ^ 40 * 2 ^ 40 } } : Kernel).checkpoint pip
  let f := match k.outage with
    | none => e
    | some (from_, fromPip) =>
      let due := e.tariff.billsBetween (from_ / 1000000) (now / 1000000)
      let body := elem 0x13 (timeVal from_ (e.ofs from_)) ++ elem 0x14 (timeVal now (e.ofs now)) ++ elem 0x15 (leN fromPip 8) ++ elem 0x16 (leN (pip + 1) 8)
        ++ elem 0x57 [byte (b2n kept), byte (countFired e.lastKey (due.map fun (o : Int × Nat) => keyOf o.1 o.2)), byte (b2n k.commitOk), 0] ++ elem 0x1A (leN (8 ||| e.signFlags) 4)
      let g := { e.addRec 6 0 0 body false false with outageCnt := wrap32 (e.outageCnt + 1), lastOutage := min ((now - from_) / 1000000).toNat 0xFFFFFFFF }
      (due.foldl (fun (k : Kernel) (o : Int × Nat) => k.billOccurrence o.1 o.2 now pip) g).audit 0x61 3 0 pip []
  let h := { f with tariffNow := f.tariff.tariffAt (now / 1000000), lastBoundary := f.tariff.boundaryAt (now / 1000000) }
  (if h.tamperDue = true ∧ h.mfault ≠ 5 then ({ h with tamperDue := false } : Kernel).audit 0x51 4 0 pip [] else h).openAll now pip 0

/-- The seal, the ledger, the meter's faults and the Kernel's power-on (R187, R194, R199, R206, R236, R538). Choices of the model: log entries 7, 65, 69, 80. -/
def Obligations.LedgerEventsComplete : Prop :=
  Acts .sealOpen (fun d => d.kern.sealOpen = false ∧ 800 ≤ d.kern.sealRun) (fun d => d.kernDo fun k =>
    let a := { k with sealOpen := true, sealCount := min (k.sealCount + 1) 0xFFFFFFFF, sealLastPip := d.pip }.saveConf
    (((List.range 32).foldl (fun (k : Kernel) m => k.setCh m fun c => c.flag 0x80) a).audit 1 2 0 d.pip []).checkpoint d.pip) ∧
  Acts .sealClose (fun d => d.kern.sealOpen = true ∧ 4 ≤ (d.kern.sealWin.filter (!·)).length) (fun d => d.kernDo fun k =>
    let a := ((({ k with sealOpen := false, sealRun := 0, sealLastPip := d.pip } : Kernel).audit 2 2 0 d.pip []).checkpoint d.pip)
    match a.fwLoad with
    | some l => ({ a with fwLoad := none } : Kernel).audit 0x40 1 0x19 d.pip (leN l.version 4 ++ leN l.len 4)
    | none => a) ∧
  (∀ (r : KRec) (rest : List KRec), Acts .ledgerRecordProgram
    (fun d => d.kern.buf = r :: rest ∧ d.kern.blockUsed + r.bytes.length ≤ blockBytes ∧ r.typ ≠ 2 ∧ d.kern.snapPend = none)
    (fun d => d.kernDo fun k => { k with buf := rest, ring := { r with block := k.blockNo } :: k.ring, blockUsed := k.blockUsed + r.bytes.length })) ∧
  Acts .checkpointDue (fun d => d.pip % 3600000 = 0 ∧ d.kern.lastCp ≠ some d.kern.latches) (fun d => d.kernDo fun k => { k.checkpoint d.pip with lastCp := some k.latches }) ∧
  (∀ c : Fin 4, Acts (.meterFaultEntry c) (fun d => d.kern.mfault ≠ 5)
    (fun d => d.kernDo fun k => ({ k with signer := if k.signer = 2 then 2 else 1, mfault := c.val + 1 } : Kernel).audit 0x50 0 0 d.pip [byte (c.val + 1), 0, 0, 0])) ∧
  Acts .lxoStop (fun _ => True) (fun d => d.kernDo fun k => ({ k with suspect := true } : Kernel).audit 0x33 0 0 d.pip [5, 0, 0, 0]) ∧
  (∀ (us : Int) (kept s0 s1 : Bool), Acts (.kernelPowerOn us kept s0 s1) (fun _ => True) (fun d => d.kernDo fun k =>
    let ok := fun n : Nat => (((k.slots[n]?).map (·.valid)).getD false) && (if n = 0 then s0 else s1)
    let want := k.slotNext.getD k.slotRun
    let boot := if ok want = true then some want else if ok (1 - want) = true then some (1 - want) else none
    let a := { k.clear with signer := if k.signer = 2 then 2 else if boot.isNone = true then 1 else 0, mfault := if boot.isNone = true then 5 else 0, slotRun := boot.getD want,
                            fwVerified := if boot.getD want = k.slotRun then k.fwVerified else none }
    let b := restored a d.pip us kept
    match boot with
    | some n => if n = want then b else b.audit 0x42 0 0 d.pip ([byte want, byte n, 0, 0] ++ leN ((k.slots[n]?).map (·.version.toNat) |>.getD 0) 4)
    | none => b.audit 0x50 0 0 d.pip [5, 0, 0, 0]))

/-- What a demand-interval boundary `b` that has come does, in the order of R234: the intervals close, the billing occurrence that falls on it is recorded, a pending tariff takes effect, the calendar moves, and the next intervals open. -/
def Sys2Proof.Claims.boundaryPassed (k : Kernel) (b : Int) (pip : Nat) : Kernel :=
  let day := k.tariff.localSec b / 86400
  let minute := (k.tariff.localSec b % 86400 / 60).toNat
  let closed := k.closeAll (b * 1000000) pip 0
  let billed := if closed.tariff.billsAt day minute = true then closed.billOccurrence day minute (b * 1000000) pip else closed
  { ((billed.activate b pip).applyCalendar b).openAll (b * 1000000) pip 0 with lastBoundary := b }

/-- Legal time and the demand intervals (R214, R225, R234), and the commands that the Kernel takes from its queue (R184). Choices of the model: log entries 12, 42, 43, 69, 80. -/
def Obligations.LegalTimeEventsComplete : Prop :=
  (∀ s : State, s.dev.kern.pfail = false → (s.dev.kern.tariff.changes.any fun c => c.1 = s.dev.kern.utc) = true →
    let k := s.dev.kern
    let b := k.tariff.boundaryAt k.utc
    let a := if k.lastBoundary < b then boundaryPassed k b s.dev.pip else k
    let t := a.tariff.tariffAt k.utc
    exec .offsetChange s = .next (latched s (s.dev.kernDo fun _ => if t = a.tariffNow then a else a.setTariff t true))) ∧
  Acts .legalTimeSlewTick (fun d => 0 < d.kern.slew ∧ d.kern.slewTick + 8 ≤ d.kern.sampleNo) (fun d => d.kernDo fun k => { k with us := k.us + 1, slew := k.slew - 1, slewTick := k.sampleNo }) ∧
  Acts .legalTimeSlewTick (fun d => d.kern.slew < 0 ∧ d.kern.slewTick + 8 ≤ d.kern.sampleNo) (fun d => d.kernDo fun k => { k with us := k.us - 1, slew := k.slew + 1, slewTick := k.sampleNo }) ∧
  (∀ s : State, s.dev.kern.pfail = false → s.dev.kern.lastBoundary < s.dev.kern.tariff.boundaryAt s.dev.kern.utc →
    exec .intervalBoundary s = .next (latched s (s.dev.kernDo fun k => boundaryPassed k (k.tariff.boundaryAt k.utc) s.dev.pip))) ∧
  (∀ (s : State) (op : Nat) (p : Bytes) (id t : Nat) (rest : List KCmd), s.dev.kern.inbox = .host op p id t :: rest → t < s.dev.kern.latches →
    exec .kernelCommandExecute s = .next (latched s (s.dev.kernDo fun k =>
      let r := ({ k with inbox := rest } : Kernel).command op p s.dev.pip
      { r.1 with done := r.1.done ++ [(id, r.2.1, r.2.2)] }))) ∧
  (∀ (s : State) (n id t : Nat) (rest : List KCmd), s.dev.kern.inbox = .sessOpen n id t :: rest → t < s.dev.kern.latches → s.dev.kern.inSession n = false →
    let k : Kernel := { s.dev.kern with inbox := rest }
    let o := k.outAcc n
    let fl := (if k.sealOpen = true then 0x80 else 0) ||| (if ((k.ch n).sv.stuck || (k.ch n).si.stuck || (k.ch n).settling) = true then 0x100 else 0)
    let x : KSession := { id := id, outlet := n, startUs := k.now, startOfs := k.ofs k.now, startPip := s.dev.pip, imp0 := mwh o.1, exp0 := mwh o.2, impAcc := o.1, expAcc := o.2, tImp0 := (k.ch n).tImp, tExp0 := (k.ch n).tExp, tariff0 := k.tariffNow, switches := 0, flags := fl }
    let a := k.setCh n fun c => { c with session := some x }
    exec .kernelCommandExecute s = .next (latched s (s.dev.kernDo fun _ =>
      if a.gang n = true then (a.setCh (n + 1) fun c => { c with gangSession := id }).setCh (n + 2) fun c => { c with gangSession := id } else a))) ∧
  (∀ (s : State) (n id t : Nat) (rest : List KCmd), s.dev.kern.inbox = .sessOpen n id t :: rest → t < s.dev.kern.latches → s.dev.kern.inSession n = true →
    exec .kernelCommandExecute s = .next (latched s (s.dev.kernDo fun k => { k with inbox := rest, refusedCnt := wrap32 (k.refusedCnt + 1) }))) ∧
  (∀ (s : State) (n t : Nat) (forced : Bool) (rest : List KCmd), s.dev.kern.inbox = .sessClose n forced t :: rest → t < s.dev.kern.latches → (s.dev.kern.ch n).session = none →
    exec .kernelCommandExecute s = .next (latched s (s.dev.kernDo fun k => { k with inbox := rest, refusedCnt := wrap32 (k.refusedCnt + 1) }))) ∧
  (∀ (s : State) (n t : Nat) (forced : Bool) (rest : List KCmd) (x : KSession), s.dev.kern.inbox = .sessClose n forced t :: rest → t < s.dev.kern.latches → (s.dev.kern.ch n).session = some x →
    let k : Kernel := { s.dev.kern with inbox := rest }
    let o := k.outAcc n
    let both := if 1000 * 2 ^ 40 ≤ o.1 - x.impAcc ∧ 1000 * 2 ^ 40 ≤ o.2 - x.expAcc then 4 else 0
    let body := elem 0x10 ((List.range 12).map Config.serial) ++ elem 0x11 [byte x.outlet, byte n, byte (if k.gang n = true then 3 else 1), byte (k.ch n).act.role]
      ++ elem 0x12 (leN x.id 8) ++ elem 0x13 (timeVal x.startUs x.startOfs) ++ elem 0x14 (timeVal k.now (k.ofs k.now)) ++ elem 0x15 (leN x.startPip 8) ++ elem 0x16 (leN s.dev.pip 8)
      ++ elem 0x17 (leN x.imp0 8 ++ leN (mwh o.1) 8) ++ elem 0x18 (leN x.exp0 8 ++ leN (mwh o.2) 8) ++ k.tariffElem x.tariff0 x.switches
      ++ elem 0x1A (leN (x.flags ||| (if forced = true then 0x200 else 0) ||| both ||| k.signFlags) 4) ++ elem 0x1B (leN k.sealCount 4)
    let a := (k.addRec 2 n x.id body true false).setCh n fun c => { c with session := none, lastReceipt := k.head + 1, closeImp := c.tImp, closeExp := c.tExp, closeReg := mwh o.1 }
    exec .kernelCommandExecute s = .next (latched s (s.dev.kernDo fun _ =>
      (a.setCh (n + 1) fun c => if c.gangSession = x.id then { c with gangSession := 0 } else c).setCh (n + 2) fun c => if c.gangSession = x.id then { c with gangSession := 0 } else c))) ∧
  (∀ (s : State) (n v t : Nat) (rest : List KCmd), s.dev.kern.inbox = .iBreak n v t :: rest → t < s.dev.kern.latches →
    exec .kernelCommandExecute s = .next (latched s (s.dev.kernDo fun k =>
      { ({ k with inbox := rest } : Kernel).setCh n fun c => { c with iBreak := some v } with confirmed := k.confirmed ++ [n] })))

/-- The session task's Kernel commands: each goes into the Kernel's queue for the latch of the next pip (R175, R184). Choices of the model: log entries 43, 55, 80. -/
def Obligations.KernelSessionEventsComplete : Prop := ∀ n : Fin 32,
  Acts (.kernelSessionOpen n) (fun d => d.shellRuns = true ∧ d.passive = false ∧ (d.o n).kWant = true) (fun d => d.kernSend (.sessOpen n (d.sessionId n) d.kern.latches)) ∧
  Acts (.kernelSessionClose n) (fun d => d.shellRuns = true ∧ d.twinState ≠ 3 ∧ d.sessWanted n = false) (fun d => (d.kernSend (.sessClose n (d.o n).forced d.kern.latches)).setO n fun o => { o with forced := false }) ∧
  Acts (.iBreakPass n) (fun d => d.shellRuns = true ∧ d.passive = false) (fun d =>
    let e := d.kernSend (.iBreak n (d.fld (Reg.OUT_BREAK n) 7 0) d.kern.latches)
    ({ e with safe := { e.safe with tForce := tset 400 e.safe.tForce n (e.fld (Reg.OUT_BREAK n) 26 16) } } : Dev).setO n fun o => { o with confS := true })


/-! ### The events of the load switches, of time, of billing and of the display -/

/-- Load-switch events (R370 to R388): the frame, its watchdog, the protection of one channel, and under-voltage. Choices of the model: log entries 59, 70, 83, 88. -/
def Obligations.SwitchEventsComplete : Prop :=
  (∀ (f : DieIn) (meas : List (Fin 80 × Nat × Int)), Acts (.switchDieFrame f meas)
    (fun d => (f.crc = false ∨ f.seq ≠ d.lsw.seq + 1) ∧ d.sys.inReset = false ∧ d.mode ≠ .boot ∧ d.mode ≠ .sprout ∧ d.domainRuns 0 = true ∧ d.domainRuns 4 = true)
    (fun d => (((meas.foldl (fun (d : Dev) m => d.wn (Reg.LSW_CH_MEAS m.1.val) (ofSigned 16 m.2.2 * 65536 + min m.2.1 (d.currentLimit m.1.val) % 65536)) d).inc Reg.LSW_FRAME_ERR_CNT).raise Reg.LSW_EVENT 8).resetDue)) ∧
  (∀ (f : DieIn) (meas : List (Fin 80 × Nat × Int)), Acts (.switchDieFrame f meas)
    (fun d => f.crc = true ∧ f.seq = d.lsw.seq + 1 ∧ d.sys.inReset = false ∧ d.mode ≠ .boot ∧ d.mode ≠ .sprout ∧ d.domainRuns 0 = true ∧ d.domainRuns 4 = true ∧ (d.switchFrame f meas).fwu.pauseFrom = none ∧
      due (d.switchFrame f meas).sys.resetReq (d.switchFrame f meas).pip = false)
    (fun d => (d.switchFrame f meas).resetDue)) ∧
  (∀ (f : DieIn) (meas : List (Fin 80 × Nat × Int)), Acts (.switchDieFrame f meas)
    (fun d => f.crc = true ∧ f.seq = d.lsw.seq + 1 ∧ d.sys.inReset = false ∧ d.mode ≠ .boot ∧ d.mode ≠ .sprout ∧ d.domainRuns 0 = true ∧ d.domainRuns 4 = true ∧ (d.switchFrame f meas).fwu.pauseFrom = none ∧
      due (d.switchFrame f meas).sys.resetReq (d.switchFrame f meas).pip = true ∧ (d.switchFrame f meas).sys.resetCause = 6)
    (fun d => (d.switchFrame f meas).armActHold.resetDue)) ∧
  Acts .switchDieWatchdogExpiry
    (fun d => d.rbit Reg.LSW_STATUS 3 = false ∧ d.rbit Reg.LSW_CFG 0 = false ∧ d.lsw.holdTill = none ∧ d.lsw.lastFrame + d.fld Reg.LSW_WD_CFG 11 0 ≤ d.osc)
    (fun d => (List.range 80).foldl (fun (d : Dev) ch =>
      let e := d.setBit (Reg.LSW_CH_STATUS ch) 14 true
      if e.fld (Reg.LSW_CH_CFG ch) 31 30 = 0 then e.lswTarget ch false false else if e.fld (Reg.LSW_CH_CFG ch) 31 30 = 1 then e.lswTarget ch true false else e)
      (((d.setBit Reg.LSW_STATUS 3 true).inc Reg.LSW_FAILSAFE_CNT).raise Reg.LSW_EVENT 4)) ∧
  Acts .actHoldExpiry (fun d => due d.lsw.holdTill d.osc = true ∧ d.rbit Reg.LSW_CFG 0 = true)
    (fun d => ({ d with lsw := { d.lsw with holdTill := none } } : Dev).setBit Reg.LSW_STATUS 4 false) ∧
  (∀ (ch : Fin 80) (ma us : Nat),
    Acts (.overcurrentTrip { ch := ch, ma := ma, us := us })
      (fun d => d.lst ch = 1 ∧ (((d.rbit (Reg.LSW_CH_STATUS ch) 9 = true ∨ d.inrushTill ch = d.osc) ∧ d.inrushTill ch ≤ d.osc ∧ lswLimit ch true ≤ ma) ∨ (d.inrushTill ch + 4 ≤ d.osc ∧ lswLimit ch false ≤ ma ∧ 1000 ≤ us)))
      (fun d =>
      let e := (d.inc (Reg.LSW_CH_TRIP_CNT ch)).raise (Reg.LSW_CH_EVENT ch) 2
      let r := if 0 < e.fld (Reg.LSW_CH_STATUS ch) 27 24 then (e.turnOff ch 3).setL ch fun l => { l with back := e.backoff ch, backAt := some e.osc }
        else (((e.turnOff ch 4).inc (Reg.LSW_CH_LOCKOUT_CNT ch)).raise (Reg.LSW_CH_EVENT ch) 8).raise Reg.LSW_EVENT 1
      r.coilTrip ch) ∧
    Acts (.inrushWindowEnd ch) (fun d => d.lst ch = 1 ∧ (d.l ch).onAt + 4 * d.fld (Reg.LSW_CH_CFG ch) 15 8 ≤ d.osc) (fun d => d.setBit (Reg.LSW_CH_STATUS ch) 9 false) ∧
    Acts (.thermalLatchSet ch) (fun d => d.latched ch = false ∧ (d.lst ch = 0 ∨ d.lst ch = 4)) (fun d => ((d.setBit (Reg.LSW_CH_STATUS ch) 13 true).raise (Reg.LSW_CH_EVENT ch) 4).coilTrip ch) ∧
    Acts (.thermalLatchSet ch) (fun d => d.latched ch = false ∧ d.lst ch = 1)
      (fun d => (((((d.setBit (Reg.LSW_CH_STATUS ch) 13 true).raise (Reg.LSW_CH_EVENT ch) 4).turnOff ch 2).inc (Reg.LSW_CH_THERM_CNT ch)).coilTrip ch)) ∧
    (∀ t : Nat, Acts (.thermalLatchSet ch) (fun d => d.latched ch = false ∧ d.lst ch = 3 ∧ (d.l ch).backAt = some t)
      (fun d => ((((d.setBit (Reg.LSW_CH_STATUS ch) 13 true).raise (Reg.LSW_CH_EVENT ch) 4).inc (Reg.LSW_CH_THERM_CNT ch)).setL ch fun l => { l with back := l.back - (d.osc - t), backAt := none }).coilTrip ch)) ∧
    Acts (.thermalLatchClear ch) (fun d => d.lst ch = 3 ∧ (d.l ch).backAt = none)
      (fun d => (d.setBit (Reg.LSW_CH_STATUS ch) 13 false).setL ch fun l => { l with backAt := some d.osc }) ∧
    Acts (.thermalLatchClear ch) (fun d => d.lst ch = 2 ∧ (d.l ch).tgt = false) (fun d => (d.setBit (Reg.LSW_CH_STATUS ch) 13 false).setLst ch 0) ∧
    Acts (.thermalLatchClear ch) (fun d => d.lst ch = 2 ∧ (d.l ch).tgt = true ∧ (d.setBit (Reg.LSW_CH_STATUS ch) 13 false).mayTurnOn ch = true ∧ d.lsw.restart.all (ch.val < ·) = true)
      (fun d => (d.setBit (Reg.LSW_CH_STATUS ch) 13 false).turnOn ch) ∧
    Acts (.thermalLatchClear ch) (fun d => d.lst ch = 0 ∨ d.lst ch = 1 ∨ d.lst ch = 4) (fun d => d.setBit (Reg.LSW_CH_STATUS ch) 13 false) ∧
    Acts (.retryBackoffElapsed ch) (fun d => d.lst ch = 3 ∧ (d.l ch).backAt.any (fun t => t + (d.l ch).back ≤ d.osc) = true ∧ d.mayTurnOn ch = true ∧ d.lsw.restart.all (ch.val < ·) = true)
      (fun d => (((d.setFld (Reg.LSW_CH_STATUS ch) 27 24 (d.fld (Reg.LSW_CH_STATUS ch) 27 24 - 1)).inc (Reg.LSW_CH_RETRY_CNT ch)).setL ch fun l => { l with k := l.k + 1, backAt := none, back := 0 }).turnOn ch) ∧
    Acts (.retryCounterReload ch) (fun d => d.lst ch = 1 ∧ (d.l ch).onAt + 40000 ≤ d.osc)
      (fun d => (d.setFld (Reg.LSW_CH_STATUS ch) 27 24 (d.fld (Reg.LSW_CH_CFG ch) 27 24)).setL ch fun l => { l with k := 1 }) ∧
    Acts (.openLoadDetect { ch := ch, ma := ma, us := us })
      (fun d => d.lst ch = 1 ∧ (ma < if ch.val < 64 then 20 else 10) ∧ 10000 ≤ us ∧ (d.l ch).onAt + (if ch.val < 64 then 40 * d.fld (Reg.LSW_CH_CFG ch) 7 0 else 0) + 40 ≤ d.osc ∧
        (64 ≤ ch.val ∨ (d.rbit (Reg.LSW_CH_STATUS ch) 8 = true ∧ d.rbit Reg.LSW_CFG 1 = false))) (fun d => (d.setBit (Reg.LSW_CH_STATUS ch) 10 true).raise (Reg.LSW_CH_EVENT ch) 1) ∧
    Acts (.pullInEnd ch)
      (fun d => ch.val < 64 ∧ d.lst ch = 1 ∧ d.fld (Reg.LSW_CH_CFG ch) 29 28 = 1 ∧ (d.l ch).onAt + 40 * d.fld (Reg.LSW_CH_CFG ch) 7 0 ≤ d.osc ∧ d.rbit Reg.LSW_CFG 1 = false)
      (fun d => (d.setBit (Reg.LSW_CH_STATUS ch) 8 true).setL ch fun l => { l with drive := .current (d.fld (Reg.LSW_CH_HOLD ch) 9 0) })) ∧
  Acts .underVoltage (fun d => d.lswUv = false) (fun d =>
    let e := ((d.setBit Reg.LSW_STATUS 2 true).inc Reg.LSW_UV_CNT).raise Reg.LSW_EVENT 2
    (List.range 80).foldl (fun (d : Dev) ch => if d.lst ch = 1 then d.turnOff ch 0 else d) { e with lsw := { e.lsw with uvGood := none, restart := none } }) ∧
  Acts .underVoltageRestore (fun d => d.lswUv = true ∧ d.lsw.uvGood.any (fun t => t + 80 ≤ d.osc) = true ∧ d.lsw.restartPip ≠ d.osc) (fun d =>
    let e := ({ d with lsw := { d.lsw with restart := some 0 } } : Dev).setBit Reg.LSW_STATUS 2 false
    let next := ((List.range 80).filter fun ch => e.restarts ch).take 8
    next.foldl (fun (d : Dev) ch => if d.mayTurnOn ch = true then (if d.lst ch = 3 then d.retryNow ch else d.turnOn ch) else d)
      { e with lsw := { e.lsw with restartPip := e.osc, restart := if next.length < 8 then none else some (next.getLastD 0 + 1) } }) ∧
  (∀ a : Nat, Acts .underVoltageRestore (fun d => d.lswUv = false ∧ d.lsw.restart = some a ∧ d.lsw.restartPip ≠ d.osc) (fun d =>
    let next := ((List.range 80).filter fun ch => a ≤ ch && d.restarts ch).take 8
    next.foldl (fun (d : Dev) ch => if d.mayTurnOn ch = true then (if d.lst ch = 3 then d.retryNow ch else d.turnOn ch) else d)
      { d with lsw := { d.lsw with restartPip := d.osc, restart := if next.length < 8 then none else some (next.getLastD 0 + 1) } }))

/-- Mean path delay and offset of one exchange (R99): t2, t3 and the peer's t4 in 8 ns ticks, corrected by the port's latencies and asymmetry; the spec does not state how the halving of the delay rounds. -/
def Sys2Proof.Claims.delayOffset (d : Dev) (m : PtpMeas) : Int × Int :=
  let n := d.fld Reg.TIME_PTP_CFG 1 1
  let ingress := fun (t : Int) => t / 8 * 8 - d.sfld (Reg.TIME_ETH_INGRESS_LAT n) 31 0
  let egress := fun (t : Int) => t / 8 * 8 + d.sfld (Reg.TIME_ETH_EGRESS_LAT n) 31 0
  let asym := d.sfld (Reg.TIME_ETH_ASYM n) 31 0
  let there := ingress m.t2 - m.t1 - asym
  let back := if d.rbit Reg.TIME_PTP_CFG 9 = true then ingress m.t4 - egress m.t3 - m.turn else there + (m.t4 - egress m.t3 + asym)
  (divOpen back 2 d.fresh, there - divOpen back 2 d.fresh)

/-- What every measurement that counts leaves, before the servo acts on it (R94, R99, R103, R609): its offset among those of the filtered offset and, where its exchange began after the last step, among those of the agreement; UTC, TIME_OFFSET and TIME_MEAN_DELAY. -/
def Sys2Proof.Claims.measured (d : Dev) (m : PtpMeas) : Dev :=
  let x := delayOffset d m
  let counts := d.time.lastStep.all (· ≤ m.began)
  let e := (d.draw 1).wn Reg.TIME_UTC_OFFSET (match m.utc with | some u => 65536 + u % 65536 | none => 0)
  let e := e.setTime fun t => { t with shown := (x.2 :: t.shown).take 16, meas := if counts = true then (x.2 :: t.meas).take 16 else t.meas }
  let mean := divOpen ((e.time.shown.take 4).foldl (· + ·) 0) (e.time.shown.take 4).length e.fresh
  ((e.wi Reg.TIME_OFFSET (max (-2147483648) (min mean 2147483647))).wn Reg.TIME_MEAN_DELAY x.1.toNat).draw 1

/-- The device with the exchange's event messages counted. -/
abbrev Sys2Proof.Claims.heardPtp (d : Dev) (m : PtpMeas) : Dev := (d.incBy (Reg.TIME_ETH_RX_EVENT 0) m.events0).incBy (Reg.TIME_ETH_RX_EVENT 1) m.events1

/-- A measurement counts: the PTP task and the Ethernet ports run, PTP is enabled, the module is not its own master, and the exchange's request got its timestamp (R94, R102). -/
abbrev Sys2Proof.Claims.measures (d : Dev) (m : PtpMeas) : Prop :=
  d.ptpRuns = true ∧ d.ethRuns = true ∧ d.rbit Reg.TIME_PTP_CFG 0 = true ∧ d.rbit Reg.TIME_STATUS 11 = false ∧ d.time.lost.contains (d.ptpRequest m) = false

/-- The servo slews at a rate within TIME_SLEW_MAX, which no rule states further. -/
abbrev Sys2Proof.Claims.slewed (d : Dev) : Dev :=
  (d.wi Reg.TIME_RATE (max (-((d.fld Reg.TIME_SLEW_MAX 8 0 * 65536 : Nat) : Int)) (min ((d.fld Reg.TIME_SLEW_MAX 8 0 * 65536 : Nat) : Int) (Config.freeInt d.fresh)))).draw 1

/-- A jump is refused: jump_refused, the count, TIME_LAST_REFUSED. -/
abbrev Sys2Proof.Claims.refusedJump (d : Dev) (off : Int) : Dev :=
  ((d.raise Reg.TIME_EVENT 1).inc Reg.TIME_JUMP_REFUSED_CNT).wi Reg.TIME_LAST_REFUSED (max (-2147483648) (min off 2147483647))

/-- Time events (R99, R100, R103, R105): the servo's measurements, the masters, holdover, the step of TB0 and transmit time stamps. Choices of the model: log entries 45, 46, 77, 80. -/
def Obligations.TimeEventsComplete : Prop :=
  (∀ m : PtpMeas,
    (let act := fun (d0 : Dev) => measured (heardPtp d0 m) m
     let off := fun (d0 : Dev) => (delayOffset (heardPtp d0 m) m).2
     let small := fun (d0 : Dev) => (off d0).natAbs ≤ (act d0).rn Reg.TIME_JUMP_THRESH
     let good := fun (d0 : Dev) => measures (heardPtp d0 m) m
     let counts := fun (d0 : Dev) => d0.time.lastStep.all (· ≤ m.began)
     let acquires := fun (d0 : Dev) => (act d0).servo = .start ∨ (act d0).servo = .recovery ∨ (act d0).servo = .test
     Acts (.ptpOffsetMeasured m) (fun d => good d ∧ (act d).servo = .locked ∧ small d) (fun d => (slewed (act d)).alignShow) ∧
     Acts (.ptpOffsetMeasured m) (fun d => good d ∧ (act d).servo = .locked ∧ ¬ small d) (fun d => (((refusedJump (act d) (off d)).wn Reg.TIME_HOLD_PIPS 0).servoTo .holdover).alignShow) ∧
     Acts (.ptpOffsetMeasured m) (fun d => good d ∧ (act d).servo = .holdover ∧ small d) (fun d => (((slewed (act d)).wn Reg.TIME_HOLD_PIPS 0).servoTo .locked).alignShow) ∧
     Acts (.ptpOffsetMeasured m) (fun d => good d ∧ (act d).servo = .holdover ∧ ¬ small d) (fun d => (refusedJump (act d) (off d)).alignShow) ∧
     Acts (.ptpOffsetMeasured m) (fun d => good d ∧ acquires d ∧ (counts d = false ∨ (act d).time.pend.isSome = true)) (fun d => (act d).alignShow) ∧
     Acts (.ptpOffsetMeasured m) (fun d => good d ∧ acquires d ∧ counts d = true ∧ (act d).time.pend = none ∧ (act d).time.stepped = true ∧ (act d).servo ≠ .test) (fun d =>
       let run := if (off d).natAbs ≤ 250 then (act d).time.good + 1 else 0
       let e := (act d).setTime fun t => { t with good := run }
       (if 16 ≤ run then (((e.setTime fun t => { t with everAligned := true }).servoTo .locked).alignShow).timeLog 0xFF else e).alignShow) ∧
     Acts (.ptpOffsetMeasured m) (fun d => good d ∧ acquires d ∧ counts d = true ∧ (act d).time.pend = none ∧ ((act d).time.stepped = false ∨ (act d).servo = .test)) (fun d =>
       let e := act d
       (match e.time.meas.take 4 with
        | [a, b, c, x] =>
          if max (max a b) (max c x) - min (min a b) (min c x) ≤ 1000 then (e.setTime fun t => { t with pend := some (.agreed ((e.pip / 4000 + 1) * 4000) (-(divOpen (0 + a + b + c + x) 4 e.fresh))) }).draw 1 else e
        | _ => e).alignShow))) ∧
  (∀ m : PtpMeas, Acts (.ptpOffsetMeasured m) (fun d => d.ptpRuns = false ∨ d.rbit Reg.TIME_PTP_CFG 0 = false ∨ d.time.lost.contains (d.ptpRequest m) = true)
    (fun d => (d.incBy (Reg.TIME_ETH_RX_EVENT 0) m.events0).incBy (Reg.TIME_ETH_RX_EVENT 1) m.events1)) ∧
  Acts .announceReceiptTimeout (fun d => d.ptpRuns = true ∧ d.rbit Reg.TIME_PTP_CFG 0 = true ∧ d.rbit Reg.TIME_PTP_CFG 11 = false ∧ d.servo = .locked)
    (fun d => (((((d.setBit Reg.TIME_STATUS 10 false).setTime fun t => { t with ptp := { t.ptp with portState := 4 } }).raise Reg.TIME_EVENT 2).wn Reg.TIME_HOLD_PIPS 0).servoTo .holdover).alignShow) ∧
  (∀ i : PtpInfo, Acts (.bmcaOtherMaster i) (fun d => d.ptpRuns = true ∧ d.ethRuns = true ∧ d.rbit Reg.TIME_PTP_CFG 0 = true) (fun d =>
    let e := (((d.setGm i).setBit Reg.TIME_STATUS 11 false).setBit Reg.TIME_STATUS 10 true).setTime fun t => { t with givenTime := false }
    (if e.inService = true then e.raise Reg.TIME_EVENT 4 else e.masterGone).alignShow)) ∧
  Acts .bmcaSelectsSelf (fun d => d.ptpRuns = true ∧ d.rbit Reg.TIME_PTP_CFG 0 = true ∧ d.rbit Reg.TIME_PTP_CFG 11 = true ∧ d.inService = true)
    (fun d => (((((((d.setGm d.ownClock).setBit Reg.TIME_STATUS 11 true).setBit Reg.TIME_STATUS 10 false).setTime fun t => { t with givenTime := true }).raise Reg.TIME_EVENT 2).wn Reg.TIME_HOLD_PIPS 0).servoTo .locked).alignShow) ∧
  Acts .holdoverLimitReached (fun d => d.domainRuns 4 = true ∧ d.servo = .holdover ∧ d.rn Reg.TIME_HOLD_PIPS = d.rn Reg.TIME_HOLDOVER_LIMIT)
    (fun d => ((d.setBit Reg.TIME_STATUS 8 false).raise Reg.TIME_EVENT 16).timeLog 4) ∧
  (∀ (s : State) (t : Nat) (delta : Int), s.dev.domainRuns 4 = true → s.dev.time.pend = some (.agreed t delta) → t ≤ s.dev.pip → s.dev.pip % 4000 = 0 →
    let d := s.dev
    let tb0 := ((d.time.tb0 : Int) + delta).toNat
    let next := pipAt (nextTb0 tb0) (d.rn Reg.TIME_PIP_OFFSET)
    let k := next - (d.pip + 1)
    let e := if next ≤ d.pip then d.incBy Reg.TIME_PIP_OFFSET (d.pip + 1 - next) else d
    exec .tb0Step s = .next (latched s
      (((((e.setTime fun t => { t with tb0 := tb0, skip := k, pend := none, meas := [], shown := [], good := 0, lastStep := some d.pip }).renumbered d.pip delta k 0).setTime fun t => { t with stepped := true }).atBound)))) ∧
  (∀ x : TxStamp, Acts (.ptpEventSent x) (fun d => d.ethRuns = true ∧ d.domainRuns 4 = true ∧ d.ptpRuns = true ∧ x.mac.val = 0 ∧ d.time.txts0.length < 16) (fun d =>
    let m := (x.typ % 16, x.domain % 256, x.seq % 65536)
    (((d.setTime fun t => { t with lost := t.lost.filter (· ≠ m), sent := m :: t.sent.filter (· ≠ m) }).inc (Reg.TIME_ETH_TX_EVENT 0)).setTime fun t =>
      { t with txts0 := d.time.txts0 ++ [leN x.sec 6 ++ leN (x.ns / 8 * 8) 4 ++ [byte (x.typ % 16), byte x.domain] ++ leN x.seq 2 ++ [0, 0]] }).wn (Reg.TIME_ETH_TXTS_LEVEL 0) (d.time.txts0.length + 1)))

/-- Billing and display events (R242, R250, R252, R449, R453, R459, R462). Choices of the model: log entries 51, 52, 62, 85. -/
def Obligations.BillingAndDisplayEventsComplete : Prop :=
  Acts .friendlyWindowClose (fun _ => True) (fun d => d) ∧
  Acts .billStateSave (fun d => d.shellRuns = true ∧ d.pip % 4000 = 0) (fun d => { d with bill := { d.bill with flashAccounts := d.bill.accounts, flashOuts := d.bill.outs } }) ∧
  (∀ n : Fin 32, Acts (.billMeterRecord n)
    (fun d => d.taskRuns = true ∧ (d.bo n).active = true ∧ d.rn Reg.BILL_METER_INTERVAL ≠ 0 ∧ (d.bo n).meterAt + d.rn Reg.BILL_METER_INTERVAL ≤ d.pip)
    (fun d => (d.setBo n fun b => { b with meterAt := d.pip }).txn n 2 0 0)) ∧
  Acts .tokenMidnightPurge (fun d => d.taskRuns = true ∧ d.localDay ≠ d.bill.midnight) (fun d =>
    let used := d.bill.used.filter fun t => d.localDay ≤ d.rn Reg.BILL_TOKEN_EPOCH + t.expiry
    ({ d with bill := { d.bill with used := used, midnight := d.localDay } } : Dev).wn Reg.BILL_TOKEN_USED used.length) ∧
  (∀ volt curr : Nat, Acts (.dispFrameStart volt curr)
    (fun d => d.domainRuns 6 = true ∧ d.rbit Reg.DISP_STATUS 0 = true ∧ d.disp.age.all (33 ≤ ·) = true ∧ d.disp.bandNext = none ∧ d.disp.active = [] ∧ d.rbit Reg.DISP_CTRL 2 = false)
    (fun d => ((({ d with disp := { d.disp with age := some 0, grey0 := [] } } : Dev).inc Reg.DISP_FRAME_CNT).wn Reg.DISP_VPANEL_MEAS (min 65535 curr * 65536 + min 65535 volt)).setBit Reg.DISP_STATUS 3 false)) ∧
  (∀ (r : Fin 8) (id : Nat), Acts (.dispUpdateDone r) (fun d => d.domainRuns 6 = true ∧ (d.upd r).run = some id ∧ (d.upd r).pending = none ∧ ((d.updRest r 64).upd r).run = some id ∧ ((d.updRest r 64).region r).2.2.2 < ((d.updRest r 64).upd r).line)
    (fun d => ((d.updRest r 64).setUpd r RegionUpd.none).finish id St.ok (leN ((d.updRest r 64).upd r).copied 2 ++ [0, 0]))) ∧
  Acts .dispVpFault (fun d => d.rbit Reg.DISP_STATUS 1 = true) (fun d => (((d.setBit Reg.DISP_STATUS 2 true).dispRun).inc Reg.DISP_VP_FAULT_CNT).raise Reg.DISP_EVENT 1) ∧
  Acts .dispStressSave (fun d => d.domainRuns 6 = true ∧ d.domainRuns 0 = true ∧ d.pip % 14400000 = 0) (fun d => { d with disp := { d.disp with saved := d.disp.stress } })


/-! ### The events of the Stone and the Guard -/

/-- Safety events (R132, R333 to R367). Choices of the model: log entries 56, 57, 60, 67, 83. -/
def Obligations.SafetyEventsComplete : Prop :=
  (∀ (n : Fin 32) (t : Nat), Acts (.tForceExpiry n)
    (fun d => d.rampReq n = some (t, true) ∧ t + tget 400 d.safe.tForce n ≤ d.osc ∧ d.flagBelow n = false ∧ d.sls n = true ∧ d.safe.hbLost = none ∧ d.ost n ≠ .rampdown)
    (fun d =>
      let a := ({ d with safe := { d.safe with ramp := tset none d.safe.ramp n (some (t, false)) } } : Dev)
      let b := (a.setBit Reg.SAFE_SLS_MASK n false).inc Reg.SAFE_FORCED_CNT
      let c : Dev := { b with safe := { b.safe with forced := b.safe.forced ||| 2 ^ n.val, rose := b.safe.rose - b.safe.rose % 2 ^ (n.val + 1) / 2 ^ n.val * 2 ^ n.val } }
      (c.slsShow n).outForced n)) ∧
  (∀ (i : Fin 16) (l : HeldLevel), Acts (.safetyInputChange i l) (fun d => 500 * wfld (d.pairCfg (i.val / 2)) 5 0 ≤ d.heldFor i l.level l.held ∧ l.level ≠ if i.val % 2 = 0 then (d.pair (i.val / 2)).a else (d.pair (i.val / 2)).b)
    (fun d => ((d.pairLevel i l.level).pairJudge (d.pairOwner (i.val / 2))).stoneEval (d.pairOwner (i.val / 2)))) ∧
  (∀ p : Fin 8, Acts (.discrepancyTimeout p)
    (fun d => d.pairFn p ≠ 0 ∧ d.pairFn p ≠ 4 ∧ d.pairOwner p = p ∧ d.startMode p = false ∧ (d.pair p).disc.any (fun t => t + d.discPips p ≤ d.osc) = true ∧ (d.pair p).fault = 0)
    (fun d => d.pairFault p 1)) ∧
  (∀ p : Fin 8, Acts (.antivalenceTimeout p)
    (fun d => d.pairFn (d.pairOwner p) = 4 ∧ (d.pair (d.pairOwner p)).fault = 0 ∧ (d.pair p).disc.any (fun t => t + d.discPips p ≤ d.osc) = true)
    (fun d => d.pairFault (d.pairOwner p) 4)) ∧
  (∀ (k : Fin 4) (low : List Nat), Acts (.testPulse k low) (fun d => d.cfgValid = true ∧ wbit (d.actWord 1) k = true ∧ d.tpNext k ≤ d.osc) (fun d =>
    (List.range 16).foldl (fun (d : Dev) i =>
      let q := d.pairOwner (i / 2)
      let closed := if i % 2 = 0 then (d.pair (i / 2)).a else (d.pair (i / 2)).b
      let s := d.siSupply i
      if d.pairFn q = 0 ∨ 3 < s then d
      else if closed = false then (if s = k.val then { d with safe := { d.safe with missed := tset 0 d.safe.missed i 0 } } else d)
      else
        let m := if s = k.val ∧ low.contains i = false then tget 0 d.safe.missed i + 1 else if s = k.val then 0 else tget 0 d.safe.missed i
        let e : Dev := { d with safe := { d.safe with missed := tset 0 d.safe.missed i (if 2 ≤ m then 0 else m) } }
        if (2 ≤ m ∨ (s ≠ k.val ∧ low.contains i = true)) ∧ (e.pair q).fault = 0 then e.pairFault q 2 else e)
      { d with safe := { d.safe with tpDue := d.safe.tpDue.set k (d.tpNext k + d.tpPeriod), tpPulse := tset none d.safe.tpPulse k (some (d.tpNext k, 100 * wfld (d.actWord 1) 7 4)) } })) ∧
  (∀ (p : Fin 8) (t : Nat), 200 ≤ t → t ≤ 12000 → Acts (.resetButtonRelease p)
    (fun d => (d.pair p).press = some t ∧ d.pairFn p = 5 ∧ (d.pair p).fault = 0 ∧ (d.pair p).needReset = false)
    (fun d => (List.range 8).foldl (fun (d : Dev) q => if d.pairFn q = 0 ∨ q = p.val then d else d.pairReset q) (d.setPair p fun x => { x with press := none }))) ∧
  (∀ (p : Fin 8) (cpu : Bool) (held : Nat),
    Acts (.crossDisagreement { pair := p, cpu := cpu, held := held })
      (fun d => d.pairFn (d.pairOwner p) ≠ 0 ∧ cpu ≠ d.pairPermits (d.pairOwner p) ∧ 250 * d.discPips (d.pairOwner p) + 20000 < held) (fun d => d.pairFault (d.pairOwner p) 3) ∧
    Acts (.crossDisagreement { pair := p, cpu := cpu, held := held })
      (fun d => d.pairFn (d.pairOwner p) ≠ 0 ∧ cpu ≠ d.pairPermits (d.pairOwner p) ∧ held ≤ 250 * d.discPips (d.pairOwner p) + 20000) (fun d => (d.setPair (d.pairOwner p) fun x => { x with cpu := some cpu }).pairShow (d.pairOwner p)) ∧
    Acts (.crossDisagreement { pair := p, cpu := cpu, held := held })
      (fun d => d.pairFn (d.pairOwner p) ≠ 0 ∧ cpu = d.pairPermits (d.pairOwner p)) (fun d => (d.setPair (d.pairOwner p) fun x => { x with cpu := none }).pairShow (d.pairOwner p))) ∧
  Acts .stoneSelfFault (fun _ => True) (fun d => (((d.setBit Reg.SAFE_STATUS 7 true).raise Reg.SAFE_EVENT 16).stoneEval 10).degrade 8) ∧
  Acts (.permitWord true) (fun d => d.safetyRuns = true ∧ (d.safe.hbRun = 0 ∨ d.safe.hbLast ≠ d.osc)) (fun d0 =>
    let d : Dev := { d0 with safe := { d0.safe with forceNext := d0.safe.forceNext ||| bitsMask ((List.range 32).filter fun n => d0.safe.word.testBit n && !d0.wordBit n) } }
    let bits := (List.range 32).filter d.wordBit
    let new := bitsMask bits
    let hub := (if d.safe.hubHost = true then 8 else 0) + (if (List.range 8).any (fun c => d.connRx c && wbit (d.connWord c 0) 27 && !d.connPermits c) = true then 32 else 0)
    let e : Dev := { d with safe := { d.safe with
      word := new, hubWord := hub, rose := bitsMask (bits.filter fun n => !d.safe.word.testBit n || d.safe.rose.testBit n),
      forced := bitsMask ((maskBits 32 d.safe.forced).filter fun n => (d.rampReq n).isSome || new.testBit n),
      hbRun := if d.safe.hbLast + 1 = d.osc then d.safe.hbRun + 1 else 1, hbLast := d.osc } }
    ((List.range 32).foldl (fun (d : Dev) n => (d.wordApply n (new.testBit n)).slsShow n) e).hubUpdate) ∧
  Acts (.permitWord false) (fun d => d.safetyRuns = true) (fun d =>
    { d with safe := { d.safe with hbRun := 0, forceNext := d.safe.forceNext ||| bitsMask ((List.range 32).filter fun n => d.safe.word.testBit n && !d.wordBit n) } }) ∧
  (∀ good : Bool, Acts (.permitWord good) (fun d => d.safetyRuns = false) (fun d => { d with safe := { d.safe with hbRun := 0 } })) ∧
  Acts .heartbeatLost (fun d => d.hbOk = true ∧ d.safe.hbLast + 4 ≤ d.osc ∧ d.sys.safetyForced = false)
    (fun d => ((List.range 32).foldl (fun (d : Dev) n => d.slsShow n)
      (((({ d with safe := { d.safe with hbLost := some d.osc, hbRun := 0 } } : Dev).setBit Reg.SAFE_STATUS 4 false).inc Reg.SAFE_HB_LOSS_CNT).raise Reg.SAFE_EVENT 2).meteredLatch).hubUpdate) ∧
  Acts .heartbeatValid (fun d => d.hbOk = false ∧ 8 ≤ d.safe.hbRun) (fun d =>
    ((List.range 32).foldl (fun (e : Dev) n => (e.wordApply n (e.safe.word.testBit n)).slsShow n) (({ d with safe := { d.safe with hbLost := none } } : Dev).setBit Reg.SAFE_STATUS 4 true)).hubUpdate) ∧
  Acts .hubStopHoldEnd (fun _ => True) (fun d => d.hubUpdate) ∧
  (∀ (c : Fin 8) (f : List Byte), Acts (.stoneFrameRx c f)
    (fun d => d.safetyRuns = true ∧ d.connRx c = true ∧ d.connCarried c = true ∧ f.length = 18 ∧ num f 8 1 = 1 ∧ num f 9 1 = 4 ∧ (crcSafety (f.take 14)).toNat = num f 14 4 ∧ num f 0 4 = (d.connWord c 1).toNat ∧
      d.fld (Reg.SAFE_CONN_STATUS c) 1 0 = 2 ∧ num f 4 2 = ((d.conn c).seq + 1) % 65536 ∧ (d.conn c).seq < 65536)
    (fun d => ((d.setConn c fun x => { x with
      data := num f 10 4, seq := num f 4 2, run := (d.conn c).run + 1, due := some (d.osc + min (num f 6 2) (wfld (d.connWord c 0) 15 0)) }).setFld (Reg.SAFE_CONN_STATUS c) 31 16 (num f 4 2)).setFld
      (Reg.SAFE_CONN_STATUS c) 1 0 2)) ∧
  (∀ (c : Fin 8) (f : List Byte), Acts (.stoneFrameRx c f) (fun d => d.safetyRuns = true ∧ d.connRx c = true ∧ d.connCarried c = true ∧ f.length < 14) (fun d => d.inc (Reg.SAFE_CONN_ERR_CNT c))) ∧
  (∀ c : Fin 8, Acts (.stoneFrameTx c)
    (fun d => d.safetyRuns = true ∧ d.twinState ≠ 1 ∧ d.twinState ≠ 2 ∧ wbit (d.connWord c 0) 31 = true ∧ wbit (d.connWord c 0) 30 = true ∧ wfld (d.connWord c 0) 29 28 ≠ 2 ∧ d.connCarried c = true ∧ (d.conn c).lastTx = none)
    (fun d =>
      let seq := ((d.conn c).seq + 1) % 65536
      let f := stoneFrame (d.connWord c 1).toNat seq (wfld (d.connWord c 0) 15 0 + 4) d.permitData
      (d.setConn c fun x => { x with seq := seq, lastTx := some (d.permitData, d.osc), frame := f, dest := some (wfld (d.connWord c 0) 29 28, (d.connWord c 2).toNat, wfld (d.actWord 2) 15 0) }).setFld (Reg.SAFE_CONN_STATUS c) 31 16 seq)) ∧
  Acts .stoneConnWatchdog (fun d => d.safetyRuns = true) (fun d => (List.range 8).foldl (fun (d : Dev) c =>
    if d.connRx c = true ∧ due (d.conn c).due d.osc = true then (d.inc (Reg.SAFE_CONN_WD_CNT c)).connSafe c else d) d)


/-- Guard events (R318 to R324, R329, R330). Choices of the model: log entries 5, 58, 82. -/
def Obligations.GuardEventsComplete : Prop := ∀ n : Fin 32,
  (∀ c p : Nat, Acts (.rcmStageTrip n)
    (fun d => d.domainRuns 5 = true ∧ d.gstate n = 2 ∧ d.gmode n = 1 ∧ d.rbit Reg.GUARD_TRIP_MASK n = false ∧ (d.g n).met = some (c, p) ∧ p < (d.g n).t)
    (fun d => (d.setG n fun g => { g with met := none }).guardTrip n c)) ∧
  Acts (.imdWindowStart n)
    (fun d => d.domainRuns 5 = true ∧ d.passive = false ∧ d.gstate n = 2 ∧ d.gmode n = 2 ∧ (d.g n).imd = none ∧ d.pip % 4000 = 500 * d.fld (Reg.GUARD_CH_IMD_CFG n) 30 28)
    (fun d => d.setG n fun g => { g with imd := some d.pip, imdT := g.t, sums := [0, 0, 0, 0], peaks := (0, 0), inj := 1 }) ∧
  (∀ w : Nat, Acts (.imdWindowEnd n)
    (fun d => d.domainRuns 5 = true ∧ d.gstate n = 2 ∧ (d.g n).imd = some w ∧ (d.g n).imdT + 4000 ≤ (d.g n).t ∧ d.fld (Reg.GUARD_CH_IMD_THRESH n) 15 0 < (d.imdResult n).1 ∧
      d.fld (Reg.GUARD_CH_IMD_THRESH n) 31 16 ≤ (d.imdResult n).1 ∧ (d.imdResult n).2 = true)
    (fun d => ((((d.setG n fun g => { g with imd := none, inj := 0 }).wn (Reg.GUARD_CH_IMD_RESULT n) (2 ^ 31 + (d.imdResult n).1)).guardWarn n false).outInsulation n w true false))) ∧
  Acts (.guardStreamFault n) (fun d => d.domainRuns 5 = true ∧ d.gstate n ≠ 0 ∧ d.gstate n ≠ 4) (fun d =>
    let e := d.setG n fun g => { g with clean := 0 }
    (if d.gstate n = 3 then e.setFld (Reg.GUARD_CH_STATUS n) 17 16 3 else e).guardFault n 7) ∧
  (∀ t : Nat, Acts (.guardSelfTestEnd n)
    (fun d => d.domainRuns 5 = true ∧ (d.g n).test = some t ∧ d.gstate n = 3 ∧ t + (if d.gmode n = 1 then 800 else 4000) ≤ (d.g n).t ∧ d.testPassed n = true)
    (fun d => (d.guardRest n 1).setFld (Reg.GUARD_CH_STATUS n) 17 16 2)) ∧
  (∀ t : Nat, Acts (.guardSelfTestEnd n)
    (fun d => d.domainRuns 5 = true ∧ (d.g n).test = some t ∧ d.gstate n = 3 ∧ t + (if d.gmode n = 1 then 800 else 4000) ≤ (d.g n).t ∧ d.testPassed n = false)
    (fun d => (d.guardFault n 9).setFld (Reg.GUARD_CH_STATUS n) 17 16 3))

/-- A module whose matching is the plain one of ISO 15118-3 on some lanes answers there first: each such lane that heard the RunID gets its profile. -/
def Sys2Proof.Claims.plainAnswers (d : Dev) (r : SlacRun) : Dev := (((List.range 32).filter r.heard).filter d.plainOpen).foldl (fun (d : Dev) n => d.slacAtten r n) d

/-- Husk events: frames and slices, SLAC, the 10BASE-T1S ports and the end of a reset (R258 to R282). Choices of the model: log entries 48, 73, 81. -/
def Obligations.HuskEventsComplete : Prop :=
  (∀ f : FcIn, Acts (.fcDecode f) (fun d => d.huskRuns = true ∧ d.laneActive f.lane.val = true ∧ (d.sniOk f.lane.val f.sni = false ∨ d.destOk f.lane.val f.dest = false ∨ 1200 < f.us ∨ f.mode = 3 ∨ (f.lane.val < 32 ∧ (f.blocks ≠ 1 ∨ (f.octets ≠ 136 ∧ f.octets ≠ 520)))))
    (fun d => (d.inc (Reg.LANE_FC_DETECT f.lane.val)).inc (Reg.LANE_FILTERED f.lane.val))) ∧
  (∀ f : FcIn, f.us ≤ 1200 → f.mode ≠ 3 → (f.lane.val = 32 ∨ (f.blocks = 1 ∧ (f.octets = 136 ∨ f.octets = 520))) → Acts (.fcDecode f)
    (fun d => d.huskRuns = true ∧ d.laneActive f.lane.val = true ∧ (d.inc (Reg.LANE_FC_DETECT f.lane.val)).sniOk f.lane.val f.sni = true ∧ (d.inc (Reg.LANE_FC_DETECT f.lane.val)).destOk f.lane.val f.dest = true ∧ d.husk.ctxs.length < (d.inc (Reg.LANE_FC_DETECT f.lane.val)).ctxMax ∧ (d.lane f.lane.val).ring + 1536 ≤ 16384)
    (fun d => (((((d.inc (Reg.LANE_FC_DETECT f.lane.val)).inc (Reg.LANE_ACCEPTED f.lane.val)).setFld (Reg.LANE_STATUS f.lane.val) 1 0 f.mode.val).setLane f.lane.val fun l =>
      { l with ring := l.ring + rxReserve }).reserve f.lane.val true none))) ∧
  (∀ (f : FrameIn) (c : HCtx), f.ok = true → (f.frame ≠ .other ∨ f.lane.val = 32) → Acts (.frameDelivery f) (fun d => d.huskRuns = true ∧ d.husk.oldestRx f.lane.val = some c)
    (fun d =>
      let n := f.lane.val
      let e := d.setCtxs n (d.husk.ctxs.filter fun x => x.seq ≠ c.seq)
      let t := e.blankThresh n f.level
      let g := (e.incBy (Reg.LANE_ERASED_SYM n) (erasedSyms t f.symbols)).incBy (Reg.LANE_BLANK_SYM n) (blankedSyms t f.symbols)
      let m := g.setLane n fun l => { l with blank := l.blank || decide (0 < blankedSyms t f.symbols), sack := if g.passive = true ∨ g.laneActive n = false then none else some true }
      ((((m.inc (Reg.LANE_DELIVERED n)).wn (Reg.LANE_SNR n) (f.snr % 65536)).setLane n fun l => { l with frames := l.frames ++ [(f.frame, c.late)], wr := ringNext l.wr })).txPump)) ∧
  (∀ (f : FrameIn) (c : HCtx), f.ok = false → Acts (.frameDelivery f) (fun d => d.huskRuns = true ∧ d.husk.oldestRx f.lane.val = some c)
    (fun d =>
      let n := f.lane.val
      let e := d.setCtxs n (d.husk.ctxs.filter fun x => x.seq ≠ c.seq)
      let t := e.blankThresh n f.level
      let g := (e.incBy (Reg.LANE_ERASED_SYM n) (erasedSyms t f.symbols)).incBy (Reg.LANE_BLANK_SYM n) (blankedSyms t f.symbols)
      let m := g.setLane n fun l => { l with blank := l.blank || decide (0 < blankedSyms t f.symbols), sack := if g.passive = true ∨ g.laneActive n = false then none else some false }
      ((m.inc (Reg.LANE_CRC_FAIL n)).setLane n fun l => { l with ring := l.ring - rxReserve }).txPump)) ∧
  (∀ (n : Fin 33) (c : HCtx), Acts (.frameLate n) (fun d => d.huskRuns = true ∧ d.husk.ctxs.find? (fun c => c.rx && c.lane = n.val && !c.late && c.acc + 8 ≤ d.pip) = some c)
    (fun d =>
      let e : Dev := { d with husk := { d.husk with ctxs := d.husk.ctxs.map fun (x : HCtx) => if x.seq = c.seq then { x with late := true } else x } }
      (((((((e.inc (Reg.LANE_LATE n)).inc Reg.HUSK_LATE_CNT).wn Reg.HUSK_LAST_LATE n).wn Reg.HUSK_LAST_LATE_PIP (c.acc + 8)).raise Reg.HUSK_EVENT 1).raise (Reg.LANE_EVENT n) 4).log
        66 0 (byte n :: leN (c.acc + 8) 6)))) ∧
  (∀ again : Bool, Acts (.huskSlice ⟨[], [], again⟩) (fun d => d.huskRuns = true ∧ d.husk.ctxs = []) (fun d => { d with husk := { d.husk with sliceNo := d.husk.sliceNo + 1 } })) ∧
  (∀ (l idle : List (Fin 33)) (again : Bool) (b : HCtx), Acts (.huskSlice ⟨l, idle, again⟩)
    (fun d => d.huskRuns = true ∧ bestCtx ((markLast d.husk.ctxs (l.map (·.val))).filter (HCtx.works (idle.map (·.val)))) = some b)
    (fun d =>
      let served := (markLast d.husk.ctxs (l.map (·.val))).map fun (c : HCtx) => if c.seq = b.seq then { c with served := d.husk.sliceNo + 1, sack := c.sack || (c.rx && c.lastSym) } else c
      let e : Dev := { d with husk := { d.husk with sliceNo := d.husk.sliceNo + 1, ctxs := served } }
      if b.rx = true then e else e.laneSent b again)) ∧
  (∀ (n : Fin 33) (rms : Int) (gain : Nat) (peak : Int), Acts (.noiseWindowEnd n ⟨rms, peak⟩ gain false) (fun d => d.huskRuns = true ∧ d.laneActive n = true) (fun d =>
    let loud := (d.blankThresh n (d.sfld (Reg.LANE_NOISE n) 15 0)).any fun t => decide (t < peak)
    let e := d.setLane n fun l => { l with noise := (rms :: l.noise).take 16, blank := l.blank || loud }
    e.wn (Reg.LANE_NOISE n) (gain % 256 * 65536 + ofSigned 16 ((e.lane n).noise.foldl min rms)))) ∧
  (∀ n : Fin 32, Acts (.slacParmReq n) (fun d => d.huskRuns = true ∧ d.taskRuns = true ∧ d.laneActive n = true ∧ d.slacEligible n = true) (fun d => (d.setSlac n 1).laneSend n .parmCnf)) ∧
  (∀ (lane : Fin 32) (run : List Byte) (announced : Nat), Acts (.soundCapture (.start lane run announced)) (fun d => d.huskRuns = true ∧ d.laneActive lane.val = true ∧ ∀ r ∈ d.husk.runs, r.run ≠ run)
    (fun d => { d with husk := { d.husk with runs := d.husk.runs ++ [{ run := run, announced := announced, start := d.pip, sounds := 0, caps := [], st := .sounding }] } })) ∧
  (∀ (run : List Byte) (r : SlacRun), Acts (.slacDecision run)
    (fun d => d.huskRuns = true ∧ d.taskRuns = true ∧ d.husk.runs.find? (fun r => r.run = run && r.st = .sounding) = some r ∧ (r.announced ≤ r.sounds ∨ r.start + 2000 ≤ d.pip) ∧ d.rbit Reg.HUSK_SLAC_CFG 0 = false ∧ (∀ n ∈ List.range 32, (r.heard n && d.plainOpen n) = false))
    (fun d => d.setRun run fun r => { r with st := .plain })) ∧
  (∀ (run : List Byte) (r : SlacRun), Acts (.slacDecision run)
    (fun d => d.huskRuns = true ∧ d.taskRuns = true ∧ d.husk.runs.find? (fun r => r.run = run && r.st = .sounding) = some r ∧ (r.announced ≤ r.sounds ∨ r.start + 2000 ≤ d.pip) ∧
      (plainAnswers d r).rbit Reg.HUSK_SLAC_CFG 0 = true)
    (fun d =>
      let e := plainAnswers d r
      let elig := (List.range 32).filter d.slacEligible
      let lanes := elig.filter fun n => !e.husk.taken.contains n
      let others := e.husk.runs.filter fun x => x.run ≠ run && x.st = .sounding && e.fld Reg.HUSK_SLAC_CFG 23 16 ≤ x.sounds
      match slacVerdict r others elig lanes (e.fld Reg.HUSK_SLAC_CFG 15 8) (e.fld Reg.HUSK_SLAC_CFG 31 24) e.fresh with
      | .lane pick =>
        let f := ((e.draw 1).setRun run fun r => { r with st := .decided pick }).inc Reg.HUSK_SLAC_DECIDED_CNT
        let g := match pick with
          | some n => ((f.setSlac n 3).slacAtten r n).slacRecord r n 0
          | none => f
        (((List.range 32).filter r.heard).filter fun n => elig.contains n && some n ≠ pick).foldl (fun (d : Dev) n =>
          let w := (d.inc Reg.HUSK_SLAC_WITHHELD_CNT).slacRecord r n 1
          if w.fld (Reg.LANE_STATUS n) 11 8 = 3 ∨ w.fld (Reg.LANE_STATUS n) 11 8 = 4 then w else w.setSlac n 5) g
      | .ambiguous =>
        let cands := r.candidates elig (e.fld Reg.HUSK_SLAC_CFG 15 8)
        let f := (((e.draw 1).setRun run fun r => { r with st := .ambiguous cands }).inc Reg.HUSK_SLAC_AMBIG_CNT).raise Reg.HUSK_EVENT 2
        cands.foldl (fun (d : Dev) n =>
          let w := (d.slacAtten r n).slacRecord r n 2
          if w.fld (Reg.LANE_STATUS n) 11 8 = 3 ∨ w.fld (Reg.LANE_STATUS n) 11 8 = 4 then w else w.setSlac n 6) f)) ∧
  (∀ (r : SlacRun) (others : List SlacRun) (elig lanes : List Nat) (span margin free : Nat), (5 < others.length ∨ 6 < lanes.length) → slacVerdict r others elig lanes span margin free = .ambiguous) ∧
  (∀ (r : SlacRun) (elig lanes : List Nat) (span margin free n : Nat), 0 < r.sounds → slacVerdict r [] elig lanes span margin free = .lane (some n) →
    n ∈ r.candidates elig span ∧ n ∈ lanes ∧ r.figNum n + margin * 58 * r.sounds ≤ 90 * 58 * r.sounds ∧
      ∀ k ∈ r.candidates elig span, k ∈ lanes → k ≠ n → r.figNum n + margin * 58 * r.sounds ≤ r.figNum k) ∧
  (∀ (n : Fin 32) (run : List Byte) (r : SlacRun), Acts (.slacMatchReq n run)
    (fun d => d.huskRuns = true ∧ d.taskRuns = true ∧ d.laneActive n = true ∧ d.husk.runs.find? (fun r => r.run = run) = some r ∧ d.ost n = .linking ∧ (d.lane n).matched = none ∧ d.slacAnswers r n = true)
    (fun d => (((((d.setLane n fun l => { l with matched := some run }).setRun run fun r => { r with st := .decided (some n.val) }).setSlac n 4).setBit (Reg.LANE_STATUS n) 4 true).slacCnf n run))) ∧
  (∀ (t : Fin 8) (node : Nat), Acts (.t1sFrameRx t (.frame true node)) (fun d => d.shellRuns = true ∧ d.t1sUsed t = true)
    (fun d => (if node = 1 then (d.inc (Reg.T1S_RX_FRAMES t)).hearNode1 t else d.inc (Reg.T1S_RX_FRAMES t)).t1sLink t)) ∧
  (∀ (t : Fin 8) (node : Nat), Acts (.t1sFrameRx t (.frame false node)) (fun d => d.shellRuns = true ∧ d.t1sUsed t = true) (fun d => (d.inc (Reg.T1S_RX_ERR t)).t1sLink t)) ∧
  (∀ (t : Fin 8) (bits : Nat), Acts (.t1sFrameRx t (.silent bits))
    (fun d => d.shellRuns = true ∧ d.t1sUsed t = true ∧ d.plca t = true ∧ 1 ≤ tget 0 d.husk.t1sNode t ∧ d.fld (Reg.T1S_CFG t) 23 16 * 16 ≤ bits ∧ tget 0 d.husk.t1sNode t < d.fld (Reg.T1S_CFG t) 7 2)
    (fun d => { d with husk := { d.husk with t1sNode := tset 0 d.husk.t1sNode t (tget 0 d.husk.t1sNode t + 1) } })) ∧
  (∀ (t : Fin 8) (bits : Nat), Acts (.t1sFrameRx t (.silent bits))
    (fun d => d.shellRuns = true ∧ d.t1sUsed t = true ∧ d.plca t = true ∧ 1 ≤ tget 0 d.husk.t1sNode t ∧ d.fld (Reg.T1S_CFG t) 23 16 * 16 ≤ bits ∧ d.fld (Reg.T1S_CFG t) 7 2 ≤ tget 0 d.husk.t1sNode t)
    (fun d =>
      let e := if tget false d.husk.cycle1 t = true then d else d.inc (Reg.T1S_PLCA_MISS t)
      { e with husk := { e.husk with cycle1 := tset false e.husk.cycle1 t false, t1sNode := tset 0 e.husk.t1sNode t 0 } })) ∧
  (∀ (t : Fin 8) (bits : Nat), Acts (.t1sFrameRx t (.silent bits)) (fun d => d.shellRuns = true ∧ (bits < d.fld (Reg.T1S_CFG t) 23 16 * 16 ∨ tget 0 d.husk.t1sNode t = 0)) (fun d => d)) ∧
  (∀ t : Fin 8, Acts (.t1sFrameRx t .energy) (fun d => d.shellRuns = true ∧ d.t1sUsed t = true) (fun d => (d.setBit (Reg.T1S_STATUS t) 1 true).t1sLink t)) ∧
  (∀ t : Fin 8, Acts (.t1sFrameRx t .own) (fun d => d.shellRuns = true ∧ d.t1sUsed t = true ∧ d.plca t = true ∧ tget 0 d.husk.t1sNode t = 0)
    (fun d =>
      let n := min (d.fld (Reg.T1S_CFG t) 15 12) (tget 0 d.husk.t1sq t)
      (({ d with husk := { d.husk with t1sq := tset 0 d.husk.t1sq t (tget 0 d.husk.t1sq t - n) } } : Dev).t1sTx t n).t1sNext t)) ∧
  (∀ (t : Fin 8) (node : Nat), Acts (.t1sFrameRx t (.opportunity node))
    (fun d => d.shellRuns = true ∧ d.t1sUsed t = true ∧ d.plca t = true ∧ 1 ≤ node ∧ node = tget 0 d.husk.t1sNode t) (fun d => ((if node = 1 then d.hearNode1 t else d).t1sLink t).t1sNext t)) ∧
  (∀ (t : Fin 8) (node : Nat), Acts (.t1sFrameRx t (.opportunity node)) (fun d => d.shellRuns = true ∧ (d.plca t = false ∨ node = 0 ∨ node ≠ tget 0 d.husk.t1sNode t)) (fun d => d)) ∧
  (∀ (t : Fin 8) (x : T1sIn), Acts (.t1sFrameRx t x) (fun d => d.shellRuns = true ∧ d.t1sUsed t = false) (fun d => d)) ∧
  (∀ (t : Fin 8) (energy : Bool), Acts (.t1sLinkLoss t energy) (fun d => d.shellRuns = true ∧ d.t1sLost t energy = true)
    (fun d =>
      let e := (d.setBit (Reg.T1S_STATUS t) 0 false).setBit (Reg.T1S_STATUS t) 1 energy
      if e.passive = true then e else e.linkLost (24 + t.val))) ∧
  Acts .huskFrontEndsRunning (fun d => d.sys.inReset = false ∧ d.domainRuns 2 = true) (fun d =>
    let e : Dev := { d with husk := { d.husk with resetting := false, resetWaits := [] } }
    d.husk.resetWaits.foldl (fun (d : Dev) id => d.finish id St.ok [])
      ((List.range 33).foldl (fun (d : Dev) n => (if (d.lane n).down = true then d.setLane n fun l => { l with down := false } else d).loadNet n) e))

/-- Mesh events (R285 to R310). Choices of the model: log entries 49, 75, 82. -/
def Obligations.MeshEventsComplete : Prop :=
  Acts .meshPeriodStart (fun d => d.meshRuns = true ∧ d.mesh.st = .coordinator ∧ d.mesh.periodAt + 200 ≤ d.osc ∧ d.mesh.leavers = []) (fun d =>
    let m := { d.mesh with period := (d.mesh.period + 1) % 2 ^ 32, count := d.mesh.count + 1, periodAt := d.osc, slotsSent := [], ended := false }
    if (d.setMesh m).meshCan = true then ((d.setMesh m).setMesh { m with lastFrame := (d.setMesh m).meshBeacon }).laneSend 32 .mesh else d.setMesh m) ∧
  Acts .meshPeriodStart (fun d => d.meshRuns = true ∧ d.mesh.st = .member ∧ d.mesh.rescan = false ∧ d.mesh.count ≠ 0 ∧ d.mesh.periodAt + 200 ≤ d.osc)
    (fun d => d.setMesh { d.mesh with period := (d.mesh.period + 1) % 2 ^ 32, count := d.mesh.count + 1, periodAt := d.mesh.periodAt + 200, slotsSent := [], ended := false }) ∧
  (∀ (b : List Byte) (snr : Nat), b.length = 172 → Acts (.meshBeaconRx b snr)
    (fun d => d.meshRuns = true ∧ d.mesh.st ≠ .off ∧ num b 16 4 = d.rn Reg.MESH_NETWORK_ID ∧ d.meshKeyOk = true ∧ d.laneActive 32 = true ∧ num b 0 4 < d.mesh.epoch)
    (fun d => (d.inc Reg.MESH_STALE_CNT).raise Reg.MESH_EVENT 1)) ∧
  (∀ (b : List Byte) (snr : Nat), b.length = 172 → Acts (.meshBeaconRx b snr)
    (fun d => d.meshRuns = true ∧ d.mesh.st ≠ .off ∧ num b 16 4 = d.rn Reg.MESH_NETWORK_ID ∧ d.meshKeyOk = true ∧ d.laneActive 32 = true ∧ d.mesh.epoch ≤ num b 0 4 ∧
      (d.meshHeader b snr (some ((b.drop 20).take 6))).isSome = true)
    (fun d =>
      (((d.meshHeader b snr (some ((b.drop 20).take 6))).getD d).meshTakeMap (meshMapOf (b.drop 36) (num b 8 2) ((b.drop 20).take 6)) (num b 0 4)).meshRefer b)) ∧
  (∀ (b : List Byte) (snr : Nat), 16 ≤ b.length → Acts (.meshSlotFrameRx b snr false) (fun d => d.meshRuns = true ∧ d.mesh.st ≠ .off ∧ d.meshKeyOk = true ∧ d.laneActive 32 = true)
    (fun d => { d with mesh := { d.mesh with lastSack := some false } })) ∧
  (∀ (b : List Byte) (snr : Nat), 16 ≤ b.length → Acts (.meshSlotFrameRx b snr true) (fun d => d.meshRuns = true ∧ d.mesh.st ≠ .off ∧ d.meshKeyOk = true ∧ d.laneActive 32 = true ∧ num b 0 4 < d.mesh.epoch)
    (fun d => (d.inc Reg.MESH_STALE_CNT).raise Reg.MESH_EVENT 1)) ∧
  (∀ (b : List Byte) (snr : Nat), 16 ≤ b.length → num b 11 1 ≠ 0xFE → Acts (.meshSlotFrameRx b snr true)
    (fun d => d.meshRuns = true ∧ d.mesh.st = .member ∧ d.meshKeyOk = true ∧ d.laneActive 32 = true ∧ d.mesh.epoch = num b 0 4 ∧ d.mesh.hold = none)
    (fun d =>
      let e := (d.setMesh (d.mesh.note b snr)).meshRefer b
      (meshMsgs (num b 0 4) 64 (b.drop 16)).foldl (fun (d : Dev) x => d.meshMessage Dev.meshSafeFrame (num b 10 1) (num b 8 2) x)
        (e.setMesh { e.mesh with lastSack := some true }))) ∧
  (∀ (b : List Byte) (snr : Nat), 16 ≤ b.length → num b 11 1 ≠ 0xFE → (num b 15 1).testBit 1 = true → Acts (.meshSlotFrameRx b snr true)
    (fun d => d.meshRuns = true ∧ d.mesh.st = .coordinator ∧ d.meshKeyOk = true ∧ d.laneActive 32 = true ∧ d.mesh.epoch = num b 0 4 ∧ d.mesh.hold = none)
    (fun d =>
      let e := (d.setMesh (d.mesh.note b snr)).meshRefer b
      (meshMsgs (num b 0 4) 64 (b.drop 16)).foldl (fun (d : Dev) x => d.meshMessage Dev.meshSafeFrame (num b 10 1) (num b 8 2) x)
        (e.setMesh { e.mesh with lastSack := some true, leavers := e.mesh.leavers ++ [num b 10 1] }))) ∧
  Acts (.meshSackRx true) (fun d => d.meshRuns = true ∧ d.mesh.flight.isSome = true) (fun d => d.setMesh { d.mesh with flight := none }) ∧
  (∀ f : MeshFlight, Acts (.meshSackRx false) (fun d => d.meshRuns = true ∧ d.mesh.flight = some f ∧ f.tries < d.fld Reg.MESH_CFG 18 16)
    (fun d => d.setMesh { d.mesh with flight := some { f with tries := f.tries + 1 } })) ∧
  (∀ f : MeshFlight, Acts (.meshSackRx false) (fun d => d.meshRuns = true ∧ d.mesh.flight = some f ∧ d.fld Reg.MESH_CFG 18 16 ≤ f.tries)
    (fun d => (d.setMesh { d.mesh with flight := none }).incBy Reg.MESH_DROP_RETRY_CNT f.msgs.length)) ∧
  Acts .meshPeriodEnd (fun d => d.meshRuns = true ∧ d.mesh.st = .member ∧ d.mesh.ended = false ∧ d.mesh.periodAt + 199 ≤ d.osc ∧ d.mesh.refAge = none ∧ 2 ≤ d.mesh.missed)
    (fun d =>
      let e := d.inc Reg.MESH_BEACON_MISS_CNT
      ((e.setMesh ({ d.mesh with ended := true, missed := d.mesh.missed + 1, refAge := none } : Mesh).scan).inc Reg.MESH_RESCAN_CNT).raise Reg.MESH_EVENT 4) ∧
  Acts .meshScanEnd
    (fun d => d.meshRuns = true ∧ d.mesh.st = .scanning ∧ d.mesh.scanFrom + d.fld Reg.MESH_JOIN_CFG 5 0 ≤ d.mesh.count ∧ d.mesh.waitTill ≤ d.mesh.count ∧ d.meshKeyOk = true ∧ d.meshRole = 1 ∧ d.mesh.heardNet = false)
    (fun d => d.setMesh (d.mesh.lead 0 (d.mesh.storedEpoch + 1) d.meshIdent MeshMap.empty)) ∧
  (∀ (ident : List Byte) (parent n : Nat), Acts (.meshJoinReq ident parent)
    (fun d => d.meshRuns = true ∧ d.mesh.st = .coordinator ∧ d.meshKeyOk = true ∧ (∀ x ∈ d.mesh.idents, x.1 ≠ ident) ∧ (List.range 64).find? (fun n => !d.mesh.map.used n) = some n ∧ d.mesh.map.parentOf n ≠ parent ∧ d.mesh.map.used parent = true ∧ (d.mesh.map.setParent n parent).shallow = true)
    (fun d =>
      let m := { d.mesh with idents := (ident, n) :: d.mesh.idents.filter (fun x => x.2 ≠ n), map := (d.mesh.map.setParent n parent).bump,
                             nbrs := tset MeshNbr.none d.mesh.nbrs n { d.mesh.nbr n with heard := d.mesh.count } }
      d.setMesh (m.originate 9 0 0xFF (padTo 6 ident ++ [byte n, 0] ++ leN m.epoch 4)).1)) ∧
  (∀ (ident : List Byte) (id epoch : Nat), id < 64 → Acts (.meshJoinAck ident id epoch)
    (fun d => d.meshRuns = true ∧ d.mesh.st = .joining ∧ d.meshKeyOk = true ∧ padTo 6 ident = padTo 6 d.meshIdent)
    (fun d =>
      let m := (d.mesh.setEpoch epoch).renumber id
      d.setMesh { m with st := .member, parent := m.joinParent, pathCost := m.costVia m.joinParent, missed := 0, lastChange := m.count })) ∧
  Acts .meshJoinTimeout (fun d => d.meshRuns = true ∧ d.mesh.st = .joining ∧ d.mesh.joinSent ≠ 0 ∧ d.mesh.joinSent + 16 ≤ d.mesh.count ∧ 4 < d.mesh.joinTries)
    (fun d => d.setMesh d.mesh.scan) ∧
  Acts .meshJoinTimeout (fun d => d.meshRuns = true ∧ d.mesh.st = .joining ∧ d.mesh.joinSent = 0 ∧ d.mesh.joinAt + 16 ≤ d.mesh.count ∧ 4 ≤ d.mesh.joinTries)
    (fun d => d.setMesh d.mesh.scan) ∧
  (∀ n : Fin 64, Acts (.meshNodeTimeout n)
    (fun d => d.meshRuns = true ∧ d.mesh.st = .coordinator ∧ d.mesh.map.used n = true ∧ n.val ≠ d.mesh.node ∧ (d.mesh.nbr n).heard + d.fld Reg.MESH_NODE_TIMEOUT 7 0 ≤ d.mesh.count)
    (fun d => d.meshRemove n)) ∧
  (∀ c : Nat, Acts .meshBackupPromotion
    (fun d => d.meshRuns = true ∧ d.mesh.st = .scanning ∧ d.meshRole = 2 ∧ d.meshKeyOk = true ∧
      d.mesh.quietFrom + d.fld Reg.MESH_JOIN_CFG 5 0 + 4 * d.meshRank ≤ d.mesh.count ∧ d.mesh.map.coord = some c ∧ d.mesh.node < 64)
    (fun d => ((d.setMesh (d.mesh.lead d.mesh.node (d.mesh.epoch + 1) d.meshIdent ({ d.mesh.map with reassigned := 2 ^ c }.setParent c 0xFF))).inc Reg.MESH_PROMOTE_CNT).raise Reg.MESH_EVENT 24)) ∧
  (∀ a : MeshAct, Acts .meshActionExecute (fun d => d.huskRuns = true ∧ d.taskRuns = true ∧ d.mesh.actions = [a] ∧ a.ready d.mesh d.osc = true)
    (fun d => ({ d with mesh := { d.mesh with actions := [] } } : Dev).meshAct a)) ∧
  (∀ i : Fin 64, Acts (.meshTransmitOpportunity (.slot i))
    (fun d => d.meshRuns = true ∧ d.slotOpen i = true ∧ (d.meshLocal Dev.meshSafeFrame).slotOpen i = true ∧ (d.meshLocal Dev.meshSafeFrame).mesh.leaving = true)
    (fun d =>
      let e := (d.mesh.own.filter fun x => x.dst = d.mesh.node).foldl (fun (d : Dev) x => d.meshDeliver Dev.meshSafeFrame x) (d.setMesh { d.mesh with own := d.mesh.own.filter fun x => !decide (x.dst = d.mesh.node) })
      ((e.setMesh { e.mesh.stop with lastFrame := e.mesh.header i 2 }).inc Reg.MESH_TX_FRAMES).laneSend 32 .mesh)) ∧
  Acts (.meshTransmitOpportunity .contention) (fun d => d.meshRuns = true ∧ d.mesh.st = .joining ∧ d.mesh.joinAt = d.mesh.count ∧ d.mesh.joinSent ≠ d.mesh.count ∧ d.mesh.hold = none ∧ d.mesh.periodAt ≤ d.osc ∧
      198 ≤ d.meshOffset ∧ d.meshOffset ≤ 199 ∧ d.meshCan = true)
    (fun d =>
      let req := d.mesh.header 0xFE 0 ++ (d.meshIdent ++ [byte d.mesh.joinParent, byte (d.fld Reg.MESH_CFG 1 0)])
      (d.setMesh { d.mesh with joinSent := d.mesh.count, joinTries := d.mesh.joinTries + 1, lastFrame := req }).laneSend 32 .mesh)


/-! ### The events of the twin, the tag port, the keys, the memories, power and clocks -/

/-- Twin events (R397 to R421). Choices of the model: log entries 10, 63, 64, 84. -/
def Obligations.TwinEventsComplete : Prop :=
  (∀ n : Fin 2, Acts (.podTrainingComplete (.lane n)) (fun d => d.shellRuns = true ∧ d.twinEn = true) (fun d =>
    let e := d.setBit Reg.TWIN_POD_STATUS n true
    if d.fld Reg.TWIN_POD_STATUS 1 0 ≠ 3 ∧ e.fld Reg.TWIN_POD_STATUS 1 0 = 3 then e.setTwin fun t => { t with trainAt := d.pip } else e)) ∧
  Acts (.podTrainingComplete .deskew) (fun d => d.shellRuns = true ∧ d.twinEn = true ∧ d.fld Reg.TWIN_POD_STATUS 1 0 = 3) (fun d => d.setTwin fun t => { t with deskew := true, exchOut := some d.ownPeer }) ∧
  (∀ p : Peer, Acts (.podTrainingComplete (.exchange p)) (fun d => d.shellRuns = true ∧ (d.fld Reg.TWIN_POD_STATUS 1 0 ≠ 3 ∨ d.twin.deskew = false)) (fun d => d)) ∧
  (∀ p : Peer, Acts (.podTrainingComplete (.exchange p)) (fun d => d.shellRuns = true ∧ d.twinEn = true ∧ d.twinState = 2 ∧ d.fld Reg.TWIN_POD_STATUS 1 0 = 3 ∧ d.twin.deskew = true) (fun d =>
    let e := ((d.setTwin fun t => { t with peer := some p, peerState := p.state, podHeard := true, podSilent := 0 }).wn Reg.TWIN_PEER_EPOCH p.epoch).setFld Reg.TWIN_POD_STATUS 2 0 7
    e.twinCause (e.syncCause p))) ∧
  (∀ lane : Fin 2, Acts (.podLaneLockLoss lane) (fun d => d.shellRuns = true ∧ d.twinEn = true ∧ d.rbit Reg.TWIN_POD_STATUS lane = true) (fun d =>
    (d.setTwin fun t => { t with deskew := false, trainAt := d.pip }).wn Reg.TWIN_POD_STATUS (min 255 (d.fld Reg.TWIN_POD_STATUS 15 8 + 1) * 256))) ∧
  (∀ (f : PodOut) (crc : Nat), podCrc f ≠ crc → Acts (.podFrameRx { body := f, crc := crc }) (fun d => d.shellRuns = true ∧ d.twinEn = true ∧ d.rbit Reg.TWIN_POD_STATUS 2 = true) (fun d => d.inc Reg.TWIN_POD_CRC_ERR_CNT)) ∧
  (∀ f : PodOut, Acts (.podFrameRx { body := f, crc := podCrc f }) (fun d => d.shellRuns = true ∧ d.twinEn = true ∧ d.rbit Reg.TWIN_POD_STATUS 2 = true ∧ f.epoch < d.rn Reg.TWIN_EPOCH)
    (fun d => (d.inc Reg.TWIN_STALE_CNT).raise Reg.TWIN_EVENT 64)) ∧
  (∀ f : PodOut, Acts (.podFrameRx { body := f, crc := podCrc f }) (fun d => d.shellRuns = true ∧ d.twinEn = true ∧ d.rbit Reg.TWIN_POD_STATUS 2 = true ∧ d.rn Reg.TWIN_EPOCH ≤ f.epoch ∧ d.twinState = 2)
    (fun d =>
      let e := d.setTwin fun t => { t with podHeard := true, peerState := f.state, peer := t.peer.map fun p => { p with aligned := f.aligned, state := f.state, epoch := f.epoch } }
      (((((e.partnerHere).setBit Reg.TWIN_STATUS 7 true).wn Reg.TWIN_PEER_EPOCH f.epoch).wn Reg.TWIN_EPOCH f.epoch).takeCopy (if f.short = true then none else f.copy)).syncShow)) ∧
  Acts .kcmpMismatchSet (fun d => d.shellRuns = true) (fun d => (List.range 32).foldl (fun (d : Dev) m =>
    if d.fld Reg.TWIN_KCMP_CFG 31 20 ≤ (tget (0, 0) d.twin.runs m).1 ∧ d.rbit Reg.TWIN_KCMP_MASK m = false then
      ((d.setBit Reg.TWIN_KCMP_MASK m true).raise Reg.TWIN_EVENT 128).log 72 7 [byte m] else d) d) ∧
  Acts .twinLiveToggle (fun d => d.twinEn = true ∧ d.mode ≠ .boot ∧ d.sys.inReset = false ∧ d.domainRuns 0 = true) (fun d => d.setTwin fun t => { t with liveOut := !t.liveOut }) ∧
  (∀ s : State, s.dev.shellRuns = true → 3 ≤ s.dev.twin.podSilent → 3 ≤ s.dev.twin.liveSilent → s.dev.twinState = 3 →
    let d := s.dev
    let e := (((d.setBit Reg.TWIN_STATUS 6 false).setTwin fun t => { t with peerState := 0 }).twinActivate (d.rn Reg.TWIN_EPOCH + 1)).emptyRings.setTwin fun t => { t with promotedAt := some d.pip, arpAt := some d.pip, stale := t.inflight.map (·.cmd), inflight := [] }
    exec .twinSilencePromote s = .next ({ s with dev := e } : State).staleReplies.settle) ∧
  (∀ p : Nat, Acts .promotedHubStopRampdown
    (fun d => d.shellRuns = true ∧ d.twin.promotedAt = some p ∧ d.pip ≤ p + 40 ∧ d.rbit Reg.SAFE_STATUS 3 = true ∧ d.rbit Reg.SAFE_STATUS 2 = false)
    (fun d => (List.range 32).foldl (fun (d : Dev) n => if d.ost n = .cableCheck ∨ d.ost n = .precharge ∨ d.ost n = .energy then d.rampdown n 14 else d)
      (d.setTwin fun t => { t with promotedAt := none }))) ∧
  Acts .podFaultDetect (fun d => d.shellRuns = true ∧ d.twinEn = true ∧ 3 ≤ d.twin.podSilent ∧ d.twin.liveSilent = 0 ∧ d.twinState = 3)
    (fun d => ((((d.inc Reg.TWIN_POD_FAULT_CNT).raise Reg.TWIN_EVENT 4).degrade 5).twinCause 5).twinSyncing) ∧
  Acts .partnerSilent (fun d => d.shellRuns = true ∧ d.twinState = 4 ∧ 3 ≤ d.twin.podSilent ∧ 3 ≤ d.twin.liveSilent)
    (fun d => ((d.setBit Reg.TWIN_STATUS 6 false).setBit Reg.TWIN_STATUS 5 false).setTwin fun t => { t with peerState := 0 }) ∧
  Acts .twinCopyLag (fun d => d.shellRuns = true ∧ d.twinState = 3 ∧ 8 ≤ d.twin.lag) (fun d => (d.twinCause 6).twinSyncing) ∧
  (∀ c : CopyImage, c.handover = false → Acts .twinCopyApply (fun d => d.shellRuns = true ∧ d.twin.copy = some c ∧ d.twin.copyAt + 1 = d.pip ∧ d.lsw.lastFrame ≠ d.osc ∧ (d.twinState = 2 ∨ d.twinState = 3)) (fun d =>
    let lanes := (List.range 33).foldl (fun (t : Tab HLane) n => tset HLane.reset t n (d.laneCopy n (tget LaneCopy.reset c.lanes n))) d.husk.lanes
    let conns := (List.range 8).foldl (fun (t : Tab SConn) i => if wbit (d.connWord i 0) 30 = true then tset SConn.reset t i { tget SConn.reset t i with seq := tget 0 c.seqs i } else t) d.safe.conns
    let e : Dev := { d with regs := mergeCopied d.regs c.regs, shadow := mergeCopied d.shadow c.shadow, out := c.out, bill := c.bill, mesh := { c.mesh with periodAt := d.osc - (c.osc - c.mesh.periodAt) }, husk := { d.husk with lanes := lanes },
                            disp := { d.disp with active := tnorm 0 c.active, staging := tnorm 0 c.staging }, tag := { d.tag with fram := tnorm 0 c.fram }, safe := { d.safe with conns := conns } }
    let f := (List.range 32).foldl (fun (x : Dev) n => x.guardCopied d n) e
    let g := c.kern.foldl (fun (d : Dev) k => d.copyBreak k.2) f
    (if g.twinState = 2 then (List.range 32).foldl (fun (d : Dev) n => d.wn (Reg.OUT_CP_DUTY n) 0) g else { g with sys := { g.sys with pilots := true } }).setTwin fun t => { t with copy := none, run := if c.pip = t.copyAt then t.run + 1 else 0, bulk := t.bulk || c.bulk, lag := 0, inflight := c.flights })) ∧
  (∀ p : Peer, Acts .twinSyncComplete
    (fun d => d.shellRuns = true ∧ d.twin.peer = some p ∧ d.twinState = 2 ∧ d.syncCause p = 0 ∧ d.twin.bulk = true ∧ 400 ≤ d.twin.run ∧ d.rbit Reg.TWIN_POD_STATUS 2 = true)
    (fun d => ((((d.twinCause 0).twinTo 3).undegrade 5).raise Reg.TWIN_EVENT 8).joinKernel)) ∧
  Acts .twinSearchTimeout
    (fun d => d.shellRuns = true ∧ d.twinState = 1 ∧ d.twin.searchAt + (if d.roleB = true then 2 else 1) * d.fld Reg.TWIN_CFG 15 0 ≤ d.pip ∧ d.rbit Reg.TWIN_POD_STATUS 2 = false ∧ d.twin.notice = none ∧ d.twin.lastEdge = none)
    (fun d => (d.twinActivate (d.twin.stored + 1)).coldOutlets) ∧
  Acts .epochNoticeTx
    (fun d => d.shellRuns = true ∧ d.ethRuns = true ∧ d.twinEn = true ∧ d.rbit Reg.TWIN_CFG 17 = true ∧ d.twin.noticeAt + 40 ≤ d.pip)
    (fun d => d.setTwin fun t => { t with noticeAt := d.pip, noticeOut := d.notice, noticeTo := some (d.rn Reg.TWIN_PEER_IP, d.fld Reg.TWIN_UDP_PORT 15 0) }) ∧
  (∀ (ip : BitVec 32) (b : List Byte), b.length = 16 → b.take 4 = [0x4B, 0x42, 0x54, 0x4E] → num b 12 4 = (crc32c (b.take 12)).toNat → Acts (.epochNoticeRx ip b)
    (fun d => d.shellRuns = true ∧ d.ethRuns = true ∧ d.twinEn = true ∧ d.rbit Reg.TWIN_CFG 17 = true ∧ ip.toNat = d.rn Reg.TWIN_PEER_IP ∧ d.rn Reg.TWIN_EPOCH ≤ num b 4 4 ∧ d.twinState ≠ 4)
    (fun d => (((d.setTwin fun t => { t with notice := some (d.pip, num b 8 1), noticeEpoch := max t.noticeEpoch (num b 4 4) }).wn Reg.TWIN_PEER_EPOCH (num b 4 4)).setBit Reg.TWIN_STATUS 9 true))) ∧
  Acts .twinLiveInEdge (fun d => d.shellRuns = true ∧ d.twinEn = true)
    (fun d => ((d.setTwin fun t => { t with liveHeard := true, lastEdge := some d.pip }).setBit Reg.TWIN_STATUS 8 true).partnerHere)

/-- Tag, FRAM and keypad events (R427 to R442). Choices of the model: log entries 10, 14, 61, 84. -/
def Obligations.TagEventsComplete : Prop :=
  (∀ (cards : List CardSeen) (start : Nat), Acts (.readerPollCycle cards)
    (fun d => d.shellRuns = true ∧ d.iface = true ∧ d.rbit Reg.TAG_CTRL 0 = true ∧ d.mode ≠ .boot ∧ d.tag.cycle = some start ∧ (d.tag.here ≠ [] ∨ start + 20 ≤ d.pip)) (fun d =>
      let seen := (sortBy (fun (c : CardSeen) => uidKey c.uid) (cards.filter fun c => (c.uid.length = 4 || c.uid.length = 7 || c.uid.length = 10) && !(d.tag.fe.field && c.uid = leN d.tag.fe.uid 4))).foldl
        (fun (l : List CardSeen) c => if l.any (·.uid = c.uid) then l else l ++ [c]) []
      let found := seen.take (d.fld Reg.TAG_RDR_CFG 27 24)
      let uids := found.map fun (c : CardSeen) => c.uid
      let new := uids.filter fun u => !d.tag.here.any (·.uid = u)
      let random := (new.filter fun u => u.length = 4 && u.head? = some 0x08).length
      let kept := d.tag.here.filterMap fun h => if uids.contains h.uid then some { h with missed := 0 } else if h.missed + 1 < 2 then some { h with missed := h.missed + 1 } else none
      let here := kept ++ (new.map fun u => { uid := u, missed := 0, offered := false })
      let offer : Option Bytes := match uids with
        | [u] => if !(u.length = 4 && u.head? = some 0x08) && here.any (fun h => h.uid = u && !h.offered) then some u else none
        | _ => none
      let marked := here.map fun h => if some h.uid = offer then { h with offered := true } else h
      let e := ((d.inc Reg.TAG_RDR_POLL_CNT).incBy Reg.TAG_RDR_COLL_CNT (collisions (seen.map fun (c : CardSeen) => uidKey c.uid) found.length)).incBy Reg.TAG_RDR_RANDOM_CNT random
      let e := if random = 0 then e else e.raise Reg.TAG_EVENT 4
      let e := if 1 < uids.length then e.raise Reg.TAG_EVENT 8 else e
      let list := found.map fun (c : CardSeen) => { c with offered := marked.any fun h => h.uid = c.uid && h.offered }
      let g := (e.setTag fun t => { t with here := marked, list := list, cycle := none, pollAt := start + e.fld Reg.TAG_RDR_CFG 11 0 }).rdrShow
      match offer with
      | some u => ((g.inc Reg.TAG_RDR_CARD_CNT).raise Reg.TAG_EVENT 1).emit (.present { kind := 1, len := u.length, bytes := u, acct := 0xFFFF } 1)
      | none => g)) ∧
  (∀ r : BitVec 24, Acts (.tagActivation r) (fun d => d.tag.fe.ant = true ∧ d.rbit Reg.TAG_CTRL 1 = true)
    (fun d => (d.tagLeave.setFe fun f => { f with uid := 8 + r.toNat % 2 ^ 24 * 256, field := true }).inc Reg.TAG_EMU_ACT_CNT)) ∧
  Acts (.tagApdu .wake) (fun d => d.tag.fe.ant = true ∧ d.rbit Reg.TAG_CTRL 1 = true ∧ d.tag.fe.field = true) (fun d => d.setFe fun f => { f with out := [.plain [0x04, 0x00]] }) ∧
  Acts (.tagApdu .select) (fun d => d.tag.fe.ant = true ∧ d.rbit Reg.TAG_CTRL 1 = true ∧ d.tag.fe.field = true) (fun d => d.setFe fun f => { f with out := [.plain [0x20]] }) ∧
  (∀ (fsdi : Nat) (cid : Nat), fsdi ≤ 8 → Acts (.tagApdu (.rats fsdi cid)) (fun d => d.tag.fe.ant = true ∧ d.rbit Reg.TAG_CTRL 1 = true ∧ d.tag.fe.field = true)
    (fun d => d.setFe fun f => { f with session := true, fsd := frameSize fsdi, out := [.plain (tagAts d.emuCfg)] })) ∧
  (∀ (cid nad : Bool) (a : List Byte), (cid = true ∨ nad = true) → Acts (.tagApdu (.apdu cid nad a)) (fun _ => True) (fun d => d)) ∧
  Acts (.tagApdu .wtx) (fun d => d.tag.fe.ant = true ∧ d.rbit Reg.TAG_CTRL 1 = true ∧ d.tag.fe.field = true ∧ d.tag.accs.any FramAcc.isField = true ∧ d.tag.hold.isSome = true)
    (fun d => (d.setFe fun f => { f with out := [.wtx 5] }).inc Reg.TAG_EMU_WTX_CNT) ∧
  (∀ a : List Byte, num a 0 1 ≠ 0 → Acts (.tagApdu (.apdu false false a))
    (fun d => d.tag.fe.ant = true ∧ d.rbit Reg.TAG_CTRL 1 = true ∧ d.tag.fe.field = true ∧ d.tag.fe.session = true ∧ d.tag.accs.any FramAcc.isField = false)
    (fun d => d.setFe fun f => { f with out := tagBlocks f.fsd [0x6E, 0x00] })) ∧
  (∀ a : List Byte, num a 0 1 = 0 → num a 1 1 = 0xB0 → beNat ((a.drop 2).take 2) ≤ 0x3FFF → Acts (.tagApdu (.apdu false false a))
    (fun d => d.tag.fe.ant = true ∧ d.rbit Reg.TAG_CTRL 1 = true ∧ d.tag.fe.field = true ∧ d.tag.fe.session = true ∧ d.tag.fe.selected = true ∧ d.tag.hold = none ∧ d.tag.accs = [] ∧ d.tag.serving = false)
    (fun d =>
      let n := if num a 4 1 = 0 ∨ 250 < num a 4 1 then 250 else num a 4 1
      let off := beNat ((a.drop 2).take 2)
      d.setFe fun f => { f with out := tagBlocks f.fsd (framRead d.tag.fram off (min n (0x4000 - off)) ++ [0x90, 0x00]) })) ∧
  (∀ lines h : Nat, Acts (.framHoldCut lines) (fun d => d.tag.hold = some h ∧ h + 80 ≤ d.pip)
    (fun d =>
      let e := match d.tag.serving, d.tag.accs with
        | true, .write _ off data :: _ => d.setTag fun t => { t with fram := framWrite t.fram off (data.take (64 * max 1 lines - off % 64)) }
        | _, _ => d
      let busy := (e.tag.accs.filter FramAcc.host).foldl (fun (d : Dev) a => match a with
        | .read id _ _ => d.finish id 0x11 []
        | .write id _ _ => d.finish id 0x11 []
        | .passport _ => d
        | .field _ => d) e
      let stays := e.tag.serving && (e.tag.accs.head?.any fun a => !a.host)
      let left := busy.tag.accs.filter fun a => !a.host
      let g := busy.setTag fun t => { t with accs := if stays then left else left.filter FramAcc.isField ++ left.filter (fun a => !a.isField), serving := stays }
      ((((g.inc Reg.TAG_FRAM_CUT_CNT).raise Reg.TAG_EVENT 16).setTag fun t => { t with hold := none, cut := true }).framShow).framServe)) ∧
  (∀ (lines h id off : Nat) (data : List Byte), Acts (.framHoldCut lines) (fun d => d.tag.hold = some h ∧ h + 80 ≤ d.pip ∧ d.tag.serving = true ∧ d.tag.accs = [.write id off data])
    (fun d =>
      let e := (d.setTag fun t => { t with fram := framWrite t.fram off (data.take (64 * max 1 lines - off % 64)) }).finish id 0x11 []
      ((((e.setTag fun t => { t with accs := [], serving := false }).inc Reg.TAG_FRAM_CUT_CNT).raise Reg.TAG_EVENT 16).holdEnd true))) ∧
  Acts .passportWrite (fun d => d.shellRuns = true ∧ d.passportStale = true ∧ d.tag.accs = []) (fun d => (d.setTag fun t => { t with accs := [.passport none] }).framServe) ∧
  (∀ keys : List (Fin 16), 3 ≤ keys.length → Acts (.keypadScan keys) (fun d => d.shellRuns = true ∧ d.iface = true ∧ d.rbit Reg.TAG_CTRL 2 = true ∧ d.mode ≠ .boot ∧ d.tag.scanAt ≤ d.pip)
    (fun d => (d.setTag fun t => { t with scanAt := d.pip + 8 }).inc Reg.TAG_KP_GHOST_CNT)) ∧
  (∀ k : Fin 16, Acts (.keypadScan [k])
    (fun d => d.shellRuns = true ∧ d.iface = true ∧ d.rbit Reg.TAG_CTRL 2 = true ∧ d.mode ≠ .boot ∧ d.tag.scanAt ≤ d.pip ∧ d.tag.down = none ∧ d.fld Reg.TAG_KP_CFG 3 0 ≤ tget 0 d.tag.agree k + 1)
    (fun d => (d.setTag fun t => { t with scanAt := d.pip + 8, down := some k.val, agree := [] }).kpEvent k true)) ∧
  (∀ k : Fin 16, Acts (.keypadScan [k])
    (fun d => d.shellRuns = true ∧ d.iface = true ∧ d.rbit Reg.TAG_CTRL 2 = true ∧ d.mode ≠ .boot ∧ d.tag.scanAt ≤ d.pip ∧ d.tag.down = none ∧ tget 0 d.tag.agree k + 1 < d.fld Reg.TAG_KP_CFG 3 0)
    (fun d => d.setTag fun t => { t with scanAt := d.pip + 8, agree := tset 0 [] k (tget 0 t.agree k + 1) })) ∧
  Acts (.keypadScan [])
    (fun d => d.shellRuns = true ∧ d.iface = true ∧ d.rbit Reg.TAG_CTRL 2 = true ∧ d.mode ≠ .boot ∧ d.tag.scanAt ≤ d.pip ∧ d.tag.down = none)
    (fun d => d.setTag fun t => { t with scanAt := d.pip + 8, agree := [] }) ∧
  (∀ (k : Nat) (keys : List (Fin 16)), keys.length < 3 → (∀ x ∈ keys, x.val ≠ k) → Acts (.keypadScan keys)
    (fun d => d.shellRuns = true ∧ d.iface = true ∧ d.rbit Reg.TAG_CTRL 2 = true ∧ d.mode ≠ .boot ∧ d.tag.scanAt ≤ d.pip ∧ d.tag.down = some k ∧ d.fld Reg.TAG_KP_CFG 3 0 ≤ tget 0 d.tag.agree k + 1)
    (fun d => (d.setTag fun t => { t with scanAt := d.pip + 8, down := none, agree := [] }).kpEvent k false)) ∧
  Acts .keypadEntryTimeout (fun d => d.shellRuns = true ∧ d.tag.entry ≠ 0 ∧ d.tag.keyAt + d.fld Reg.TAG_KP_CFG 15 8 * 4000 < d.pip) (fun d => (d.setTag fun t => { t with entry := 0, digits := [] }).kpShow) ∧
  Acts .keypadSelectionExpiry (fun d => d.shellRuns = true ∧ d.fld Reg.TAG_KP_STATUS 23 16 ≠ 0xFF ∧ d.tag.selTill ≤ d.pip) (fun d => d.setFld Reg.TAG_KP_STATUS 23 16 0xFF) ∧
  (∀ (id off len : Nat) (rest : List FramAcc), Acts .framAccessComplete (fun d => d.tag.serving = true ∧ d.tag.accs = .read id off len :: rest)
    (fun d => ((d.setTag fun t => { t with accs := rest, serving := false }).finish id St.ok (framRead d.tag.fram off len)).framServe)) ∧
  (∀ (id off : Nat) (data : List Byte) (rest : List FramAcc), Acts .framAccessComplete (fun d => d.tag.serving = true ∧ d.tag.accs = .write id off data :: rest)
    (fun d => ((d.setTag fun t => { t with accs := rest, serving := false, fram := framWrite t.fram off data }).finish id St.ok []).framServe)) ∧
  (∀ e : CardExch, e.stage = .wupa → Acts (.cardAnswer .atqa) (fun d => d.shellRuns = true ∧ d.tag.exch = some e ∧ d.pip < e.start + 392 ∧ d.pip < e.since + 4)
    (fun d => d.setTag fun t => { t with exch := some { e with stage := .select, since := d.pip }, rdrOut := t.rdrOut ++ [.select e.uid] })) ∧
  (∀ e : CardExch, e.stage = .select → Acts (.cardAnswer .sak) (fun d => d.shellRuns = true ∧ d.tag.exch = some e ∧ d.pip < e.start + 392 ∧ d.pip < e.since + 4)
    (fun d => d.setTag fun t => { t with exch := some { e with stage := .rats, since := d.pip }, rdrOut := t.rdrOut ++ [.rats] })) ∧
  (∀ (r : List Byte) (e : CardExch), e.stage = .blocks → e.apdu = [] → e.got.length + r.length ≤ 256 → Acts (.cardAnswer (.block false r)) (fun d => d.shellRuns = true ∧ d.tag.exch = some e ∧ d.waitOver e = false)
    (fun d => ((d.setTag fun t => { t with exch := none, rdrOut := t.rdrOut ++ [.deselect], pollAt := d.pip }).finish e.id St.ok (e.got ++ r)).rdrShow)) ∧
  (∀ (r : List Byte) (e : CardExch), e.stage = .blocks → e.apdu = [] → e.got.length + r.length ≤ 256 → Acts (.cardAnswer (.block true r)) (fun d => d.shellRuns = true ∧ d.tag.exch = some e ∧ d.waitOver e = false)
    (fun d => d.setTag fun t => { t with exch := some { e with got := e.got ++ r, mult := 1, nak := false, since := d.pip }, rdrOut := t.rdrOut ++ [.ack] })) ∧
  (∀ (a : CardIn) (e : CardExch), Acts (.cardAnswer a) (fun d => d.shellRuns = true ∧ d.tag.exch = some e ∧ e.start + 392 ≤ d.pip)
    (fun d => (((d.setTag fun t => { t with exch := none, pollAt := d.pip }).finish e.id St.f1 []).rdrShow.inc Reg.TAG_RDR_TIMEOUT_CNT).raise Reg.TAG_EVENT 2)) ∧
  (∀ e : CardExch, Acts .cardWaitExpiry (fun d => d.shellRuns = true ∧ d.tag.exch = some e ∧ e.start + 392 ≤ d.pip)
    (fun d => (((d.setTag fun t => { t with exch := none, pollAt := d.pip }).finish e.id St.f1 []).rdrShow.inc Reg.TAG_RDR_TIMEOUT_CNT).raise Reg.TAG_EVENT 2)) ∧
  Acts .tagFieldDrop (fun _ => True)
    (fun d => d.tagLeave.setFe fun f => { f with uid := 0, field := false })

/-- Keys, updates, memories and flash (R478, R486, R495, R503, R509 to R524, R544). Choices of the model: log entries 33, 34, 35, 39, 50, 67, 78, 80, 86, 87. -/
def Obligations.MaintenanceEventsComplete : Prop :=
  (∀ (t : BitVec 5) (away : Nat), Acts (.burrLineFire { tripped := t, away := away }) (fun d => t.toNat &&& d.fld Reg.KEY_TAMPER_ARMED 4 0 ≠ 0)
    (fun d =>
      let e := if d.twinState = 4 ∧ d.inSync = true then d.setTwin fun u => { u with tamper := 1 } else d
      (e.burr (t.toNat &&& d.fld Reg.KEY_TAMPER_ARMED 4 0) ((e.kern.now + if e.rbit Reg.SYS_POWER_STATUS 5 = true ∧ e.kern.pfail = true then away else 0) / 1000000)).kernDo fun k =>
        if k.mfault ≠ 5 ∧ k.pfail = false then ({ k.cutSigning with signer := 2 } : Kernel).audit 0x51 4 0 d.pip [] else { k with signer := 2, tamperDue := true })) ∧
  (∀ t : Nat, Acts .fwuTrialExpiry (fun d => d.shellRuns = true ∧ d.trial = true ∧ d.fwu.trialAt = some t ∧ t + d.fld Reg.FWU_CFG 23 0 ≤ d.pip ∧ d.sys.resetReq = none)
    (fun d => d.fwuActivate d.fwu.prev true 3)) ∧
  Acts (.mbistRowTest none) (fun d => d.shellRuns = true ∧ d.rbit Reg.MEM_CTRL 1 = true ∧ d.mem.rowAt ≤ d.pip) (fun d =>
    let m := d.fld Reg.MEM_MBIST_POS 29 28
    let row := d.fld Reg.MEM_MBIST_POS 16 0
    let next := if row + 1 < memRows m then m * 2 ^ 28 + row + 1 else (m + 1) % 3 * 2 ^ 28
    ((d.scrubRow m row).wn Reg.MEM_MBIST_POS next).setMem fun u => { u with rowAt := ((d.scrubRow m row).wn Reg.MEM_MBIST_POS next).pip + ((d.scrubRow m row).wn Reg.MEM_MBIST_POS next).fld Reg.MEM_MBIST_CFG 7 0 }) ∧
  (∀ (w : Fin 16) (b : Fin 72), Acts (.mbistRowTest (some (w, b))) (fun d => d.shellRuns = true ∧ d.rbit Reg.MEM_CTRL 1 = true ∧ d.mem.rowAt ≤ d.pip) (fun d =>
    let m := d.fld Reg.MEM_MBIST_POS 29 28
    let row := d.fld Reg.MEM_MBIST_POS 16 0
    let next := if row + 1 < memRows m then m * 2 ^ 28 + row + 1 else (m + 1) % 3 * 2 ^ 28
    (((d.scrubRow m row).wn Reg.MEM_MBIST_POS next).setMem fun u => { u with rowAt := ((d.scrubRow m row).wn Reg.MEM_MBIST_POS next).pip + ((d.scrubRow m row).wn Reg.MEM_MBIST_POS next).fld Reg.MEM_MBIST_CFG 7 0 }).rowFail { spare := false, mem := m, row := row, word := w.val, bit := b.val })) ∧
  (∀ (sig : Word) (bit : Nat), Acts (.lbistChainTest true sig bit)
    (fun d => d.shellRuns = true ∧ d.rbit Reg.MEM_CTRL 0 = true ∧ d.mem.waits = true ∧ d.mem.slice ≠ some d.pip ∧ d.fld Reg.MEM_LBIST_POS 11 0 < 2399 ∧ sig ≠ Config.lbistSignature (d.fld Reg.MEM_LBIST_POS 11 0))
    (fun d =>
      let c := d.fld Reg.MEM_LBIST_POS 11 0
      let e := (d.wn Reg.MEM_LBIST_POS (c + 1)).setMem fun u => { u with waits := false, slice := some (d.wn Reg.MEM_LBIST_POS (c + 1)).pip }
      ((e.wn Reg.MEM_LBIST_FAIL (c * 65536 + bit % 2048)).wr Reg.MEM_LBIST_SIG sig).setMem fun u =>
        { u with retest := u.retest.filter (· ≠ c) ++ [c], bad := u.bad.map fun (x : Nat × Bool) => if x.1 = c then (c, false) else x })) ∧
  (∀ (sig : Word) (bit : Nat), Acts (.lbistChainTest false sig bit)
    (fun d => d.shellRuns = true ∧ d.rbit Reg.MEM_CTRL 0 = true ∧ d.mem.waits = false ∧ d.mem.slice ≠ some d.pip ∧ d.pip % max 1 (d.fld Reg.MEM_LBIST_CFG 15 0) = 0)
    (fun d => (d.inc Reg.MEM_LBIST_DEFER_CNT).setMem fun u => { u with waits := true })) ∧
  (∀ (x : LbistSig) (c : Nat) (rest : List Nat), x.sig ≠ Config.lbistSignature c → Acts (.lbistRetest x) (fun d => d.shellRuns = true ∧ d.mem.retest = c :: rest) (fun d =>
    let e := (((d.inc Reg.MEM_LBIST_FAIL_CNT).setMem fun u => { u with retest := rest }).wn Reg.MEM_LBIST_FAIL (c * 65536 + x.bit % 2048)).wr Reg.MEM_LBIST_SIG x.sig
    (((e.setMem fun u => { u with bad := u.bad.filter (fun y => y.1 ≠ c) ++ [(c, false)] }).setBit Reg.MEM_STATUS 0 true).raise Reg.MEM_EVENT 4).degrade 7)) ∧
  (∀ (x : LbistSig) (c : Nat) (rest : List Nat), x.sig = Config.lbistSignature c → Acts (.lbistRetest x) (fun d => d.shellRuns = true ∧ d.mem.retest = c :: rest) (fun d =>
    let e := (d.inc Reg.MEM_LBIST_FAIL_CNT).setMem fun u => { u with retest := rest }
    e.log 77 0xFF (e.regBytes [Reg.MEM_LBIST_FAIL, Reg.MEM_LBIST_SIG]))) ∧
  (∀ (m : Fin 3) (a : Nat), Acts (.sramCorrectableError m a) (fun _ => True) (fun d => (d.inc (Reg.MEM_RAM_CE_CNT m)).wn (Reg.MEM_RAM_LAST_CE_ADDR m) (a % 2 ^ 23))) ∧
  (∀ (m : Fin 3) (a : Nat), Acts (.sramUncorrectableError m a .none) (fun _ => True) (fun d => d.sramUe m a)) ∧
  (∀ (s : State) (m : Fin 3) (a : Nat) (q : Fin 32) (g : BitVec 16), (∀ x ∈ s.fab.flights, x.cmd.queue = q.val → x.cmd.tag = g.toNat → x.phase.waits = true) →
    exec (.sramUncorrectableError m a (.host q g)) s =
      .next ({ s with dev := s.dev.sramUe m a, fab := { s.fab with faults := (q.val, g.toNat) :: s.fab.faults.filter (· ≠ (q.val, g.toNat)) } } : State).settle) ∧
  (∀ (s : State) (m : Fin 3) (a : Nat) (q : Fin 32) (g : BitVec 16) (x : Flight), s.fab.flights.find? (fun x => x.cmd.queue = q.val && x.cmd.tag = g.toNat) = some x → x.phase = .running →
    exec (.sramUncorrectableError m a (.host q g)) s = .next ({ s with dev := ((s.dev.sramUe m a).dropAll x.cmd.id).finish x.cmd.id 0x20 [] } : State).settle) ∧
  (∀ (m : Fin 3) (a : Nat), Acts (.sramUncorrectableError m a .core) (fun _ => True) (fun d => (d.sramUe m a).shellReset 4)) ∧
  Acts .flashRefresh (fun _ => True) (fun d => if d.fld Reg.MEM_FLASH_CFG 5 0 < d.flashBits then (d.inc Reg.MEM_FLASH_REFRESH_CNT).draw 1 else d.draw 1) ∧
  (∀ b : Nat, Acts (.flashUncorrectable b .none) (fun _ => True) (fun d => ((d.wn Reg.MEM_FLASH_LAST_UE_BLOCK (b % 2048)).inc Reg.MEM_FLASH_UE_CNT).raise Reg.MEM_EVENT 8)) ∧
  (∀ (n : Fin 64) (i : Nat) (o : KeyOp), o.blob = none → o.forget = false → o.load = true → Acts (.keyOperationComplete n)
    (fun d => d.shellRuns = true ∧ d.key.ops.find? (fun x => x.1 = n.val) = some (i, o))
    (fun d =>
      let e : Dev := { d with key := { d.key with ops := d.key.ops.filter (fun x => x.1 ≠ n.val) } }
      (((e.setSlot n o.key).inc Reg.KEY_LOAD_CNT).keyShow n).finish o.id St.ok o.reply)) ∧
  (∀ (id : Nat) (l : List SavedBlock), Acts .cfgSaveComplete (fun d => d.sys.save = some (id, l))
    (fun d => (d.setSys fun s => { s with save := none, saved := l ++ s.saved.filter fun x => !(l.any fun y => y.block = x.block) }).finish id St.ok [])) ∧
  (∀ (id st : Nat) (pl : List Byte), Acts .fwuCommandComplete (fun d => d.fwu.busy = some (id, st, pl)) (fun d => (d.setFwu fun f => { f with busy := none }).finish id st pl))

/-- Power, resets and clocks (R528 to R556). Choices of the model: log entries 3, 36, 38, 40, 78, 87. -/
def Obligations.PowerEventsComplete : Prop :=
  (∀ (a b : Bool) (x : Straps), Acts (.powerOnReset (a, b) x) (fun _ => True) (fun d =>
    let e := ((({ ({ d with straps := x } : Dev).fullReset 0 with pip := 0, time := TimeU.reset } : Dev).clearBlocks [2]).setBit Reg.SYS_POWER_STATUS 2 a).setBit Reg.SYS_POWER_STATUS 3 b
    e.setSys fun s => { s with coldCfg := 2, resetPip := 0, inReset := s.resetLow, pfReset := false, bothGoodSince := if a && b then some 0 else none })) ∧
  (∀ i : BootIn, Acts (.boot i) (fun d => d.mode = .boot ∧ d.sys.inReset = false ∧ d.sys.coldClk = false ∧ ((d.bootClocks i).bootChoice i).1.isSome = true) (fun d =>
    let e := d.bootClocks i
    (e.bootBank i ((e.bootChoice i).1.getD false) (e.bootChoice i).2.1 (e.bootChoice i).2.2.1 (e.bootChoice i).2.2.2).bootUp i)) ∧
  (∀ f : Bool, Acts (.feedGood f) (fun d => d.rbit Reg.SYS_POWER_STATUS (feedBit (!f)) = false) (fun d => d.setBit Reg.SYS_POWER_STATUS (feedBit f) true)) ∧
  (∀ f : Bool, Acts (.feedLost f)
    (fun d => d.rbit Reg.SYS_POWER_STATUS (feedBit f) = true ∧ d.rbit Reg.SYS_POWER_STATUS (feedBit (!f)) = true ∧ d.rbit Reg.SYS_FEED_CFG 0 = true ∧ d.rbit Reg.SYS_FEED_CFG 1 = true)
    (fun d => ((((d.setBit Reg.SYS_POWER_STATUS (feedBit f) false).setSys fun s => { s with bothGoodSince := none }).degrade 0).raise Reg.SYS_EVENT (if f then 2 else 1)).inc Reg.SYS_FEED_LOSS_CNT)) ∧
  Acts .feedLossClear (fun d => d.rbit Reg.SYS_DEGRADE_CAUSE 0 = true ∧ d.sys.bothGoodSince.any (fun t => t + 4000 ≤ d.pip) = true) (fun d => d.undegrade 0) ∧
  (∀ lines : Nat, Acts (.powerFail lines) (fun d => d.rbit Reg.SYS_POWER_STATUS 5 = false) (fun d =>
    let e := ((d.setBit Reg.SYS_POWER_STATUS 5 true).inc Reg.SYS_PFAIL_CNT).setSys fun s => { s with pfailPip := some d.pip }
    (e.billSave.dispRun.dispSave.framCut lines).passportNow)) ∧
  Acts .holdupCollapse (fun d => d.rbit Reg.SYS_POWER_STATUS 5 = true ∧ (d.kern.pfail = false ∨ d.kern.commitOk = false)) (fun d => d.kernDo fun k =>
    let last := ((k.ring.head?).map (·.ctr)).getD 0
    let run := k.ring.takeWhile fun r => r.typ ≠ 2 && r.typ ≠ 4
    let a := if k.buf = [] then k
      else { k with buf := [], head := last, headHash := ((k.ring.head?).map fun r => Config.sha256 r.bytes).getD [], snapPend := none, archived := min k.archived last, unsignedRun := run.length, firstUnsigned := (run.getLast?).map (·.ctr) }
    { a with snapPend := none, pfail := true, commitOk := false, outage := some (k.outage.getD (k.now, d.pip)),
             chans := k.chans.map fun x => (x.1,
               let c := if x.2.session.isSome = true then { x.2 with closeImp := x.2.tImp, closeExp := x.2.tExp, closeReg := mwh (k.outAcc x.1).1 } else x.2
               { c with session := none, gangSession := 0, open_ := none }) }) ∧
  Acts .powerFailReset (fun d => d.rbit Reg.SYS_POWER_STATUS 5 = true ∧ d.kern.pfail = true ∧ d.kern.commitOk = true ∧ d.sys.node175Since.any (fun t => t + 80 ≤ d.pip) = true)
    (fun d => (d.fullReset 1).setSys fun s => { s with inReset := true, pfReset := true }) ∧
  Acts (.resetNPin true) (fun d => d.sys.pfReset = false) (fun d => ((d.setSys fun s => { s with resetLow := true }).shellReset 2).setSys fun s => { s with inReset := true }) ∧
  (∀ low : Bool, Acts (.resetNPin low) (fun d => d.sys.pfReset = true) (fun d => d.setSys fun s => { s with resetLow := low })) ∧
  Acts (.resetNPin false) (fun d => d.sys.pfReset = false ∧ d.sys.inReset = true) (fun d =>
    ((d.setSys fun s => { s with resetLow := false }).wn Reg.SYS_STRAPS (b2n d.straps.hostsel * 4 + b2n d.straps.sprout * 2 + b2n (d.rbit Reg.SYS_STRAPS 0))).setSys fun s => { s with inReset := false, resetPip := d.pip, wdtAt := d.osc }) ∧
  Acts .internalWatchdogExpiry (fun d => d.sys.inReset = false ∧ d.sys.wdtAt + (if d.mode = .boot then 8000 else d.fld Reg.SYS_WDT_CFG 11 0) ≤ d.osc) (fun d => ((d.coreReset 3).safetyReset).huskFullReset) ∧
  Acts .refclkFail (fun d => d.rbit Reg.SYS_CLK_STATUS 28 = false ∧ d.sys.coldClk = false)
    (fun d => ((((((d.setSys fun s => { s with refBad := true, refValid := 0 }).setBit Reg.SYS_CLK_STATUS 30 false).setBit Reg.SYS_CLK_STATUS 29 false).coastShow true).raise Reg.SYS_EVENT 8 |>.degrade 1).inc Reg.SYS_COAST_CNT).setSys fun s => { s with refValid := 0 }) ∧
  Acts .refclkFail (fun d => d.rbit Reg.SYS_CLK_STATUS 28 = true ∧ d.sys.coldClk = false) (fun d => (d.setSys fun s => { s with refBad := true, refValid := 0 }).setBit Reg.SYS_CLK_STATUS 30 false) ∧
  Acts .refclkFail (fun d => d.sys.coldClk = true) (fun d => d.setSys fun s => { s with refBad := true, refValid := 0 }) ∧
  Acts .pllRelock (fun d => d.rbit Reg.SYS_CLK_STATUS 28 = true ∧ 4000 ≤ d.sys.refValid) (fun d => (((d.setBit Reg.SYS_CLK_STATUS 30 true).setBit Reg.SYS_CLK_STATUS 29 true).coastShow false).undegrade 1) ∧
  (∀ i : Fin 7, Acts (.clkMuxHang i) (fun _ => True) (fun d => (((d.setBit Reg.SYS_CLK_STATUS (16 + i.val) true).raise Reg.SYS_EVENT 16).inc Reg.SYS_MUX_HANG_CNT).degrade 2))


/-! ### The fabric: writes of one register, transports, the pip boundary, deadlines -/

/-- The payload of a REG_WRITE of one word. -/
def Sys2Proof.Claims.oneWord (a : Nat) (v : Word) : Bytes := leN a 4 ++ leN 1 2 ++ leN 0 2 ++ leN v.toNat 4

/-- An admitted command that writes `v` to the register at `a`, which no check of R602 refuses, acts with `eff` on the device and answers OK. -/
def Sys2Proof.Claims.Writes (mk : Hdr → Instr) (a : Nat) (v : Word) (eff : Dev → Dev) : Prop :=
  ∀ (s : State) (h : Hdr), Admitted s h 0x0101 (oneWord a v) → h.launch = 0 →
    (begun s h 0x0101 (oneWord a v)).dev.wordStatus ((begun s h 0x0101 (oneWord a v)).dev.after [(a, v)]) a v 0xFFFFFFFF = 0 →
    exec (mk h) s = .next (answered s h 0x0101 (oneWord a v) (eff (begun s h 0x0101 (oneWord a v)).dev) St.ok [])

/-- The commands that write one register: a Live register's value waits for the next pip boundary (R10, R85), an Idle register's takes effect with what its block does on it. Choices of the model: log entries 28, 66, 77, 84. -/
def Obligations.RegisterWritesComplete : Prop :=
  (∀ (n : Fin 32) (v : Word), Writes (fun h => .guardStateRequest h n v) (Reg.GUARD_CH_CTRL n.val) v (fun d => d.pendSet (Reg.GUARD_CH_CTRL n.val) v)) ∧
  (∀ (ch : Fin 80) (v : Word), Writes (fun h => .lswChannelCommand h ch v) (Reg.LSW_CH_CMD ch.val) v (fun d => d.pendSet (Reg.LSW_CH_CMD ch.val) v)) ∧
  Writes .meshEnable Reg.MESH_CTRL 1 (fun d => d.pendSet Reg.MESH_CTRL 1) ∧
  Writes .meshDisable Reg.MESH_CTRL 0 (fun d => d.pendSet Reg.MESH_CTRL 0) ∧
  (∀ v : Word, Writes (fun h => .timePipOffsetWrite h v) Reg.TIME_PIP_OFFSET v
    (fun d => if d.rd Reg.TIME_PIP_OFFSET = v then d else d.setTime fun t => { t with offsRaise := some v.toNat })) ∧
  (∀ v : Word, Writes (fun h => .twinEnable h v) Reg.TWIN_CFG (v ||| 0x10000#32) (fun d => d.twinCfg (v ||| 0x10000#32))) ∧
  (∀ v : Word, Writes (fun h => .twinDisable h v) Reg.TWIN_CFG (v &&& 0xFFFEFFFF#32) (fun d => d.twinCfg (v &&& 0xFFFEFFFF#32))) ∧
  (∀ v : Word, Writes (fun h => .dispVpRestart h v true) Reg.DISP_CTRL (v ||| 2#32) (fun d => d.pendSet Reg.DISP_CTRL (v ||| 2#32))) ∧
  (∀ v : Word, Writes (fun h => .dispVpRestart h v false) Reg.DISP_CTRL (v &&& 0xFFFFFFFD#32) (fun d => d.pendSet Reg.DISP_CTRL (v &&& 0xFFFFFFFD#32))) ∧
  (∀ v : Word, Writes (fun h => .sysClkSelWrite h v) Reg.SYS_CLK_SEL v (fun d => d.clkSel v)) ∧
  (∀ (ch : Fin 80) (v : Word), Writes (fun h => .lswCfgWrite h ch v) (Reg.LSW_CH_CFG ch.val) v (fun d => (d.wr (Reg.LSW_CH_CFG ch.val) v).retryReload ch.val)) ∧
  (∀ (n : Fin 32) (v : Word), Writes (fun h => .guardModeWrite h n v) (Reg.GUARD_CH_CFG n.val) v 
    (fun d => if wfld v 17 16 = d.gmode n.val then d.wr (Reg.GUARD_CH_CFG n.val) v else (d.wr (Reg.GUARD_CH_CFG n.val) v).guardMode n.val)) ∧
  (∀ (n : Fin 32) (v : Word), Writes (fun h => .outletTypeChange h n v) (Reg.OUT_CFG n.val) v 
    (fun d => let e := d.wr (Reg.OUT_CFG n.val) v; if e.outType n.val = d.outType n.val then e.coilShow n.val else (e.guardTask n.val).coilShow n.val))

/-- The bytes of a command packet by the table of R42: sync byte 0xB6, format version 1, queue, class, tag, opcode, length, launch pip, epoch, payload, CRC-32C. -/
def Sys2Proof.Claims.packetBytes (h : Hdr) (op : Nat) (p : Bytes) : Bytes :=
  let b : Bytes := [0xB6, 0x01, byte h.queue.toNat, byte h.cls.toNat] ++ leN h.tag.toNat 2 ++ leN op 2 ++ leN p.length 2 ++ leN h.launch.toNat 4 ++ leN h.epoch.toNat 2 ++ p
  b ++ leN (crc32c b).toNat 4

/-- A packet written by R42 arrives over either transport as the command that its fields spell, whatever its queue, class, tag, opcode, launch pip, epoch and payload, and whichever of the addresses that the module hears it came to (R410); a datagram to another port or address is not the fabric's, and a fragmented one is counted in FAB_RX_SYNC_ERR (R81). Choices of the model: log entry 22. -/
def Obligations.PacketArrivesAsItsCommand : Prop :=
  ∀ (s : State) (h : Hdr) (op : Nat) (p : Bytes), op < 65536 → p.length ≤ 1024 → s.fabRuns = true →
    (∀ (toIp : BitVec 32) (toPort : BitVec 16), s.udp = true → s.dev.ethRuns = true → toPort.toNat = s.dev.rn Reg.FAB_UDP_PORT → s.dev.hears toIp.toNat = true → toIp.toNat = s.dev.ownAddr →
      exec (.commandPacketArrival (.udp h.ip h.port toIp toPort false (packetBytes h op p))) s = .next (s.submit h op p)) ∧
    (∀ (toIp : BitVec 32) (toPort : BitVec 16), s.udp = true → s.dev.ethRuns = true → toPort.toNat = s.dev.rn Reg.FAB_UDP_PORT → s.dev.hears toIp.toNat = true →
      (s.dev.rn Reg.FAB_UDP_PEER = 0 ∨ h.ip.toNat = s.dev.rn Reg.FAB_UDP_PEER) →
      exec (.commandPacketArrival (.udp h.ip h.port toIp toPort false (packetBytes h op p))) s = .next (s.arrive { packetOf s h op p with own := toIp.toNat }).settle) ∧
    (∀ (toIp : BitVec 32) (toPort : BitVec 16) (b : Bytes), s.udp = true → s.dev.ethRuns = true → toPort.toNat = s.dev.rn Reg.FAB_UDP_PORT → s.dev.hears toIp.toNat = true →
      exec (.commandPacketArrival (.udp h.ip h.port toIp toPort true b)) s = .next ({ s with dev := s.dev.inc Reg.FAB_RX_SYNC_ERR } : State).settle) ∧
    (∀ (toIp : BitVec 32) (toPort : BitVec 16), s.udp = true → (s.dev.ethRuns = false ∨ toPort.toNat ≠ s.dev.rn Reg.FAB_UDP_PORT ∨ s.dev.hears toIp.toNat = false) →
      exec (.commandPacketArrival (.udp h.ip h.port toIp toPort false (packetBytes h op p))) s = .next s) ∧
    (∀ rest : List Bytes, s.udp = false → s.fab.rxBufs = packetBytes h op p :: rest →
      exec (.commandPacketArrival .spi) s = .next (({ s with fab := { s.fab with rxBufs := rest } } : State).submit h op p))

/-- Bytes that are no good packet, in the order of R46, over HOST_SPI and over UDP: a wrong sync byte or fewer than 16 bytes are counted in FAB_RX_SYNC_ERR, and a wrong length, CRC or version is answered, to the address and port of the datagram (R82); a datagram from any source but FAB_UDP_PEER is counted, whatever it holds (R81). Choices of the model: log entries 10, 22. -/
def Obligations.BadPacketsRefused : Prop :=
  (∀ (s t : State) (i : PacketIn) (b : Bytes) (ip port own : Nat), s.fabRuns = true →
    ((i = .spi ∧ s.udp = false ∧ s.fab.rxBufs = b :: t.fab.rxBufs ∧ t = { s with fab := { s.fab with rxBufs := t.fab.rxBufs } } ∧ ip = 0 ∧ port = 0 ∧ own = 0) ∨
     (∃ (from_ : BitVec 32) (fromPort : BitVec 16) (toIp : BitVec 32) (toPort : BitVec 16), i = .udp from_ fromPort toIp toPort false b ∧ t = s ∧ s.udp = true ∧ s.dev.ethRuns = true ∧ toPort.toNat = s.dev.rn Reg.FAB_UDP_PORT ∧
       s.dev.hears toIp.toNat = true ∧ (s.dev.rn Reg.FAB_UDP_PEER = 0 ∨ from_.toNat = s.dev.rn Reg.FAB_UDP_PEER) ∧ ip = from_.toNat ∧ port = fromPort.toNat ∧ own = toIp.toNat)) →
    let p : Packet := { queue := num b 2 1, cls := num b 3 1, tag := num b 4 2, opcode := num b 6 2, launch := num b 10 4, epoch := num b 14 2, payload := (b.drop 16).take (num b 8 2), ip := ip, port := port, own := own }
    let crcBad := num b (b.length - 4) 4 ≠ (crc32c (b.take (b.length - 4))).toNat
    ((b.head? ≠ some 0xB6 ∨ b.length < 16) → exec (.commandPacketArrival i) s = .next ({ t with dev := t.dev.inc Reg.FAB_RX_SYNC_ERR } : State).settle) ∧
    (b.head? = some 0xB6 → 16 ≤ b.length → (b.length < 20 ∨ 1024 < num b 8 2 ∨ b.length ≠ 20 + num b 8 2) → exec (.commandPacketArrival i) s = .next (t.reject p 0x14 []).settle) ∧
    (b.head? = some 0xB6 → num b 8 2 ≤ 1024 → b.length = 20 + num b 8 2 → crcBad → exec (.commandPacketArrival i) s = .next (t.reject p 0x16 []).settle) ∧
    (b.head? = some 0xB6 → num b 8 2 ≤ 1024 → b.length = 20 + num b 8 2 → ¬ crcBad → num b 1 1 ≠ 1 → exec (.commandPacketArrival i) s = .next (t.reject p 0x15 [1, 0, 0, 0]).settle)) ∧
  (∀ (s : State) (from_ : BitVec 32) (fromPort : BitVec 16) (toIp : BitVec 32) (toPort : BitVec 16) (fragmented : Bool) (b : Bytes), s.fabRuns = true → s.udp = true → s.dev.ethRuns = true → toPort.toNat = s.dev.rn Reg.FAB_UDP_PORT →
    s.dev.hears toIp.toNat = true → s.dev.rn Reg.FAB_UDP_PEER ≠ 0 → from_.toNat ≠ s.dev.rn Reg.FAB_UDP_PEER →
    exec (.commandPacketArrival (.udp from_ fromPort toIp toPort fragmented b)) s = .next ({ s with dev := s.dev.inc Reg.FAB_RX_SYNC_ERR } : State).settle)

/-- The level byte, the ring byte, rx_ready and irq that READ_STATUS returns (R77, R80). -/
def Sys2Proof.Claims.statusWord (s : State) : Nat :=
  let ready := (s.fab.flights.filter Flight.ready).length + s.fab.stale.length
  min 255 s.fab.answers.length + 256 * min 255 ready + (if s.fab.rxBufs.length < 4 then 65536 else 0) + (if s.fab.answers = [] ∧ ready = 0 then 0 else 131072)

/-- The host transports. HOST_SPI (R77 to R79): a packet fills one of four buffers or is counted as an overrun, the status is read, the oldest reply is read whole or cut short, and any other instruction is counted. UDP (R82): the reply that is next leaves as one datagram from FAB_UDP_PORT to the address and port its command came from; a demoted module drops what it may no longer send (R420). Traffic on the transport that is not selected changes nothing and is not counted: its packets, reads and unknown instructions with HOSTSEL high, which return no byte, and its datagrams with HOSTSEL low (R76). Choices of the model: log entries 10, 22, 76. -/
def Obligations.TransportsComplete : Prop :=
  (∀ s : State, s.fabRuns = true → s.udp = false →
    (∀ b : Bytes, s.fab.rxBufs.length < 4 → exec (.writePacket b) s = .next { s with fab := { s.fab with rxBufs := s.fab.rxBufs ++ [b.take 1045] } }) ∧
    (∀ b : Bytes, 4 ≤ s.fab.rxBufs.length → exec (.writePacket b) s = .next ({ s with dev := (s.dev.inc Reg.FAB_RX_OVERRUN).raise Reg.FAB_EVENT 4 } : State).settle) ∧
    exec .readStatus s = .next { s with fab := { s.fab with spiOut := leN (statusWord s) 4 } } ∧
    (∀ n : Nat, s.fab.next = none → exec (.readReply n) s = .next { s with fab := { s.fab with spiOut := List.replicate n 0 } }) ∧
    (∀ (n : Nat) (r : Reply) (a : Nat × Nat × Nat) (f : Fab), s.fab.next = some (r, a, f) →
      (r.bytes.length ≤ n → exec (.readReply n) s = .next ({ s with fab := { f with spiOut := r.bytes ++ List.replicate (n - r.bytes.length) 0 } } : State).settle) ∧
      (n < r.bytes.length → exec (.readReply n) s = .next ({ s with fab := { s.fab with spiOut := r.bytes.take n } } : State).settle ∧
        (Fab.next { s.fab with spiOut := r.bytes.take n }).map (·.1) = some r)) ∧
    exec .spiUnknownInstruction s = .next ({ s with dev := s.dev.inc Reg.FAB_RX_SYNC_ERR } : State).settle) ∧
  (∀ s : State, s.udp = true →
    (∀ b : Bytes, exec (.writePacket b) s = .next s) ∧ exec (.commandPacketArrival .spi) s = .next s ∧ exec .spiUnknownInstruction s = .next s ∧
    exec .readStatus s = .next { s with fab := { s.fab with spiOut := [] } } ∧ (∀ n : Nat, exec (.readReply n) s = .next { s with fab := { s.fab with spiOut := [] } })) ∧
  (∀ s : State, s.udp = false →
    (∀ (ip : BitVec 32) (port : BitVec 16) (toIp : BitVec 32) (toPort : BitVec 16) (fragmented : Bool) (b : Bytes), exec (.commandPacketArrival (.udp ip port toIp toPort fragmented b)) s = .next s) ∧
    exec .udpReplySend s = .next s) ∧
  (∀ (s : State) (r : Reply) (ip port own : Nat) (f : Fab), s.fabRuns = true → s.udp = true → s.dev.ethRuns = true → s.fab.next = some (r, (ip, port, own), f) →
    (s.dev.mayReply own = true →
      exec .udpReplySend s = .next ({ s with
        dev := if r.opcode = 0x0B01 ∧ r.status ≠ St.accepted then s.dev.setTwin fun t => { t with lastReply := false } else s.dev,
        fab := { f with udpOut := some { own := own, source := s.dev.rn Reg.FAB_UDP_PORT, ip := ip, port := port, bytes := r.bytes } } } : State).settle) ∧
    (s.dev.mayReply own = false → exec .udpReplySend s = .next ({ s with fab := f } : State).settle))

/-- The reply that is read next is the oldest answer, even where a ring's reply has been cut short before that answer came; without one it is the first delivered reply in the order of R72, in which STALE_EPOCH replies to commands of a silent partner (R418) take their places; a final reply that has been read returns its command's credits (R54, R79). Choices of the model: log entry 76. -/
def Obligations.OldestReplyFirst : Prop :=
  ∀ f : Fab,
    (∀ (a : Answer) (rest : List Answer), f.answers = a :: rest →
      f.next = some (a.reply, (a.ip, a.port, a.own), { f with answers := rest, flights := match a.kind with | .final id => f.flights.filter fun x => x.cmd.id ≠ id | _ => f.flights })) ∧
    (f.answers = [] → f.stale = [] → (∀ x ∈ f.flights, x.ready = false) → f.next = none) ∧
    (∀ x ∈ f.flights, f.answers = [] → f.stale = [] → x.ready = true →
      ∃ (y : Flight) (p : Nat) (r : Reply), y ∈ f.flights ∧ y.phase = .delivered p r ∧ y.order ≤ x.order ∧
        f.next = some (r, (y.cmd.ip, y.cmd.port, y.cmd.own), { f with flights := f.flights.filter fun z => z.cmd.id ≠ y.cmd.id })) ∧
    (∀ (x : Flight) (rest : List Flight) (p : Nat) (r : Reply), f.answers = [] → f.stale = x :: rest → x.phase = .delivered p r → (∀ y ∈ f.flights, y.ready = true → x.order ≤ y.order) →
      f.next = some (r, (x.cmd.ip, x.cmd.port, x.cmd.own), { f with stale := rest })) ∧
    (∀ (x : Flight) (rest : List Flight), f.answers = [] → f.stale = x :: rest → (∃ y ∈ f.flights, y.ready = true ∧ y.order < x.order) →
      ∃ (y : Flight) (p : Nat) (r : Reply), y ∈ f.flights ∧ y.phase = .delivered p r ∧ (∀ z ∈ f.flights, z.ready = true → y.order ≤ z.order) ∧
        f.next = some (r, (y.cmd.ip, y.cmd.port, y.cmd.own), { f with flights := f.flights.filter fun z => z.cmd.id ≠ y.cmd.id }))

/-- A write of a Live register by which its block does nothing beyond taking the value (R10), pending or W1C. -/
def Sys2Proof.Claims.plainPend : LivePend → Bool
  | .set a _ _ => !(a / 0x10000 = 10 && a % 0x10000 < 0x800 && a % 0x40 = 4) && a ≠ Reg.DISP_CTRL && a ≠ Reg.MESH_CTRL && a ≠ Reg.TAG_CTRL && !stagingAddrs.contains a && !isChCmd a
  | .clear _ _ => true

/-- The register that a pending write names. -/
def Sys2Proof.Claims.pendAddr : LivePend → Nat
  | .set a _ _ => a
  | .clear a _ => a

/-- What a command with a launch pip leaves where it fires in a pip that is not aligned: it is counted and logged. -/
def Sys2Proof.Claims.launchNoted (d : Dev) (c : Cmd) : Dev :=
  if c.launch = none ∨ d.rbit Reg.TIME_STATUS 8 = true then d
  else ((d.inc Reg.TIME_UNALIGNED_LAUNCH).raise Reg.TIME_EVENT 128).log 68 7 ([byte c.queue] ++ leN c.tag 2 ++ leN d.pip 6)

/-- A FAB_COMMIT in flight has acted (R67, R68): the shadows of its blocks are live, and it has produced OK with the commit pip. -/
def Sys2Proof.Claims.committed (s : State) (x : Flight) : State :=
  let d := (launchNoted s.dev x.cmd).commit (num x.cmd.payload 0 4)
  { s with dev := d, fab := s.fab.setPhase x.cmd.id (.produced 0 (leN d.pip 8) d.pip) }

/-- The payload of a FAB_COMMIT that selects blocks (R66), on a module that acts for itself and met no uncorrectable error for it. -/
def Sys2Proof.Claims.commits (s : State) (x : Flight) : Prop := x.cmd.payload.length = 4 ∧ maskOk (num x.cmd.payload 0 4) = true ∧ s.dev.passive = false ∧ (x.cmd.queue, x.cmd.tag) ∉ s.fab.faults

/-- The final reply that the collector makes of a produced result whose deadline is not past (R61, R75): with this pip as its completion pip; a window of R607 that ends now has produced BUSY. -/
def Sys2Proof.Claims.collected (d : Dev) (x : Flight) : Option Reply :=
  let made := match x.phase with
    | .produced st pl _ => some (st, pl)
    | .waitQuiet _ b => if b ≤ d.pip then some (0x11, []) else none
    | _ => none
  if d.pip ≤ x.cmd.deadline then made.map fun m =>
    { queue := x.cmd.queue, status := m.1, tag := x.cmd.tag, opcode := x.cmd.opcode, payload := m.2, pip := d.pip % 2 ^ 32, epoch := d.rn Reg.TWIN_EPOCH % 65536 }
  else none

/-- The window of a command that waits for a quiet pip has passed its last pip (R607). -/
def Sys2Proof.Claims.windowOver (pip : Nat) (x : Flight) : Bool :=
  match x.phase with
  | .waitQuiet _ b => decide (b ≤ pip)
  | _ => false

/-- PIP_BOUNDARY (R7): a reset that no frame has brought takes place, the Guard takes the samples of the pip that ends (R314), a failed REFCLK that is valid again shows (R548), the pip number advances, pending Live writes take effect, and then sample latch, commit point, scheduled firings and collector opening follow in that order, and the units' own work of the pip; while the time unit hangs no pip begins and only the switch die goes on (DESIGN CHOICE, log entry 78). Of its parts: the value of a Live register's last pending write is the register's value, and a W1C bit written is clear (R10, R35, R85); a FAB_COMMIT that is due, launched or not, moves the shadows of its blocks and produces OK with the commit pip, and of two the one of the lower queue, or else the one accepted first, acts first (R67, R68, R70); a launched command that is due acts and produces its reply, and so does one whose quiet pip has come (R59, R604, R607), and one whose data cannot be corrected produces MEMORY_FAULT with nothing done (R510; that the error waits for the command is DEDUCED, log entry 33); every reply produced is delivered with this pip as its completion pip, in the order of R72 (R61, R75). Choices of the model: log entries 31, 32, 33, 63, 77, 78, 87, 89. -/
def Obligations.PipBoundaryComplete : Prop :=
  (∀ (s0 : State) (i : PipIn),
    let s : State := if due s0.dev.sys.resetReq s0.dev.pip = true then ({ s0 with dev := s0.dev.resetDue } : State).settle else s0
    let o : Dev := ({ s.dev.pfailEnd with osc := s.dev.osc + 1 } : Dev).refTick i.refOk
    o.domainRuns 4 = true →
    let e := o.guardPips i.guards
    let n := ((e.nextPip.1.shiftCopied e.nextPip.2).applyLive).podSend e.pip s.fab.flights
    let n : Dev := { n with safe := { n.safe with forceOff := n.safe.forceOff ||| n.safe.forceNext, forceNext := 0 } }
    let t0 : State := { s with dev := n.lagTick.handoverEnd.tamperHand.boundaryCopy.keyDue.saveDue.sampleLatch, fab := (s.fab.shift e.nextPip.2).keepFaults }
    let s1 : State := { t0.commitPoint with dev := t0.commitPoint.dev.billPip }
    let s2 := ({ s1 with dev := s1.dev.standbyFire true } : State).fire
    let s3 := ({ s2 with dev := s2.dev.standbyFire false } : State).collector
    exec (.pipBoundary i) s0 = .next ({ s3 with dev := (s3.dev.pipWork i).early } : State).settle) ∧
  (∀ (s0 : State) (i : PipIn),
    let s : State := if due s0.dev.sys.resetReq s0.dev.pip = true then ({ s0 with dev := s0.dev.resetDue } : State).settle else s0
    let o : Dev := ({ s.dev.pfailEnd with osc := s.dev.osc + 1 } : Dev).refTick i.refOk
    o.domainRuns 4 = false → exec (.pipBoundary i) s0 = .next ({ s with dev := o.lswTick (max i.feedA i.feedB) } : State).settle) ∧
  (∀ (d : Dev) (l1 l2 : List LivePend) (a : Nat) (v : Word) (host : Bool), d.twin.held = [] → d.live = l1 ++ .set a v host :: l2 → (∀ p ∈ d.live, plainPend p = true) → (∀ p ∈ l2, pendAddr p ≠ a) →
    d.applyLive.rd a = v ∧ d.applyLive.live = []) ∧
  (∀ (d : Dev) (l1 l2 : List LivePend) (a : Nat) (bits : Word), d.twin.held = [] → d.live = l1 ++ .clear a bits :: l2 → (∀ p ∈ d.live, plainPend p = true) → (∀ p ∈ l1 ++ l2, pendAddr p ≠ a) →
    d.applyLive.rd a = d.rd a &&& ~~~bits) ∧
  (∀ (d : Dev) (a : Nat) (v : Word) (host : Bool), d.twin.held = [] → d.live = [.set a v host] → (a = Reg.DISP_CTRL ∨ a = Reg.MESH_CTRL ∨ a = Reg.TAG_CTRL ∨ a ∈ stagingAddrs) → d.applyLive.rd a = v) ∧
  (∀ (d : Dev) (ch : Fin 80) (v : Word) (host : Bool), d.twin.held = [] → d.live = [.set (Reg.LSW_CH_CMD ch.val) v host] → (d.twinState ≠ 4 ∨ d.inSync = false ∨ 1 ≤ d.twin.early) →
    d.applyLive.rd (Reg.LSW_CH_CMD ch.val) = v) ∧
  (∀ (s : State) (x : Flight), s.fab.flights.filter (fun x => x.commitDue s.dev.pip) = [x] → commits s x → s.commitPoint = committed s x) ∧
  (∀ (s : State) (x y : Flight), s.fab.flights.filter (fun x => x.commitDue s.dev.pip) = [x, y] →
    (x.cmd.queue ≤ y.cmd.queue → commits s x → commits (committed s x) y → s.commitPoint = committed (committed s x) y) ∧
    (y.cmd.queue < x.cmd.queue → commits s y → commits (committed s y) x → s.commitPoint = committed (committed s y) x)) ∧
  (∀ (s : State) (x : Flight), s.fab.flights.filter (fun x => x.commitDue s.dev.pip) = [x] → s.dev.passive = false → (x.cmd.queue, x.cmd.tag) ∈ s.fab.faults →
    s.commitPoint = { s with dev := launchNoted s.dev x.cmd, fab := { s.fab.setPhase x.cmd.id (.produced 0x20 [] s.dev.pip) with faults := s.fab.faults.filter (· ≠ (x.cmd.queue, x.cmd.tag)) } }) ∧
  (∀ (s : State) (x : Flight) (f : Dev → Cmd → Dev × Ans), s.fab.flights.filter (fun x => x.phase == .waitLaunch && x.cmd.launch.any (· ≤ s.dev.pip)) = [x] → x.cmd.opcode ≠ 0x0104 → x.cmd.opcode ≠ 0x0106 → x.cmd.opcode ≠ 0x0107 →
    x.cmd.needsQuiet = false → s.dev.passive = false → (x.cmd.queue, x.cmd.tag) ∉ s.fab.faults → (opSpec x.cmd.opcode).bind (·.run) = some f →
    (∀ st pl, (f (launchNoted s.dev x.cmd) x.cmd).2 = .done st pl →
      s.fire = { s with dev := (f (launchNoted s.dev x.cmd) x.cmd).1, fab := s.fab.setPhase x.cmd.id (.produced st pl s.dev.pip) }) ∧
    ((f (launchNoted s.dev x.cmd) x.cmd).2 = .running → s.fire = { s with dev := (f (launchNoted s.dev x.cmd) x.cmd).1, fab := s.fab.setPhase x.cmd.id .running })) ∧
  (∀ (s : State) (x : Flight), s.fab.flights.filter (fun x => x.phase == .waitLaunch && x.cmd.launch.any (· ≤ s.dev.pip)) = [x] → x.cmd.opcode ≠ 0x0104 → x.cmd.needsQuiet = false → s.dev.passive = false →
    (x.cmd.queue, x.cmd.tag) ∈ s.fab.faults → s.fire = { s with dev := launchNoted s.dev x.cmd, fab := { s.fab.setPhase x.cmd.id (.produced 0x20 [] s.dev.pip) with faults := s.fab.faults.filter (· ≠ (x.cmd.queue, x.cmd.tag)) } }) ∧
  (∀ (s : State) (x : Flight) (a b : Nat) (f : Dev → Cmd → Dev × Ans), s.fab.flights = [x] → x.phase = .waitQuiet a b → a ≤ s.dev.pip → s.dev.pip ≤ b → x.cmd.opcode ≠ 0x0106 → x.cmd.opcode ≠ 0x0107 →
    (x.cmd.queue, x.cmd.tag) ∉ s.fab.faults → (opSpec x.cmd.opcode).bind (·.run) = some f →
    (∀ st pl, (f s.dev x.cmd).2 = .done st pl → s.fire = { s with dev := (f s.dev x.cmd).1, fab := s.fab.setPhase x.cmd.id (.produced st pl s.dev.pip) }) ∧
    ((f s.dev x.cmd).2 = .running → s.fire = { s with dev := (f s.dev x.cmd).1, fab := s.fab.setPhase x.cmd.id .running })) ∧
  (∀ s : State, s.dev.twin.stale = [] → s.dev.outbox = [] → s.fab.history.length ≤ 256 →
    ∃ l : List Flight, l.Pairwise (fun x y => x.cmd.src * 32 + x.cmd.queue ≤ y.cmd.src * 32 + y.cmd.queue) ∧
      (∀ k, l.filter (fun x => x.cmd.src * 32 + x.cmd.queue == k) = s.fab.flights.filter fun x => (collected s.dev x).isSome && x.cmd.src * 32 + x.cmd.queue == k) ∧
      s.collector = { s with fab := { s.fab with
        history := ((l.filterMap (collected s.dev)).reverse ++ s.fab.history).take 256,
        flights := s.fab.flights.map fun x => match collected s.dev x with
          | some r => { x with phase := .delivered s.dev.pip r }
          | none => if windowOver s.dev.pip x then { x with phase := .produced 0x11 [] s.dev.pip } else x } })

/-- What the collector opening does with one command whose deadline has passed (R62, R63): it ends with DEADLINE_MISSED, is counted for its class and its queue, shown and logged; one that had not begun to act is withdrawn, with outcome 0, and one that had begun runs on, with outcome 1, until its end is logged. -/
def Sys2Proof.Claims.missOne (s : State) (x : Flight) : State :=
  let c := x.cmd
  let started := x.missed s.dev == some true
  let d := if started then s.dev else s.dev.withdraw c.id
  let d := (((d.inc (Reg.FAB_DL_MISS_D0 + 4 * c.cls)).inc (Reg.FAB_Q_DL_MISS c.queue)).wn Reg.FAB_LAST_MISS (c.tag * 65536 + c.queue * 256 + c.opcode % 256)).wn Reg.FAB_LAST_MISS_PIP s.dev.pip
  { s with
    dev := (d.raise Reg.FAB_EVENT 1).log 79 0 ([byte c.queue] ++ leN c.tag 2 ++ leN c.opcode 2 ++ leN s.dev.pip 6 ++ [byte (b2n started)]),
    fab := { s.fab with
      late := if started then s.fab.late ++ [{ cmd := c, ended := match x.phase with | .produced _ _ p => some p | _ => none }] else s.fab.late,
      flights := s.fab.flights.map fun y => if y.cmd.id = c.id then { cmd := { y.cmd with src := 79 }, phase := .produced 0x21 [byte (b2n started), 0, 0, 0] s.dev.pip } else y } }

/-- Deadlines and quiet pips, whatever else is in flight. Every command in flight that has missed its deadline ends so, one after the other in acceptance order (R62, R63), a single one that had not begun and a single one that had are written out; the ends of all late commands are recorded (R63); and every window that has closed without a quiet pip answers BUSY (R607), alone or with other commands in flight. Choices of the model: log entries 24, 25. -/
def Obligations.DeadlineEventsComplete : Prop :=
  (∀ s : State,
    let hits := s.fab.flights.filter fun x => (x.missed s.dev).isSome
    exec .deadlineMiss s = .next ((hits.foldl missOne s).deliver fun y => (hits.map (·.cmd.id)).contains y.cmd.id).settle) ∧
  (∀ (s : State) (x : Flight), s.fab.flights.filter (fun x => (x.missed s.dev).isSome) = [x] → x.missed s.dev = some false →
    exec .deadlineMiss s = .next ((missOne s x).deliver fun y => y.cmd.id == x.cmd.id).settle ∧ (missOne s x).fab.late = s.fab.late ∧
    (∀ y ∈ (missOne s x).fab.flights, y.cmd.id = x.cmd.id → y.phase = .produced 0x21 [0, 0, 0, 0] s.dev.pip)) ∧
  (∀ (s : State) (x : Flight), s.fab.flights.filter (fun x => (x.missed s.dev).isSome) = [x] → x.missed s.dev = some true →
    exec .deadlineMiss s = .next ((missOne s x).deliver fun y => y.cmd.id == x.cmd.id).settle ∧ (∃ e, (missOne s x).fab.late = s.fab.late ++ [{ cmd := x.cmd, ended := e }]) ∧
    (∀ y ∈ (missOne s x).fab.flights, y.cmd.id = x.cmd.id → y.phase = .produced 0x21 [1, 0, 0, 0] s.dev.pip)) ∧
  (∀ s : State, exec .startedCommandEnd s = .next ({ s with
    fab := { s.fab with late := s.fab.late.filter fun l => l.ended.isNone },
    dev := (s.fab.late.filter fun l => l.ended.isSome).foldl (fun (d : Dev) l => d.log 79 0xFF ([byte l.cmd.queue] ++ leN l.cmd.tag 2 ++ leN l.cmd.opcode 2 ++ leN (l.ended.getD 0) 6)) s.dev } : State).settle) ∧
  (∀ s : State, exec .quietPipWindowExpiry s = .next (({ s with
    fab := { s.fab with flights := s.fab.flights.map fun y => if windowOver s.dev.pip y then { y with phase := .produced 0x11 [] s.dev.pip } else y } } : State).deliver
      fun y => ((s.fab.flights.filter (windowOver s.dev.pip)).map (·.cmd.id)).contains y.cmd.id).settle) ∧
  (∀ (s : State) (x : Flight), s.fab.flights.filter (windowOver s.dev.pip) = [x] → (∃ y ∈ s.fab.flights, y.cmd.id ≠ x.cmd.id) →
    ∃ t, exec .quietPipWindowExpiry s = .next t ∧ t = (({ s with
      fab := { s.fab with flights := s.fab.flights.map fun y => if windowOver s.dev.pip y then { y with phase := .produced 0x11 [] s.dev.pip } else y } } : State).deliver fun y => y.cmd.id == x.cmd.id).settle)


/-! ### The block as a whole -/

/-- STEP: the command at the front of the queue acts on the state with the queue's rest. -/
def Obligations.StepTakesFront : Prop :=
  ∀ (c : Instr) (rest : List Instr) (s : State), s.pending = c :: rest → step s = exec c { s with pending := rest }

/-- Every command of the block completes with a next state, and leaves the commands that wait as they are. -/
def Obligations.EveryCommandCompletes : Prop :=
  ∀ (i : Instr) (s : State), ∃ t, exec i s = .next t ∧ t.pending = s.pending

/-- Right after reset nothing waits, the fabric is well formed, nothing is due from the units, the memories are canonical, and every register that the time unit, the straps and the banks do not show reads its Reset column. Choices of the model: log entries 4, 13, 14, 88. -/
def Obligations.ResetMeetsInvariants : Prop :=
  State.reset.pending = [] ∧ FabWf State.reset.fab ∧ Quiet State.reset.dev ∧ MemWf State.reset.dev ∧
  (∀ a, State.reset.dev.rd a = resetOf a) ∧ (∀ a, State.reset.dev.shadowAt a = resetOf a) ∧ State.reset.dev.mode = .boot

/-- Every step keeps the fabric well formed: credits, queue and class numbers, ids, tags of one queue, the two parts of the answer FIFO, kept replies and receive buffers. -/
def Obligations.StepKeepsFabric : Prop :=
  ∀ s t : State, FabWf s.fab → step s = .next t → FabWf t.fab

/-- Every step leaves nothing that a unit has produced waiting for the fabric. -/
def Obligations.StepKeepsQuiet : Prop :=
  ∀ s t : State, Quiet s.dev → step s = .next t → Quiet t.dev

/-- Every step keeps the FRAM and the display buffers in their canonical form. -/
def Obligations.StepKeepsMemory : Prop :=
  ∀ s t : State, MemWf s.dev → step s = .next t → MemWf t.dev

/-- A packet that carries a launch pip and is admitted is answered ACCEPTED and waits for that pip with nothing done, whatever its opcode (R45, R48, R59). -/
def Obligations.LaunchedCommandsWait : Prop :=
  ∀ r ∈ opcodeRows, ∀ (s : State) (h : Hdr) (p : Bytes), Admitted s h r.1 p → h.launch ≠ 0 →
    (∃ L, (cmdOf s h r.1 p).launch = some L ∧ s.dev.pip < L ∧ L ≤ s.dev.pip + 2400000 ∧ L % 2 ^ 32 = h.launch.toNat) ∧
    exec (r.2 h p s) s = .next (acceptedIn s h r.1 p .waitLaunch).settle

/-- The write of the FRAM that is being served, with no other access waiting, stores its bytes and no others. Choices of the model: log entry 14. -/
def Obligations.FramWriteStoresItsBytes : Prop :=
  ∀ (s : State) (id off : Nat) (data : Bytes), s.dev.tag.serving = true → s.dev.tag.accs = [.write id off data] →
    ∃ t, exec .framAccessComplete s = .next t ∧ t.dev.tag.accs = [] ∧
      ∀ a, tget 0 t.dev.tag.fram a = if off ≤ a ∧ a < off + data.length then data.getD (a - off) 0 else tget 0 s.dev.tag.fram a

/-! ### Rules of the spec, word for word -/

/-- The reply with which a packet is refused now. -/
def Sys2Proof.Claims.rejection (s : State) (h : Hdr) (op st : Nat) (pl : Bytes) : Reply :=
  { queue := h.queue.toNat, status := st, tag := h.tag.toNat, opcode := op, payload := pl, pip := s.dev.pip % 2 ^ 32, epoch := s.dev.rn Reg.TWIN_EPOCH % 65536 }

/-- The status and payload with which the fabric refuses an opcode row's packet. -/
def Sys2Proof.Claims.refused (s : State) (h : Hdr) (op : Nat) (p : Bytes) : Option (Nat × Bytes) :=
  if 1024 < p.length then some (0x14, []) else s.refusal (packetOf s h op p)

/-- The fabric hears the packet: it runs, and over UDP the Ethernet ports, and the packet comes from an address it accepts (R81). -/
abbrev Sys2Proof.Claims.Heard (s : State) (h : Hdr) : Prop :=
  s.fabRuns = true ∧ (s.udp && !s.dev.ethRuns) = false ∧ (s.udp && s.dev.rn Reg.FAB_UDP_PEER ≠ 0 && h.ip.toNat ≠ s.dev.rn Reg.FAB_UDP_PEER) = false

/-- R51, R83: a rejected packet takes no credit and changes nothing but the fabric's own registers, and its reply is a final reply with the rejection pip. Choices of the model: log entry 23. -/
def Obligations.RejectionChangesNothing : Prop :=
  ∀ r ∈ opcodeRows, ∀ (s : State) (h : Hdr) (p : Bytes) (st : Nat) (pl : Bytes), Quiet s.dev → Heard s h → refused s h r.1 p = some (st, pl) →
    (s.fab.answers.filter fun a => a.kind == .rejected).length < 32 →
    ∃ t, exec (r.2 h p s) s = .next t ∧ t.pending = s.pending ∧
      t.fab = { s.fab with history := (rejection s h r.1 st pl :: s.fab.history).take 256,
                           answers := s.fab.answers ++ [answerOf s h r.1 p (rejection s h r.1 st pl) .rejected] } ∧
      { t.dev with regs := s.dev.regs } = s.dev ∧ (∀ a, a / 0x10000 ≠ 1 → t.dev.rd a = s.dev.rd a)

/-- R74: the answer FIFO keeps at most 32 rejections and 128 other answers; a rejection that finds the 32 entries full is discarded without reply and counted. Choices of the model: log entry 23. -/
def Obligations.AnswerFifoLimits : Prop :=
  (∀ s t : State, FabWf s.fab → step s = .next t →
    (t.fab.answers.filter fun a => a.kind == .rejected).length ≤ 32 ∧ (t.fab.answers.filter fun a => a.kind != .rejected).length ≤ 128 ∧ t.fab.answers.length ≤ 160) ∧
  (∀ r ∈ opcodeRows, ∀ (s : State) (h : Hdr) (p : Bytes), Quiet s.dev → Heard s h → (refused s h r.1 p).isSome = true →
    32 ≤ (s.fab.answers.filter fun a => a.kind == .rejected).length →
    ∃ t, exec (r.2 h p s) s = .next t ∧ t.fab = s.fab ∧ t.dev.rn Reg.FAB_REJECT_DROP = (s.dev.rn Reg.FAB_REJECT_DROP + 1) % 2 ^ 32)

/-- R60: an accepted command's deadline pip is S + d − 1, for S its acceptance pip or its launch pip and d the deadline of its class. -/
def Obligations.DeadlineOfItsClass : Prop :=
  ∀ r ∈ opcodeRows, ∀ (s : State) (h : Hdr) (p : Bytes), FabWf s.fab → Quiet s.dev → Admitted s h r.1 p →
    let start := if h.launch = 0 then s.dev.pip else (launchPip s.dev.pip h.launch.toNat).getD 0
    let d := if h.cls = 0 then 2 else if h.cls = 1 then 4 else if h.cls = 2 then 40 else 400
    (cmdOf s h r.1 p).id = s.fab.nextId ∧ (cmdOf s h r.1 p).deadline = start + d - 1 ∧
    ∃ t, exec (r.2 h p s) s = .next t ∧ (∀ x ∈ t.fab.flights, x.cmd.id = s.fab.nextId → x.cmd.deadline = start + d - 1) ∧
      (h.launch ≠ 0 → ∃ x ∈ t.fab.flights, x.cmd.id = s.fab.nextId)

/-- R18: SYS_SET_MODE to MAINTENANCE completes with BUSY while an outlet is in a state from PRECHARGE to WELD_CHECK, with the mode unchanged; at once, and wherever the command starts at a launch pip. -/
def Obligations.MaintenanceWaitsForSessions : Prop :=
  (∀ (d : Dev) (c : Cmd) (n : Fin 32), c.payload.length = 4 → num c.payload 0 1 = 2 → num c.payload 1 3 = 0 →
    6 ≤ d.fld (Reg.OUT_STATE n.val) 3 0 → d.fld (Reg.OUT_STATE n.val) 3 0 ≤ 9 → opSetMode d c = (d, .done 0x11 [])) ∧
  (∀ (s : State) (h : Hdr) (p : Bytes) (n : Fin 32), Admitted s h 0x0004 p → h.launch = 0 → Quiet s.dev → p.length = 4 → num p 0 1 = 2 → num p 1 3 = 0 →
    6 ≤ s.dev.fld (Reg.OUT_STATE n.val) 3 0 → s.dev.fld (Reg.OUT_STATE n.val) 3 0 ≤ 9 →
    exec (.sysSetMode h p) s = .next (answered s h 0x0004 p (begun s h 0x0004 p).dev 0x11 []) ∧ (answered s h 0x0004 p (begun s h 0x0004 p).dev 0x11 []).dev.mode = s.dev.mode)

/-- R478: a key command that names a slot whose own operation has not completed completes with BUSY, and nothing changes. -/
def Obligations.BusySlotUnchanged : Prop :=
  ∀ n : Nat, n ≤ 63 →
    (∀ (d : Dev) (c : Cmd), d.slotBusy n = true → 60 ≤ c.payload.length → c.payload.length ≤ 116 → num c.payload 0 1 = n → num c.payload 1 1 ≤ 1 → num c.payload 2 2 = 0 → opKeyLoad d c = (d, .done 0x11 [])) ∧
    (∀ (d : Dev) (c : Cmd), d.slotBusy n = true → c.payload.length = 4 → num c.payload 0 1 = n → num c.payload 1 1 ≤ 1 → num c.payload 2 2 = 0 → opKeyClear d c = (d, .done 0x11 [])) ∧
    (∀ (d : Dev) (c : Cmd), d.slotBusy n = true → c.payload.length = 12 → num c.payload 0 1 = n → keyCombo (num c.payload 1 1) (num c.payload 2 1) = true → num c.payload 3 1 ≤ 1 → opKeyGenerate d c = (d, .done 0x11 [])) ∧
    (∀ (d : Dev) (c : Cmd), d.slotBusy n = true → 20 ≤ c.payload.length → num c.payload 0 1 ≤ 63 → num c.payload 1 1 ≤ 63 → (num c.payload 0 1 = n ∨ num c.payload 1 1 = n) → num c.payload 2 1 ≤ 1 → num c.payload 3 1 = 0 → keyCombo (num c.payload 9 1) (num c.payload 10 1) = true →
      opKeyImport d c = (d, .done 0x11 [])) ∧
    (∀ (s : State) (h : Hdr) (p : Bytes), Admitted s h 0x0802 p → h.launch = 0 → (startDev s h 0x0802 p).slotBusy n = true → p.length = 4 → num p 0 1 = n → num p 1 1 ≤ 1 → num p 2 2 = 0 →
      exec (.keyClear h p) s = .next (goesOn s h 0x0802 p (startDev s h 0x0802 p) (.produced 0x11 [] (startDev s h 0x0802 p).pip)))

/-- R69: a Framed register's read returns the live value and its shadow read the shadow, from its write through a discard or a commit. -/
def Obligations.FramedShadows : Prop :=
  ∀ (d : Dev) (a m : Nat) (v : Word) (r : RegRow), a % 4 = 0 → inKern a = false → regAt a = some r → r.cls = .framed → r.access = .rw →
    (d.writeWord a v).readWord a = d.readWord a ∧ d.readWord a = some (d.rd a) ∧ (d.writeWord a v).readShadow a = some v ∧
    ((d.writeWord a v).discard m).rd a = d.rd a ∧ ((d.writeWord a v).discard m).readShadow a = some (if inMask m a then d.rd a else v) ∧
    ((d.writeWord a v).commit m).rd a = (if inMask m a then v else d.rd a) ∧ ((d.writeWord a v).commit m).readShadow a = some v ∧
    (d.discard m).commit m = d.discard m

/-- R458: a pixel's gain is that of the highest-numbered entry whose threshold its counter has reached, 0 without one; accumulation and gain apply only while age_en is 1. -/
def Obligations.AgeingGain : Prop :=
  (∀ (d : Dev) (c : Nat), (∀ k < 16, c < d.fld (Reg.DISP_AGE k) 31 16) → d.ageGain c = 0) ∧
  (∀ (d : Dev) (c k : Nat), k < 16 → d.fld (Reg.DISP_AGE k) 31 16 ≤ c → (∀ j, k < j → j < 16 → c < d.fld (Reg.DISP_AGE j) 31 16) → d.ageGain c = d.fld (Reg.DISP_AGE k) 9 0) ∧
  (∀ (d : Dev) (i : Nat), d.rbit Reg.DISP_CTRL 2 = true → d.gainOf i = d.ageGain (tget 0 d.disp.stress i)) ∧
  (∀ (d : Dev) (i : Nat), d.rbit Reg.DISP_CTRL 2 = false → d.gainOf i = 0) ∧
  (∀ (s : State) (volt curr : Nat), s.dev.rbit Reg.DISP_CTRL 2 = false →
    ∃ t, exec (.dispFrameStart volt curr) s = .next t ∧ t.dev.disp.stress = s.dev.disp.stress ∧ t.dev.disp.accum = s.dev.disp.accum)

/-- R371: the coil channels of an outlet whose type is not NONE refuse REG_WRITE and LSW_SET with DENIED; a coil channel of a slot of type NONE and an auxiliary channel are never so refused. -/
def Obligations.CoilsBelongToSessions : Prop :=
  (∀ (d : Dev) (w : Nat → Word) (n : Fin 32) (k : Fin 2) (v : Word), d.outType n.val ≠ 0 → v &&& 0x7FFFFC00#32 = 0 → wfld v 9 0 ≤ 1000 →
    d.wordStatus w (Reg.LSW_CH_CMD (2 * n.val + k.val)) v 0xFFFFFFFF = 0x18) ∧
  (∀ (d : Dev) (c : Cmd) (n : Fin 32) (k : Fin 2), d.outType n.val ≠ 0 → c.payload.length = 4 → num c.payload 0 1 = 2 * n.val + k.val → num c.payload 1 1 ≤ 1 → num c.payload 2 2 ≤ 1000 →
    opLswSet d c = (d, .done 0x18 [])) ∧
  (∀ (d : Dev) (w : Nat → Word) (ch : Fin 80) (v : Word), (64 ≤ ch.val ∨ d.outType (ch.val / 2) = 0) → d.wordStatus w (Reg.LSW_CH_CMD ch.val) v 0xFFFFFFFF ≠ 0x18) ∧
  (∀ (d : Dev) (c : Cmd), (64 ≤ num c.payload 0 1 ∨ d.outType (num c.payload 0 1 / 2) = 0) → (opLswSet d c).2 ≠ .done 0x18 [])

/-- R421: a module discards every Pod frame and notice that carries a lower epoch than its own, and counts it. -/
def Obligations.LowerEpochDiscarded : Prop :=
  (∀ f : PodOut, Acts (.podFrameRx { body := f, crc := podCrc f }) (fun d => d.shellRuns = true ∧ d.twinEn = true ∧ d.rbit Reg.TWIN_POD_STATUS 2 = true ∧ f.epoch < d.rn Reg.TWIN_EPOCH)
    (fun d => (d.inc Reg.TWIN_STALE_CNT).raise Reg.TWIN_EVENT 64)) ∧
  (∀ (ip : BitVec 32) (b : Bytes), b.length = 16 → b.take 4 = [0x4B, 0x42, 0x54, 0x4E] → num b 12 4 = (crc32c (b.take 12)).toNat → Acts (.epochNoticeRx ip b)
    (fun d => d.shellRuns = true ∧ d.ethRuns = true ∧ d.twinEn = true ∧ d.rbit Reg.TWIN_CFG 17 = true ∧ ip.toNat = d.rn Reg.TWIN_PEER_IP ∧ num b 4 4 < d.rn Reg.TWIN_EPOCH)
    (fun d => (d.inc Reg.TWIN_STALE_CNT).raise Reg.TWIN_EVENT 64))

/-- R192: every record carries a 64-bit counter, one more than that of the record before it, and the first record after factory formatting carries 1. -/
def Obligations.RecordCountersRise : Prop :=
  (∀ (k : Kernel) (typ chan session : Nat) (body : Bytes) (signed zero : Bool), ∃ l : List KRec, l ≠ [] ∧ (k.addRec typ chan session body signed zero).buf = k.buf ++ l ∧
    (k.addRec typ chan session body signed zero).head = k.head + l.length ∧ ∀ (i : Nat) (r : KRec), l[i]? = some r → r.ctr = k.head + 1 + i ∧ num r.bytes 8 8 = (k.head + 1 + i) % 2 ^ 64) ∧
  (∀ (typ chan session : Nat) (body : Bytes) (signed zero : Bool), ((Kernel.factory.addRec typ chan session body signed zero).buf.map fun r => (r.ctr, num r.bytes 8 8)) = [(1, 1)])
end

