-- ==== Sys2Proof/Laws/Fabric.lean ====
section
/-!
SUPPORT. What the fabric does with an admitted packet, said once for every opcode: a statement about an opcode's command is closed with one of these and the opcode's own function.
-/
namespace Sys2Proof.Laws
open Sys2Proof.Machine Sys2Proof.Claims

theorem cmdOf_launch {s : State} {h : Hdr} {op : Nat} {p : Bytes} (hl : h.launch = 0) : (cmdOf s h op p).launch = none := by
  simp [cmdOf, State.accepted, packetOf, hl]

@[simp] theorem cmdOf_opcode (s : State) (h : Hdr) (op : Nat) (p : Bytes) : (cmdOf s h op p).opcode = op := rfl
@[simp] theorem cmdOf_payload (s : State) (h : Hdr) (op : Nat) (p : Bytes) : (cmdOf s h op p).payload = p := rfl
@[simp] theorem cmdOf_id (s : State) (h : Hdr) (op : Nat) (p : Bytes) : (cmdOf s h op p).id = s.fab.nextId := rfl

/-- An opcode that is not FAB_CANCEL or REPLY_RECALL acts on the device alone. -/
theorem runOp_dev {s : State} {c : Cmd} {f : Dev → Cmd → Dev × Ans} (hr : (opSpec c.opcode).bind (·.run) = some f) (hn : c.opcode ≠ 0x0106 ∧ c.opcode ≠ 0x0107) (hk : (c.queue, c.tag) ∉ s.fab.faults) :
    s.runOp c = ({ s with dev := (f s.dev c).1 }, (f s.dev c).2) := by
  simp [State.runOp, Fab.faulted, hn.1, hn.2, hr, hk]

@[simp] theorem shown_faults (s : State) : s.shown.fab.faults = s.fab.faults := rfl
@[simp] theorem taken_faults (s : State) (h : Hdr) (op : Nat) (p : Bytes) (ph : Phase) : (taken s h op p ph).fab.faults = s.fab.faults := rfl
@[simp] theorem acceptedIn_faults (s : State) (h : Hdr) (op : Nat) (p : Bytes) (ph : Phase) : (acceptedIn s h op p ph).fab.faults = s.fab.faults := rfl
@[simp] theorem cmdOf_queue (s : State) (h : Hdr) (op : Nat) (p : Bytes) : (cmdOf s h op p).queue = h.queue.toNat := rfl
@[simp] theorem cmdOf_tag (s : State) (h : Hdr) (op : Nat) (p : Bytes) : (cmdOf s h op p).tag = h.tag.toNat := rfl

/-- What an admitted command reads meets no uncorrectable error. -/
theorem admitted_no_fault {s : State} {h : Hdr} {op : Nat} {p : Bytes} (ha : Admitted s h op p) : (h.queue.toNat, h.tag.toNat) ∉ s.fab.faults := ha.2.2.2.2

/-- An admitted packet is accepted. -/
theorem submit_admitted {s : State} {h : Hdr} {op : Nat} {p : Bytes} (ha : Admitted s h op p) : s.submit h op p = (s.accept (packetOf s h op p)).settle := by
  obtain ⟨⟨h1, h0⟩, h2, h3, h4, -⟩ := ha
  have h5 : ¬ (1024 < p.length) := by omega
  unfold State.submit
  simp only [h1, h0, h2, h5, if_false, Bool.not_true, Bool.or_false, Bool.false_eq_true]
  change ((s.arrive (packetOf s h op p)).settle) = _
  simp only [State.arrive, h4]

/-- A command that completes in its answer acts at once (R45). -/
theorem accept_now {s : State} {h : Hdr} {op : Nat} {p : Bytes} (hnow : ((opSpec op).any (·.immediate) && (cmdOf s h op p).launch.isNone) = true) :
    s.accept (packetOf s h op p) = match (taken s h op p .answered).shown.runOp (cmdOf s h op p) with
      | (t, .done st pl) => t.onFab fun f => { f.keep (t.dev.reply (cmdOf s h op p) st pl) with answers := (f.keep (t.dev.reply (cmdOf s h op p) st pl)).answers ++ [answerOf s h op p (t.dev.reply (cmdOf s h op p) st pl) (.final (cmdOf s h op p).id)] }
      | (t, .running) => t.onFab fun f => { f.setPhase (cmdOf s h op p).id .running with answers := (f.setPhase (cmdOf s h op p).id .running).answers ++ [answerOf s h op p (t.dev.reply (cmdOf s h op p) St.accepted []) .accepted] } := by
  have h2 : (Option.any (fun x => x.immediate) (opSpec (packetOf s h op p).opcode) && (s.accepted (packetOf s h op p)).launch.isNone) = true := hnow
  unfold State.accept
  simp only [h2, if_true]
  rfl

/-- Any other command is answered ACCEPTED, and starts unless it waits for its launch pip (R45, R59). -/
theorem accept_later {s : State} {h : Hdr} {op : Nat} {p : Bytes} (hnow : ((opSpec op).any (·.immediate) && (cmdOf s h op p).launch.isNone) = false) :
    s.accept (packetOf s h op p) = if (cmdOf s h op p).launch.isSome then acceptedIn s h op p .waitLaunch else (acceptedIn s h op p .running).start (cmdOf s h op p) := by
  have h2 : (Option.any (fun x => x.immediate) (opSpec (packetOf s h op p).opcode) && (s.accepted (packetOf s h op p)).launch.isNone) = false := hnow
  unfold State.accept
  simp only [h2]
  cases hc : (s.accepted (packetOf s h op p)).launch <;> simp [cmdOf, hc] <;> simp [acceptedIn, taken, cmdOf] <;> rfl

/-- The newly accepted command waits to start. -/
theorem waits_accepted (s : State) (h : Hdr) (op : Nat) (p : Bytes) : (acceptedIn s h op p .running).fab.waits (cmdOf s h op p).id = true := by
  simp [acceptedIn, State.shown, taken, Fab.waits]

/-- An immediate command whose function answers leaves its reply as its answer. -/
theorem submit_answers {s : State} {h : Hdr} {op : Nat} {p : Bytes} {o : OpSpec} {f : Dev → Cmd → Dev × Ans} {d : Dev} {st : Nat} {pl : Bytes}
    (ha : Admitted s h op p) (hl : h.launch = 0) (ho : opSpec op = some o) (hi : o.immediate = true) (hr : o.run = some f) (hn : op ≠ 0x0106 ∧ op ≠ 0x0107)
    (hf : f (begun s h op p).dev (cmdOf s h op p) = (d, .done st pl)) : s.submit h op p = answered s h op p d st pl := by
  have hx : (taken s h op p .answered).shown.runOp (cmdOf s h op p) = ({ (begun s h op p) with dev := d }, .done st pl) := by
    rw [runOp_dev (f := f) (by simp [ho, hr]) (by simpa using hn) (by simpa using admitted_no_fault ha)]
    simp only [begun] at hf ⊢
    rw [hf]
  rw [submit_admitted ha, accept_now (by simp [ho, hi, cmdOf_launch hl]), hx]
  rfl

/-- An asynchronous command without a launch pip that answers when it starts leaves a reply for the collector. -/
theorem submit_produces {s : State} {h : Hdr} {op : Nat} {p : Bytes} {o : OpSpec} {f : Dev → Cmd → Dev × Ans} {d : Dev} {st : Nat} {pl : Bytes}
    (ha : Admitted s h op p) (hl : h.launch = 0) (ho : opSpec op = some o) (hi : o.immediate = false) (hr : o.run = some f) (hn : op ≠ 0x0106 ∧ op ≠ 0x0107 ∧ op ≠ 0x0104)
    (hq : (cmdOf s h op p).needsQuiet = false) (hf : f (startDev s h op p) (cmdOf s h op p) = (d, .done st pl)) :
    s.submit h op p = goesOn s h op p d (.produced st pl (startDev s h op p).pip) := by
  have hx : (acceptedIn s h op p .running).runOp (cmdOf s h op p) = ({ (acceptedIn s h op p .running) with dev := d }, .done st pl) := by
    rw [runOp_dev (f := f) (by simp [ho, hr]) (by simpa using ⟨hn.1, hn.2.1⟩) (by simpa using admitted_no_fault ha)]
    simp only [startDev] at hf ⊢
    rw [hf]
  rw [submit_admitted ha, accept_later (by simp [ho, hi])]
  simp only [cmdOf_launch hl, Option.isSome_none, if_false, Bool.false_eq_true, State.start, waits_accepted, Bool.not_true, cmdOf_opcode, hn.2.2, hx, hq, Bool.false_and]
  rfl

/-- An asynchronous command without a launch pip that its unit works on. -/
theorem submit_works {s : State} {h : Hdr} {op : Nat} {p : Bytes} {o : OpSpec} {f : Dev → Cmd → Dev × Ans} {d : Dev}
    (ha : Admitted s h op p) (hl : h.launch = 0) (ho : opSpec op = some o) (hi : o.immediate = false) (hr : o.run = some f) (hn : op ≠ 0x0106 ∧ op ≠ 0x0107 ∧ op ≠ 0x0104)
    (hq : (cmdOf s h op p).needsQuiet = false) (hf : f (startDev s h op p) (cmdOf s h op p) = (d, .running)) :
    s.submit h op p = goesOn s h op p d .running := by
  have hx : (acceptedIn s h op p .running).runOp (cmdOf s h op p) = ({ (acceptedIn s h op p .running) with dev := d }, .running) := by
    rw [runOp_dev (f := f) (by simp [ho, hr]) (by simpa using ⟨hn.1, hn.2.1⟩) (by simpa using admitted_no_fault ha)]
    simp only [startDev] at hf ⊢
    rw [hf]
  rw [submit_admitted ha, accept_later (by simp [ho, hi])]
  simp only [cmdOf_launch hl, Option.isSome_none, if_false, Bool.false_eq_true, State.start, waits_accepted, Bool.not_true, cmdOf_opcode, hn.2.2, hx, hq]
  rfl

/-- A command that needs a quiet pip waits for one with nothing done (R607). -/
theorem submit_waits {s : State} {h : Hdr} {op : Nat} {p : Bytes} {o : OpSpec} {f : Dev → Cmd → Dev × Ans} {a : Ans}
    (ha : Admitted s h op p) (hl : h.launch = 0) (ho : opSpec op = some o) (hi : o.immediate = false) (hr : o.run = some f) (hn : op ≠ 0x0106 ∧ op ≠ 0x0107 ∧ op ≠ 0x0104)
    (hq : (cmdOf s h op p).needsQuiet = true) (hf : (f (startDev s h op p) (cmdOf s h op p)).2 = a) (hok : a = .running ∨ ∃ pl, a = .done 0 pl)
    (hp : (startDev s h op p).pip = s.dev.pip) :
    s.submit h op p = goesOn s h op p (startDev s h op p) (.waitQuiet (s.dev.pip + 1) (min (s.dev.pip + 40) (cmdOf s h op p).deadline)) := by
  have hx := runOp_dev (s := acceptedIn s h op p .running) (c := cmdOf s h op p) (f := f) (by simp [ho, hr]) (by simpa using ⟨hn.1, hn.2.1⟩) (by simpa using admitted_no_fault ha)
  rw [submit_admitted ha, accept_later (by simp [ho, hi])]
  simp only [startDev] at hf hp
  rcases hok with rfl | ⟨pl, rfl⟩ <;>
  · simp only [cmdOf_launch hl, Option.isSome_none, if_false, Bool.false_eq_true, State.start, waits_accepted, Bool.not_true, cmdOf_opcode, hn.2.2, hx, hq, hf, hp, if_true, Bool.true_and, decide_true]
    rfl

end Sys2Proof.Laws
end

