-- ==== Sys2Proof/Laws/Opcodes.lean ====
section
/-!
SUPPORT. From what an opcode's function answers to what its command does: one lemma for each way in which an opcode completes.
-/
namespace Sys2Proof.Laws
open Sys2Proof.Machine Sys2Proof.Claims

theorem check_nil (d : Dev) (k : Dev × Ans) : check d [] k = k := rfl

/-- The checks are made in order (R606). -/
theorem check_cons (d : Dev) (b : Bool) (st : Nat) (l : List (Bool × Nat)) (k : Dev × Ans) : check d ((b, st) :: l) k = if b then (d, .done st []) else check d l k := by
  cases b <;> simp [check, List.find?]

section
variable {mk : Hdr → Bytes → Instr} {op : Nat} {good : Dev → Bytes → Prop} {eff : Dev → Cmd → Dev} {pl : Dev → Cmd → Bytes} (f : Dev → Cmd → Dev × Ans) (o : OpSpec)

theorem answersAtOnce_of (hm : ∀ h p s, exec (mk h p) s = .next (s.submit h op p)) (ho : opSpec op = some o) (hi : o.immediate = true) (hr : o.run = some f)
    (hn : op ≠ 0x0106 ∧ op ≠ 0x0107) (hf : ∀ (d : Dev) (c : Cmd), good d c.payload → f d c = (eff d c, .done St.ok (pl d c))) : AnswersAtOnce mk op good eff pl := by
  intro s h p ha hl hg
  rw [hm, submit_answers ha hl ho hi hr hn (hf _ _ hg)]

theorem producesReply_of (hm : ∀ h p s, exec (mk h p) s = .next (s.submit h op p)) (ho : opSpec op = some o) (hi : o.immediate = false) (hr : o.run = some f)
    (hn : op ≠ 0x0106 ∧ op ≠ 0x0107 ∧ op ≠ 0x0104) (hq : ∀ d (c : Cmd), c.opcode = op → good d c.payload → c.needsQuiet = false)
    (hf : ∀ (d : Dev) (c : Cmd), good d c.payload → f d c = (eff d c, .done St.ok (pl d c))) : ProducesReply mk op good eff pl := by
  intro s h p ha hl hg
  rw [hm, submit_produces ha hl ho hi hr hn (hq _ _ rfl hg) (hf _ _ hg)]

theorem startsWork_of (hm : ∀ h p s, exec (mk h p) s = .next (s.submit h op p)) (ho : opSpec op = some o) (hi : o.immediate = false) (hr : o.run = some f)
    (hn : op ≠ 0x0106 ∧ op ≠ 0x0107 ∧ op ≠ 0x0104) (hq : ∀ d (c : Cmd), c.opcode = op → good d c.payload → c.needsQuiet = false)
    (hf : ∀ (d : Dev) (c : Cmd), c.opcode = op → good d c.payload → f d c = (eff d c, .running)) : StartsWork mk op good eff := by
  intro s h p ha hl hg
  rw [hm, submit_works ha hl ho hi hr hn (hq _ _ rfl hg) (hf _ _ rfl hg)]

end

/-- A step of the device acts where its function does. -/
theorem acts_of {i : Instr} {good : Dev → Prop} {eff f : Dev → Dev} (hm : ∀ s : State, exec i s = .next (s.devStep f)) (hf : ∀ d, good d → f d = eff d) : Acts i good eff := by
  intro s hg
  rw [hm, State.devStep, State.onDev, hf _ hg]

/-- A MEM_MBIST_RUN that brings what the state lists for it already is its packet's arrival. -/
theorem exec_mbistRun (h : Hdr) (p : Bytes) (s : State) : exec (.memMbistRun (tget [] s.dev.mem.defects (mbistKey h.queue.toNat h.tag.toNat)) h p) s = .next (s.submit h 0x0F03 p) := by
  simp [exec, execMemMbistRun, State.onDev, Dev.mbistGiven]

/-- Every opcode row's command is its packet's arrival. -/
theorem exec_row (h : Hdr) (p : Bytes) (s : State) : ∀ r ∈ opcodeRows, exec (r.2 h p s) s = .next (s.submit h r.1 p) := by
  simp only [opcodeRows, List.forall_mem_append]
  refine ⟨⟨⟨?_, ?_⟩, ?_⟩, ?_⟩ <;>
  · intro r hr
    simp only [opcodeRows0, opcodeRows1, opcodeRows2, opcodeRows3, List.mem_cons, List.not_mem_nil, or_false] at hr
    rcases hr with rfl | rfl | rfl | rfl | rfl | rfl | rfl | rfl | rfl | rfl | rfl | rfl | rfl | rfl | rfl | rfl | rfl | rfl | rfl | rfl | rfl | rfl | rfl | rfl | rfl | rfl | rfl | rfl | rfl | rfl | rfl | rfl <;>
      first | rfl | exact exec_mbistRun _ _ _

end Sys2Proof.Laws
end

