-- ==== Sys2Proof/Laws/State.lean ====
section
/-!
SUPPORT. What each named update of the device and of the machine leaves in each field: later proofs cite these instead of unfolding an update.
-/
namespace Sys2Proof.Machine

/-! ### wr -/

@[simp] theorem Dev.wr_pip (d : Dev) (a : Nat) (v : Word) : (d.wr a v).pip = d.pip := rfl
@[simp] theorem Dev.wr_osc (d : Dev) (a : Nat) (v : Word) : (d.wr a v).osc = d.osc := rfl
@[simp] theorem Dev.wr_fresh (d : Dev) (a : Nat) (v : Word) : (d.wr a v).fresh = d.fresh := rfl
@[simp] theorem Dev.wr_regs (d : Dev) (a : Nat) (v : Word) : (d.wr a v).regs = tset 0 d.regs a (v ^^^ resetOf a) := rfl
@[simp] theorem Dev.wr_shadow (d : Dev) (a : Nat) (v : Word) : (d.wr a v).shadow = d.shadow := rfl
@[simp] theorem Dev.wr_live (d : Dev) (a : Nat) (v : Word) : (d.wr a v).live = d.live := rfl
@[simp] theorem Dev.wr_outbox (d : Dev) (a : Nat) (v : Word) : (d.wr a v).outbox = d.outbox := rfl
@[simp] theorem Dev.wr_straps (d : Dev) (a : Nat) (v : Word) : (d.wr a v).straps = d.straps := rfl
@[simp] theorem Dev.wr_sys (d : Dev) (a : Nat) (v : Word) : (d.wr a v).sys = d.sys := rfl
@[simp] theorem Dev.wr_time (d : Dev) (a : Nat) (v : Word) : (d.wr a v).time = d.time := rfl
@[simp] theorem Dev.wr_out (d : Dev) (a : Nat) (v : Word) : (d.wr a v).out = d.out := rfl
@[simp] theorem Dev.wr_kern (d : Dev) (a : Nat) (v : Word) : (d.wr a v).kern = d.kern := rfl
@[simp] theorem Dev.wr_mirror (d : Dev) (a : Nat) (v : Word) : (d.wr a v).mirror = d.mirror := rfl
@[simp] theorem Dev.wr_bill (d : Dev) (a : Nat) (v : Word) : (d.wr a v).bill = d.bill := rfl
@[simp] theorem Dev.wr_husk (d : Dev) (a : Nat) (v : Word) : (d.wr a v).husk = d.husk := rfl
@[simp] theorem Dev.wr_mesh (d : Dev) (a : Nat) (v : Word) : (d.wr a v).mesh = d.mesh := rfl
@[simp] theorem Dev.wr_key (d : Dev) (a : Nat) (v : Word) : (d.wr a v).key = d.key := rfl
@[simp] theorem Dev.wr_guard (d : Dev) (a : Nat) (v : Word) : (d.wr a v).guard = d.guard := rfl
@[simp] theorem Dev.wr_safe (d : Dev) (a : Nat) (v : Word) : (d.wr a v).safe = d.safe := rfl
@[simp] theorem Dev.wr_lsw (d : Dev) (a : Nat) (v : Word) : (d.wr a v).lsw = d.lsw := rfl
@[simp] theorem Dev.wr_disp (d : Dev) (a : Nat) (v : Word) : (d.wr a v).disp = d.disp := rfl
@[simp] theorem Dev.wr_tag (d : Dev) (a : Nat) (v : Word) : (d.wr a v).tag = d.tag := rfl
@[simp] theorem Dev.wr_fwu (d : Dev) (a : Nat) (v : Word) : (d.wr a v).fwu = d.fwu := rfl
@[simp] theorem Dev.wr_mem (d : Dev) (a : Nat) (v : Word) : (d.wr a v).mem = d.mem := rfl
@[simp] theorem Dev.wr_twin (d : Dev) (a : Nat) (v : Word) : (d.wr a v).twin = d.twin := rfl

/-! ### wn -/

@[simp] theorem Dev.wn_pip (d : Dev) (a n : Nat) : (d.wn a n).pip = d.pip := rfl
@[simp] theorem Dev.wn_osc (d : Dev) (a n : Nat) : (d.wn a n).osc = d.osc := rfl
@[simp] theorem Dev.wn_fresh (d : Dev) (a n : Nat) : (d.wn a n).fresh = d.fresh := rfl
@[simp] theorem Dev.wn_regs (d : Dev) (a n : Nat) : (d.wn a n).regs = tset 0 d.regs a (word n ^^^ resetOf a) := rfl
@[simp] theorem Dev.wn_shadow (d : Dev) (a n : Nat) : (d.wn a n).shadow = d.shadow := rfl
@[simp] theorem Dev.wn_live (d : Dev) (a n : Nat) : (d.wn a n).live = d.live := rfl
@[simp] theorem Dev.wn_outbox (d : Dev) (a n : Nat) : (d.wn a n).outbox = d.outbox := rfl
@[simp] theorem Dev.wn_straps (d : Dev) (a n : Nat) : (d.wn a n).straps = d.straps := rfl
@[simp] theorem Dev.wn_sys (d : Dev) (a n : Nat) : (d.wn a n).sys = d.sys := rfl
@[simp] theorem Dev.wn_time (d : Dev) (a n : Nat) : (d.wn a n).time = d.time := rfl
@[simp] theorem Dev.wn_out (d : Dev) (a n : Nat) : (d.wn a n).out = d.out := rfl
@[simp] theorem Dev.wn_kern (d : Dev) (a n : Nat) : (d.wn a n).kern = d.kern := rfl
@[simp] theorem Dev.wn_mirror (d : Dev) (a n : Nat) : (d.wn a n).mirror = d.mirror := rfl
@[simp] theorem Dev.wn_bill (d : Dev) (a n : Nat) : (d.wn a n).bill = d.bill := rfl
@[simp] theorem Dev.wn_husk (d : Dev) (a n : Nat) : (d.wn a n).husk = d.husk := rfl
@[simp] theorem Dev.wn_mesh (d : Dev) (a n : Nat) : (d.wn a n).mesh = d.mesh := rfl
@[simp] theorem Dev.wn_key (d : Dev) (a n : Nat) : (d.wn a n).key = d.key := rfl
@[simp] theorem Dev.wn_guard (d : Dev) (a n : Nat) : (d.wn a n).guard = d.guard := rfl
@[simp] theorem Dev.wn_safe (d : Dev) (a n : Nat) : (d.wn a n).safe = d.safe := rfl
@[simp] theorem Dev.wn_lsw (d : Dev) (a n : Nat) : (d.wn a n).lsw = d.lsw := rfl
@[simp] theorem Dev.wn_disp (d : Dev) (a n : Nat) : (d.wn a n).disp = d.disp := rfl
@[simp] theorem Dev.wn_tag (d : Dev) (a n : Nat) : (d.wn a n).tag = d.tag := rfl
@[simp] theorem Dev.wn_fwu (d : Dev) (a n : Nat) : (d.wn a n).fwu = d.fwu := rfl
@[simp] theorem Dev.wn_mem (d : Dev) (a n : Nat) : (d.wn a n).mem = d.mem := rfl
@[simp] theorem Dev.wn_twin (d : Dev) (a n : Nat) : (d.wn a n).twin = d.twin := rfl

/-! ### setFld -/

@[simp] theorem Dev.setFld_pip (d : Dev) (a hi lo v : Nat) : (d.setFld a hi lo v).pip = d.pip := rfl
@[simp] theorem Dev.setFld_osc (d : Dev) (a hi lo v : Nat) : (d.setFld a hi lo v).osc = d.osc := rfl
@[simp] theorem Dev.setFld_fresh (d : Dev) (a hi lo v : Nat) : (d.setFld a hi lo v).fresh = d.fresh := rfl
@[simp] theorem Dev.setFld_regs (d : Dev) (a hi lo v : Nat) : (d.setFld a hi lo v).regs = tset 0 d.regs a (wput (d.rd a) hi lo v ^^^ resetOf a) := rfl
@[simp] theorem Dev.setFld_shadow (d : Dev) (a hi lo v : Nat) : (d.setFld a hi lo v).shadow = d.shadow := rfl
@[simp] theorem Dev.setFld_live (d : Dev) (a hi lo v : Nat) : (d.setFld a hi lo v).live = d.live := rfl
@[simp] theorem Dev.setFld_outbox (d : Dev) (a hi lo v : Nat) : (d.setFld a hi lo v).outbox = d.outbox := rfl
@[simp] theorem Dev.setFld_straps (d : Dev) (a hi lo v : Nat) : (d.setFld a hi lo v).straps = d.straps := rfl
@[simp] theorem Dev.setFld_sys (d : Dev) (a hi lo v : Nat) : (d.setFld a hi lo v).sys = d.sys := rfl
@[simp] theorem Dev.setFld_time (d : Dev) (a hi lo v : Nat) : (d.setFld a hi lo v).time = d.time := rfl
@[simp] theorem Dev.setFld_out (d : Dev) (a hi lo v : Nat) : (d.setFld a hi lo v).out = d.out := rfl
@[simp] theorem Dev.setFld_kern (d : Dev) (a hi lo v : Nat) : (d.setFld a hi lo v).kern = d.kern := rfl
@[simp] theorem Dev.setFld_mirror (d : Dev) (a hi lo v : Nat) : (d.setFld a hi lo v).mirror = d.mirror := rfl
@[simp] theorem Dev.setFld_bill (d : Dev) (a hi lo v : Nat) : (d.setFld a hi lo v).bill = d.bill := rfl
@[simp] theorem Dev.setFld_husk (d : Dev) (a hi lo v : Nat) : (d.setFld a hi lo v).husk = d.husk := rfl
@[simp] theorem Dev.setFld_mesh (d : Dev) (a hi lo v : Nat) : (d.setFld a hi lo v).mesh = d.mesh := rfl
@[simp] theorem Dev.setFld_key (d : Dev) (a hi lo v : Nat) : (d.setFld a hi lo v).key = d.key := rfl
@[simp] theorem Dev.setFld_guard (d : Dev) (a hi lo v : Nat) : (d.setFld a hi lo v).guard = d.guard := rfl
@[simp] theorem Dev.setFld_safe (d : Dev) (a hi lo v : Nat) : (d.setFld a hi lo v).safe = d.safe := rfl
@[simp] theorem Dev.setFld_lsw (d : Dev) (a hi lo v : Nat) : (d.setFld a hi lo v).lsw = d.lsw := rfl
@[simp] theorem Dev.setFld_disp (d : Dev) (a hi lo v : Nat) : (d.setFld a hi lo v).disp = d.disp := rfl
@[simp] theorem Dev.setFld_tag (d : Dev) (a hi lo v : Nat) : (d.setFld a hi lo v).tag = d.tag := rfl
@[simp] theorem Dev.setFld_fwu (d : Dev) (a hi lo v : Nat) : (d.setFld a hi lo v).fwu = d.fwu := rfl
@[simp] theorem Dev.setFld_mem (d : Dev) (a hi lo v : Nat) : (d.setFld a hi lo v).mem = d.mem := rfl
@[simp] theorem Dev.setFld_twin (d : Dev) (a hi lo v : Nat) : (d.setFld a hi lo v).twin = d.twin := rfl

/-! ### setBit -/

@[simp] theorem Dev.setBit_pip (d : Dev) (a i : Nat) (b : Bool) : (d.setBit a i b).pip = d.pip := rfl
@[simp] theorem Dev.setBit_osc (d : Dev) (a i : Nat) (b : Bool) : (d.setBit a i b).osc = d.osc := rfl
@[simp] theorem Dev.setBit_fresh (d : Dev) (a i : Nat) (b : Bool) : (d.setBit a i b).fresh = d.fresh := rfl
@[simp] theorem Dev.setBit_shadow (d : Dev) (a i : Nat) (b : Bool) : (d.setBit a i b).shadow = d.shadow := rfl
@[simp] theorem Dev.setBit_live (d : Dev) (a i : Nat) (b : Bool) : (d.setBit a i b).live = d.live := rfl
@[simp] theorem Dev.setBit_outbox (d : Dev) (a i : Nat) (b : Bool) : (d.setBit a i b).outbox = d.outbox := rfl
@[simp] theorem Dev.setBit_straps (d : Dev) (a i : Nat) (b : Bool) : (d.setBit a i b).straps = d.straps := rfl
@[simp] theorem Dev.setBit_sys (d : Dev) (a i : Nat) (b : Bool) : (d.setBit a i b).sys = d.sys := rfl
@[simp] theorem Dev.setBit_time (d : Dev) (a i : Nat) (b : Bool) : (d.setBit a i b).time = d.time := rfl
@[simp] theorem Dev.setBit_out (d : Dev) (a i : Nat) (b : Bool) : (d.setBit a i b).out = d.out := rfl
@[simp] theorem Dev.setBit_kern (d : Dev) (a i : Nat) (b : Bool) : (d.setBit a i b).kern = d.kern := rfl
@[simp] theorem Dev.setBit_mirror (d : Dev) (a i : Nat) (b : Bool) : (d.setBit a i b).mirror = d.mirror := rfl
@[simp] theorem Dev.setBit_bill (d : Dev) (a i : Nat) (b : Bool) : (d.setBit a i b).bill = d.bill := rfl
@[simp] theorem Dev.setBit_husk (d : Dev) (a i : Nat) (b : Bool) : (d.setBit a i b).husk = d.husk := rfl
@[simp] theorem Dev.setBit_mesh (d : Dev) (a i : Nat) (b : Bool) : (d.setBit a i b).mesh = d.mesh := rfl
@[simp] theorem Dev.setBit_key (d : Dev) (a i : Nat) (b : Bool) : (d.setBit a i b).key = d.key := rfl
@[simp] theorem Dev.setBit_guard (d : Dev) (a i : Nat) (b : Bool) : (d.setBit a i b).guard = d.guard := rfl
@[simp] theorem Dev.setBit_safe (d : Dev) (a i : Nat) (b : Bool) : (d.setBit a i b).safe = d.safe := rfl
@[simp] theorem Dev.setBit_lsw (d : Dev) (a i : Nat) (b : Bool) : (d.setBit a i b).lsw = d.lsw := rfl
@[simp] theorem Dev.setBit_disp (d : Dev) (a i : Nat) (b : Bool) : (d.setBit a i b).disp = d.disp := rfl
@[simp] theorem Dev.setBit_tag (d : Dev) (a i : Nat) (b : Bool) : (d.setBit a i b).tag = d.tag := rfl
@[simp] theorem Dev.setBit_fwu (d : Dev) (a i : Nat) (b : Bool) : (d.setBit a i b).fwu = d.fwu := rfl
@[simp] theorem Dev.setBit_mem (d : Dev) (a i : Nat) (b : Bool) : (d.setBit a i b).mem = d.mem := rfl
@[simp] theorem Dev.setBit_twin (d : Dev) (a i : Nat) (b : Bool) : (d.setBit a i b).twin = d.twin := rfl

/-! ### inc -/

@[simp] theorem Dev.inc_pip (d : Dev) (a : Nat) : (d.inc a).pip = d.pip := rfl
@[simp] theorem Dev.inc_osc (d : Dev) (a : Nat) : (d.inc a).osc = d.osc := rfl
@[simp] theorem Dev.inc_fresh (d : Dev) (a : Nat) : (d.inc a).fresh = d.fresh := rfl
@[simp] theorem Dev.inc_regs (d : Dev) (a : Nat) : (d.inc a).regs = tset 0 d.regs a ((d.rd a + 1) ^^^ resetOf a) := rfl
@[simp] theorem Dev.inc_shadow (d : Dev) (a : Nat) : (d.inc a).shadow = d.shadow := rfl
@[simp] theorem Dev.inc_live (d : Dev) (a : Nat) : (d.inc a).live = d.live := rfl
@[simp] theorem Dev.inc_outbox (d : Dev) (a : Nat) : (d.inc a).outbox = d.outbox := rfl
@[simp] theorem Dev.inc_straps (d : Dev) (a : Nat) : (d.inc a).straps = d.straps := rfl
@[simp] theorem Dev.inc_sys (d : Dev) (a : Nat) : (d.inc a).sys = d.sys := rfl
@[simp] theorem Dev.inc_time (d : Dev) (a : Nat) : (d.inc a).time = d.time := rfl
@[simp] theorem Dev.inc_out (d : Dev) (a : Nat) : (d.inc a).out = d.out := rfl
@[simp] theorem Dev.inc_kern (d : Dev) (a : Nat) : (d.inc a).kern = d.kern := rfl
@[simp] theorem Dev.inc_mirror (d : Dev) (a : Nat) : (d.inc a).mirror = d.mirror := rfl
@[simp] theorem Dev.inc_bill (d : Dev) (a : Nat) : (d.inc a).bill = d.bill := rfl
@[simp] theorem Dev.inc_husk (d : Dev) (a : Nat) : (d.inc a).husk = d.husk := rfl
@[simp] theorem Dev.inc_mesh (d : Dev) (a : Nat) : (d.inc a).mesh = d.mesh := rfl
@[simp] theorem Dev.inc_key (d : Dev) (a : Nat) : (d.inc a).key = d.key := rfl
@[simp] theorem Dev.inc_guard (d : Dev) (a : Nat) : (d.inc a).guard = d.guard := rfl
@[simp] theorem Dev.inc_safe (d : Dev) (a : Nat) : (d.inc a).safe = d.safe := rfl
@[simp] theorem Dev.inc_lsw (d : Dev) (a : Nat) : (d.inc a).lsw = d.lsw := rfl
@[simp] theorem Dev.inc_disp (d : Dev) (a : Nat) : (d.inc a).disp = d.disp := rfl
@[simp] theorem Dev.inc_tag (d : Dev) (a : Nat) : (d.inc a).tag = d.tag := rfl
@[simp] theorem Dev.inc_fwu (d : Dev) (a : Nat) : (d.inc a).fwu = d.fwu := rfl
@[simp] theorem Dev.inc_mem (d : Dev) (a : Nat) : (d.inc a).mem = d.mem := rfl
@[simp] theorem Dev.inc_twin (d : Dev) (a : Nat) : (d.inc a).twin = d.twin := rfl

/-! ### raise -/

@[simp] theorem Dev.raise_pip (d : Dev) (a mask : Nat) : (d.raise a mask).pip = d.pip := rfl
@[simp] theorem Dev.raise_osc (d : Dev) (a mask : Nat) : (d.raise a mask).osc = d.osc := rfl
@[simp] theorem Dev.raise_fresh (d : Dev) (a mask : Nat) : (d.raise a mask).fresh = d.fresh := rfl
@[simp] theorem Dev.raise_regs (d : Dev) (a mask : Nat) : (d.raise a mask).regs = tset 0 d.regs a ((d.rd a ||| word mask) ^^^ resetOf a) := rfl
@[simp] theorem Dev.raise_shadow (d : Dev) (a mask : Nat) : (d.raise a mask).shadow = d.shadow := rfl
@[simp] theorem Dev.raise_live (d : Dev) (a mask : Nat) : (d.raise a mask).live = d.live := rfl
@[simp] theorem Dev.raise_outbox (d : Dev) (a mask : Nat) : (d.raise a mask).outbox = d.outbox := rfl
@[simp] theorem Dev.raise_straps (d : Dev) (a mask : Nat) : (d.raise a mask).straps = d.straps := rfl
@[simp] theorem Dev.raise_sys (d : Dev) (a mask : Nat) : (d.raise a mask).sys = d.sys := rfl
@[simp] theorem Dev.raise_time (d : Dev) (a mask : Nat) : (d.raise a mask).time = d.time := rfl
@[simp] theorem Dev.raise_out (d : Dev) (a mask : Nat) : (d.raise a mask).out = d.out := rfl
@[simp] theorem Dev.raise_kern (d : Dev) (a mask : Nat) : (d.raise a mask).kern = d.kern := rfl
@[simp] theorem Dev.raise_mirror (d : Dev) (a mask : Nat) : (d.raise a mask).mirror = d.mirror := rfl
@[simp] theorem Dev.raise_bill (d : Dev) (a mask : Nat) : (d.raise a mask).bill = d.bill := rfl
@[simp] theorem Dev.raise_husk (d : Dev) (a mask : Nat) : (d.raise a mask).husk = d.husk := rfl
@[simp] theorem Dev.raise_mesh (d : Dev) (a mask : Nat) : (d.raise a mask).mesh = d.mesh := rfl
@[simp] theorem Dev.raise_key (d : Dev) (a mask : Nat) : (d.raise a mask).key = d.key := rfl
@[simp] theorem Dev.raise_guard (d : Dev) (a mask : Nat) : (d.raise a mask).guard = d.guard := rfl
@[simp] theorem Dev.raise_safe (d : Dev) (a mask : Nat) : (d.raise a mask).safe = d.safe := rfl
@[simp] theorem Dev.raise_lsw (d : Dev) (a mask : Nat) : (d.raise a mask).lsw = d.lsw := rfl
@[simp] theorem Dev.raise_disp (d : Dev) (a mask : Nat) : (d.raise a mask).disp = d.disp := rfl
@[simp] theorem Dev.raise_tag (d : Dev) (a mask : Nat) : (d.raise a mask).tag = d.tag := rfl
@[simp] theorem Dev.raise_fwu (d : Dev) (a mask : Nat) : (d.raise a mask).fwu = d.fwu := rfl
@[simp] theorem Dev.raise_mem (d : Dev) (a mask : Nat) : (d.raise a mask).mem = d.mem := rfl
@[simp] theorem Dev.raise_twin (d : Dev) (a mask : Nat) : (d.raise a mask).twin = d.twin := rfl

/-! ### kernSend -/

@[simp] theorem Dev.kernSend_pip (d : Dev) (c : KCmd) : (d.kernSend c).pip = d.pip := rfl
@[simp] theorem Dev.kernSend_osc (d : Dev) (c : KCmd) : (d.kernSend c).osc = d.osc := rfl
@[simp] theorem Dev.kernSend_fresh (d : Dev) (c : KCmd) : (d.kernSend c).fresh = d.fresh := rfl
@[simp] theorem Dev.kernSend_regs (d : Dev) (c : KCmd) : (d.kernSend c).regs = d.regs := rfl
@[simp] theorem Dev.kernSend_shadow (d : Dev) (c : KCmd) : (d.kernSend c).shadow = d.shadow := rfl
@[simp] theorem Dev.kernSend_live (d : Dev) (c : KCmd) : (d.kernSend c).live = d.live := rfl
@[simp] theorem Dev.kernSend_outbox (d : Dev) (c : KCmd) : (d.kernSend c).outbox = d.outbox := rfl
@[simp] theorem Dev.kernSend_straps (d : Dev) (c : KCmd) : (d.kernSend c).straps = d.straps := rfl
@[simp] theorem Dev.kernSend_sys (d : Dev) (c : KCmd) : (d.kernSend c).sys = d.sys := rfl
@[simp] theorem Dev.kernSend_time (d : Dev) (c : KCmd) : (d.kernSend c).time = d.time := rfl
@[simp] theorem Dev.kernSend_out (d : Dev) (c : KCmd) : (d.kernSend c).out = d.out := rfl
@[simp] theorem Dev.kernSend_mirror (d : Dev) (c : KCmd) : (d.kernSend c).mirror = d.mirror := rfl
@[simp] theorem Dev.kernSend_bill (d : Dev) (c : KCmd) : (d.kernSend c).bill = d.bill := rfl
@[simp] theorem Dev.kernSend_husk (d : Dev) (c : KCmd) : (d.kernSend c).husk = d.husk := rfl
@[simp] theorem Dev.kernSend_mesh (d : Dev) (c : KCmd) : (d.kernSend c).mesh = d.mesh := rfl
@[simp] theorem Dev.kernSend_key (d : Dev) (c : KCmd) : (d.kernSend c).key = d.key := rfl
@[simp] theorem Dev.kernSend_guard (d : Dev) (c : KCmd) : (d.kernSend c).guard = d.guard := rfl
@[simp] theorem Dev.kernSend_safe (d : Dev) (c : KCmd) : (d.kernSend c).safe = d.safe := rfl
@[simp] theorem Dev.kernSend_lsw (d : Dev) (c : KCmd) : (d.kernSend c).lsw = d.lsw := rfl
@[simp] theorem Dev.kernSend_disp (d : Dev) (c : KCmd) : (d.kernSend c).disp = d.disp := rfl
@[simp] theorem Dev.kernSend_tag (d : Dev) (c : KCmd) : (d.kernSend c).tag = d.tag := rfl
@[simp] theorem Dev.kernSend_fwu (d : Dev) (c : KCmd) : (d.kernSend c).fwu = d.fwu := rfl
@[simp] theorem Dev.kernSend_mem (d : Dev) (c : KCmd) : (d.kernSend c).mem = d.mem := rfl
@[simp] theorem Dev.kernSend_twin (d : Dev) (c : KCmd) : (d.kernSend c).twin = d.twin := rfl

/-! ### setSlot -/

@[simp] theorem Dev.setSlot_pip (d : Dev) (n : Nat) (k : KeySlot) : (d.setSlot n k).pip = d.pip := rfl
@[simp] theorem Dev.setSlot_osc (d : Dev) (n : Nat) (k : KeySlot) : (d.setSlot n k).osc = d.osc := rfl
@[simp] theorem Dev.setSlot_fresh (d : Dev) (n : Nat) (k : KeySlot) : (d.setSlot n k).fresh = d.fresh := rfl
@[simp] theorem Dev.setSlot_regs (d : Dev) (n : Nat) (k : KeySlot) : (d.setSlot n k).regs = d.regs := rfl
@[simp] theorem Dev.setSlot_shadow (d : Dev) (n : Nat) (k : KeySlot) : (d.setSlot n k).shadow = d.shadow := rfl
@[simp] theorem Dev.setSlot_live (d : Dev) (n : Nat) (k : KeySlot) : (d.setSlot n k).live = d.live := rfl
@[simp] theorem Dev.setSlot_outbox (d : Dev) (n : Nat) (k : KeySlot) : (d.setSlot n k).outbox = d.outbox := rfl
@[simp] theorem Dev.setSlot_straps (d : Dev) (n : Nat) (k : KeySlot) : (d.setSlot n k).straps = d.straps := rfl
@[simp] theorem Dev.setSlot_sys (d : Dev) (n : Nat) (k : KeySlot) : (d.setSlot n k).sys = d.sys := rfl
@[simp] theorem Dev.setSlot_time (d : Dev) (n : Nat) (k : KeySlot) : (d.setSlot n k).time = d.time := rfl
@[simp] theorem Dev.setSlot_out (d : Dev) (n : Nat) (k : KeySlot) : (d.setSlot n k).out = d.out := rfl
@[simp] theorem Dev.setSlot_kern (d : Dev) (n : Nat) (k : KeySlot) : (d.setSlot n k).kern = d.kern := rfl
@[simp] theorem Dev.setSlot_mirror (d : Dev) (n : Nat) (k : KeySlot) : (d.setSlot n k).mirror = d.mirror := rfl
@[simp] theorem Dev.setSlot_bill (d : Dev) (n : Nat) (k : KeySlot) : (d.setSlot n k).bill = d.bill := rfl
@[simp] theorem Dev.setSlot_husk (d : Dev) (n : Nat) (k : KeySlot) : (d.setSlot n k).husk = d.husk := rfl
@[simp] theorem Dev.setSlot_mesh (d : Dev) (n : Nat) (k : KeySlot) : (d.setSlot n k).mesh = d.mesh := rfl
@[simp] theorem Dev.setSlot_guard (d : Dev) (n : Nat) (k : KeySlot) : (d.setSlot n k).guard = d.guard := rfl
@[simp] theorem Dev.setSlot_safe (d : Dev) (n : Nat) (k : KeySlot) : (d.setSlot n k).safe = d.safe := rfl
@[simp] theorem Dev.setSlot_lsw (d : Dev) (n : Nat) (k : KeySlot) : (d.setSlot n k).lsw = d.lsw := rfl
@[simp] theorem Dev.setSlot_disp (d : Dev) (n : Nat) (k : KeySlot) : (d.setSlot n k).disp = d.disp := rfl
@[simp] theorem Dev.setSlot_tag (d : Dev) (n : Nat) (k : KeySlot) : (d.setSlot n k).tag = d.tag := rfl
@[simp] theorem Dev.setSlot_fwu (d : Dev) (n : Nat) (k : KeySlot) : (d.setSlot n k).fwu = d.fwu := rfl
@[simp] theorem Dev.setSlot_mem (d : Dev) (n : Nat) (k : KeySlot) : (d.setSlot n k).mem = d.mem := rfl
@[simp] theorem Dev.setSlot_twin (d : Dev) (n : Nat) (k : KeySlot) : (d.setSlot n k).twin = d.twin := rfl

/-! ### setShadow -/

@[simp] theorem Dev.setShadow_pip (d : Dev) (a : Nat) (v : Word) : (d.setShadow a v).pip = d.pip := rfl
@[simp] theorem Dev.setShadow_osc (d : Dev) (a : Nat) (v : Word) : (d.setShadow a v).osc = d.osc := rfl
@[simp] theorem Dev.setShadow_fresh (d : Dev) (a : Nat) (v : Word) : (d.setShadow a v).fresh = d.fresh := rfl
@[simp] theorem Dev.setShadow_regs (d : Dev) (a : Nat) (v : Word) : (d.setShadow a v).regs = d.regs := rfl
@[simp] theorem Dev.setShadow_shadow (d : Dev) (a : Nat) (v : Word) : (d.setShadow a v).shadow = tset 0 d.shadow a (v ^^^ d.rd a) := rfl
@[simp] theorem Dev.setShadow_live (d : Dev) (a : Nat) (v : Word) : (d.setShadow a v).live = d.live := rfl
@[simp] theorem Dev.setShadow_outbox (d : Dev) (a : Nat) (v : Word) : (d.setShadow a v).outbox = d.outbox := rfl
@[simp] theorem Dev.setShadow_straps (d : Dev) (a : Nat) (v : Word) : (d.setShadow a v).straps = d.straps := rfl
@[simp] theorem Dev.setShadow_sys (d : Dev) (a : Nat) (v : Word) : (d.setShadow a v).sys = d.sys := rfl
@[simp] theorem Dev.setShadow_time (d : Dev) (a : Nat) (v : Word) : (d.setShadow a v).time = d.time := rfl
@[simp] theorem Dev.setShadow_out (d : Dev) (a : Nat) (v : Word) : (d.setShadow a v).out = d.out := rfl
@[simp] theorem Dev.setShadow_kern (d : Dev) (a : Nat) (v : Word) : (d.setShadow a v).kern = d.kern := rfl
@[simp] theorem Dev.setShadow_mirror (d : Dev) (a : Nat) (v : Word) : (d.setShadow a v).mirror = d.mirror := rfl
@[simp] theorem Dev.setShadow_bill (d : Dev) (a : Nat) (v : Word) : (d.setShadow a v).bill = d.bill := rfl
@[simp] theorem Dev.setShadow_husk (d : Dev) (a : Nat) (v : Word) : (d.setShadow a v).husk = d.husk := rfl
@[simp] theorem Dev.setShadow_mesh (d : Dev) (a : Nat) (v : Word) : (d.setShadow a v).mesh = d.mesh := rfl
@[simp] theorem Dev.setShadow_key (d : Dev) (a : Nat) (v : Word) : (d.setShadow a v).key = d.key := rfl
@[simp] theorem Dev.setShadow_guard (d : Dev) (a : Nat) (v : Word) : (d.setShadow a v).guard = d.guard := rfl
@[simp] theorem Dev.setShadow_safe (d : Dev) (a : Nat) (v : Word) : (d.setShadow a v).safe = d.safe := rfl
@[simp] theorem Dev.setShadow_lsw (d : Dev) (a : Nat) (v : Word) : (d.setShadow a v).lsw = d.lsw := rfl
@[simp] theorem Dev.setShadow_disp (d : Dev) (a : Nat) (v : Word) : (d.setShadow a v).disp = d.disp := rfl
@[simp] theorem Dev.setShadow_tag (d : Dev) (a : Nat) (v : Word) : (d.setShadow a v).tag = d.tag := rfl
@[simp] theorem Dev.setShadow_fwu (d : Dev) (a : Nat) (v : Word) : (d.setShadow a v).fwu = d.fwu := rfl
@[simp] theorem Dev.setShadow_mem (d : Dev) (a : Nat) (v : Word) : (d.setShadow a v).mem = d.mem := rfl
@[simp] theorem Dev.setShadow_twin (d : Dev) (a : Nat) (v : Word) : (d.setShadow a v).twin = d.twin := rfl

/-! ### draw -/

@[simp] theorem Dev.draw_pip (d : Dev) (n : Nat) : (d.draw n).pip = d.pip := rfl
@[simp] theorem Dev.draw_osc (d : Dev) (n : Nat) : (d.draw n).osc = d.osc := rfl
@[simp] theorem Dev.draw_fresh (d : Dev) (n : Nat) : (d.draw n).fresh = d.fresh + n := rfl
@[simp] theorem Dev.draw_regs (d : Dev) (n : Nat) : (d.draw n).regs = d.regs := rfl
@[simp] theorem Dev.draw_shadow (d : Dev) (n : Nat) : (d.draw n).shadow = d.shadow := rfl
@[simp] theorem Dev.draw_live (d : Dev) (n : Nat) : (d.draw n).live = d.live := rfl
@[simp] theorem Dev.draw_outbox (d : Dev) (n : Nat) : (d.draw n).outbox = d.outbox := rfl
@[simp] theorem Dev.draw_straps (d : Dev) (n : Nat) : (d.draw n).straps = d.straps := rfl
@[simp] theorem Dev.draw_sys (d : Dev) (n : Nat) : (d.draw n).sys = d.sys := rfl
@[simp] theorem Dev.draw_time (d : Dev) (n : Nat) : (d.draw n).time = d.time := rfl
@[simp] theorem Dev.draw_out (d : Dev) (n : Nat) : (d.draw n).out = d.out := rfl
@[simp] theorem Dev.draw_kern (d : Dev) (n : Nat) : (d.draw n).kern = d.kern := rfl
@[simp] theorem Dev.draw_mirror (d : Dev) (n : Nat) : (d.draw n).mirror = d.mirror := rfl
@[simp] theorem Dev.draw_bill (d : Dev) (n : Nat) : (d.draw n).bill = d.bill := rfl
@[simp] theorem Dev.draw_husk (d : Dev) (n : Nat) : (d.draw n).husk = d.husk := rfl
@[simp] theorem Dev.draw_mesh (d : Dev) (n : Nat) : (d.draw n).mesh = d.mesh := rfl
@[simp] theorem Dev.draw_key (d : Dev) (n : Nat) : (d.draw n).key = d.key := rfl
@[simp] theorem Dev.draw_guard (d : Dev) (n : Nat) : (d.draw n).guard = d.guard := rfl
@[simp] theorem Dev.draw_safe (d : Dev) (n : Nat) : (d.draw n).safe = d.safe := rfl
@[simp] theorem Dev.draw_lsw (d : Dev) (n : Nat) : (d.draw n).lsw = d.lsw := rfl
@[simp] theorem Dev.draw_disp (d : Dev) (n : Nat) : (d.draw n).disp = d.disp := rfl
@[simp] theorem Dev.draw_tag (d : Dev) (n : Nat) : (d.draw n).tag = d.tag := rfl
@[simp] theorem Dev.draw_fwu (d : Dev) (n : Nat) : (d.draw n).fwu = d.fwu := rfl
@[simp] theorem Dev.draw_mem (d : Dev) (n : Nat) : (d.draw n).mem = d.mem := rfl
@[simp] theorem Dev.draw_twin (d : Dev) (n : Nat) : (d.draw n).twin = d.twin := rfl

/-! ### finish -/

@[simp] theorem Dev.finish_pip (d : Dev) (id st : Nat) (pl : Bytes) : (d.finish id st pl).pip = d.pip := rfl
@[simp] theorem Dev.finish_osc (d : Dev) (id st : Nat) (pl : Bytes) : (d.finish id st pl).osc = d.osc := rfl
@[simp] theorem Dev.finish_fresh (d : Dev) (id st : Nat) (pl : Bytes) : (d.finish id st pl).fresh = d.fresh := rfl
@[simp] theorem Dev.finish_regs (d : Dev) (id st : Nat) (pl : Bytes) : (d.finish id st pl).regs = d.regs := rfl
@[simp] theorem Dev.finish_shadow (d : Dev) (id st : Nat) (pl : Bytes) : (d.finish id st pl).shadow = d.shadow := rfl
@[simp] theorem Dev.finish_live (d : Dev) (id st : Nat) (pl : Bytes) : (d.finish id st pl).live = d.live := rfl
@[simp] theorem Dev.finish_outbox (d : Dev) (id st : Nat) (pl : Bytes) : (d.finish id st pl).outbox = d.outbox ++ [{ id := id, status := st, payload := pl, pip := d.pip }] := rfl
@[simp] theorem Dev.finish_straps (d : Dev) (id st : Nat) (pl : Bytes) : (d.finish id st pl).straps = d.straps := rfl
@[simp] theorem Dev.finish_sys (d : Dev) (id st : Nat) (pl : Bytes) : (d.finish id st pl).sys = d.sys := rfl
@[simp] theorem Dev.finish_time (d : Dev) (id st : Nat) (pl : Bytes) : (d.finish id st pl).time = d.time := rfl
@[simp] theorem Dev.finish_out (d : Dev) (id st : Nat) (pl : Bytes) : (d.finish id st pl).out = d.out := rfl
@[simp] theorem Dev.finish_kern (d : Dev) (id st : Nat) (pl : Bytes) : (d.finish id st pl).kern = d.kern := rfl
@[simp] theorem Dev.finish_mirror (d : Dev) (id st : Nat) (pl : Bytes) : (d.finish id st pl).mirror = d.mirror := rfl
@[simp] theorem Dev.finish_bill (d : Dev) (id st : Nat) (pl : Bytes) : (d.finish id st pl).bill = d.bill := rfl
@[simp] theorem Dev.finish_husk (d : Dev) (id st : Nat) (pl : Bytes) : (d.finish id st pl).husk = d.husk := rfl
@[simp] theorem Dev.finish_mesh (d : Dev) (id st : Nat) (pl : Bytes) : (d.finish id st pl).mesh = d.mesh := rfl
@[simp] theorem Dev.finish_key (d : Dev) (id st : Nat) (pl : Bytes) : (d.finish id st pl).key = d.key := rfl
@[simp] theorem Dev.finish_guard (d : Dev) (id st : Nat) (pl : Bytes) : (d.finish id st pl).guard = d.guard := rfl
@[simp] theorem Dev.finish_safe (d : Dev) (id st : Nat) (pl : Bytes) : (d.finish id st pl).safe = d.safe := rfl
@[simp] theorem Dev.finish_lsw (d : Dev) (id st : Nat) (pl : Bytes) : (d.finish id st pl).lsw = d.lsw := rfl
@[simp] theorem Dev.finish_disp (d : Dev) (id st : Nat) (pl : Bytes) : (d.finish id st pl).disp = d.disp := rfl
@[simp] theorem Dev.finish_tag (d : Dev) (id st : Nat) (pl : Bytes) : (d.finish id st pl).tag = d.tag := rfl
@[simp] theorem Dev.finish_fwu (d : Dev) (id st : Nat) (pl : Bytes) : (d.finish id st pl).fwu = d.fwu := rfl
@[simp] theorem Dev.finish_mem (d : Dev) (id st : Nat) (pl : Bytes) : (d.finish id st pl).mem = d.mem := rfl
@[simp] theorem Dev.finish_twin (d : Dev) (id st : Nat) (pl : Bytes) : (d.finish id st pl).twin = d.twin := rfl

/-! ### setO -/

@[simp] theorem Dev.setO_pip (d : Dev) (n : Nat) (f : Outlet → Outlet) : (d.setO n f).pip = d.pip := rfl
@[simp] theorem Dev.setO_osc (d : Dev) (n : Nat) (f : Outlet → Outlet) : (d.setO n f).osc = d.osc := rfl
@[simp] theorem Dev.setO_fresh (d : Dev) (n : Nat) (f : Outlet → Outlet) : (d.setO n f).fresh = d.fresh := rfl
@[simp] theorem Dev.setO_regs (d : Dev) (n : Nat) (f : Outlet → Outlet) : (d.setO n f).regs = d.regs := rfl
@[simp] theorem Dev.setO_shadow (d : Dev) (n : Nat) (f : Outlet → Outlet) : (d.setO n f).shadow = d.shadow := rfl
@[simp] theorem Dev.setO_live (d : Dev) (n : Nat) (f : Outlet → Outlet) : (d.setO n f).live = d.live := rfl
@[simp] theorem Dev.setO_outbox (d : Dev) (n : Nat) (f : Outlet → Outlet) : (d.setO n f).outbox = d.outbox := rfl
@[simp] theorem Dev.setO_straps (d : Dev) (n : Nat) (f : Outlet → Outlet) : (d.setO n f).straps = d.straps := rfl
@[simp] theorem Dev.setO_sys (d : Dev) (n : Nat) (f : Outlet → Outlet) : (d.setO n f).sys = d.sys := rfl
@[simp] theorem Dev.setO_time (d : Dev) (n : Nat) (f : Outlet → Outlet) : (d.setO n f).time = d.time := rfl
@[simp] theorem Dev.setO_kern (d : Dev) (n : Nat) (f : Outlet → Outlet) : (d.setO n f).kern = d.kern := rfl
@[simp] theorem Dev.setO_mirror (d : Dev) (n : Nat) (f : Outlet → Outlet) : (d.setO n f).mirror = d.mirror := rfl
@[simp] theorem Dev.setO_bill (d : Dev) (n : Nat) (f : Outlet → Outlet) : (d.setO n f).bill = d.bill := rfl
@[simp] theorem Dev.setO_husk (d : Dev) (n : Nat) (f : Outlet → Outlet) : (d.setO n f).husk = d.husk := rfl
@[simp] theorem Dev.setO_mesh (d : Dev) (n : Nat) (f : Outlet → Outlet) : (d.setO n f).mesh = d.mesh := rfl
@[simp] theorem Dev.setO_key (d : Dev) (n : Nat) (f : Outlet → Outlet) : (d.setO n f).key = d.key := rfl
@[simp] theorem Dev.setO_guard (d : Dev) (n : Nat) (f : Outlet → Outlet) : (d.setO n f).guard = d.guard := rfl
@[simp] theorem Dev.setO_safe (d : Dev) (n : Nat) (f : Outlet → Outlet) : (d.setO n f).safe = d.safe := rfl
@[simp] theorem Dev.setO_lsw (d : Dev) (n : Nat) (f : Outlet → Outlet) : (d.setO n f).lsw = d.lsw := rfl
@[simp] theorem Dev.setO_disp (d : Dev) (n : Nat) (f : Outlet → Outlet) : (d.setO n f).disp = d.disp := rfl
@[simp] theorem Dev.setO_tag (d : Dev) (n : Nat) (f : Outlet → Outlet) : (d.setO n f).tag = d.tag := rfl
@[simp] theorem Dev.setO_fwu (d : Dev) (n : Nat) (f : Outlet → Outlet) : (d.setO n f).fwu = d.fwu := rfl
@[simp] theorem Dev.setO_mem (d : Dev) (n : Nat) (f : Outlet → Outlet) : (d.setO n f).mem = d.mem := rfl
@[simp] theorem Dev.setO_twin (d : Dev) (n : Nat) (f : Outlet → Outlet) : (d.setO n f).twin = d.twin := rfl

/-! ### setG -/

@[simp] theorem Dev.setG_pip (d : Dev) (n : Nat) (f : GChan → GChan) : (d.setG n f).pip = d.pip := rfl
@[simp] theorem Dev.setG_osc (d : Dev) (n : Nat) (f : GChan → GChan) : (d.setG n f).osc = d.osc := rfl
@[simp] theorem Dev.setG_fresh (d : Dev) (n : Nat) (f : GChan → GChan) : (d.setG n f).fresh = d.fresh := rfl
@[simp] theorem Dev.setG_regs (d : Dev) (n : Nat) (f : GChan → GChan) : (d.setG n f).regs = d.regs := rfl
@[simp] theorem Dev.setG_shadow (d : Dev) (n : Nat) (f : GChan → GChan) : (d.setG n f).shadow = d.shadow := rfl
@[simp] theorem Dev.setG_live (d : Dev) (n : Nat) (f : GChan → GChan) : (d.setG n f).live = d.live := rfl
@[simp] theorem Dev.setG_outbox (d : Dev) (n : Nat) (f : GChan → GChan) : (d.setG n f).outbox = d.outbox := rfl
@[simp] theorem Dev.setG_straps (d : Dev) (n : Nat) (f : GChan → GChan) : (d.setG n f).straps = d.straps := rfl
@[simp] theorem Dev.setG_sys (d : Dev) (n : Nat) (f : GChan → GChan) : (d.setG n f).sys = d.sys := rfl
@[simp] theorem Dev.setG_time (d : Dev) (n : Nat) (f : GChan → GChan) : (d.setG n f).time = d.time := rfl
@[simp] theorem Dev.setG_out (d : Dev) (n : Nat) (f : GChan → GChan) : (d.setG n f).out = d.out := rfl
@[simp] theorem Dev.setG_kern (d : Dev) (n : Nat) (f : GChan → GChan) : (d.setG n f).kern = d.kern := rfl
@[simp] theorem Dev.setG_mirror (d : Dev) (n : Nat) (f : GChan → GChan) : (d.setG n f).mirror = d.mirror := rfl
@[simp] theorem Dev.setG_bill (d : Dev) (n : Nat) (f : GChan → GChan) : (d.setG n f).bill = d.bill := rfl
@[simp] theorem Dev.setG_husk (d : Dev) (n : Nat) (f : GChan → GChan) : (d.setG n f).husk = d.husk := rfl
@[simp] theorem Dev.setG_mesh (d : Dev) (n : Nat) (f : GChan → GChan) : (d.setG n f).mesh = d.mesh := rfl
@[simp] theorem Dev.setG_key (d : Dev) (n : Nat) (f : GChan → GChan) : (d.setG n f).key = d.key := rfl
@[simp] theorem Dev.setG_safe (d : Dev) (n : Nat) (f : GChan → GChan) : (d.setG n f).safe = d.safe := rfl
@[simp] theorem Dev.setG_lsw (d : Dev) (n : Nat) (f : GChan → GChan) : (d.setG n f).lsw = d.lsw := rfl
@[simp] theorem Dev.setG_disp (d : Dev) (n : Nat) (f : GChan → GChan) : (d.setG n f).disp = d.disp := rfl
@[simp] theorem Dev.setG_tag (d : Dev) (n : Nat) (f : GChan → GChan) : (d.setG n f).tag = d.tag := rfl
@[simp] theorem Dev.setG_fwu (d : Dev) (n : Nat) (f : GChan → GChan) : (d.setG n f).fwu = d.fwu := rfl
@[simp] theorem Dev.setG_mem (d : Dev) (n : Nat) (f : GChan → GChan) : (d.setG n f).mem = d.mem := rfl
@[simp] theorem Dev.setG_twin (d : Dev) (n : Nat) (f : GChan → GChan) : (d.setG n f).twin = d.twin := rfl

/-! ### setSys -/

@[simp] theorem Dev.setSys_pip (d : Dev) (f : Sys → Sys) : (d.setSys f).pip = d.pip := rfl
@[simp] theorem Dev.setSys_osc (d : Dev) (f : Sys → Sys) : (d.setSys f).osc = d.osc := rfl
@[simp] theorem Dev.setSys_fresh (d : Dev) (f : Sys → Sys) : (d.setSys f).fresh = d.fresh := rfl
@[simp] theorem Dev.setSys_regs (d : Dev) (f : Sys → Sys) : (d.setSys f).regs = d.regs := rfl
@[simp] theorem Dev.setSys_shadow (d : Dev) (f : Sys → Sys) : (d.setSys f).shadow = d.shadow := rfl
@[simp] theorem Dev.setSys_live (d : Dev) (f : Sys → Sys) : (d.setSys f).live = d.live := rfl
@[simp] theorem Dev.setSys_outbox (d : Dev) (f : Sys → Sys) : (d.setSys f).outbox = d.outbox := rfl
@[simp] theorem Dev.setSys_straps (d : Dev) (f : Sys → Sys) : (d.setSys f).straps = d.straps := rfl
@[simp] theorem Dev.setSys_sys (d : Dev) (f : Sys → Sys) : (d.setSys f).sys = f d.sys := rfl
@[simp] theorem Dev.setSys_time (d : Dev) (f : Sys → Sys) : (d.setSys f).time = d.time := rfl
@[simp] theorem Dev.setSys_out (d : Dev) (f : Sys → Sys) : (d.setSys f).out = d.out := rfl
@[simp] theorem Dev.setSys_kern (d : Dev) (f : Sys → Sys) : (d.setSys f).kern = d.kern := rfl
@[simp] theorem Dev.setSys_mirror (d : Dev) (f : Sys → Sys) : (d.setSys f).mirror = d.mirror := rfl
@[simp] theorem Dev.setSys_bill (d : Dev) (f : Sys → Sys) : (d.setSys f).bill = d.bill := rfl
@[simp] theorem Dev.setSys_husk (d : Dev) (f : Sys → Sys) : (d.setSys f).husk = d.husk := rfl
@[simp] theorem Dev.setSys_mesh (d : Dev) (f : Sys → Sys) : (d.setSys f).mesh = d.mesh := rfl
@[simp] theorem Dev.setSys_key (d : Dev) (f : Sys → Sys) : (d.setSys f).key = d.key := rfl
@[simp] theorem Dev.setSys_guard (d : Dev) (f : Sys → Sys) : (d.setSys f).guard = d.guard := rfl
@[simp] theorem Dev.setSys_safe (d : Dev) (f : Sys → Sys) : (d.setSys f).safe = d.safe := rfl
@[simp] theorem Dev.setSys_lsw (d : Dev) (f : Sys → Sys) : (d.setSys f).lsw = d.lsw := rfl
@[simp] theorem Dev.setSys_disp (d : Dev) (f : Sys → Sys) : (d.setSys f).disp = d.disp := rfl
@[simp] theorem Dev.setSys_tag (d : Dev) (f : Sys → Sys) : (d.setSys f).tag = d.tag := rfl
@[simp] theorem Dev.setSys_fwu (d : Dev) (f : Sys → Sys) : (d.setSys f).fwu = d.fwu := rfl
@[simp] theorem Dev.setSys_mem (d : Dev) (f : Sys → Sys) : (d.setSys f).mem = d.mem := rfl
@[simp] theorem Dev.setSys_twin (d : Dev) (f : Sys → Sys) : (d.setSys f).twin = d.twin := rfl

/-! ### setTime -/

@[simp] theorem Dev.setTime_pip (d : Dev) (f : TimeU → TimeU) : (d.setTime f).pip = d.pip := rfl
@[simp] theorem Dev.setTime_osc (d : Dev) (f : TimeU → TimeU) : (d.setTime f).osc = d.osc := rfl
@[simp] theorem Dev.setTime_fresh (d : Dev) (f : TimeU → TimeU) : (d.setTime f).fresh = d.fresh := rfl
@[simp] theorem Dev.setTime_regs (d : Dev) (f : TimeU → TimeU) : (d.setTime f).regs = d.regs := rfl
@[simp] theorem Dev.setTime_shadow (d : Dev) (f : TimeU → TimeU) : (d.setTime f).shadow = d.shadow := rfl
@[simp] theorem Dev.setTime_live (d : Dev) (f : TimeU → TimeU) : (d.setTime f).live = d.live := rfl
@[simp] theorem Dev.setTime_outbox (d : Dev) (f : TimeU → TimeU) : (d.setTime f).outbox = d.outbox := rfl
@[simp] theorem Dev.setTime_straps (d : Dev) (f : TimeU → TimeU) : (d.setTime f).straps = d.straps := rfl
@[simp] theorem Dev.setTime_sys (d : Dev) (f : TimeU → TimeU) : (d.setTime f).sys = d.sys := rfl
@[simp] theorem Dev.setTime_time (d : Dev) (f : TimeU → TimeU) : (d.setTime f).time = f d.time := rfl
@[simp] theorem Dev.setTime_out (d : Dev) (f : TimeU → TimeU) : (d.setTime f).out = d.out := rfl
@[simp] theorem Dev.setTime_kern (d : Dev) (f : TimeU → TimeU) : (d.setTime f).kern = d.kern := rfl
@[simp] theorem Dev.setTime_mirror (d : Dev) (f : TimeU → TimeU) : (d.setTime f).mirror = d.mirror := rfl
@[simp] theorem Dev.setTime_bill (d : Dev) (f : TimeU → TimeU) : (d.setTime f).bill = d.bill := rfl
@[simp] theorem Dev.setTime_husk (d : Dev) (f : TimeU → TimeU) : (d.setTime f).husk = d.husk := rfl
@[simp] theorem Dev.setTime_mesh (d : Dev) (f : TimeU → TimeU) : (d.setTime f).mesh = d.mesh := rfl
@[simp] theorem Dev.setTime_key (d : Dev) (f : TimeU → TimeU) : (d.setTime f).key = d.key := rfl
@[simp] theorem Dev.setTime_guard (d : Dev) (f : TimeU → TimeU) : (d.setTime f).guard = d.guard := rfl
@[simp] theorem Dev.setTime_safe (d : Dev) (f : TimeU → TimeU) : (d.setTime f).safe = d.safe := rfl
@[simp] theorem Dev.setTime_lsw (d : Dev) (f : TimeU → TimeU) : (d.setTime f).lsw = d.lsw := rfl
@[simp] theorem Dev.setTime_disp (d : Dev) (f : TimeU → TimeU) : (d.setTime f).disp = d.disp := rfl
@[simp] theorem Dev.setTime_tag (d : Dev) (f : TimeU → TimeU) : (d.setTime f).tag = d.tag := rfl
@[simp] theorem Dev.setTime_fwu (d : Dev) (f : TimeU → TimeU) : (d.setTime f).fwu = d.fwu := rfl
@[simp] theorem Dev.setTime_mem (d : Dev) (f : TimeU → TimeU) : (d.setTime f).mem = d.mem := rfl
@[simp] theorem Dev.setTime_twin (d : Dev) (f : TimeU → TimeU) : (d.setTime f).twin = d.twin := rfl

/-! ### setTwin -/

@[simp] theorem Dev.setTwin_pip (d : Dev) (f : TwinU → TwinU) : (d.setTwin f).pip = d.pip := rfl
@[simp] theorem Dev.setTwin_osc (d : Dev) (f : TwinU → TwinU) : (d.setTwin f).osc = d.osc := rfl
@[simp] theorem Dev.setTwin_fresh (d : Dev) (f : TwinU → TwinU) : (d.setTwin f).fresh = d.fresh := rfl
@[simp] theorem Dev.setTwin_regs (d : Dev) (f : TwinU → TwinU) : (d.setTwin f).regs = d.regs := rfl
@[simp] theorem Dev.setTwin_shadow (d : Dev) (f : TwinU → TwinU) : (d.setTwin f).shadow = d.shadow := rfl
@[simp] theorem Dev.setTwin_live (d : Dev) (f : TwinU → TwinU) : (d.setTwin f).live = d.live := rfl
@[simp] theorem Dev.setTwin_outbox (d : Dev) (f : TwinU → TwinU) : (d.setTwin f).outbox = d.outbox := rfl
@[simp] theorem Dev.setTwin_straps (d : Dev) (f : TwinU → TwinU) : (d.setTwin f).straps = d.straps := rfl
@[simp] theorem Dev.setTwin_sys (d : Dev) (f : TwinU → TwinU) : (d.setTwin f).sys = d.sys := rfl
@[simp] theorem Dev.setTwin_time (d : Dev) (f : TwinU → TwinU) : (d.setTwin f).time = d.time := rfl
@[simp] theorem Dev.setTwin_out (d : Dev) (f : TwinU → TwinU) : (d.setTwin f).out = d.out := rfl
@[simp] theorem Dev.setTwin_kern (d : Dev) (f : TwinU → TwinU) : (d.setTwin f).kern = d.kern := rfl
@[simp] theorem Dev.setTwin_mirror (d : Dev) (f : TwinU → TwinU) : (d.setTwin f).mirror = d.mirror := rfl
@[simp] theorem Dev.setTwin_bill (d : Dev) (f : TwinU → TwinU) : (d.setTwin f).bill = d.bill := rfl
@[simp] theorem Dev.setTwin_husk (d : Dev) (f : TwinU → TwinU) : (d.setTwin f).husk = d.husk := rfl
@[simp] theorem Dev.setTwin_mesh (d : Dev) (f : TwinU → TwinU) : (d.setTwin f).mesh = d.mesh := rfl
@[simp] theorem Dev.setTwin_key (d : Dev) (f : TwinU → TwinU) : (d.setTwin f).key = d.key := rfl
@[simp] theorem Dev.setTwin_guard (d : Dev) (f : TwinU → TwinU) : (d.setTwin f).guard = d.guard := rfl
@[simp] theorem Dev.setTwin_safe (d : Dev) (f : TwinU → TwinU) : (d.setTwin f).safe = d.safe := rfl
@[simp] theorem Dev.setTwin_lsw (d : Dev) (f : TwinU → TwinU) : (d.setTwin f).lsw = d.lsw := rfl
@[simp] theorem Dev.setTwin_disp (d : Dev) (f : TwinU → TwinU) : (d.setTwin f).disp = d.disp := rfl
@[simp] theorem Dev.setTwin_tag (d : Dev) (f : TwinU → TwinU) : (d.setTwin f).tag = d.tag := rfl
@[simp] theorem Dev.setTwin_fwu (d : Dev) (f : TwinU → TwinU) : (d.setTwin f).fwu = d.fwu := rfl
@[simp] theorem Dev.setTwin_mem (d : Dev) (f : TwinU → TwinU) : (d.setTwin f).mem = d.mem := rfl
@[simp] theorem Dev.setTwin_twin (d : Dev) (f : TwinU → TwinU) : (d.setTwin f).twin = f d.twin := rfl

/-! ### setTag -/

@[simp] theorem Dev.setTag_pip (d : Dev) (f : TagU → TagU) : (d.setTag f).pip = d.pip := rfl
@[simp] theorem Dev.setTag_osc (d : Dev) (f : TagU → TagU) : (d.setTag f).osc = d.osc := rfl
@[simp] theorem Dev.setTag_fresh (d : Dev) (f : TagU → TagU) : (d.setTag f).fresh = d.fresh := rfl
@[simp] theorem Dev.setTag_regs (d : Dev) (f : TagU → TagU) : (d.setTag f).regs = d.regs := rfl
@[simp] theorem Dev.setTag_shadow (d : Dev) (f : TagU → TagU) : (d.setTag f).shadow = d.shadow := rfl
@[simp] theorem Dev.setTag_live (d : Dev) (f : TagU → TagU) : (d.setTag f).live = d.live := rfl
@[simp] theorem Dev.setTag_outbox (d : Dev) (f : TagU → TagU) : (d.setTag f).outbox = d.outbox := rfl
@[simp] theorem Dev.setTag_straps (d : Dev) (f : TagU → TagU) : (d.setTag f).straps = d.straps := rfl
@[simp] theorem Dev.setTag_sys (d : Dev) (f : TagU → TagU) : (d.setTag f).sys = d.sys := rfl
@[simp] theorem Dev.setTag_time (d : Dev) (f : TagU → TagU) : (d.setTag f).time = d.time := rfl
@[simp] theorem Dev.setTag_out (d : Dev) (f : TagU → TagU) : (d.setTag f).out = d.out := rfl
@[simp] theorem Dev.setTag_kern (d : Dev) (f : TagU → TagU) : (d.setTag f).kern = d.kern := rfl
@[simp] theorem Dev.setTag_mirror (d : Dev) (f : TagU → TagU) : (d.setTag f).mirror = d.mirror := rfl
@[simp] theorem Dev.setTag_bill (d : Dev) (f : TagU → TagU) : (d.setTag f).bill = d.bill := rfl
@[simp] theorem Dev.setTag_husk (d : Dev) (f : TagU → TagU) : (d.setTag f).husk = d.husk := rfl
@[simp] theorem Dev.setTag_mesh (d : Dev) (f : TagU → TagU) : (d.setTag f).mesh = d.mesh := rfl
@[simp] theorem Dev.setTag_key (d : Dev) (f : TagU → TagU) : (d.setTag f).key = d.key := rfl
@[simp] theorem Dev.setTag_guard (d : Dev) (f : TagU → TagU) : (d.setTag f).guard = d.guard := rfl
@[simp] theorem Dev.setTag_safe (d : Dev) (f : TagU → TagU) : (d.setTag f).safe = d.safe := rfl
@[simp] theorem Dev.setTag_lsw (d : Dev) (f : TagU → TagU) : (d.setTag f).lsw = d.lsw := rfl
@[simp] theorem Dev.setTag_disp (d : Dev) (f : TagU → TagU) : (d.setTag f).disp = d.disp := rfl
@[simp] theorem Dev.setTag_tag (d : Dev) (f : TagU → TagU) : (d.setTag f).tag = f d.tag := rfl
@[simp] theorem Dev.setTag_fwu (d : Dev) (f : TagU → TagU) : (d.setTag f).fwu = d.fwu := rfl
@[simp] theorem Dev.setTag_mem (d : Dev) (f : TagU → TagU) : (d.setTag f).mem = d.mem := rfl
@[simp] theorem Dev.setTag_twin (d : Dev) (f : TagU → TagU) : (d.setTag f).twin = d.twin := rfl

/-! ### setMem -/

@[simp] theorem Dev.setMem_pip (d : Dev) (f : MemU → MemU) : (d.setMem f).pip = d.pip := rfl
@[simp] theorem Dev.setMem_osc (d : Dev) (f : MemU → MemU) : (d.setMem f).osc = d.osc := rfl
@[simp] theorem Dev.setMem_fresh (d : Dev) (f : MemU → MemU) : (d.setMem f).fresh = d.fresh := rfl
@[simp] theorem Dev.setMem_regs (d : Dev) (f : MemU → MemU) : (d.setMem f).regs = d.regs := rfl
@[simp] theorem Dev.setMem_shadow (d : Dev) (f : MemU → MemU) : (d.setMem f).shadow = d.shadow := rfl
@[simp] theorem Dev.setMem_live (d : Dev) (f : MemU → MemU) : (d.setMem f).live = d.live := rfl
@[simp] theorem Dev.setMem_outbox (d : Dev) (f : MemU → MemU) : (d.setMem f).outbox = d.outbox := rfl
@[simp] theorem Dev.setMem_straps (d : Dev) (f : MemU → MemU) : (d.setMem f).straps = d.straps := rfl
@[simp] theorem Dev.setMem_sys (d : Dev) (f : MemU → MemU) : (d.setMem f).sys = d.sys := rfl
@[simp] theorem Dev.setMem_time (d : Dev) (f : MemU → MemU) : (d.setMem f).time = d.time := rfl
@[simp] theorem Dev.setMem_out (d : Dev) (f : MemU → MemU) : (d.setMem f).out = d.out := rfl
@[simp] theorem Dev.setMem_kern (d : Dev) (f : MemU → MemU) : (d.setMem f).kern = d.kern := rfl
@[simp] theorem Dev.setMem_mirror (d : Dev) (f : MemU → MemU) : (d.setMem f).mirror = d.mirror := rfl
@[simp] theorem Dev.setMem_bill (d : Dev) (f : MemU → MemU) : (d.setMem f).bill = d.bill := rfl
@[simp] theorem Dev.setMem_husk (d : Dev) (f : MemU → MemU) : (d.setMem f).husk = d.husk := rfl
@[simp] theorem Dev.setMem_mesh (d : Dev) (f : MemU → MemU) : (d.setMem f).mesh = d.mesh := rfl
@[simp] theorem Dev.setMem_key (d : Dev) (f : MemU → MemU) : (d.setMem f).key = d.key := rfl
@[simp] theorem Dev.setMem_guard (d : Dev) (f : MemU → MemU) : (d.setMem f).guard = d.guard := rfl
@[simp] theorem Dev.setMem_safe (d : Dev) (f : MemU → MemU) : (d.setMem f).safe = d.safe := rfl
@[simp] theorem Dev.setMem_lsw (d : Dev) (f : MemU → MemU) : (d.setMem f).lsw = d.lsw := rfl
@[simp] theorem Dev.setMem_disp (d : Dev) (f : MemU → MemU) : (d.setMem f).disp = d.disp := rfl
@[simp] theorem Dev.setMem_tag (d : Dev) (f : MemU → MemU) : (d.setMem f).tag = d.tag := rfl
@[simp] theorem Dev.setMem_fwu (d : Dev) (f : MemU → MemU) : (d.setMem f).fwu = d.fwu := rfl
@[simp] theorem Dev.setMem_mem (d : Dev) (f : MemU → MemU) : (d.setMem f).mem = f d.mem := rfl
@[simp] theorem Dev.setMem_twin (d : Dev) (f : MemU → MemU) : (d.setMem f).twin = d.twin := rfl

/-! ### setFwu -/

@[simp] theorem Dev.setFwu_pip (d : Dev) (f : FwuU → FwuU) : (d.setFwu f).pip = d.pip := rfl
@[simp] theorem Dev.setFwu_osc (d : Dev) (f : FwuU → FwuU) : (d.setFwu f).osc = d.osc := rfl
@[simp] theorem Dev.setFwu_fresh (d : Dev) (f : FwuU → FwuU) : (d.setFwu f).fresh = d.fresh := rfl
@[simp] theorem Dev.setFwu_regs (d : Dev) (f : FwuU → FwuU) : (d.setFwu f).regs = d.regs := rfl
@[simp] theorem Dev.setFwu_shadow (d : Dev) (f : FwuU → FwuU) : (d.setFwu f).shadow = d.shadow := rfl
@[simp] theorem Dev.setFwu_live (d : Dev) (f : FwuU → FwuU) : (d.setFwu f).live = d.live := rfl
@[simp] theorem Dev.setFwu_outbox (d : Dev) (f : FwuU → FwuU) : (d.setFwu f).outbox = d.outbox := rfl
@[simp] theorem Dev.setFwu_straps (d : Dev) (f : FwuU → FwuU) : (d.setFwu f).straps = d.straps := rfl
@[simp] theorem Dev.setFwu_sys (d : Dev) (f : FwuU → FwuU) : (d.setFwu f).sys = d.sys := rfl
@[simp] theorem Dev.setFwu_time (d : Dev) (f : FwuU → FwuU) : (d.setFwu f).time = d.time := rfl
@[simp] theorem Dev.setFwu_out (d : Dev) (f : FwuU → FwuU) : (d.setFwu f).out = d.out := rfl
@[simp] theorem Dev.setFwu_kern (d : Dev) (f : FwuU → FwuU) : (d.setFwu f).kern = d.kern := rfl
@[simp] theorem Dev.setFwu_mirror (d : Dev) (f : FwuU → FwuU) : (d.setFwu f).mirror = d.mirror := rfl
@[simp] theorem Dev.setFwu_bill (d : Dev) (f : FwuU → FwuU) : (d.setFwu f).bill = d.bill := rfl
@[simp] theorem Dev.setFwu_husk (d : Dev) (f : FwuU → FwuU) : (d.setFwu f).husk = d.husk := rfl
@[simp] theorem Dev.setFwu_mesh (d : Dev) (f : FwuU → FwuU) : (d.setFwu f).mesh = d.mesh := rfl
@[simp] theorem Dev.setFwu_key (d : Dev) (f : FwuU → FwuU) : (d.setFwu f).key = d.key := rfl
@[simp] theorem Dev.setFwu_guard (d : Dev) (f : FwuU → FwuU) : (d.setFwu f).guard = d.guard := rfl
@[simp] theorem Dev.setFwu_safe (d : Dev) (f : FwuU → FwuU) : (d.setFwu f).safe = d.safe := rfl
@[simp] theorem Dev.setFwu_lsw (d : Dev) (f : FwuU → FwuU) : (d.setFwu f).lsw = d.lsw := rfl
@[simp] theorem Dev.setFwu_disp (d : Dev) (f : FwuU → FwuU) : (d.setFwu f).disp = d.disp := rfl
@[simp] theorem Dev.setFwu_tag (d : Dev) (f : FwuU → FwuU) : (d.setFwu f).tag = d.tag := rfl
@[simp] theorem Dev.setFwu_fwu (d : Dev) (f : FwuU → FwuU) : (d.setFwu f).fwu = f d.fwu := rfl
@[simp] theorem Dev.setFwu_mem (d : Dev) (f : FwuU → FwuU) : (d.setFwu f).mem = d.mem := rfl
@[simp] theorem Dev.setFwu_twin (d : Dev) (f : FwuU → FwuU) : (d.setFwu f).twin = d.twin := rfl

/-! ### setL -/

@[simp] theorem Dev.setL_pip (d : Dev) (ch : Nat) (f : LChan → LChan) : (d.setL ch f).pip = d.pip := rfl
@[simp] theorem Dev.setL_osc (d : Dev) (ch : Nat) (f : LChan → LChan) : (d.setL ch f).osc = d.osc := rfl
@[simp] theorem Dev.setL_fresh (d : Dev) (ch : Nat) (f : LChan → LChan) : (d.setL ch f).fresh = d.fresh := rfl
@[simp] theorem Dev.setL_regs (d : Dev) (ch : Nat) (f : LChan → LChan) : (d.setL ch f).regs = d.regs := rfl
@[simp] theorem Dev.setL_shadow (d : Dev) (ch : Nat) (f : LChan → LChan) : (d.setL ch f).shadow = d.shadow := rfl
@[simp] theorem Dev.setL_live (d : Dev) (ch : Nat) (f : LChan → LChan) : (d.setL ch f).live = d.live := rfl
@[simp] theorem Dev.setL_outbox (d : Dev) (ch : Nat) (f : LChan → LChan) : (d.setL ch f).outbox = d.outbox := rfl
@[simp] theorem Dev.setL_straps (d : Dev) (ch : Nat) (f : LChan → LChan) : (d.setL ch f).straps = d.straps := rfl
@[simp] theorem Dev.setL_sys (d : Dev) (ch : Nat) (f : LChan → LChan) : (d.setL ch f).sys = d.sys := rfl
@[simp] theorem Dev.setL_time (d : Dev) (ch : Nat) (f : LChan → LChan) : (d.setL ch f).time = d.time := rfl
@[simp] theorem Dev.setL_out (d : Dev) (ch : Nat) (f : LChan → LChan) : (d.setL ch f).out = d.out := rfl
@[simp] theorem Dev.setL_kern (d : Dev) (ch : Nat) (f : LChan → LChan) : (d.setL ch f).kern = d.kern := rfl
@[simp] theorem Dev.setL_mirror (d : Dev) (ch : Nat) (f : LChan → LChan) : (d.setL ch f).mirror = d.mirror := rfl
@[simp] theorem Dev.setL_bill (d : Dev) (ch : Nat) (f : LChan → LChan) : (d.setL ch f).bill = d.bill := rfl
@[simp] theorem Dev.setL_husk (d : Dev) (ch : Nat) (f : LChan → LChan) : (d.setL ch f).husk = d.husk := rfl
@[simp] theorem Dev.setL_mesh (d : Dev) (ch : Nat) (f : LChan → LChan) : (d.setL ch f).mesh = d.mesh := rfl
@[simp] theorem Dev.setL_key (d : Dev) (ch : Nat) (f : LChan → LChan) : (d.setL ch f).key = d.key := rfl
@[simp] theorem Dev.setL_guard (d : Dev) (ch : Nat) (f : LChan → LChan) : (d.setL ch f).guard = d.guard := rfl
@[simp] theorem Dev.setL_safe (d : Dev) (ch : Nat) (f : LChan → LChan) : (d.setL ch f).safe = d.safe := rfl
@[simp] theorem Dev.setL_disp (d : Dev) (ch : Nat) (f : LChan → LChan) : (d.setL ch f).disp = d.disp := rfl
@[simp] theorem Dev.setL_tag (d : Dev) (ch : Nat) (f : LChan → LChan) : (d.setL ch f).tag = d.tag := rfl
@[simp] theorem Dev.setL_fwu (d : Dev) (ch : Nat) (f : LChan → LChan) : (d.setL ch f).fwu = d.fwu := rfl
@[simp] theorem Dev.setL_mem (d : Dev) (ch : Nat) (f : LChan → LChan) : (d.setL ch f).mem = d.mem := rfl
@[simp] theorem Dev.setL_twin (d : Dev) (ch : Nat) (f : LChan → LChan) : (d.setL ch f).twin = d.twin := rfl

/-! ### setLane -/

@[simp] theorem Dev.setLane_pip (d : Dev) (n : Nat) (f : HLane → HLane) : (d.setLane n f).pip = d.pip := rfl
@[simp] theorem Dev.setLane_osc (d : Dev) (n : Nat) (f : HLane → HLane) : (d.setLane n f).osc = d.osc := rfl
@[simp] theorem Dev.setLane_fresh (d : Dev) (n : Nat) (f : HLane → HLane) : (d.setLane n f).fresh = d.fresh := rfl
@[simp] theorem Dev.setLane_regs (d : Dev) (n : Nat) (f : HLane → HLane) : (d.setLane n f).regs = d.regs := rfl
@[simp] theorem Dev.setLane_shadow (d : Dev) (n : Nat) (f : HLane → HLane) : (d.setLane n f).shadow = d.shadow := rfl
@[simp] theorem Dev.setLane_live (d : Dev) (n : Nat) (f : HLane → HLane) : (d.setLane n f).live = d.live := rfl
@[simp] theorem Dev.setLane_outbox (d : Dev) (n : Nat) (f : HLane → HLane) : (d.setLane n f).outbox = d.outbox := rfl
@[simp] theorem Dev.setLane_straps (d : Dev) (n : Nat) (f : HLane → HLane) : (d.setLane n f).straps = d.straps := rfl
@[simp] theorem Dev.setLane_sys (d : Dev) (n : Nat) (f : HLane → HLane) : (d.setLane n f).sys = d.sys := rfl
@[simp] theorem Dev.setLane_time (d : Dev) (n : Nat) (f : HLane → HLane) : (d.setLane n f).time = d.time := rfl
@[simp] theorem Dev.setLane_out (d : Dev) (n : Nat) (f : HLane → HLane) : (d.setLane n f).out = d.out := rfl
@[simp] theorem Dev.setLane_kern (d : Dev) (n : Nat) (f : HLane → HLane) : (d.setLane n f).kern = d.kern := rfl
@[simp] theorem Dev.setLane_mirror (d : Dev) (n : Nat) (f : HLane → HLane) : (d.setLane n f).mirror = d.mirror := rfl
@[simp] theorem Dev.setLane_bill (d : Dev) (n : Nat) (f : HLane → HLane) : (d.setLane n f).bill = d.bill := rfl
@[simp] theorem Dev.setLane_mesh (d : Dev) (n : Nat) (f : HLane → HLane) : (d.setLane n f).mesh = d.mesh := rfl
@[simp] theorem Dev.setLane_key (d : Dev) (n : Nat) (f : HLane → HLane) : (d.setLane n f).key = d.key := rfl
@[simp] theorem Dev.setLane_guard (d : Dev) (n : Nat) (f : HLane → HLane) : (d.setLane n f).guard = d.guard := rfl
@[simp] theorem Dev.setLane_safe (d : Dev) (n : Nat) (f : HLane → HLane) : (d.setLane n f).safe = d.safe := rfl
@[simp] theorem Dev.setLane_lsw (d : Dev) (n : Nat) (f : HLane → HLane) : (d.setLane n f).lsw = d.lsw := rfl
@[simp] theorem Dev.setLane_disp (d : Dev) (n : Nat) (f : HLane → HLane) : (d.setLane n f).disp = d.disp := rfl
@[simp] theorem Dev.setLane_tag (d : Dev) (n : Nat) (f : HLane → HLane) : (d.setLane n f).tag = d.tag := rfl
@[simp] theorem Dev.setLane_fwu (d : Dev) (n : Nat) (f : HLane → HLane) : (d.setLane n f).fwu = d.fwu := rfl
@[simp] theorem Dev.setLane_mem (d : Dev) (n : Nat) (f : HLane → HLane) : (d.setLane n f).mem = d.mem := rfl
@[simp] theorem Dev.setLane_twin (d : Dev) (n : Nat) (f : HLane → HLane) : (d.setLane n f).twin = d.twin := rfl

/-! ### setPair -/

@[simp] theorem Dev.setPair_pip (d : Dev) (p : Nat) (f : SPair → SPair) : (d.setPair p f).pip = d.pip := rfl
@[simp] theorem Dev.setPair_osc (d : Dev) (p : Nat) (f : SPair → SPair) : (d.setPair p f).osc = d.osc := rfl
@[simp] theorem Dev.setPair_fresh (d : Dev) (p : Nat) (f : SPair → SPair) : (d.setPair p f).fresh = d.fresh := rfl
@[simp] theorem Dev.setPair_regs (d : Dev) (p : Nat) (f : SPair → SPair) : (d.setPair p f).regs = d.regs := rfl
@[simp] theorem Dev.setPair_shadow (d : Dev) (p : Nat) (f : SPair → SPair) : (d.setPair p f).shadow = d.shadow := rfl
@[simp] theorem Dev.setPair_live (d : Dev) (p : Nat) (f : SPair → SPair) : (d.setPair p f).live = d.live := rfl
@[simp] theorem Dev.setPair_outbox (d : Dev) (p : Nat) (f : SPair → SPair) : (d.setPair p f).outbox = d.outbox := rfl
@[simp] theorem Dev.setPair_straps (d : Dev) (p : Nat) (f : SPair → SPair) : (d.setPair p f).straps = d.straps := rfl
@[simp] theorem Dev.setPair_sys (d : Dev) (p : Nat) (f : SPair → SPair) : (d.setPair p f).sys = d.sys := rfl
@[simp] theorem Dev.setPair_time (d : Dev) (p : Nat) (f : SPair → SPair) : (d.setPair p f).time = d.time := rfl
@[simp] theorem Dev.setPair_out (d : Dev) (p : Nat) (f : SPair → SPair) : (d.setPair p f).out = d.out := rfl
@[simp] theorem Dev.setPair_kern (d : Dev) (p : Nat) (f : SPair → SPair) : (d.setPair p f).kern = d.kern := rfl
@[simp] theorem Dev.setPair_mirror (d : Dev) (p : Nat) (f : SPair → SPair) : (d.setPair p f).mirror = d.mirror := rfl
@[simp] theorem Dev.setPair_bill (d : Dev) (p : Nat) (f : SPair → SPair) : (d.setPair p f).bill = d.bill := rfl
@[simp] theorem Dev.setPair_husk (d : Dev) (p : Nat) (f : SPair → SPair) : (d.setPair p f).husk = d.husk := rfl
@[simp] theorem Dev.setPair_mesh (d : Dev) (p : Nat) (f : SPair → SPair) : (d.setPair p f).mesh = d.mesh := rfl
@[simp] theorem Dev.setPair_key (d : Dev) (p : Nat) (f : SPair → SPair) : (d.setPair p f).key = d.key := rfl
@[simp] theorem Dev.setPair_guard (d : Dev) (p : Nat) (f : SPair → SPair) : (d.setPair p f).guard = d.guard := rfl
@[simp] theorem Dev.setPair_lsw (d : Dev) (p : Nat) (f : SPair → SPair) : (d.setPair p f).lsw = d.lsw := rfl
@[simp] theorem Dev.setPair_disp (d : Dev) (p : Nat) (f : SPair → SPair) : (d.setPair p f).disp = d.disp := rfl
@[simp] theorem Dev.setPair_tag (d : Dev) (p : Nat) (f : SPair → SPair) : (d.setPair p f).tag = d.tag := rfl
@[simp] theorem Dev.setPair_fwu (d : Dev) (p : Nat) (f : SPair → SPair) : (d.setPair p f).fwu = d.fwu := rfl
@[simp] theorem Dev.setPair_mem (d : Dev) (p : Nat) (f : SPair → SPair) : (d.setPair p f).mem = d.mem := rfl
@[simp] theorem Dev.setPair_twin (d : Dev) (p : Nat) (f : SPair → SPair) : (d.setPair p f).twin = d.twin := rfl

/-! ### setConn -/

@[simp] theorem Dev.setConn_pip (d : Dev) (c : Nat) (f : SConn → SConn) : (d.setConn c f).pip = d.pip := rfl
@[simp] theorem Dev.setConn_osc (d : Dev) (c : Nat) (f : SConn → SConn) : (d.setConn c f).osc = d.osc := rfl
@[simp] theorem Dev.setConn_fresh (d : Dev) (c : Nat) (f : SConn → SConn) : (d.setConn c f).fresh = d.fresh := rfl
@[simp] theorem Dev.setConn_regs (d : Dev) (c : Nat) (f : SConn → SConn) : (d.setConn c f).regs = d.regs := rfl
@[simp] theorem Dev.setConn_shadow (d : Dev) (c : Nat) (f : SConn → SConn) : (d.setConn c f).shadow = d.shadow := rfl
@[simp] theorem Dev.setConn_live (d : Dev) (c : Nat) (f : SConn → SConn) : (d.setConn c f).live = d.live := rfl
@[simp] theorem Dev.setConn_outbox (d : Dev) (c : Nat) (f : SConn → SConn) : (d.setConn c f).outbox = d.outbox := rfl
@[simp] theorem Dev.setConn_straps (d : Dev) (c : Nat) (f : SConn → SConn) : (d.setConn c f).straps = d.straps := rfl
@[simp] theorem Dev.setConn_sys (d : Dev) (c : Nat) (f : SConn → SConn) : (d.setConn c f).sys = d.sys := rfl
@[simp] theorem Dev.setConn_time (d : Dev) (c : Nat) (f : SConn → SConn) : (d.setConn c f).time = d.time := rfl
@[simp] theorem Dev.setConn_out (d : Dev) (c : Nat) (f : SConn → SConn) : (d.setConn c f).out = d.out := rfl
@[simp] theorem Dev.setConn_kern (d : Dev) (c : Nat) (f : SConn → SConn) : (d.setConn c f).kern = d.kern := rfl
@[simp] theorem Dev.setConn_mirror (d : Dev) (c : Nat) (f : SConn → SConn) : (d.setConn c f).mirror = d.mirror := rfl
@[simp] theorem Dev.setConn_bill (d : Dev) (c : Nat) (f : SConn → SConn) : (d.setConn c f).bill = d.bill := rfl
@[simp] theorem Dev.setConn_husk (d : Dev) (c : Nat) (f : SConn → SConn) : (d.setConn c f).husk = d.husk := rfl
@[simp] theorem Dev.setConn_mesh (d : Dev) (c : Nat) (f : SConn → SConn) : (d.setConn c f).mesh = d.mesh := rfl
@[simp] theorem Dev.setConn_key (d : Dev) (c : Nat) (f : SConn → SConn) : (d.setConn c f).key = d.key := rfl
@[simp] theorem Dev.setConn_guard (d : Dev) (c : Nat) (f : SConn → SConn) : (d.setConn c f).guard = d.guard := rfl
@[simp] theorem Dev.setConn_lsw (d : Dev) (c : Nat) (f : SConn → SConn) : (d.setConn c f).lsw = d.lsw := rfl
@[simp] theorem Dev.setConn_disp (d : Dev) (c : Nat) (f : SConn → SConn) : (d.setConn c f).disp = d.disp := rfl
@[simp] theorem Dev.setConn_tag (d : Dev) (c : Nat) (f : SConn → SConn) : (d.setConn c f).tag = d.tag := rfl
@[simp] theorem Dev.setConn_fwu (d : Dev) (c : Nat) (f : SConn → SConn) : (d.setConn c f).fwu = d.fwu := rfl
@[simp] theorem Dev.setConn_mem (d : Dev) (c : Nat) (f : SConn → SConn) : (d.setConn c f).mem = d.mem := rfl
@[simp] theorem Dev.setConn_twin (d : Dev) (c : Nat) (f : SConn → SConn) : (d.setConn c f).twin = d.twin := rfl

/-! ### setBo -/

@[simp] theorem Dev.setBo_pip (d : Dev) (n : Nat) (f : BillOut → BillOut) : (d.setBo n f).pip = d.pip := rfl
@[simp] theorem Dev.setBo_osc (d : Dev) (n : Nat) (f : BillOut → BillOut) : (d.setBo n f).osc = d.osc := rfl
@[simp] theorem Dev.setBo_fresh (d : Dev) (n : Nat) (f : BillOut → BillOut) : (d.setBo n f).fresh = d.fresh := rfl
@[simp] theorem Dev.setBo_regs (d : Dev) (n : Nat) (f : BillOut → BillOut) : (d.setBo n f).regs = d.regs := rfl
@[simp] theorem Dev.setBo_shadow (d : Dev) (n : Nat) (f : BillOut → BillOut) : (d.setBo n f).shadow = d.shadow := rfl
@[simp] theorem Dev.setBo_live (d : Dev) (n : Nat) (f : BillOut → BillOut) : (d.setBo n f).live = d.live := rfl
@[simp] theorem Dev.setBo_outbox (d : Dev) (n : Nat) (f : BillOut → BillOut) : (d.setBo n f).outbox = d.outbox := rfl
@[simp] theorem Dev.setBo_straps (d : Dev) (n : Nat) (f : BillOut → BillOut) : (d.setBo n f).straps = d.straps := rfl
@[simp] theorem Dev.setBo_sys (d : Dev) (n : Nat) (f : BillOut → BillOut) : (d.setBo n f).sys = d.sys := rfl
@[simp] theorem Dev.setBo_time (d : Dev) (n : Nat) (f : BillOut → BillOut) : (d.setBo n f).time = d.time := rfl
@[simp] theorem Dev.setBo_out (d : Dev) (n : Nat) (f : BillOut → BillOut) : (d.setBo n f).out = d.out := rfl
@[simp] theorem Dev.setBo_kern (d : Dev) (n : Nat) (f : BillOut → BillOut) : (d.setBo n f).kern = d.kern := rfl
@[simp] theorem Dev.setBo_mirror (d : Dev) (n : Nat) (f : BillOut → BillOut) : (d.setBo n f).mirror = d.mirror := rfl
@[simp] theorem Dev.setBo_husk (d : Dev) (n : Nat) (f : BillOut → BillOut) : (d.setBo n f).husk = d.husk := rfl
@[simp] theorem Dev.setBo_mesh (d : Dev) (n : Nat) (f : BillOut → BillOut) : (d.setBo n f).mesh = d.mesh := rfl
@[simp] theorem Dev.setBo_key (d : Dev) (n : Nat) (f : BillOut → BillOut) : (d.setBo n f).key = d.key := rfl
@[simp] theorem Dev.setBo_guard (d : Dev) (n : Nat) (f : BillOut → BillOut) : (d.setBo n f).guard = d.guard := rfl
@[simp] theorem Dev.setBo_safe (d : Dev) (n : Nat) (f : BillOut → BillOut) : (d.setBo n f).safe = d.safe := rfl
@[simp] theorem Dev.setBo_lsw (d : Dev) (n : Nat) (f : BillOut → BillOut) : (d.setBo n f).lsw = d.lsw := rfl
@[simp] theorem Dev.setBo_disp (d : Dev) (n : Nat) (f : BillOut → BillOut) : (d.setBo n f).disp = d.disp := rfl
@[simp] theorem Dev.setBo_tag (d : Dev) (n : Nat) (f : BillOut → BillOut) : (d.setBo n f).tag = d.tag := rfl
@[simp] theorem Dev.setBo_fwu (d : Dev) (n : Nat) (f : BillOut → BillOut) : (d.setBo n f).fwu = d.fwu := rfl
@[simp] theorem Dev.setBo_mem (d : Dev) (n : Nat) (f : BillOut → BillOut) : (d.setBo n f).mem = d.mem := rfl
@[simp] theorem Dev.setBo_twin (d : Dev) (n : Nat) (f : BillOut → BillOut) : (d.setBo n f).twin = d.twin := rfl

/-! ### The machine -/

@[simp] theorem State.onDev_dev (s : State) (f : Dev → Dev) : (s.onDev f).dev = f s.dev := rfl
@[simp] theorem State.onDev_fab (s : State) (f : Dev → Dev) : (s.onDev f).fab = s.fab := rfl
@[simp] theorem State.onDev_pending (s : State) (f : Dev → Dev) : (s.onDev f).pending = s.pending := rfl
@[simp] theorem State.onFab_dev (s : State) (f : Fab → Fab) : (s.onFab f).dev = s.dev := rfl
@[simp] theorem State.onFab_fab (s : State) (f : Fab → Fab) : (s.onFab f).fab = f s.fab := rfl
@[simp] theorem State.onFab_pending (s : State) (f : Fab → Fab) : (s.onFab f).pending = s.pending := rfl
@[simp] theorem State.shown_fab (s : State) : s.shown.fab = s.fab := by unfold State.shown; rfl
@[simp] theorem State.shown_pending (s : State) : s.shown.pending = s.pending := by unfold State.shown; rfl
@[simp] theorem State.drain_pending (s : State) : s.drain.pending = s.pending := rfl
@[simp] theorem State.drain_outbox (s : State) : s.drain.dev.outbox = [] := rfl
@[simp] theorem State.deliver_dev (s : State) (f : Flight → Bool) : (s.deliver f).dev = s.dev := rfl
@[simp] theorem State.deliver_pending (s : State) (f : Flight → Bool) : (s.deliver f).pending = s.pending := rfl

/-- The Kernel carries out a command at the next latch (R184): sending it changes nothing but its inbox. -/
@[simp] theorem Dev.kernSend_inbox (d : Dev) (c : KCmd) : (d.kernSend c).kern.inbox = d.kern.inbox ++ [c] := rfl
/-- What the Kernel acts on is what `f` makes of it, and what it has produced then is taken at once. -/
theorem Dev.kernDo_eq (d : Dev) (f : Kernel → Kernel) : d.kernDo f = ({ d with kern := f d.kern } : Dev).takeKernel := rfl

/-- Settling leaves the commands that wait. -/
@[simp] theorem State.settle_pending (s : State) : s.settle.pending = s.pending := by
  simp only [State.settle, State.shown_pending]
  split <;> simp

/-- A step of the device leaves the commands that wait. -/
@[simp] theorem State.devStep_pending (s : State) (f : Dev → Dev) : (s.devStep f).pending = s.pending := by simp [State.devStep]

/-- An empty queue idles (log entry 2). -/
theorem step_idle (s : State) (h : s.pending = []) : step s = .next s := by simp [step, h]

/-! A pending write of a Live register leaves everything else (R85, R605). -/

@[simp] theorem Dev.pendAs_pip (d : Dev) (a : Nat) (v : Word) (host : Bool) : (d.pendAs a v host).pip = d.pip := rfl
@[simp] theorem Dev.pendAs_osc (d : Dev) (a : Nat) (v : Word) (host : Bool) : (d.pendAs a v host).osc = d.osc := rfl
@[simp] theorem Dev.pendAs_fresh (d : Dev) (a : Nat) (v : Word) (host : Bool) : (d.pendAs a v host).fresh = d.fresh := rfl
@[simp] theorem Dev.pendAs_regs (d : Dev) (a : Nat) (v : Word) (host : Bool) : (d.pendAs a v host).regs = d.regs := rfl
@[simp] theorem Dev.pendAs_shadow (d : Dev) (a : Nat) (v : Word) (host : Bool) : (d.pendAs a v host).shadow = d.shadow := rfl
@[simp] theorem Dev.pendAs_outbox (d : Dev) (a : Nat) (v : Word) (host : Bool) : (d.pendAs a v host).outbox = d.outbox := rfl
@[simp] theorem Dev.pendAs_straps (d : Dev) (a : Nat) (v : Word) (host : Bool) : (d.pendAs a v host).straps = d.straps := rfl
@[simp] theorem Dev.pendAs_sys (d : Dev) (a : Nat) (v : Word) (host : Bool) : (d.pendAs a v host).sys = d.sys := rfl
@[simp] theorem Dev.pendAs_time (d : Dev) (a : Nat) (v : Word) (host : Bool) : (d.pendAs a v host).time = d.time := rfl
@[simp] theorem Dev.pendAs_out (d : Dev) (a : Nat) (v : Word) (host : Bool) : (d.pendAs a v host).out = d.out := rfl
@[simp] theorem Dev.pendAs_kern (d : Dev) (a : Nat) (v : Word) (host : Bool) : (d.pendAs a v host).kern = d.kern := rfl
@[simp] theorem Dev.pendAs_mirror (d : Dev) (a : Nat) (v : Word) (host : Bool) : (d.pendAs a v host).mirror = d.mirror := rfl
@[simp] theorem Dev.pendAs_bill (d : Dev) (a : Nat) (v : Word) (host : Bool) : (d.pendAs a v host).bill = d.bill := rfl
@[simp] theorem Dev.pendAs_husk (d : Dev) (a : Nat) (v : Word) (host : Bool) : (d.pendAs a v host).husk = d.husk := rfl
@[simp] theorem Dev.pendAs_mesh (d : Dev) (a : Nat) (v : Word) (host : Bool) : (d.pendAs a v host).mesh = d.mesh := rfl
@[simp] theorem Dev.pendAs_key (d : Dev) (a : Nat) (v : Word) (host : Bool) : (d.pendAs a v host).key = d.key := rfl
@[simp] theorem Dev.pendAs_guard (d : Dev) (a : Nat) (v : Word) (host : Bool) : (d.pendAs a v host).guard = d.guard := rfl
@[simp] theorem Dev.pendAs_safe (d : Dev) (a : Nat) (v : Word) (host : Bool) : (d.pendAs a v host).safe = d.safe := rfl
@[simp] theorem Dev.pendAs_lsw (d : Dev) (a : Nat) (v : Word) (host : Bool) : (d.pendAs a v host).lsw = d.lsw := rfl
@[simp] theorem Dev.pendAs_disp (d : Dev) (a : Nat) (v : Word) (host : Bool) : (d.pendAs a v host).disp = d.disp := rfl
@[simp] theorem Dev.pendAs_tag (d : Dev) (a : Nat) (v : Word) (host : Bool) : (d.pendAs a v host).tag = d.tag := rfl
@[simp] theorem Dev.pendAs_fwu (d : Dev) (a : Nat) (v : Word) (host : Bool) : (d.pendAs a v host).fwu = d.fwu := rfl
@[simp] theorem Dev.pendAs_mem (d : Dev) (a : Nat) (v : Word) (host : Bool) : (d.pendAs a v host).mem = d.mem := rfl
@[simp] theorem Dev.pendAs_twin (d : Dev) (a : Nat) (v : Word) (host : Bool) : (d.pendAs a v host).twin = d.twin := rfl

/-! The errors that stand for commands (log entry 33). -/

@[simp] theorem Fab.dropFault_flights (x : Fab) (c : Cmd) : (x.dropFault c).flights = x.flights := rfl
@[simp] theorem Fab.keepFaults_flights (x : Fab) : x.keepFaults.flights = x.flights := rfl
@[simp] theorem Fab.dropFault_late (x : Fab) (c : Cmd) : (x.dropFault c).late = x.late := rfl
@[simp] theorem Fab.keepFaults_late (x : Fab) : x.keepFaults.late = x.late := rfl
@[simp] theorem Fab.dropFault_answers (x : Fab) (c : Cmd) : (x.dropFault c).answers = x.answers := rfl
@[simp] theorem Fab.keepFaults_answers (x : Fab) : x.keepFaults.answers = x.answers := rfl
@[simp] theorem Fab.dropFault_history (x : Fab) (c : Cmd) : (x.dropFault c).history = x.history := rfl
@[simp] theorem Fab.keepFaults_history (x : Fab) : x.keepFaults.history = x.history := rfl
@[simp] theorem Fab.dropFault_rxBufs (x : Fab) (c : Cmd) : (x.dropFault c).rxBufs = x.rxBufs := rfl
@[simp] theorem Fab.keepFaults_rxBufs (x : Fab) : x.keepFaults.rxBufs = x.rxBufs := rfl
@[simp] theorem Fab.dropFault_nextId (x : Fab) (c : Cmd) : (x.dropFault c).nextId = x.nextId := rfl
@[simp] theorem Fab.keepFaults_nextId (x : Fab) : x.keepFaults.nextId = x.nextId := rfl
@[simp] theorem Fab.dropFault_stale (x : Fab) (c : Cmd) : (x.dropFault c).stale = x.stale := rfl
@[simp] theorem Fab.keepFaults_stale (x : Fab) : x.keepFaults.stale = x.stale := rfl
@[simp] theorem Fab.dropFault_spiOut (x : Fab) (c : Cmd) : (x.dropFault c).spiOut = x.spiOut := rfl
@[simp] theorem Fab.keepFaults_spiOut (x : Fab) : x.keepFaults.spiOut = x.spiOut := rfl
@[simp] theorem Fab.dropFault_udpOut (x : Fab) (c : Cmd) : (x.dropFault c).udpOut = x.udpOut := rfl
@[simp] theorem Fab.keepFaults_udpOut (x : Fab) : x.keepFaults.udpOut = x.udpOut := rfl

/-- An error that has ended its command stands no more. -/
@[simp] theorem Fab.dropFault_faulted (x : Fab) (c : Cmd) : (x.dropFault c).faulted c = false := by simp [Fab.dropFault, Fab.faulted]

end Sys2Proof.Machine
end

