-- ==== Sys2Proof/Laws/Tab.lean ====
section
/-!
SUPPORT. Sparse tables: a read after a write, the canonical form kept by every update, and with them the registers, the FRAM and the display buffers.
-/
namespace Sys2Proof.Machine

/-! ### Reading after writing -/

theorem tget_terase_same {α : Type} (d : α) (t : Tab α) (n : Nat) : tget d (terase t n) n = d := by
  induction t with
  | nil => rfl
  | cons e t ih => obtain ⟨k, v⟩ := e; simp only [terase]; split <;> simp_all [tget]

theorem tget_terase_other {α : Type} (d : α) (t : Tab α) {n m : Nat} (h : m ≠ n) : tget d (terase t n) m = tget d t m := by
  induction t with
  | nil => rfl
  | cons e t ih =>
    obtain ⟨k, v⟩ := e
    by_cases hk : k = n
    · subst hk; simp [terase, tget, ih, Ne.symm h]
    · simp only [terase, hk, if_false, tget, ih]

theorem tget_tinsert_other {α : Type} (d : α) (t : Tab α) (v : α) {n m : Nat} (h : m ≠ n) : tget d (tinsert n v t) m = tget d t m := by
  induction t with
  | nil => simp [tinsert, tget, Ne.symm h]
  | cons e t ih =>
    obtain ⟨k, w⟩ := e
    simp only [tinsert]
    split <;> simp [tget, Ne.symm h, ih]

theorem tget_tinsert_same {α : Type} (d : α) (t : Tab α) (v : α) (n : Nat) (h : ∀ e ∈ t, e.1 ≠ n) : tget d (tinsert n v t) n = v := by
  induction t with
  | nil => simp [tinsert, tget]
  | cons e t ih =>
    obtain ⟨k, w⟩ := e
    have hk : k ≠ n := h (k, w) (by simp)
    simp only [tinsert]
    split
    · simp [tget]
    · simp [tget, hk, ih fun e he => h e (by simp [he])]

theorem terase_no_key {α : Type} (t : Tab α) (n : Nat) : ∀ e ∈ terase t n, e.1 ≠ n := by
  induction t with
  | nil => simp [terase]
  | cons e t ih =>
    obtain ⟨k, v⟩ := e
    simp only [terase]
    split
    · exact ih
    · rename_i hk
      intro x hx
      rcases List.mem_cons.1 hx with rfl | hx
      · exact hk
      · exact ih x hx

/-- A read of the key just written. -/
@[simp] theorem tget_tset_same {α : Type} [DecidableEq α] (d : α) (t : Tab α) (n : Nat) (v : α) : tget d (tset d t n v) n = v := by
  simp only [tset]
  split
  · rename_i h; rw [tget_terase_same, h]
  · exact tget_tinsert_same d _ v n (terase_no_key t n)

/-- A write leaves every other key. -/
theorem tget_tset_other {α : Type} [DecidableEq α] (d : α) (t : Tab α) (v : α) {n m : Nat} (h : m ≠ n) : tget d (tset d t n v) m = tget d t m := by
  simp only [tset]
  split
  · exact tget_terase_other d t h
  · rw [tget_tinsert_other d _ v h, tget_terase_other d t h]

/-- A register reads what was written to it. -/
@[simp] theorem Dev.rd_wr_same (d : Dev) (a : Nat) (v : Word) : (d.wr a v).rd a = v := by
  simp only [Dev.rd, Dev.wr, tget_tset_same, BitVec.xor_assoc, BitVec.xor_self, BitVec.xor_zero]

/-- A register's write leaves every other register. -/
theorem Dev.rd_wr_other (d : Dev) (v : Word) {a b : Nat} (h : b ≠ a) : (d.wr a v).rd b = d.rd b := by
  simp [Dev.rd, Dev.wr, tget_tset_other _ _ _ h]

/-! ### The canonical form -/

/-- The canonical form, said of the list: keys strictly rising and no default listed. -/
theorem twf_iff {α : Type} [DecidableEq α] (d : α) (t : Tab α) : twf d t = true ↔ t.Pairwise (fun a b => a.1 < b.1) ∧ ∀ e ∈ t, e.2 ≠ d := by
  induction t with
  | nil => simp [twf]
  | cons e t ih =>
    obtain ⟨k, v⟩ := e
    cases t with
    | nil => simp [twf]
    | cons e' t' =>
      obtain ⟨k', v'⟩ := e'
      simp only [twf, Bool.and_eq_true, Bool.not_eq_true', decide_eq_false_iff_not, decide_eq_true_eq, ih]
      constructor
      · rintro ⟨⟨hv, hk⟩, hp, hd⟩
        refine ⟨List.pairwise_cons.2 ⟨?_, hp⟩, ?_⟩
        · intro x hx
          rcases List.mem_cons.1 hx with rfl | hx
          · exact hk
          · exact Nat.lt_trans hk ((List.pairwise_cons.1 hp).1 x hx)
        · intro x hx
          rcases List.mem_cons.1 hx with rfl | hx
          · exact hv
          · exact hd x hx
      · rintro ⟨hp, hd⟩
        have hp' := List.pairwise_cons.1 hp
        exact ⟨⟨hd (k, v) (by simp), hp'.1 (k', v') (by simp)⟩, hp'.2, fun x hx => hd x (by simp [hx])⟩

theorem terase_sublist {α : Type} (t : Tab α) (n : Nat) : (terase t n).Sublist t := by
  induction t with
  | nil => exact List.Sublist.slnil
  | cons e t ih =>
    obtain ⟨k, v⟩ := e
    simp only [terase]
    split
    · exact ih.cons _
    · exact ih.cons_cons _

theorem mem_tinsert {α : Type} (n : Nat) (v : α) (t : Tab α) (e : Nat × α) : e ∈ tinsert n v t ↔ e = (n, v) ∨ e ∈ t := by
  induction t with
  | nil => simp [tinsert]
  | cons x t ih =>
    obtain ⟨k, w⟩ := x
    simp only [tinsert]
    split
    · simp
    · simp only [List.mem_cons, ih]; exact or_left_comm

theorem pairwise_tinsert {α : Type} (n : Nat) (v : α) (t : Tab α) (hp : t.Pairwise (fun a b => a.1 < b.1)) (hn : ∀ e ∈ t, e.1 ≠ n) :
    (tinsert n v t).Pairwise (fun a b => a.1 < b.1) := by
  induction t with
  | nil => simp [tinsert]
  | cons x t ih =>
    obtain ⟨k, w⟩ := x
    have hp' := List.pairwise_cons.1 hp
    have hk : k ≠ n := hn (k, w) (by simp)
    simp only [tinsert]
    split
    · rename_i h
      refine List.pairwise_cons.2 ⟨?_, hp⟩
      intro y hy
      rcases List.mem_cons.1 hy with rfl | hy
      · exact h
      · exact Nat.lt_trans h (hp'.1 y hy)
    · rename_i h
      refine List.pairwise_cons.2 ⟨?_, ih hp'.2 fun e he => hn e (by simp [he])⟩
      intro y hy
      rcases (mem_tinsert n v t y).1 hy with rfl | hy
      · show k < n; omega
      · exact hp'.1 y hy

/-- A write keeps the canonical form. -/
theorem twf_tset {α : Type} [DecidableEq α] (d : α) (t : Tab α) (n : Nat) (v : α) (h : twf d t = true) : twf d (tset d t n v) = true := by
  rw [twf_iff] at h ⊢
  have hp : (terase t n).Pairwise (fun a b => a.1 < b.1) := h.1.sublist (terase_sublist t n)
  have hd : ∀ e ∈ terase t n, e.2 ≠ d := fun e he => h.2 e ((terase_sublist t n).subset he)
  simp only [tset]
  split
  · exact ⟨hp, hd⟩
  · rename_i hv
    refine ⟨pairwise_tinsert n v _ hp (terase_no_key t n), fun e he => ?_⟩
    rcases (mem_tinsert n v _ e).1 he with rfl | he
    · exact hv
    · exact hd e he

/-- A table built from entries is canonical. -/
theorem twf_tnorm {α : Type} [DecidableEq α] (d : α) (l : List (Nat × α)) : twf d (tnorm d l) = true := by
  have h : ∀ (l : List (Nat × α)) (t : Tab α), twf d t = true → twf d (l.foldl (fun t e => tset d t e.1 e.2) t) = true := by
    intro l
    induction l with
    | nil => exact fun t h => h
    | cons e l ih => exact fun t h => ih _ (twf_tset d t e.1 e.2 h)
  exact h l [] rfl

/-- A register's write keeps the canonical form of the registers. -/
theorem Dev.wr_wf (d : Dev) (a : Nat) (v : Word) (h : twf 0 d.regs = true) : twf 0 (d.wr a v).regs = true := twf_tset 0 _ _ _ h

/-! ### The FRAM and the display buffers -/

/-- A FRAM write keeps the canonical form. -/
theorem framWrite_wf (m : Tab Byte) (off : Nat) (bs : Bytes) (h : Memory.wf m = true) : Memory.wf (framWrite m off bs) = true := by
  induction bs generalizing m off with
  | nil => exact h
  | cons b bs ih => exact ih _ _ (twf_tset 0 m off b h)

/-- A FRAM write stores its bytes and leaves every other byte. -/
theorem tget_framWrite (m : Tab Byte) (off : Nat) (bs : Bytes) (a : Nat) :
    tget 0 (framWrite m off bs) a = if off ≤ a ∧ a < off + bs.length then bs.getD (a - off) 0 else tget 0 m a := by
  induction bs generalizing m off with
  | nil => have : ¬ (off ≤ a ∧ a < off) := by omega
           simp [framWrite, this]
  | cons b bs ih =>
    simp only [framWrite, ih, List.length_cons]
    by_cases h0 : a = off
    · subst h0
      rw [if_neg (by omega), if_pos (by omega), tget_tset_same, Nat.sub_self]; rfl
    · by_cases h1 : off + 1 ≤ a ∧ a < off + 1 + bs.length
      · have h2 : off ≤ a ∧ a < off + (bs.length + 1) := by omega
        have h3 : a - off = (a - (off + 1)) + 1 := by omega
        simp [h1, h2, h3]
      · have h2 : ¬ (off ≤ a ∧ a < off + (bs.length + 1)) := by omega
        rw [if_neg h1, if_neg h2, tget_tset_other 0 m b h0]

/-- A pixel's write keeps a buffer's canonical form. -/
theorem setPixel_wf (b : Tab Byte) (x y v : Nat) (h : Memory.wf b = true) : Memory.wf (setPixel b x y v) = true := twf_tset 0 b _ _ h

/-- The memories right after reset are in canonical form. -/
theorem reset_memories_wf : Memory.wf State.reset.dev.tag.fram = true ∧ Memory.wf State.reset.dev.disp.active = true ∧ Memory.wf State.reset.dev.disp.staging = true ∧
    twf 0 State.reset.dev.regs = true ∧ twf 0 State.reset.dev.shadow = true := ⟨rfl, rfl, rfl, rfl, rfl⟩

end Sys2Proof.Machine
end

