-- ==== Sys2Proof/WellFormed.lean ====
section
/-!
DEFINITION. Which commands are well formed: the operands that the block's surroundings can present. A command packet may hold anything a host can put into one (the fabric answers it);
what a converter, a frame or a pin delivers is bounded by its width.
-/
namespace Sys2Proof
open Sys2Proof.Machine

/-- A payload's length fits the header's length field (R42). -/
def payloadWf (p : List Byte) : Bool := decide (p.length < 65536)

/-- A HOST_SPI packet or datagram has at most 65,555 bytes. -/
def packetWf (b : List Byte) : Bool := decide (b.length ≤ 65555)

/-- An operand of `bits` bits. -/
def natWf (bits n : Nat) : Bool := decide (n < 2 ^ bits)

/-- A signed operand of `bits` bits. -/
def intWf (bits : Nat) (i : Int) : Bool := decide (-(2 ^ (bits - 1) : Int) ≤ i) && decide (i < 2 ^ (bits - 1))

/-- The converters give 12-bit codes. -/
def PilotSample.wf (p : PilotSample) : Bool := natWf 12 p.high && natWf 12 p.low && natWf 12 p.prox

/-- A sample window brings each of the 64 streams at most the bits of 20 MHz in 125 µs and two periods (R144, R146). -/
def KSampleIn.wf (i : KSampleIn) : Bool := i.streams.length = 64 && i.streams.all (fun l => decide (l.length ≤ 2502)) && i.m ≠ 0 && i.us < 1000

/-- A SLAC attenuation profile has 58 groups. -/
def SoundIn.wf (i : SoundIn) : Bool :=
  match i with
  | .start _ run n => run.length = 8 && n < 256
  | .sound caps => caps.all fun c => c.groups.length = 58 && c.run.all fun r => r.length = 8

/-- A CAN FD frame carries at most 64 bytes, under an identifier of 11 or 29 bits, on one of the two buses. -/
def canWf (f : CanFrame) : Bool := f.port < 2 && natWf (if f.ext then 29 else 11) f.id && f.data.length ≤ 64

/-- A vehicle request's fields (R130). -/
def EvRequest.wf (r : EvRequest) : Bool :=
  natWf 16 r.volt && intWf 32 r.curr && natWf 8 r.soc && natWf 16 r.maxV && natWf 16 r.maxI && natWf 16 r.maxP && (r.evcc.length = 0 || r.evcc.length = 6)

/-- A card's UID has 4, 7 or 10 bytes (R428). -/
def CardSeen.wf (c : CardSeen) : Bool := (c.uid.length = 4 || c.uid.length = 7 || c.uid.length = 10) && natWf 8 c.sak && natWf 16 c.atqa

/-- What a card answers: FSCI, FWI and WTXM in their fields, and a block whose information field fits a frame of 256 bytes (DESIGN CHOICE, log entry 84). -/
def CardIn.wf (a : CardIn) : Bool :=
  match a with
  | .ats c f => natWf 4 c && f.all (· ≤ 14)
  | .wtx m => natWf 6 m
  | .atqa | .sak | .ack => true
  | .block _ r => decide (r.length ≤ 253)

/-- A field reader's RATS has 4-bit FSDI and CID; an APDU in short form has at most 261 bytes. -/
def TagIn.wf (a : TagIn) : Bool :=
  match a with
  | .rats f c => natWf 4 f && natWf 4 c
  | .apdu _ _ a => decide (a.length ≤ 261)
  | .wake | .select | .wtx => true

/-- What the pip boundary finds. -/
def PipIn.wf (i : PipIn) : Bool :=
  natWf 16 i.feedA && natWf 16 i.feedB && natWf 16 i.vbat && intWf 16 i.temp && i.pilots.all PilotSample.wf && i.guards.all fun g => g.2.1.length ≤ 1300 && g.2.2.length ≤ 1300

/-- The defects of a row test lie in the rows of a memory. -/
def RowDefect.wf (r : RowDefect) : Bool := r.mem < 3 && r.word < 16 && r.bit < 72

/-- A mesh frame has at most 520 bytes (R292). -/
def frameWf (b : List Byte) : Bool := decide (b.length ≤ 520)

/-- A transmit timestamp's fields (R100). -/
def TxStamp.wf (t : TxStamp) : Bool := natWf 48 t.sec && t.ns < 1000000000 && natWf 4 t.typ && natWf 8 t.domain && natWf 16 t.seq

/-- A Pod frame's fields, its copied memories in canonical form. -/
def podWf (f : PodFrame) : Bool :=
  natWf 32 f.crc && natWf 32 f.body.epoch && natWf 3 f.body.state && f.body.copy.all fun c => twf 0 c.regs && twf 0 c.shadow && Memory.wf c.active && Memory.wf c.staging && Memory.wf c.fram

/-- A decoded frame's measurements, and at most the 1,518 bytes of an Ethernet II frame (R259). -/
def FrameIn.wf (f : FrameIn) : Bool :=
  natWf 16 f.snr && intWf 16 f.level && (f.symbols.all fun s => s.all (intWf 16)) && (match f.frame with | .data b => b.length ≤ 1518 | .slac | .validate | .setKey | .other => true)

/-- A frame control's destination is a MAC address, and its PHY blocks are counted. -/
def FcIn.wf (f : FcIn) : Bool := natWf 48 f.dest && natWf 8 f.blocks && natWf 16 f.octets

/-- The switch die measures 10 mV and 10 mA. -/
def measWf (m : List (Fin 80 × Nat × Int)) : Bool := m.all fun x => natWf 16 x.2.1 && intWf 16 x.2.2

/-- Whether a command is one that the block's surroundings can present. -/
def Instr.wf (i : Instr) : Bool :=
  match i with
  | .commandPacketArrival i => (match i with | .spi => true | .udp _ _ _ _ _ b => packetWf b)
  | .writePacket b => packetWf b
  | .readStatus => true
  | .readReply _ => true
  | .spiUnknownInstruction => true
  | .udpReplySend => true
  | .pipBoundary i => i.wf
  | .deadlineMiss => true
  | .startedCommandEnd => true
  | .quietPipWindowExpiry => true
  | .switchDieFrame _ meas => (measWf meas)
  | .switchDieWatchdogExpiry => true
  | .sysStatusGet _ p => (payloadWf p)
  | .sysInfo _ p => (payloadWf p)
  | .sysReset _ p => (payloadWf p)
  | .sysForceSel _ p => (payloadWf p)
  | .sysSetMode _ p => (payloadWf p)
  | .sysCfgSave _ p => (payloadWf p)
  | .sysLogRead _ p => (payloadWf p)
  | .regRead _ p => (payloadWf p)
  | .regWrite _ p => (payloadWf p)
  | .regModify _ p => (payloadWf p)
  | .regReadShadow _ p => (payloadWf p)
  | .fabCommit _ p => (payloadWf p)
  | .fabDiscard _ p => (payloadWf p)
  | .fabCancel _ p => (payloadWf p)
  | .replyRecall _ p => (payloadWf p)
  | .fabNop _ p => (payloadWf p)
  | .outStatusGet _ p => (payloadWf p)
  | .outAuthorise _ p => (payloadWf p)
  | .outStartRemote _ p => (payloadWf p)
  | .outStop _ p => (payloadWf p)
  | .outSetAvailable _ p => (payloadWf p)
  | .outClearFault _ p => (payloadWf p)
  | .outSessionInfo _ p => (payloadWf p)
  | .outEventRead _ p => (payloadWf p)
  | .listUpdate _ p => (payloadWf p)
  | .listQuery _ p => (payloadWf p)
  | .outCertResponse _ p => (payloadWf p)
  | .kernStatus _ p => (payloadWf p)
  | .kernCertRead _ p => (payloadWf p)
  | .kernPubkeyRead _ p => (payloadWf p)
  | .kernLedgerRead _ p => (payloadWf p)
  | .kernIntervalWait _ p => (payloadWf p)
  | .kernReceiptGet _ p => (payloadWf p)
  | .kernSetChannel _ p => (payloadWf p)
  | .kernSetCal _ p => (payloadWf p)
  | .kernSetMclk _ p => (payloadWf p)
  | .kernSetPulse _ p => (payloadWf p)
  | .kernSetBalance _ p => (payloadWf p)
  | .kernSetLimits _ p => (payloadWf p)
  | .kernFwBegin _ p => (payloadWf p)
  | .kernFwChunk _ p => (payloadWf p)
  | .kernFwEnd _ p => (payloadWf p)
  | .kernFwActivate _ p => (payloadWf p)
  | .kernArchiveAck _ p => (payloadWf p)
  | .kernCheckpoint _ p => (payloadWf p)
  | .kernelCommandExecute => true
  | .kernelSessionOpen _ => true
  | .kernelSessionClose _ => true
  | .iBreakPass _ => true
  | .tariffBegin _ p => (payloadWf p)
  | .tariffChunk _ p => (payloadWf p)
  | .tariffEnd _ p => (payloadWf p)
  | .tariffAbort _ p => (payloadWf p)
  | .tariffRead _ p => (payloadWf p)
  | .legalTimeAdjust _ p => (payloadWf p)
  | .legalTimeGet _ p => (payloadWf p)
  | .accountSet _ p => (payloadWf p)
  | .accountAdjust _ p => (payloadWf p)
  | .accountGet _ p => (payloadWf p)
  | .txnRead _ p => (payloadWf p)
  | .tokenSubmit _ p => (payloadWf p)
  | .tokenListRead _ p => (payloadWf p)
  | .huskStatusGet _ p => (payloadWf p)
  | .laneStatsGet _ p => (payloadWf p)
  | .slacProfileGet _ p => (payloadWf p)
  | .laneReset _ p => (payloadWf p)
  | .t1sStatusGet _ p => (payloadWf p)
  | .laneTxTest _ p => (payloadWf p)
  | .timeGet _ p => (payloadWf p)
  | .timeSetState _ p => (payloadWf p)
  | .timeSetTb0 _ p => (payloadWf p)
  | .timePtpStatus _ p => (payloadWf p)
  | .fwuStatusGet _ p => (payloadWf p)
  | .fwuBegin _ p => (payloadWf p)
  | .fwuChunk _ p => (payloadWf p)
  | .fwuEnd _ p => (payloadWf p)
  | .fwuActivate _ p => (payloadWf p)
  | .fwuConfirm _ p => (payloadWf p)
  | .fwuAbort _ p => (payloadWf p)
  | .keyStatusGet _ p => (payloadWf p)
  | .keyLoad _ p => (payloadWf p)
  | .keyClear _ p => (payloadWf p)
  | .keyGenerate _ p => (payloadWf p)
  | .keyImport _ p => (payloadWf p)
  | .keyPubkey _ p => (payloadWf p)
  | .keyCsr _ p => (payloadWf p)
  | .keyAead _ p => (payloadWf p)
  | .keyTamperArm _ p => (payloadWf p)
  | .keyChainWrite _ p => (payloadWf p)
  | .dispStatusGet _ p => (payloadWf p)
  | .dispWrite _ p => (payloadWf p)
  | .dispUpdate _ p => (payloadWf p)
  | .dispStressRead _ p => (payloadWf p)
  | .dispStressReset _ p => (payloadWf p)
  | .tagStatusGet _ p => (payloadWf p)
  | .rdrList _ p => (payloadWf p)
  | .rdrApdu _ p => (payloadWf p)
  | .tagFramRead _ p => (payloadWf p)
  | .tagFramWrite _ p => (payloadWf p)
  | .tagFramHold _ p => (payloadWf p)
  | .tagFramRelease _ p => (payloadWf p)
  | .tagKpRead _ p => (payloadWf p)
  | .twinStatusGet _ p => (payloadWf p)
  | .twinSwitchover _ p => (payloadWf p)
  | .twinResync _ p => (payloadWf p)
  | .twinKcmpGet _ p => (payloadWf p)
  | .meshStatusGet _ p => (payloadWf p)
  | .meshNodeTable _ p => (payloadWf p)
  | .meshSend _ p => (payloadWf p)
  | .meshRxRead _ p => (payloadWf p)
  | .meshRescan _ p => (payloadWf p)
  | .meshEvict _ p => (payloadWf p)
  | .safeStatusGet _ p => (payloadWf p)
  | .safeReset _ p => (payloadWf p)
  | .safeCfgCheck _ p => (payloadWf p)
  | .safeCfgActivate _ p => (payloadWf p)
  | .safeCfgDiscard _ p => (payloadWf p)
  | .safeHubStop _ p => (payloadWf p)
  | .guardStatusGet _ p => (payloadWf p)
  | .guardSelfTest _ p => (payloadWf p)
  | .guardClearFault _ p => (payloadWf p)
  | .lswStatusGet _ p => (payloadWf p)
  | .lswSet _ p => (payloadWf p)
  | .lswSetAx _ p => (payloadWf p)
  | .lswClear _ p => (payloadWf p)
  | .memStatusGet _ p => (payloadWf p)
  | .memEccWriteRaw _ p => (payloadWf p)
  | .memEccRead _ p => (payloadWf p)
  | .memMbistRun fails _ p => (fails.all RowDefect.wf) && (payloadWf p)
  | .memRepairAdd _ p => (payloadWf p)
  | .memRepairList _ p => (payloadWf p)
  | .guardStateRequest _ _ _ => true
  | .lswChannelCommand _ _ _ => true
  | .meshEnable _ => true
  | .meshDisable _ => true
  | .timePipOffsetWrite _ _ => true
  | .twinEnable _ _ => true
  | .twinDisable _ _ => true
  | .dispVpRestart _ _ _ => true
  | .sysClkSelWrite _ _ => true
  | .ptpOffsetMeasured _ => true
  | .announceReceiptTimeout => true
  | .bmcaOtherMaster _ => true
  | .bmcaSelectsSelf => true
  | .holdoverLimitReached => true
  | .tb0Step => true
  | .ptpEventSent t => t.wf
  | .kernelSample i => i.wf
  | .pipStrobe _ => true
  | .kernelRealignStart => true
  | .kernelAligned => true
  | .noZc => true
  | .streamRecovered => true
  | .mclkClockFault _ => true
  | .mclkSettlingEnd => true
  | .pendingPulseEmit => true
  | .balanceCheck => true
  | .sealOpen => true
  | .sealClose => true
  | .ledgerRecordProgram => true
  | .checkpointDue => true
  | .meterFaultEntry _ => true
  | .kernelPowerOn _ _ _ _ => true
  | .intervalBoundary => true
  | .offsetChange => true
  | .legalTimeSlewTick => true
  | .friendlyWindowClose => true
  | .billStateSave => true
  | .billMeterRecord _ => true
  | .tokenMidnightPurge => true
  | .pilotStateAccepted _ => true
  | .faultPilotProbe _ code => natWf 12 (code.getD 0)
  | .linkUp _ offered => (offered.all fun p => decide (2 ≤ p) && decide (p ≤ 4))
  | .linkTimerExpiry _ => true
  | .paymentSelectionComplete _ _ => true
  | .protocolError _ => true
  | .authorisationTimerExpiry _ => true
  | .hostWaitExpiry _ => true
  | .hostOffline => true
  | .preauthExpiry => true
  | .floatingPreauthExpiry => true
  | .cableCheckTimerExpiry _ => true
  | .powerDeliveryRequest _ _ => true
  | .prechargeTimerExpiry _ => true
  | .vehicleStopRequest _ => true
  | .canRxFrame f => canWf f
  | .canTxTemplate _ => true
  | .pmStatusTimeout => true
  | .tForceExpiry _ => true
  | .weldCheckTimeout _ => true
  | .unpluggedToIdle _ => true
  | .fcDecode f => f.wf
  | .frameDelivery f => f.wf
  | .frameLate _ => true
  | .huskSlice _ => true
  | .noiseWindowEnd _ w gain _ => (intWf 16 w.rms) && (natWf 8 gain) && (intWf 16 w.peak)
  | .slacParmReq _ => true
  | .soundCapture i => i.wf
  | .slacDecision run => run.length = 8
  | .slacMatchReq _ run => (run.length = 8)
  | .t1sFrameRx _ _ => true
  | .t1sLinkLoss _ _ => true
  | .meshPeriodStart => true
  | .meshBeaconRx b snr => (frameWf b) && (natWf 8 snr)
  | .meshSlotFrameRx b snr _ => (frameWf b) && (natWf 8 snr)
  | .meshSackRx _ => true
  | .meshPeriodEnd => true
  | .meshScanEnd => true
  | .meshJoinReq ident parent => (ident.length = 6) && (natWf 8 parent)
  | .meshJoinAck ident id epoch => (ident.length = 6) && (natWf 8 id) && (natWf 32 epoch)
  | .meshJoinTimeout => true
  | .meshNodeTimeout _ => true
  | .meshBackupPromotion => true
  | .meshActionExecute => true
  | .rcmStageTrip _ => true
  | .imdWindowStart _ => true
  | .imdWindowEnd _ => true
  | .guardStreamFault _ => true
  | .guardSelfTestEnd _ => true
  | .safetyInputChange _ _ => true
  | .discrepancyTimeout _ => true
  | .antivalenceTimeout _ => true
  | .testPulse _ low => (low.all fun i => decide (i < 16))
  | .resetButtonRelease _ => true
  | .crossDisagreement i => natWf 32 i.held
  | .stoneSelfFault => true
  | .permitWord _ => true
  | .heartbeatLost => true
  | .heartbeatValid => true
  | .hubStopHoldEnd => true
  | .stoneFrameRx _ _ => true
  | .stoneFrameTx _ => true
  | .stoneConnWatchdog => true
  | .overcurrentTrip _ => true
  | .inrushWindowEnd _ => true
  | .thermalLatchSet _ => true
  | .thermalLatchClear _ => true
  | .retryBackoffElapsed _ => true
  | .retryCounterReload _ => true
  | .openLoadDetect _ => true
  | .pullInEnd _ => true
  | .underVoltage => true
  | .underVoltageRestore => true
  | .actHoldExpiry => true
  | .podTrainingComplete _ => true
  | .podLaneLockLoss _ => true
  | .podFrameRx f => podWf f
  | .kcmpMismatchSet => true
  | .twinLiveToggle => true
  | .twinSilencePromote => true
  | .promotedHubStopRampdown => true
  | .podFaultDetect => true
  | .partnerSilent => true
  | .twinCopyLag => true
  | .twinCopyApply => true
  | .twinSyncComplete => true
  | .twinSearchTimeout => true
  | .epochNoticeTx => true
  | .epochNoticeRx _ _ => true
  | .readerPollCycle cards => cards.all CardSeen.wf
  | .tagActivation _ => true
  | .tagApdu a => a.wf
  | .framHoldCut lines => natWf 8 lines
  | .passportWrite => true
  | .keypadScan keys => keys.Nodup
  | .keypadEntryTimeout => true
  | .keypadSelectionExpiry => true
  | .dispFrameStart volt curr => (natWf 16 volt) && (natWf 16 curr)
  | .dispUpdateDone _ => true
  | .dispVpFault => true
  | .dispStressSave => true
  | .burrLineFire b => natWf 64 b.away
  | .fwuTrialExpiry => true
  | .mbistRowTest _ => true
  | .lbistChainTest _ _ bit => (natWf 16 bit)
  | .lbistRetest x => natWf 16 x.bit
  | .sramCorrectableError _ addr => (natWf 23 addr)
  | .sramUncorrectableError _ addr _ => (natWf 23 addr)
  | .flashRefresh => true
  | .flashUncorrectable block _ => (natWf 11 block)
  | .powerOnReset _ _ => true
  | .boot _ => true
  | .feedLost _ => true
  | .feedLossClear => true
  | .powerFail lines => natWf 8 lines
  | .holdupCollapse => true
  | .powerFailReset => true
  | .resetNPin _ => true
  | .internalWatchdogExpiry => true
  | .lxoStop => true
  | .krefFail => true
  | .refclkFail => true
  | .pllRelock => true
  | .clkMuxHang _ => true
  | .feedGood _ => true
  | .twinLiveInEdge => true
  | .keyOperationComplete _ => true
  | .cfgSaveComplete => true
  | .fwuCommandComplete => true
  | .huskFrontEndsRunning => true
  | .framAccessComplete => true
  | .cardAnswer a => a.wf
  | .cardWaitExpiry => true
  | .tagFieldDrop => true
  | .meshTransmitOpportunity _ => true
  | .vehicleRequestDecoded _ r => r.wf
  | .certificateInstallationRequest _ => true
  | .lswCfgWrite _ _ _ => true
  | .guardModeWrite _ _ _ => true
  | .outletTypeChange _ _ _ => true

end Sys2Proof
end

