-- ==== Sys2Proof/Tests/Slice0.lean ====
section
/-!
SUPPORT. The model's own tests, each about one step on a small state: well-formedness, the step and its queue, worked examples of the spec, and for each statement a state and operands that meet its hypotheses.
-/
namespace Sys2Proof.Tests
open Sys2Proof Sys2Proof.Machine Sys2Proof.Claims

/-! ### Well-formedness: each check refuses an ill-formed command -/

/-- A header for tests: queue 0, class D3, no launch pip. -/
def hdr : Hdr := { queue := 0, cls := 3, tag := 7, launch := 0, epoch := 0, ip := 0, port := 0 }

theorem test_wf_good : Instr.wf (.fabNop hdr [1, 2, 3]) = true := by decide
theorem test_wf_payload : Instr.wf (.fabNop hdr (List.replicate 65536 0)) = false := by
  simp only [Instr.wf, payloadWf, List.length_replicate]; decide
theorem test_wf_packet : Instr.wf (.writePacket (List.replicate 65556 0)) = false := by
  simp only [Instr.wf, packetWf, List.length_replicate]; decide
theorem test_wf_nat : natWf 8 256 = false := by decide
theorem test_wf_int : intWf 16 (-32769) = false := by decide
theorem test_wf_pilot : PilotSample.wf { outlet := 0, high := 4096, low := 0, prox := 0 } = false := by decide
theorem test_wf_sample : KSampleIn.wf { streams := [[true]], m := 12500, us := 125, sealB := none } = false := by decide
theorem test_wf_sound : SoundIn.wf (.start 0 [1, 2, 3] 10) = false := by decide
theorem test_wf_can : canWf { port := 2, fd := false, brs := false, ext := false, id := 1, data := [] } = false := by decide
theorem test_wf_request : EvRequest.wf { volt := 65536, curr := 0, soc := 0, maxV := 0, maxI := 0, maxP := 0, evcc := [] } = false := by decide
theorem test_wf_card : CardSeen.wf { uid := [1], sak := 0, atqa := 0, offered := false } = false := by decide
theorem test_wf_card_answer : CardIn.wf (.wtx 64) = false := by decide
theorem test_wf_tag : TagIn.wf (.rats 16 0) = false := by decide
theorem test_wf_burr : natWf 64 (2 ^ 64) = false := by decide
theorem test_wf_pip : PipIn.wf { feedA := 65536, feedB := 0, vbat := 0, diodeA := false, diodeB := false, temp := 0, pilots := [], guards := [], hubLow := false, straps := ⟨false, false, false⟩, refOk := true } = false := by decide
theorem test_wf_defect : RowDefect.wf { spare := false, mem := 3, row := 0, word := 0, bit := 0 } = false := by decide
theorem test_wf_frame : frameWf (List.replicate 521 0) = false := by simp only [frameWf, List.length_replicate]; decide
theorem test_wf_stamp : TxStamp.wf { mac := 0, sec := 0, ns := 1000000000, typ := 0, domain := 0, seq := 0 } = false := by decide
theorem test_wf_pod : podWf { body := { epoch := 2 ^ 32, pip := 0, state := 0, aligned := false, copy := none, short := false, ack := false, adv := [], fwd := [] }, crc := 0 } = false := by decide
theorem test_wf_husk_frame : FrameIn.wf { lane := 0, ok := true, snr := 65536, level := 0, symbols := [], frame := .other } = false := by decide
theorem test_wf_fc : FcIn.wf { lane := 0, sni := 0, dest := 2 ^ 48, us := 0, mode := 0, blocks := 1, octets := 136 } = false := by decide
theorem test_wf_measure : measWf [(0, 65536, 0)] = false := by decide

/-! ### The step and its queue -/

theorem test_idle : step State.reset = .next State.reset := step_idle _ rfl
theorem test_no_word : decodeTableWord 16 0x0100 = none := rfl
theorem test_fetch_word : State.reset.withFetchWord 16 0x0100 = State.reset := rfl
theorem test_front : step { State.reset with pending := [.readStatus, .udpReplySend] } = exec .readStatus { State.reset with pending := [.udpReplySend] } := rfl

/-! ### Worked examples of the spec -/

set_option maxRecDepth 8000 in
/-- R43's check value. -/
theorem test_crc32c : (crc32c [0x31, 0x32, 0x33, 0x34, 0x35, 0x36, 0x37, 0x38, 0x39]).toNat = 0xE3069283 := by decide

/-! ### Hypotheses met: the opcode rows. Each theorem gives a device and a payload on which the command of its row is admitted and completes. -/

/-- The device of reset in the mode MAINTENANCE. -/
def mt : Dev := Dev.reset.wn Reg.SYS_MODE 2

set_option maxRecDepth 100000 in
theorem meets_sysStatusGet : ∃ (d : Dev) (p : Bytes), let s : State := { State.reset with dev := d }; Admitted s hdr 0x0000 p ∧ hdr.launch = 0 ∧ ((Enabled.empty) (begun s hdr 0x0000 p).dev p) :=
  ⟨mt, [], by decide⟩

set_option maxRecDepth 100000 in
theorem meets_sysInfo : ∃ (d : Dev) (p : Bytes), let s : State := { State.reset with dev := d }; Admitted s hdr 0x0001 p ∧ hdr.launch = 0 ∧ ((Enabled.empty) (begun s hdr 0x0001 p).dev p) :=
  ⟨mt, [], by decide⟩

set_option maxRecDepth 100000 in
theorem meets_sysReset : ∃ (d : Dev) (p : Bytes), let s : State := { State.reset with dev := d }; Admitted s hdr 0x0002 p ∧ hdr.launch = 0 ∧ ((Enabled.sysResetShell) (startDev s hdr 0x0002 p) p) :=
  ⟨mt, [1, 0, 0, 0], by decide⟩

set_option maxRecDepth 100000 in
theorem meets_sysReset_2 : ∃ (d : Dev) (p : Bytes), let s : State := { State.reset with dev := d }; Admitted s hdr 0x0002 p ∧ hdr.launch = 0 ∧ ((Enabled.sysReset) (startDev s hdr 0x0002 p) p) :=
  ⟨mt, [2, 0, 0, 0], by decide⟩

set_option maxRecDepth 100000 in
theorem meets_sysForceSel : ∃ (d : Dev) (p : Bytes), let s : State := { State.reset with dev := d }; Admitted s hdr 0x0003 p ∧ hdr.launch = 0 ∧ ((Enabled.sysForceSel) (startDev s hdr 0x0003 p) p) :=
  ⟨mt, [1, 1, 0, 0], by decide⟩

set_option maxRecDepth 100000 in
theorem meets_sysSetMode : ∃ (d : Dev) (p : Bytes), let s : State := { State.reset with dev := d }; Admitted s hdr 0x0004 p ∧ hdr.launch = 0 ∧ ((Enabled.sysSetMode) (begun s hdr 0x0004 p).dev p) :=
  ⟨mt, [3, 0, 0, 0], by decide⟩

set_option maxRecDepth 100000 in
theorem meets_sysCfgSave : ∃ (d : Dev) (p : Bytes), let s : State := { State.reset with dev := d }; Admitted s hdr 0x0005 p ∧ hdr.launch = 0 ∧ ((Enabled.sysCfgSave) (startDev s hdr 0x0005 p) p) :=
  ⟨mt, [1, 0, 0, 0], by decide⟩

set_option maxRecDepth 100000 in
theorem meets_sysLogRead : ∃ (d : Dev) (p : Bytes), let s : State := { State.reset with dev := d }; Admitted s hdr 0x0006 p ∧ hdr.launch = 0 ∧ ((Enabled.sysLogRead) (begun s hdr 0x0006 p).dev p) :=
  ⟨mt, [1, 0, 0, 0, 1, 0, 0, 0], by decide⟩

set_option maxRecDepth 100000 in
theorem meets_regRead : ∃ (d : Dev) (p : Bytes), let s : State := { State.reset with dev := d }; Admitted s hdr 0x0100 p ∧ hdr.launch = 0 ∧ ((Enabled.regRead) (begun s hdr 0x0100 p).dev p) :=
  ⟨mt, leN Reg.FAB_UDP_IP 4 ++ [1, 0, 0, 0], by decide⟩

set_option maxRecDepth 100000 in
theorem meets_regWrite : ∃ (d : Dev) (p : Bytes), let s : State := { State.reset with dev := d }; Admitted s hdr 0x0101 p ∧ hdr.launch = 0 ∧ ((Enabled.regWrite) (begun s hdr 0x0101 p).dev p) :=
  ⟨mt, oneWord Reg.FAB_UDP_IP 5#32, by decide⟩

set_option maxRecDepth 100000 in
theorem meets_regModify : ∃ (d : Dev) (p : Bytes), let s : State := { State.reset with dev := d }; Admitted s hdr 0x0102 p ∧ hdr.launch = 0 ∧ ((Enabled.regModify) (begun s hdr 0x0102 p).dev p) :=
  ⟨mt, leN Reg.FAB_UDP_IP 4 ++ [255, 255, 0, 0, 5, 0, 0, 0], by decide⟩

set_option maxRecDepth 100000 in
theorem meets_regReadShadow : ∃ (d : Dev) (p : Bytes), let s : State := { State.reset with dev := d }; Admitted s hdr 0x0103 p ∧ hdr.launch = 0 ∧ ((Enabled.regReadShadow) (begun s hdr 0x0103 p).dev p) :=
  ⟨mt, leN Reg.FAB_UDP_IP 4 ++ [1, 0, 0, 0], by decide⟩

set_option maxRecDepth 100000 in
theorem meets_fabDiscard : ∃ (d : Dev) (p : Bytes), let s : State := { State.reset with dev := d }; Admitted s hdr 0x0105 p ∧ hdr.launch = 0 ∧ ((Enabled.fabDiscard) (begun s hdr 0x0105 p).dev p) :=
  ⟨mt, [1, 0, 0, 0], by decide⟩

set_option maxRecDepth 100000 in
theorem meets_fabNop : ∃ (d : Dev) (p : Bytes), let s : State := { State.reset with dev := d }; Admitted s hdr 0x0108 p ∧ hdr.launch = 0 ∧ ((fun _ _ => True) (begun s hdr 0x0108 p).dev p) :=
  ⟨mt, [1, 2, 3], by decide⟩

set_option maxRecDepth 100000 in
theorem meets_outStatusGet : ∃ (d : Dev) (p : Bytes), let s : State := { State.reset with dev := d }; Admitted s hdr 0x0200 p ∧ hdr.launch = 0 ∧ ((Enabled.oneOutlet) (begun s hdr 0x0200 p).dev p) :=
  ⟨(mt.setFld (Reg.OUT_CFG 0) 2 0 1), [0, 0, 0, 0], by decide⟩

set_option maxRecDepth 100000 in
theorem meets_outAuthorise : ∃ (d : Dev) (p : Bytes), let s : State := { State.reset with dev := d }; Admitted s hdr 0x0201 p ∧ hdr.launch = 0 ∧ ((Enabled.outAuthorise) (begun s hdr 0x0201 p).dev p) :=
  ⟨(((mt.setFld (Reg.OUT_CFG 0) 2 0 1).setFld (Reg.OUT_STATE 0) 3 0 4).setO 0 fun o => { o with waiting := true }), [0, 1, 0, 0, 0, 0, 0, 0], by decide⟩

set_option maxRecDepth 100000 in
theorem meets_outStartRemote : ∃ (d : Dev) (p : Bytes), let s : State := { State.reset with dev := d }; Admitted s hdr 0x0202 p ∧ hdr.launch = 0 ∧ ((Enabled.outStartRemote) (begun s hdr 0x0202 p).dev p) :=
  ⟨mt, [255, 0, 1, 10, 0, 0, 0, 0, 0, 0, 0, 0, 0, 0, 0, 0], by decide⟩

set_option maxRecDepth 100000 in
theorem meets_outStop : ∃ (d : Dev) (p : Bytes), let s : State := { State.reset with dev := d }; Admitted s hdr 0x0203 p ∧ hdr.launch = 0 ∧ ((Enabled.outStop) (begun s hdr 0x0203 p).dev p) :=
  ⟨((mt.setFld (Reg.OUT_CFG 0) 2 0 1).setFld (Reg.OUT_STATE 0) 3 0 7), [0, 0, 0, 0], by decide⟩

set_option maxRecDepth 100000 in
theorem meets_outSetAvailable : ∃ (d : Dev) (p : Bytes), let s : State := { State.reset with dev := d }; Admitted s hdr 0x0204 p ∧ hdr.launch = 0 ∧ ((Enabled.outSetAvailable) (begun s hdr 0x0204 p).dev p) :=
  ⟨(mt.setFld (Reg.OUT_CFG 0) 2 0 1), [0, 1, 0, 0], by decide⟩

set_option maxRecDepth 100000 in
theorem meets_outClearFault : ∃ (d : Dev) (p : Bytes), let s : State := { State.reset with dev := d }; Admitted s hdr 0x0205 p ∧ hdr.launch = 0 ∧ ((Enabled.outClearFault) (begun s hdr 0x0205 p).dev p) :=
  ⟨((mt.setFld (Reg.OUT_CFG 0) 2 0 1).setFld (Reg.OUT_STATE 0) 3 0 11), [0, 0, 0, 0], by decide⟩

set_option maxRecDepth 100000 in
theorem meets_outSessionInfo : ∃ (d : Dev) (p : Bytes), let s : State := { State.reset with dev := d }; Admitted s hdr 0x0206 p ∧ hdr.launch = 0 ∧ ((Enabled.oneOutlet) (begun s hdr 0x0206 p).dev p) :=
  ⟨(mt.setFld (Reg.OUT_CFG 0) 2 0 1), [0, 0, 0, 0], by decide⟩

set_option maxRecDepth 100000 in
theorem meets_outEventRead : ∃ (d : Dev) (p : Bytes), let s : State := { State.reset with dev := d }; Admitted s hdr 0x0207 p ∧ hdr.launch = 0 ∧ ((Enabled.outEventRead) (begun s hdr 0x0207 p).dev p) :=
  ⟨mt, [1, 0, 0, 0, 1, 0, 0, 0], by decide⟩

set_option maxRecDepth 100000 in
theorem meets_listUpdate : ∃ (d : Dev) (p : Bytes), let s : State := { State.reset with dev := d }; Admitted s hdr 0x0208 p ∧ hdr.launch = 0 ∧ ((Enabled.listUpdate) (begun s hdr 0x0208 p).dev p) :=
  ⟨mt, [1, 0, 0, 0, 0, 0, 0, 0], by decide⟩

set_option maxRecDepth 100000 in
theorem meets_listQuery : ∃ (d : Dev) (p : Bytes), let s : State := { State.reset with dev := d }; Admitted s hdr 0x0209 p ∧ hdr.launch = 0 ∧ ((Enabled.listQuery) (begun s hdr 0x0209 p).dev p) :=
  ⟨{ mt with out := { mt.out with list := [{ kind := 1, len := 1, bytes := [5], status := 0, acct := 0 }] } }, [1, 1, 5, 0, 0, 0, 0, 0, 0, 0, 0, 0], by decide⟩

set_option maxRecDepth 100000 in
theorem meets_outCertResponse : ∃ (d : Dev) (p : Bytes), let s : State := { State.reset with dev := d }; Admitted s hdr 0x020A p ∧ hdr.launch = 0 ∧ ((Enabled.outCertResponse) (begun s hdr 0x020A p).dev p) :=
  ⟨((mt.setFld (Reg.OUT_CFG 0) 2 0 1).setO 0 fun o => { o with certPending := true }), [0, 0, 8, 0, 0, 0, 0, 0], by decide⟩

set_option maxRecDepth 100000 in
theorem meets_kernStatus : ∃ (d : Dev) (p : Bytes), let s : State := { State.reset with dev := d }; Admitted s hdr 0x0300 p ∧ hdr.launch = 0 ∧ ((Enabled.empty) (begun s hdr 0x0300 p).dev p) :=
  ⟨mt, [], by decide⟩

set_option maxRecDepth 100000 in
theorem meets_kernPubkeyRead : ∃ (d : Dev) (p : Bytes), let s : State := { State.reset with dev := d }; Admitted s hdr 0x0302 p ∧ hdr.launch = 0 ∧ ((Enabled.kernPubkeyRead) (begun s hdr 0x0302 p).dev p) :=
  ⟨mt, [], by decide⟩

set_option maxRecDepth 100000 in
theorem meets_kernLedgerRead : ∃ (d : Dev) (p : Bytes), let s : State := { State.reset with dev := d }; Admitted s hdr 0x0303 p ∧ hdr.launch = 0 ∧ ((Enabled.fixed 12) (startDev s hdr 0x0303 p) p) :=
  ⟨mt, List.replicate 12 0, by decide⟩

set_option maxRecDepth 100000 in
theorem meets_kernIntervalWait : ∃ (d : Dev) (p : Bytes), let s : State := { State.reset with dev := d }; Admitted s hdr 0x0304 p ∧ hdr.launch = 0 ∧ ((Enabled.oneOf 31) (startDev s hdr 0x0304 p) p) :=
  ⟨mt, [31, 0, 0, 0], by decide⟩

set_option maxRecDepth 100000 in
theorem meets_kernReceiptGet : ∃ (d : Dev) (p : Bytes), let s : State := { State.reset with dev := d }; Admitted s hdr 0x0305 p ∧ hdr.launch = 0 ∧ ((Enabled.fixed 8) (startDev s hdr 0x0305 p) p) :=
  ⟨mt, List.replicate 8 0, by decide⟩

set_option maxRecDepth 100000 in
theorem meets_kernSetChannel : ∃ (d : Dev) (p : Bytes), let s : State := { State.reset with dev := d }; Admitted s hdr 0x0306 p ∧ hdr.launch = 0 ∧ ((Enabled.fixed 8) (startDev s hdr 0x0306 p) p) :=
  ⟨mt, List.replicate 8 0, by decide⟩

set_option maxRecDepth 100000 in
theorem meets_kernSetCal : ∃ (d : Dev) (p : Bytes), let s : State := { State.reset with dev := d }; Admitted s hdr 0x0307 p ∧ hdr.launch = 0 ∧ ((Enabled.fixed 28) (startDev s hdr 0x0307 p) p) :=
  ⟨mt, List.replicate 28 0, by decide⟩

set_option maxRecDepth 100000 in
theorem meets_kernSetMclk : ∃ (d : Dev) (p : Bytes), let s : State := { State.reset with dev := d }; Admitted s hdr 0x0308 p ∧ hdr.launch = 0 ∧ ((Enabled.fixed 4) (startDev s hdr 0x0308 p) p) :=
  ⟨mt, List.replicate 4 0, by decide⟩

set_option maxRecDepth 100000 in
theorem meets_kernSetPulse : ∃ (d : Dev) (p : Bytes), let s : State := { State.reset with dev := d }; Admitted s hdr 0x0309 p ∧ hdr.launch = 0 ∧ ((Enabled.fixed 8) (startDev s hdr 0x0309 p) p) :=
  ⟨mt, List.replicate 8 0, by decide⟩

set_option maxRecDepth 100000 in
theorem meets_kernSetBalance : ∃ (d : Dev) (p : Bytes), let s : State := { State.reset with dev := d }; Admitted s hdr 0x030A p ∧ hdr.launch = 0 ∧ ((Enabled.fixed 12) (startDev s hdr 0x030A p) p) :=
  ⟨mt, List.replicate 12 0, by decide⟩

set_option maxRecDepth 100000 in
theorem meets_kernSetLimits : ∃ (d : Dev) (p : Bytes), let s : State := { State.reset with dev := d }; Admitted s hdr 0x030B p ∧ hdr.launch = 0 ∧ ((Enabled.fixed 72) (startDev s hdr 0x030B p) p) :=
  ⟨mt, List.replicate 72 0, by decide⟩

set_option maxRecDepth 100000 in
theorem meets_kernFwBegin : ∃ (d : Dev) (p : Bytes), let s : State := { State.reset with dev := d }; Admitted s hdr 0x030C p ∧ hdr.launch = 0 ∧ ((Enabled.fixed 8) (startDev s hdr 0x030C p) p) :=
  ⟨mt, List.replicate 8 0, by decide⟩

set_option maxRecDepth 100000 in
theorem meets_kernFwChunk : ∃ (d : Dev) (p : Bytes), let s : State := { State.reset with dev := d }; Admitted s hdr 0x030D p ∧ hdr.launch = 0 ∧ ((Enabled.chunk) (startDev s hdr 0x030D p) p) :=
  ⟨mt, [0, 0, 0, 0, 1], by decide⟩

set_option maxRecDepth 100000 in
theorem meets_kernFwEnd : ∃ (d : Dev) (p : Bytes), let s : State := { State.reset with dev := d }; Admitted s hdr 0x030E p ∧ hdr.launch = 0 ∧ ((Enabled.fixed 0) (startDev s hdr 0x030E p) p) :=
  ⟨mt, List.replicate 0 0, by decide⟩

set_option maxRecDepth 100000 in
theorem meets_kernFwActivate : ∃ (d : Dev) (p : Bytes), let s : State := { State.reset with dev := d }; Admitted s hdr 0x030F p ∧ hdr.launch = 0 ∧ ((Enabled.fixed 4) (startDev s hdr 0x030F p) p) :=
  ⟨mt, List.replicate 4 0, by decide⟩

set_option maxRecDepth 100000 in
theorem meets_kernArchiveAck : ∃ (d : Dev) (p : Bytes), let s : State := { State.reset with dev := d }; Admitted s hdr 0x0310 p ∧ hdr.launch = 0 ∧ ((Enabled.fixed 8) (startDev s hdr 0x0310 p) p) :=
  ⟨mt, List.replicate 8 0, by decide⟩

set_option maxRecDepth 100000 in
theorem meets_kernCheckpoint : ∃ (d : Dev) (p : Bytes), let s : State := { State.reset with dev := d }; Admitted s hdr 0x0311 p ∧ hdr.launch = 0 ∧ ((Enabled.fixed 0) (startDev s hdr 0x0311 p) p) :=
  ⟨mt, List.replicate 0 0, by decide⟩

set_option maxRecDepth 100000 in
theorem meets_tariffBegin : ∃ (d : Dev) (p : Bytes), let s : State := { State.reset with dev := d }; Admitted s hdr 0x0400 p ∧ hdr.launch = 0 ∧ ((Enabled.fixed 8) (startDev s hdr 0x0400 p) p) :=
  ⟨mt, List.replicate 8 0, by decide⟩

set_option maxRecDepth 100000 in
theorem meets_tariffChunk : ∃ (d : Dev) (p : Bytes), let s : State := { State.reset with dev := d }; Admitted s hdr 0x0401 p ∧ hdr.launch = 0 ∧ ((Enabled.chunk) (startDev s hdr 0x0401 p) p) :=
  ⟨mt, [0, 0, 0, 0, 1], by decide⟩

set_option maxRecDepth 100000 in
theorem meets_tariffEnd : ∃ (d : Dev) (p : Bytes), let s : State := { State.reset with dev := d }; Admitted s hdr 0x0402 p ∧ hdr.launch = 0 ∧ ((Enabled.fixed 0) (startDev s hdr 0x0402 p) p) :=
  ⟨mt, List.replicate 0 0, by decide⟩

set_option maxRecDepth 100000 in
theorem meets_tariffAbort : ∃ (d : Dev) (p : Bytes), let s : State := { State.reset with dev := d }; Admitted s hdr 0x0403 p ∧ hdr.launch = 0 ∧ ((Enabled.fixed 0) (startDev s hdr 0x0403 p) p) :=
  ⟨mt, List.replicate 0 0, by decide⟩

set_option maxRecDepth 100000 in
theorem meets_tariffRead : ∃ (d : Dev) (p : Bytes), let s : State := { State.reset with dev := d }; Admitted s hdr 0x0404 p ∧ hdr.launch = 0 ∧ ((Enabled.fixed 4) (startDev s hdr 0x0404 p) p) :=
  ⟨mt, List.replicate 4 0, by decide⟩

set_option maxRecDepth 100000 in
theorem meets_legalTimeAdjust : ∃ (d : Dev) (p : Bytes), let s : State := { State.reset with dev := d }; Admitted s hdr 0x0405 p ∧ hdr.launch = 0 ∧ ((Enabled.fixed 8) (startDev s hdr 0x0405 p) p) :=
  ⟨mt, List.replicate 8 0, by decide⟩

set_option maxRecDepth 100000 in
theorem meets_legalTimeGet : ∃ (d : Dev) (p : Bytes), let s : State := { State.reset with dev := d }; Admitted s hdr 0x0406 p ∧ hdr.launch = 0 ∧ ((Enabled.empty) (begun s hdr 0x0406 p).dev p) :=
  ⟨mt, [], by decide⟩

set_option maxRecDepth 100000 in
theorem meets_accountSet : ∃ (d : Dev) (p : Bytes), let s : State := { State.reset with dev := d }; Admitted s hdr 0x0410 p ∧ hdr.launch = 0 ∧ ((Enabled.accountSet) (begun s hdr 0x0410 p).dev p) :=
  ⟨mt, List.replicate 20 0, by decide⟩

set_option maxRecDepth 100000 in
theorem meets_accountAdjust : ∃ (d : Dev) (p : Bytes), let s : State := { State.reset with dev := d }; Admitted s hdr 0x0411 p ∧ hdr.launch = 0 ∧ ((Enabled.accountAdjust) (begun s hdr 0x0411 p).dev p) :=
  ⟨{ mt with bill := { mt.bill with accounts := [(4095, some { balance := 0, limit := 0, mask := 0, blocked := false, refs := [] })] } }, [255, 15] ++ List.replicate 14 0, by decide⟩

set_option maxRecDepth 100000 in
theorem meets_accountGet : ∃ (d : Dev) (p : Bytes), let s : State := { State.reset with dev := d }; Admitted s hdr 0x0412 p ∧ hdr.launch = 0 ∧ ((Enabled.accountGet) (begun s hdr 0x0412 p).dev p) :=
  ⟨{ mt with bill := { mt.bill with accounts := [(4095, some { balance := 0, limit := 0, mask := 0, blocked := false, refs := [] })] } }, [255, 15, 0, 0], by decide⟩

set_option maxRecDepth 100000 in
theorem meets_txnRead : ∃ (d : Dev) (p : Bytes), let s : State := { State.reset with dev := d }; Admitted s hdr 0x0413 p ∧ hdr.launch = 0 ∧ ((Enabled.txnRead) (begun s hdr 0x0413 p).dev p) :=
  ⟨mt, [1, 0, 0, 0, 1, 0, 0, 0], by decide⟩

set_option maxRecDepth 100000 in
theorem meets_tokenSubmit : ∃ (d : Dev) (p : Bytes), let s : State := { State.reset with dev := d }; Admitted s hdr 0x0414 p ∧ hdr.launch = 0 ∧ ((Enabled.tokenSubmit) (startDev s hdr 0x0414 p) p) :=
  ⟨(mt.setFld (Reg.OUT_CFG 0) 2 0 1), [0, 0] ++ List.replicate 20 48 ++ [0, 0], by decide⟩

set_option maxRecDepth 100000 in
theorem meets_tokenListRead : ∃ (d : Dev) (p : Bytes), let s : State := { State.reset with dev := d }; Admitted s hdr 0x0415 p ∧ hdr.launch = 0 ∧ ((Enabled.tokenListRead) (begun s hdr 0x0415 p).dev p) :=
  ⟨mt, [0, 0, 1, 0], by decide⟩

set_option maxRecDepth 100000 in
theorem meets_huskStatusGet : ∃ (d : Dev) (p : Bytes), let s : State := { State.reset with dev := d }; Admitted s hdr 0x0500 p ∧ hdr.launch = 0 ∧ ((Enabled.empty) (begun s hdr 0x0500 p).dev p) :=
  ⟨mt, [], by decide⟩

set_option maxRecDepth 100000 in
theorem meets_laneStatsGet : ∃ (d : Dev) (p : Bytes), let s : State := { State.reset with dev := d }; Admitted s hdr 0x0501 p ∧ hdr.launch = 0 ∧ ((Enabled.oneOf 32) (begun s hdr 0x0501 p).dev p) :=
  ⟨mt, [32, 0, 0, 0], by decide⟩

set_option maxRecDepth 100000 in
theorem meets_slacProfileGet : ∃ (d : Dev) (p : Bytes), let s : State := { State.reset with dev := d }; Admitted s hdr 0x0502 p ∧ hdr.launch = 0 ∧ ((Enabled.slacProfileGet) (begun s hdr 0x0502 p).dev p) :=
  ⟨mt.setLane 0 fun l => { l with last := some { run := [], sounds := 0, code := 0, groups := [], figs := [] } }, [0, 0, 0, 0], by decide⟩

set_option maxRecDepth 100000 in
theorem meets_laneReset : ∃ (d : Dev) (p : Bytes), let s : State := { State.reset with dev := d }; Admitted s hdr 0x0503 p ∧ hdr.launch = 0 ∧ ((Enabled.laneReset) (startDev s hdr 0x0503 p) p) :=
  ⟨mt, [32, 0, 0, 0], by decide⟩

set_option maxRecDepth 100000 in
theorem meets_t1sStatusGet : ∃ (d : Dev) (p : Bytes), let s : State := { State.reset with dev := d }; Admitted s hdr 0x0504 p ∧ hdr.launch = 0 ∧ ((Enabled.t1sStatusGet) (begun s hdr 0x0504 p).dev p) :=
  ⟨(mt.setFld (Reg.OUT_CFG 31) 2 0 3), [7, 0, 0, 0], by decide⟩

set_option maxRecDepth 100000 in
theorem meets_laneTxTest : ∃ (d : Dev) (p : Bytes), let s : State := { State.reset with dev := d }; Admitted s hdr 0x0505 p ∧ hdr.launch = 0 ∧ ((Enabled.laneTxTest) (startDev s hdr 0x0505 p) p) :=
  ⟨mt, [31, 2, 0, 0, 1, 0, 0, 0], by decide⟩

set_option maxRecDepth 100000 in
theorem meets_timeGet : ∃ (d : Dev) (p : Bytes), let s : State := { State.reset with dev := d }; Admitted s hdr 0x0600 p ∧ hdr.launch = 0 ∧ ((Enabled.empty) (begun s hdr 0x0600 p).dev p) :=
  ⟨mt, [], by decide⟩

set_option maxRecDepth 100000 in
theorem meets_timeSetState : ∃ (d : Dev) (p : Bytes), let s : State := { State.reset with dev := d }; Admitted s hdr 0x0601 p ∧ hdr.launch = 0 ∧ ((Enabled.timeSetState) (begun s hdr 0x0601 p).dev p) :=
  ⟨(mt.setFld Reg.TIME_STATUS 2 0 2), [4, 0, 0, 0], by decide⟩

set_option maxRecDepth 100000 in
theorem meets_timeSetTb0 : ∃ (d : Dev) (p : Bytes), let s : State := { State.reset with dev := d }; Admitted s hdr 0x0602 p ∧ hdr.launch = 0 ∧ ((Enabled.timeSetTb0) (startDev s hdr 0x0602 p) p) :=
  ⟨mt, List.replicate 12 0, by refine ⟨by decide, rfl, by decide, by decide, by decide, by decide, ?_⟩; exact fun a b c h => by cases h⟩

set_option maxRecDepth 100000 in
theorem meets_timePtpStatus : ∃ (d : Dev) (p : Bytes), let s : State := { State.reset with dev := d }; Admitted s hdr 0x0603 p ∧ hdr.launch = 0 ∧ ((Enabled.empty) (begun s hdr 0x0603 p).dev p) :=
  ⟨mt, [], by decide⟩

set_option maxRecDepth 100000 in
theorem meets_fwuStatusGet : ∃ (d : Dev) (p : Bytes), let s : State := { State.reset with dev := d }; Admitted s hdr 0x0700 p ∧ hdr.launch = 0 ∧ ((Enabled.empty) (begun s hdr 0x0700 p).dev p) :=
  ⟨mt, [], by decide⟩

set_option maxRecDepth 100000 in
theorem meets_fwuBegin : ∃ (d : Dev) (p : Bytes), let s : State := { State.reset with dev := d }; Admitted s hdr 0x0701 p ∧ hdr.launch = 0 ∧ ((Enabled.fwuBegin) (startDev s hdr 0x0701 p) p) :=
  ⟨mt, [160, 0, 0, 0, 0, 0, 0, 0], by decide⟩

set_option maxRecDepth 100000 in
theorem meets_fwuChunk : ∃ (d : Dev) (p : Bytes), let s : State := { State.reset with dev := d }; Admitted s hdr 0x0702 p ∧ hdr.launch = 0 ∧ ((Enabled.fwuChunk) (startDev s hdr 0x0702 p) p) :=
  ⟨{ mt with fwu := { mt.fwu with load := some (160, 0, []) } }, [0, 0, 0, 0, 1], by decide⟩

set_option maxRecDepth 100000 in
theorem meets_fwuEnd : ∃ (d : Dev) (p : Bytes), let s : State := { State.reset with dev := d }; Admitted s hdr 0x0703 p ∧ hdr.launch = 0 ∧ ((Enabled.fwuEnd) (startDev s hdr 0x0703 p) p) :=
  ⟨{ mt with fwu := { mt.fwu with load := some (160, 0, ([0x4B, 0x42, 0x46, 0x57, 0x01, 0, 0, 0, 0, 0, 0, 0, 160, 0, 0, 0] ++ List.replicate 144 0)) } }, leN (crc32c ([0x4B, 0x42, 0x46, 0x57, 0x01, 0, 0, 0, 0, 0, 0, 0, 160, 0, 0, 0] ++ List.replicate 144 0)).toNat 4, by decide⟩

set_option maxRecDepth 100000 in
theorem meets_fwuActivate : ∃ (d : Dev) (p : Bytes), let s : State := { State.reset with dev := d }; Admitted s hdr 0x0704 p ∧ hdr.launch = 0 ∧ ((Enabled.fwuActivate) (startDev s hdr 0x0704 p) p) :=
  ⟨{ mt with fwu := { mt.fwu with staged := true, target := true, bankB := some { version := 9, rollback := 0, safety := 0, carry := 0, oldest := 0, factory := false, data := [] } } }, [9, 0, 0, 0, 0, 0, 0, 0], by decide⟩

set_option maxRecDepth 100000 in
theorem meets_fwuConfirm : ∃ (d : Dev) (p : Bytes), let s : State := { State.reset with dev := d }; Admitted s hdr 0x0705 p ∧ hdr.launch = 0 ∧ ((Enabled.empty) (begun s hdr 0x0705 p).dev p) :=
  ⟨mt, [], by decide⟩

set_option maxRecDepth 100000 in
theorem meets_fwuAbort : ∃ (d : Dev) (p : Bytes), let s : State := { State.reset with dev := d }; Admitted s hdr 0x0706 p ∧ hdr.launch = 0 ∧ ((Enabled.empty) (startDev s hdr 0x0706 p) p) :=
  ⟨mt, [], by decide⟩

set_option maxRecDepth 100000 in
theorem meets_keyStatusGet : ∃ (d : Dev) (p : Bytes), let s : State := { State.reset with dev := d }; Admitted s hdr 0x0800 p ∧ hdr.launch = 0 ∧ ((Enabled.empty) (begun s hdr 0x0800 p).dev p) :=
  ⟨mt, [], by decide⟩

set_option maxRecDepth 100000 in
theorem meets_keyClear : ∃ (d : Dev) (p : Bytes), let s : State := { State.reset with dev := d }; Admitted s hdr 0x0802 p ∧ hdr.launch = 0 ∧ ((Enabled.keyClear) (startDev s hdr 0x0802 p) p) :=
  ⟨mt, [63, 0, 0, 0], by decide⟩

set_option maxRecDepth 100000 in
theorem meets_keyGenerate : ∃ (d : Dev) (p : Bytes), let s : State := { State.reset with dev := d }; Admitted s hdr 0x0803 p ∧ hdr.launch = 0 ∧ ((Enabled.keyGenerate) (startDev s hdr 0x0803 p) p) :=
  ⟨mt, [63, 1, 1, 0, 0, 0, 0, 0, 0, 0, 0, 0], by decide⟩

set_option maxRecDepth 100000 in
theorem meets_keyPubkey : ∃ (d : Dev) (p : Bytes), let s : State := { State.reset with dev := d }; Admitted s hdr 0x0805 p ∧ hdr.launch = 0 ∧ ((Enabled.keyPubkey) (begun s hdr 0x0805 p).dev p) :=
  ⟨((mt.setSlot 0 { use := 5, alg := 3, origin := 1, label := 0, version := 1, key := [] }).setBit Reg.KEY_HOST_LO 0 true), [0, 0, 0, 0], by decide⟩

set_option maxRecDepth 100000 in
theorem meets_keyCsr : ∃ (d : Dev) (p : Bytes), let s : State := { State.reset with dev := d }; Admitted s hdr 0x0806 p ∧ hdr.launch = 0 ∧ ((Enabled.keyCsr) (startDev s hdr 0x0806 p) p) :=
  ⟨((mt.setSlot 0 { use := 5, alg := 3, origin := 1, label := 0, version := 1, key := [] }).setBit Reg.KEY_HOST_LO 0 true), [0, 0, 1, 0, 0], by decide⟩

set_option maxRecDepth 100000 in
theorem meets_keyAead : ∃ (d : Dev) (p : Bytes), let s : State := { State.reset with dev := d }; Admitted s hdr 0x0807 p ∧ hdr.launch = 0 ∧ ((Enabled.keyAead) (startDev s hdr 0x0807 p) p) :=
  ⟨((mt.setSlot 0 { use := 1, alg := 1, origin := 1, label := 0, version := 1, key := [] }).setBit Reg.KEY_HOST_LO 0 true), List.replicate 17 0, by decide⟩

set_option maxRecDepth 100000 in
theorem meets_keyTamperArm : ∃ (d : Dev) (p : Bytes), let s : State := { State.reset with dev := d }; Admitted s hdr 0x0808 p ∧ hdr.launch = 0 ∧ ((Enabled.keyTamperArm) (begun s hdr 0x0808 p).dev p) :=
  ⟨mt, [31, 0, 0, 0], by decide⟩

set_option maxRecDepth 100000 in
theorem meets_keyChainWrite : ∃ (d : Dev) (p : Bytes), let s : State := { State.reset with dev := d }; Admitted s hdr 0x0809 p ∧ hdr.launch = 0 ∧ ((Enabled.keyChainWrite) (startDev s hdr 0x0809 p) p) :=
  ⟨mt, List.replicate 9 0, by decide⟩

set_option maxRecDepth 100000 in
theorem meets_dispStatusGet : ∃ (d : Dev) (p : Bytes), let s : State := { State.reset with dev := d }; Admitted s hdr 0x0900 p ∧ hdr.launch = 0 ∧ ((Enabled.empty) (begun s hdr 0x0900 p).dev p) :=
  ⟨mt, [], by decide⟩

set_option maxRecDepth 100000 in
theorem meets_dispWrite : ∃ (d : Dev) (p : Bytes), let s : State := { State.reset with dev := d }; Admitted s hdr 0x0901 p ∧ hdr.launch = 0 ∧ ((Enabled.dispWrite) (begun s hdr 0x0901 p).dev p) :=
  ⟨mt, [0, 0, 1, 1, 0], by decide⟩

set_option maxRecDepth 100000 in
theorem meets_dispUpdate : ∃ (d : Dev) (p : Bytes), let s : State := { State.reset with dev := d }; Admitted s hdr 0x0902 p ∧ hdr.launch = 0 ∧ ((Enabled.dispUpdate) (startDev s hdr 0x0902 p) p) :=
  ⟨(mt.setBit (Reg.DISP_REGION_CFG 7) 31 true), [7, 0, 0, 0], by decide⟩

set_option maxRecDepth 100000 in
theorem meets_dispStressRead : ∃ (d : Dev) (p : Bytes), let s : State := { State.reset with dev := d }; Admitted s hdr 0x0903 p ∧ hdr.launch = 0 ∧ ((Enabled.dispStressRead) (begun s hdr 0x0903 p).dev p) :=
  ⟨mt, [255, 31, 1, 0], by decide⟩

set_option maxRecDepth 100000 in
theorem meets_dispStressReset : ∃ (d : Dev) (p : Bytes), let s : State := { State.reset with dev := d }; Admitted s hdr 0x0904 p ∧ hdr.launch = 0 ∧ ((Enabled.dispStressReset) (begun s hdr 0x0904 p).dev p) :=
  ⟨mt, [], by decide⟩

set_option maxRecDepth 100000 in
theorem meets_tagStatusGet : ∃ (d : Dev) (p : Bytes), let s : State := { State.reset with dev := d }; Admitted s hdr 0x0A00 p ∧ hdr.launch = 0 ∧ ((Enabled.empty) (begun s hdr 0x0A00 p).dev p) :=
  ⟨mt, [], by decide⟩

set_option maxRecDepth 100000 in
theorem meets_rdrList : ∃ (d : Dev) (p : Bytes), let s : State := { State.reset with dev := d }; Admitted s hdr 0x0A01 p ∧ hdr.launch = 0 ∧ ((Enabled.empty) (begun s hdr 0x0A01 p).dev p) :=
  ⟨mt, [], by decide⟩

set_option maxRecDepth 100000 in
theorem meets_rdrApdu : ∃ (d : Dev) (p : Bytes), let s : State := { State.reset with dev := d }; Admitted s hdr 0x0A02 p ∧ hdr.launch = 0 ∧ ((Enabled.rdrApdu) (startDev s hdr 0x0A02 p) p) :=
  ⟨{ (mt.setBit Reg.TAG_STATUS 8 true) with tag := { mt.tag with list := [{ uid := [1], sak := 0x20, atqa := 0, offered := true }] } }, List.replicate 5 0, by decide⟩

set_option maxRecDepth 100000 in
theorem meets_tagFramRead : ∃ (d : Dev) (p : Bytes), let s : State := { State.reset with dev := d }; Admitted s hdr 0x0A03 p ∧ hdr.launch = 0 ∧ ((Enabled.framRead) (startDev s hdr 0x0A03 p) p) :=
  ⟨mt, [255, 63, 1, 0], by decide⟩

set_option maxRecDepth 100000 in
theorem meets_tagFramWrite : ∃ (d : Dev) (p : Bytes), let s : State := { State.reset with dev := d }; Admitted s hdr 0x0A04 p ∧ hdr.launch = 0 ∧ ((Enabled.framWrite) (startDev s hdr 0x0A04 p) p) :=
  ⟨mt, [255, 63, 0, 0, 9], by decide⟩

set_option maxRecDepth 100000 in
theorem meets_tagFramHold : ∃ (d : Dev) (p : Bytes), let s : State := { State.reset with dev := d }; Admitted s hdr 0x0A05 p ∧ hdr.launch = 0 ∧ ((Enabled.framHold) (startDev s hdr 0x0A05 p) p) :=
  ⟨(mt.setBit Reg.TAG_STATUS 8 true), [], by decide⟩

set_option maxRecDepth 100000 in
theorem meets_tagFramRelease : ∃ (d : Dev) (p : Bytes), let s : State := { State.reset with dev := d }; Admitted s hdr 0x0A06 p ∧ hdr.launch = 0 ∧ ((Enabled.framRelease) (startDev s hdr 0x0A06 p) p) :=
  ⟨{ mt with tag := { mt.tag with hold := some 5 } }, [], by decide⟩

set_option maxRecDepth 100000 in
theorem meets_tagKpRead : ∃ (d : Dev) (p : Bytes), let s : State := { State.reset with dev := d }; Admitted s hdr 0x0A07 p ∧ hdr.launch = 0 ∧ ((Enabled.kpRead) (begun s hdr 0x0A07 p).dev p) :=
  ⟨(mt.setBit Reg.TAG_STATUS 8 true), [32, 0, 0, 0], by decide⟩

set_option maxRecDepth 100000 in
theorem meets_twinStatusGet : ∃ (d : Dev) (p : Bytes), let s : State := { State.reset with dev := d }; Admitted s hdr 0x0B00 p ∧ hdr.launch = 0 ∧ ((Enabled.empty) (begun s hdr 0x0B00 p).dev p) :=
  ⟨mt, [], by decide⟩

set_option maxRecDepth 100000 in
theorem meets_twinSwitchover : ∃ (d : Dev) (p : Bytes), let s : State := { State.reset with dev := d }; Admitted s hdr 0x0B01 p ∧ hdr.launch = 0 ∧ ((Enabled.twinSwitchover) (startDev s hdr 0x0B01 p) p) :=
  ⟨((mt.setFld Reg.TWIN_STATUS 2 0 4).setBit Reg.TWIN_STATUS 5 true), List.replicate 4 0, by decide⟩

set_option maxRecDepth 100000 in
theorem meets_twinResync : ∃ (d : Dev) (p : Bytes), let s : State := { State.reset with dev := d }; Admitted s hdr 0x0B02 p ∧ hdr.launch = 0 ∧ ((Enabled.twinResync) (begun s hdr 0x0B02 p).dev p) :=
  ⟨(mt.setFld Reg.TWIN_STATUS 2 0 3), List.replicate 4 0, by decide⟩

set_option maxRecDepth 100000 in
theorem meets_twinKcmpGet : ∃ (d : Dev) (p : Bytes), let s : State := { State.reset with dev := d }; Admitted s hdr 0x0B03 p ∧ hdr.launch = 0 ∧ ((Enabled.twinKcmpGet) (begun s hdr 0x0B03 p).dev p) :=
  ⟨{ mt with twin := { mt.twin with peerAdv := some [] } }, [31, 0, 0, 0], by decide⟩

set_option maxRecDepth 100000 in
theorem meets_meshStatusGet : ∃ (d : Dev) (p : Bytes), let s : State := { State.reset with dev := d }; Admitted s hdr 0x0C00 p ∧ hdr.launch = 0 ∧ ((Enabled.empty) (begun s hdr 0x0C00 p).dev p) :=
  ⟨mt, [], by decide⟩

set_option maxRecDepth 100000 in
theorem meets_meshNodeTable : ∃ (d : Dev) (p : Bytes), let s : State := { State.reset with dev := d }; Admitted s hdr 0x0C01 p ∧ hdr.launch = 0 ∧ ((Enabled.meshNodeTable) (begun s hdr 0x0C01 p).dev p) :=
  ⟨{ mt with mesh := { mt.mesh with st := .coordinator } }, [], by decide⟩

set_option maxRecDepth 100000 in
theorem meets_meshSend : ∃ (d : Dev) (p : Bytes), let s : State := { State.reset with dev := d }; Admitted s hdr 0x0C02 p ∧ hdr.launch = 0 ∧ ((Enabled.meshSend) (begun s hdr 0x0C02 p).dev p) :=
  ⟨{ mt with mesh := { mt.mesh with st := .coordinator } }, [1, 255, 1, 0, 9], by decide⟩

set_option maxRecDepth 100000 in
theorem meets_meshRxRead : ∃ (d : Dev) (p : Bytes), let s : State := { State.reset with dev := d }; Admitted s hdr 0x0C03 p ∧ hdr.launch = 0 ∧ ((Enabled.meshRxRead) (begun s hdr 0x0C03 p).dev p) :=
  ⟨mt, [8, 0, 0, 0], by decide⟩

set_option maxRecDepth 100000 in
theorem meets_meshRescan : ∃ (d : Dev) (p : Bytes), let s : State := { State.reset with dev := d }; Admitted s hdr 0x0C04 p ∧ hdr.launch = 0 ∧ ((Enabled.meshRescan) (begun s hdr 0x0C04 p).dev p) :=
  ⟨mt, [], by decide⟩

set_option maxRecDepth 100000 in
theorem meets_meshEvict : ∃ (d : Dev) (p : Bytes), let s : State := { State.reset with dev := d }; Admitted s hdr 0x0C05 p ∧ hdr.launch = 0 ∧ ((Enabled.meshEvict) (begun s hdr 0x0C05 p).dev p) :=
  ⟨{ mt with mesh := { mt.mesh with st := .coordinator, map := MeshMap.empty.setParent 63 0 } }, [63, 0, 0, 0], by decide⟩

set_option maxRecDepth 100000 in
theorem meets_safeStatusGet : ∃ (d : Dev) (p : Bytes), let s : State := { State.reset with dev := d }; Admitted s hdr 0x0D00 p ∧ hdr.launch = 0 ∧ ((Enabled.empty) (begun s hdr 0x0D00 p).dev p) :=
  ⟨mt, [], by decide⟩

set_option maxRecDepth 100000 in
theorem meets_safeReset : ∃ (d : Dev) (p : Bytes), let s : State := { State.reset with dev := d }; Admitted s hdr 0x0D01 p ∧ hdr.launch = 0 ∧ ((Enabled.safeReset) (begun s hdr 0x0D01 p).dev p) :=
  ⟨mt, List.replicate 4 0, by decide⟩

set_option maxRecDepth 100000 in
theorem meets_safeCfgCheck : ∃ (d : Dev) (p : Bytes), let s : State := { State.reset with dev := d }; Admitted s hdr 0x0D02 p ∧ hdr.launch = 0 ∧ ((Enabled.empty) (startDev s hdr 0x0D02 p) p) :=
  ⟨mt, [], by decide⟩

set_option maxRecDepth 100000 in
theorem meets_safeCfgActivate : ∃ (d : Dev) (p : Bytes), let s : State := { State.reset with dev := d }; Admitted s hdr 0x0D03 p ∧ hdr.launch = 0 ∧ ((Enabled.safeCfgActivate) (startDev s hdr 0x0D03 p) p) :=
  ⟨mt, leN (imageCrc mt.staging).toNat 4 ++ leN 0 4, by decide⟩

set_option maxRecDepth 100000 in
theorem meets_safeCfgDiscard : ∃ (d : Dev) (p : Bytes), let s : State := { State.reset with dev := d }; Admitted s hdr 0x0D04 p ∧ hdr.launch = 0 ∧ ((Enabled.empty) (begun s hdr 0x0D04 p).dev p) :=
  ⟨mt, [], by decide⟩

set_option maxRecDepth 100000 in
theorem meets_safeHubStop : ∃ (d : Dev) (p : Bytes), let s : State := { State.reset with dev := d }; Admitted s hdr 0x0D05 p ∧ hdr.launch = 0 ∧ ((Enabled.safeHubStop) (begun s hdr 0x0D05 p).dev p) :=
  ⟨mt, [1, 0, 0, 0], by decide⟩

set_option maxRecDepth 100000 in
theorem meets_guardStatusGet : ∃ (d : Dev) (p : Bytes), let s : State := { State.reset with dev := d }; Admitted s hdr 0x0D80 p ∧ hdr.launch = 0 ∧ ((Enabled.oneOf 31) (begun s hdr 0x0D80 p).dev p) :=
  ⟨mt, [31, 0, 0, 0], by decide⟩

set_option maxRecDepth 100000 in
theorem meets_guardSelfTest : ∃ (d : Dev) (p : Bytes), let s : State := { State.reset with dev := d }; Admitted s hdr 0x0D81 p ∧ hdr.launch = 0 ∧ ((Enabled.guardSelfTest) (begun s hdr 0x0D81 p).dev p) :=
  ⟨(mt.setFld (Reg.GUARD_CH_STATUS 31) 2 0 1), [31, 0, 0, 0], by decide⟩

set_option maxRecDepth 100000 in
theorem meets_guardClearFault : ∃ (d : Dev) (p : Bytes), let s : State := { State.reset with dev := d }; Admitted s hdr 0x0D82 p ∧ hdr.launch = 0 ∧ ((Enabled.guardClearFault) (begun s hdr 0x0D82 p).dev p) :=
  ⟨((mt.setFld (Reg.GUARD_CH_STATUS 31) 2 0 4).setG 31 fun g => { g with clean := 80 }), [31, 0, 0, 0], by decide⟩

set_option maxRecDepth 100000 in
theorem meets_lswStatusGet : ∃ (d : Dev) (p : Bytes), let s : State := { State.reset with dev := d }; Admitted s hdr 0x0E00 p ∧ hdr.launch = 0 ∧ ((Enabled.oneOf 79) (begun s hdr 0x0E00 p).dev p) :=
  ⟨mt, [79, 0, 0, 0], by decide⟩

set_option maxRecDepth 100000 in
theorem meets_lswSet : ∃ (d : Dev) (p : Bytes), let s : State := { State.reset with dev := d }; Admitted s hdr 0x0E01 p ∧ hdr.launch = 0 ∧ ((Enabled.lswSet) (begun s hdr 0x0E01 p).dev p) :=
  ⟨mt, [79, 1, 0, 0], by decide⟩

set_option maxRecDepth 100000 in
theorem meets_lswSetAx : ∃ (d : Dev) (p : Bytes), let s : State := { State.reset with dev := d }; Admitted s hdr 0x0E02 p ∧ hdr.launch = 0 ∧ ((Enabled.lswSetAx) (begun s hdr 0x0E02 p).dev p) :=
  ⟨mt, [255, 255, 255, 255], by decide⟩

set_option maxRecDepth 100000 in
theorem meets_lswClear : ∃ (d : Dev) (p : Bytes), let s : State := { State.reset with dev := d }; Admitted s hdr 0x0E03 p ∧ hdr.launch = 0 ∧ ((Enabled.oneOf 79) (begun s hdr 0x0E03 p).dev p) :=
  ⟨mt, [79, 0, 0, 0], by decide⟩

set_option maxRecDepth 100000 in
theorem meets_memStatusGet : ∃ (d : Dev) (p : Bytes), let s : State := { State.reset with dev := d }; Admitted s hdr 0x0F00 p ∧ hdr.launch = 0 ∧ ((Enabled.empty) (begun s hdr 0x0F00 p).dev p) :=
  ⟨mt, [], by decide⟩

set_option maxRecDepth 100000 in
theorem meets_memEccWriteRaw : ∃ (d : Dev) (p : Bytes), let s : State := { State.reset with dev := d }; Admitted s hdr 0x0F01 p ∧ hdr.launch = 0 ∧ ((Enabled.memEccWriteRaw) (begun s hdr 0x0F01 p).dev p) :=
  ⟨mt, [0, 0, 0, 0] ++ leN 8388600 4 ++ List.replicate 8 0, by decide⟩

set_option maxRecDepth 100000 in
theorem meets_memEccRead : ∃ (d : Dev) (p : Bytes), let s : State := { State.reset with dev := d }; Admitted s hdr 0x0F02 p ∧ hdr.launch = 0 ∧ ((Enabled.memEccRead) (begun s hdr 0x0F02 p).dev p) :=
  ⟨mt, [0, 0, 0, 0] ++ leN 8388600 4, by decide⟩

set_option maxRecDepth 100000 in
theorem meets_memRepairList : ∃ (d : Dev) (p : Bytes), let s : State := { State.reset with dev := d }; Admitted s hdr 0x0F05 p ∧ hdr.launch = 0 ∧ ((Enabled.memRepairList) (begun s hdr 0x0F05 p).dev p) :=
  ⟨mt, [0, 128, 0, 0], by decide⟩

/-! ### Hypotheses met: the events. Each theorem gives a device and operands on which the event acts as its statement says. -/

/-- The device of reset in the mode SERVICE. -/
def svc : Dev := Dev.reset.wn Reg.SYS_MODE 3
/-- The same with outlet 0 in a state. -/
def inState (st : Nat) : Dev := svc.wn (Reg.OUT_STATE 0) st
/-- A safety datagram and an epoch notice with good CRCs. -/
def stoneBytes : Bytes := [0, 0, 0, 0, 1, 0, 0, 0, 1, 4, 0, 0, 0, 0] ++ leN (crcSafety [0, 0, 0, 0, 1, 0, 0, 0, 1, 4, 0, 0, 0, 0]).toNat 4
def noticeBytes : Bytes := [0x4B, 0x42, 0x54, 0x4E, 0, 0, 0, 0, 0, 0, 0, 0] ++ leN (crc32c [0x4B, 0x42, 0x54, 0x4E, 0, 0, 0, 0, 0, 0, 0, 0]).toNat 4

set_option maxRecDepth 100000 in
theorem meets_pilotStateAccepted : ∃ n : Fin 32, ∃ c : Nat, ∃ d : Dev, (1 ≤ c) ∧ (c ≤ 3) ∧ (Sampled d n c ∧ d.ost n = .idle ∧ (d.wn (Reg.OUT_CP_STATUS n) c).mayPlug n = true) :=
  ⟨0, 1, { ((((svc.setFld (Reg.OUT_CFG 0) 2 0 1).setFld (Reg.GUARD_CH_CFG 0) 17 16 2).setBit (Reg.OUT_STATE 0) 19 true).setO 0 fun o => { o with cand := 1, candN := 3, sampled := some 4, confK := true, confS := true }) with pip := 1000000, osc := 1000000 }, by decide⟩

set_option maxRecDepth 100000 in
theorem meets_pilotStateAccepted_2 : ∃ n : Fin 32, ∃ d : Dev, (Sampled d n 0 ∧ d.ost n = .plugged) :=
  ⟨0, { (((inState 1).wn (Reg.OUT_CP_STATUS 0) 5).setO 0 fun o => { o with cand := 0, candN := 3, sampled := some 4 }) with pip := 1000000, osc := 1000000 }, by decide⟩

set_option maxRecDepth 100000 in
theorem meets_pilotStateAccepted_3 : ∃ n : Fin 32, ∃ d : Dev, (Sampled d n 0 ∧ (d.ost n = .linking ∨ d.ost n = .negotiating ∨ d.ost n = .authorising)) :=
  ⟨0, { (((inState 2).wn (Reg.OUT_CP_STATUS 0) 5).setO 0 fun o => { o with cand := 0, candN := 3, sampled := some 4 }) with pip := 1000000, osc := 1000000 }, by decide⟩

set_option maxRecDepth 100000 in
theorem meets_pilotStateAccepted_4 : ∃ n : Fin 32, ∃ d : Dev, (Sampled d n 0 ∧ d.ost n = .energy) :=
  ⟨0, { (((inState 7).wn (Reg.OUT_CP_STATUS 0) 5).setO 0 fun o => { o with cand := 0, candN := 3, sampled := some 4 }) with pip := 1000000, osc := 1000000 }, by decide⟩

set_option maxRecDepth 100000 in
theorem meets_pilotStateAccepted_5 : ∃ n : Fin 32, ∃ c : Nat, ∃ d : Dev, (c = 4 ∨ c = 6) ∧ (Sampled d n c ∧ d.ost n = .energy) :=
  ⟨0, 4, { (((inState 7).wn (Reg.OUT_CP_STATUS 0) 5).setO 0 fun o => { o with cand := 4, candN := 3, sampled := some 4 }) with pip := 1000000, osc := 1000000 }, by decide⟩

set_option maxRecDepth 100000 in
theorem meets_faultPilotProbe : ∃ n : Fin 32, ∃ _code : Option Nat, ∃ d : Dev, (d.taskRuns = true ∧ d.ost n = .fault ∧ (d.o n).probeDue ≤ d.pip ∧ d.pip % 4 = 0) :=
  ⟨0, none, inState 11, by decide⟩

set_option maxRecDepth 100000 in
theorem meets_faultPilotProbe_2 : ∃ n : Fin 32, ∃ hi : Nat, ∃ start : Nat, ∃ d : Dev, (d.taskRuns = true ∧ d.ost n = .fault ∧ d.pip < (d.o n).probeDue ∧ (d.o n).probeFrom = some start ∧ d.pip = start + 12 ∧ (d.o n).sampled ≠ some d.pip ∧ (d.o n).probeN = 2 ∧ pilotBand (d.cpScaled n hi) none = 0 ∧ d.fld (Reg.OUT_STATE n) 31 24 ≠ 13) :=
  ⟨0, 0xFFF, 12, { ((((inState 11).setFld (Reg.OUT_STATE 0) 31 24 1).wn (Reg.OUT_CP_CAL 0) 1200).setO 0 fun o => { o with probeDue := 2000000, probeFrom := some 12, probeN := 2 }) with pip := 24 }, by decide⟩

set_option maxRecDepth 100000 in
theorem meets_unpluggedToIdle : ∃ n : Fin 32, ∃ d : Dev, (d.taskRuns = true ∧ d.ost n = .unplugged ∧ (d.o n).stateSince < d.pip) :=
  ⟨0, { (inState 10) with pip := 1000000, osc := 1000000 }, by decide⟩

set_option maxRecDepth 100000 in
theorem meets_linkUp : ∃ n : Fin 32, ∃ offered : List Nat, ∃ d : Dev, (d.taskRuns = true ∧ d.ost n = .linking ∧ (wanted d n offered = none ∨ (gotten d n offered).isSome = true)) :=
  ⟨0, [2], ((inState 2).setFld (Reg.OUT_CFG 0) 2 0 1).setBit (Reg.OUT_CFG 0) 8 true, by decide⟩

set_option maxRecDepth 100000 in
theorem meets_linkUp_2 : ∃ n : Fin 32, ∃ offered : List Nat, ∃ d : Dev, (d.taskRuns = true ∧ d.ost n = .linking ∧ (wanted d n offered).isSome = true ∧ gotten d n offered = none) :=
  ⟨0, [4], ((inState 2).setFld (Reg.OUT_CFG 0) 2 0 1).setBit (Reg.OUT_CFG 0) 10 true, by decide⟩

set_option maxRecDepth 100000 in
theorem meets_linkTimerExpiry : ∃ n : Fin 32, ∃ d : Dev, (d.taskRuns = true ∧ d.ost n = .linking ∧ due (d.o n).linkDue d.pip = true ∧ (d.outType n ≠ 2 ∨ d.rbit (Reg.OUT_CFG n) 11 = false)) :=
  ⟨0, { ((inState 2).setO 0 fun o => { o with linkDue := some 5 }) with pip := 1000000, osc := 1000000 }, by decide⟩

set_option maxRecDepth 100000 in
theorem meets_linkTimerExpiry_2 : ∃ n : Fin 32, ∃ d : Dev, (d.taskRuns = true ∧ d.ost n = .linking ∧ due (d.o n).linkDue d.pip = true ∧ d.outType n = 2 ∧ d.rbit (Reg.OUT_CFG n) 11 = true) :=
  ⟨0, { ((((inState 2).setO 0 fun o => { o with linkDue := some 5 }).setFld (Reg.OUT_CFG 0) 2 0 2).setBit (Reg.OUT_CFG 0) 11 true) with pip := 1000000, osc := 1000000 }, by decide⟩

set_option maxRecDepth 100000 in
theorem meets_paymentSelectionComplete : ∃ n : Fin 32, ∃ d : Dev, (d.taskRuns = true ∧ (d.answerVehicle n).ost n = .negotiating) :=
  ⟨0, inState 3, by decide⟩

set_option maxRecDepth 100000 in
theorem meets_paymentSelectionComplete_2 : ∃ n : Fin 32, ∃ _emaid : List Byte, ∃ d : Dev, (d.taskRuns = true ∧ (d.answerVehicle n).ost n = .negotiating) :=
  ⟨0, [0x44], inState 3, by decide⟩

set_option maxRecDepth 100000 in
theorem meets_authorisationTimerExpiry : ∃ n : Fin 32, ∃ d : Dev, (d.taskRuns = true ∧ d.ost n = .authorising ∧ d.rbit (Reg.OUT_STATE n) 17 = false) :=
  ⟨0, inState 4, by decide⟩

set_option maxRecDepth 100000 in
theorem meets_hostWaitExpiry : ∃ n : Fin 32, ∃ d : Dev, (d.taskRuns = true ∧ d.ost n = .authorising ∧ (d.o n).waiting = true ∧ due (d.o n).hostDue d.pip = true) :=
  ⟨0, { ((inState 4).setO 0 fun o => { o with waiting := true, hostDue := some 5 }) with pip := 1000000, osc := 1000000 }, by decide⟩

set_option maxRecDepth 100000 in
theorem meets_hostOffline : ∃ _n : Fin 32, ∃ d : Dev, (d.shellRuns = true ∧ d.rbit Reg.OUT_STATUS 0 = true ∧ d.out.lastAccept + d.rn Reg.OUT_HOST_WATCH ≤ d.pip) :=
  ⟨0, { (svc.setBit Reg.OUT_STATUS 0 true) with pip := 1000000, osc := 1000000 }, by decide⟩

set_option maxRecDepth 100000 in
theorem meets_preauthExpiry : ∃ _n : Fin 32, ∃ d : Dev, (d.taskRuns = true) :=
  ⟨0, svc, by decide⟩

set_option maxRecDepth 100000 in
theorem meets_floatingPreauthExpiry : ∃ _n : Fin 32, ∃ d : Dev, (d.taskRuns = true ∧ d.out.floating.any (fun x => x.2 < d.pip) = true) :=
  ⟨0, { { svc with out := { svc.out with floating := some (Ident.none, 5) } } with pip := 1000000, osc := 1000000 }, by decide⟩

set_option maxRecDepth 100000 in
theorem meets_certificateInstallationRequest : ∃ n : Fin 32, ∃ d : Dev, (d.taskRuns = true ∧ ((d.answerVehicle n).o n).linkUp = true ∧ (d.answerVehicle n).fld (Reg.OUT_STATE n) 11 8 = 3) :=
  ⟨0, (svc.setFld (Reg.OUT_STATE 0) 11 8 3).setO 0 fun o => { o with linkUp := true }, by decide⟩

set_option maxRecDepth 100000 in
theorem meets_cableCheckTimerExpiry : ∃ n : Fin 32, ∃ d : Dev, (d.taskRuns = true ∧ d.ost n = .cableCheck ∧ due (d.o n).cableDue d.pip = true) :=
  ⟨0, { ((inState 5).setO 0 fun o => { o with cableDue := some 5 }) with pip := 1000000, osc := 1000000 }, by decide⟩

set_option maxRecDepth 100000 in
theorem meets_prechargeTimerExpiry : ∃ n : Fin 32, ∃ d : Dev, (d.taskRuns = true ∧ d.ost n = .precharge ∧ due (d.o n).prechDue d.pip = true) :=
  ⟨0, { ((inState 6).setO 0 fun o => { o with prechDue := some 5 }) with pip := 1000000, osc := 1000000 }, by decide⟩

set_option maxRecDepth 100000 in
theorem meets_powerDeliveryRequest : ∃ n : Fin 32, ∃ _bpt : Bool, ∃ d : Dev, (d.taskRuns = true ∧ (d.answerVehicle n).ost n = .precharge ∧ ((d.answerVehicle n).o n).prechMet = true) :=
  ⟨0, false, (inState 6).setO 0 fun o => { o with prechMet := true }, by decide⟩

set_option maxRecDepth 100000 in
theorem meets_vehicleStopRequest : ∃ n : Fin 32, ∃ d : Dev, (d.taskRuns = true ∧ (d.answerVehicle n).ost n = .energy) :=
  ⟨0, inState 7, by decide⟩

set_option maxRecDepth 100000 in
theorem meets_protocolError : ∃ n : Fin 32, ∃ d : Dev, (d.taskRuns = true ∧ d.ost n = .negotiating) :=
  ⟨0, inState 3, by decide⟩

set_option maxRecDepth 100000 in
theorem meets_protocolError_2 : ∃ n : Fin 32, ∃ d : Dev, (d.taskRuns = true ∧ d.ost n = .energy) :=
  ⟨0, inState 7, by decide⟩

set_option maxRecDepth 100000 in
theorem meets_weldCheckTimeout : ∃ n : Fin 32, ∃ d : Dev, (d.taskRuns = true ∧ d.ost n = .weldCheck ∧ due (d.o n).weldDue d.pip = true) :=
  ⟨0, { ((inState 9).setO 0 fun o => { o with weldDue := some 5 }) with pip := 1000000, osc := 1000000 }, by decide⟩

set_option maxRecDepth 100000 in
theorem meets_vehicleRequestDecoded : ∃ _n : Fin 32, ∃ _r : EvRequest, ∃ d : Dev, (d.taskRuns = true) :=
  ⟨0, { volt := 4000, curr := 100, soc := 50, maxV := 9000, maxI := 5000, maxP := 100, evcc := [] }, svc, by decide⟩

set_option maxRecDepth 100000 in
theorem meets_canRxFrame : ∃ _n : Fin 32, ∃ _f : CanFrame, ∃ d : Dev, (d.canRuns = true) :=
  ⟨0, { port := 0, fd := false, brs := false, ext := false, id := 1, data := [] }, svc, by decide⟩

set_option maxRecDepth 100000 in
theorem meets_canTxTemplate : ∃ _n : Fin 32, ∃ t : Fin 64, ∃ d : Dev, (d.canRuns = true ∧ d.rbit (Reg.OUT_TPL_CFG t) 31 = true ∧ d.rbit (Reg.OUT_TPL_CFG t) 30 = false ∧ (tget Tpl.reset d.out.tpls t).last + d.fld (Reg.OUT_TPL_CFG t) 11 0 ≤ d.pip) :=
  ⟨0, 0, { ((svc.setBit (Reg.OUT_TPL_CFG 0) 31 true).setBit (Reg.OUT_TPL_CFG 0) 30 false) with pip := 1000000, osc := 1000000 }, by decide⟩

set_option maxRecDepth 100000 in
theorem meets_pmStatusTimeout : ∃ _n : Fin 32, ∃ d : Dev, (d.taskRuns = true) :=
  ⟨0, svc, by decide⟩

set_option maxRecDepth 100000 in
theorem meets_pipStrobe : ∃ l : Nat, ∃ _d : Dev, (249800 ≤ l) ∧ (l ≤ 250200) ∧ True :=
  ⟨249800, svc, by decide⟩

set_option maxRecDepth 100000 in
theorem meets_pipStrobe_2 : ∃ l : Nat, ∃ d : Dev, (l < 249800 ∨ 250200 < l) ∧ (d.kern.mode ≠ 1) :=
  ⟨250201, { svc with kern := { svc.kern with mode := 0 } }, by decide⟩

set_option maxRecDepth 100000 in
theorem meets_pipStrobe_3 : ∃ d : Dev, (d.kern.mode ≠ 1) :=
  ⟨{ svc with kern := { svc.kern with mode := 0 } }, by decide⟩

set_option maxRecDepth 100000 in
theorem meets_kernelRealignStart : ∃ d : Dev, (d.kern.mode = 1 ∧ 16 ≤ d.kern.regular) :=
  ⟨{ svc with kern := { svc.kern with mode := 1, regular := 16 } }, by decide⟩

set_option maxRecDepth 100000 in
theorem meets_kernelAligned : ∃ d : Dev, (d.kern.mode = 2 ∧ d.kern.phase.natAbs ≤ d.kern.trim.natAbs) :=
  ⟨{ svc with kern := { svc.kern with mode := 2 } }, by decide⟩

set_option maxRecDepth 100000 in
theorem meets_noZc : ∃ _d : Dev, True :=
  ⟨svc, by decide⟩

set_option maxRecDepth 100000 in
theorem meets_streamRecovered : ∃ _d : Dev, True :=
  ⟨svc, by decide⟩

set_option maxRecDepth 100000 in
theorem meets_mclkClockFault : ∃ n : Fin 4, ∃ c : KMclk, ∃ d : Dev, (d.kern.mclks[n.val]? = some c ∧ c.input = true ∧ c.fault = false) :=
  ⟨0, { rate := 0, input := true, fault := false, settle := 0, next := none }, { svc with kern := { svc.kern with mclks := [{ rate := 0, input := true, fault := false, settle := 0, next := none }] } }, by decide⟩

set_option maxRecDepth 100000 in
theorem meets_mclkSettlingEnd : ∃ _d : Dev, True :=
  ⟨svc, by decide⟩

set_option maxRecDepth 100000 in
theorem meets_pendingPulseEmit : ∃ _d : Dev, True :=
  ⟨svc, by decide⟩

set_option maxRecDepth 100000 in
theorem meets_balanceCheck : ∃ d : Dev, (d.kern.mode ≠ 1 ∧ d.pip % 4000 = 0 ∧ d.kern.lastBal ≠ some d.kern.latches) :=
  ⟨{ svc with pip := 4000, kern := { svc.kern with mode := 0 } }, by decide⟩

set_option maxRecDepth 100000 in
theorem meets_krefFail : ∃ d : Dev, (d.kern.krefFault = false) :=
  ⟨svc, by decide⟩

set_option maxRecDepth 100000 in
theorem meets_sealOpen : ∃ d : Dev, (d.kern.sealOpen = false ∧ 800 ≤ d.kern.sealRun) :=
  ⟨{ svc with kern := { svc.kern with sealOpen := false, sealRun := 800 } }, by decide⟩

set_option maxRecDepth 100000 in
theorem meets_sealClose : ∃ d : Dev, (d.kern.sealOpen = true ∧ 4 ≤ (d.kern.sealWin.filter (!·)).length) :=
  ⟨{ svc with kern := { svc.kern with sealOpen := true, sealWin := [false, false, false, false] } }, by decide⟩

set_option maxRecDepth 100000 in
theorem meets_ledgerRecordProgram : ∃ r : KRec, ∃ rest : List KRec, ∃ d : Dev, (d.kern.buf = r :: rest ∧ d.kern.blockUsed + r.bytes.length ≤ blockBytes ∧ r.typ ≠ 2 ∧ d.kern.snapPend = none) :=
  ⟨{ ctr := 1, typ := 3, chan := 0, session := 0, bytes := [], block := 0 }, [], { svc with kern := { svc.kern with buf := [{ ctr := 1, typ := 3, chan := 0, session := 0, bytes := [], block := 0 }] } }, by decide⟩

set_option maxRecDepth 100000 in
theorem meets_checkpointDue : ∃ d : Dev, (d.pip % 3600000 = 0 ∧ d.kern.lastCp ≠ some d.kern.latches) :=
  ⟨{ svc with pip := 3600000 }, by decide⟩

set_option maxRecDepth 100000 in
theorem meets_meterFaultEntry : ∃ _c : Fin 4, ∃ d : Dev, (d.kern.mfault ≠ 5) :=
  ⟨3, svc, by decide⟩

set_option maxRecDepth 100000 in
theorem meets_lxoStop : ∃ _d : Dev, True :=
  ⟨svc, by decide⟩

set_option maxRecDepth 100000 in
theorem meets_kernelPowerOn : ∃ _us : Int, ∃ _kept : Bool, ∃ _s0 : Bool, ∃ _s1 : Bool, ∃ _d : Dev, True :=
  ⟨0, true, true, true, svc, by decide⟩

set_option maxRecDepth 100000 in
theorem meets_legalTimeSlewTick : ∃ d : Dev, (0 < d.kern.slew ∧ d.kern.slewTick + 8 ≤ d.kern.sampleNo) :=
  ⟨{ svc with kern := { svc.kern with slew := 1, sampleNo := 8, slewTick := 0 } }, by decide⟩

set_option maxRecDepth 100000 in
theorem meets_legalTimeSlewTick_2 : ∃ d : Dev, (d.kern.slew < 0 ∧ d.kern.slewTick + 8 ≤ d.kern.sampleNo) :=
  ⟨{ svc with kern := { svc.kern with slew := -1, sampleNo := 8, slewTick := 0 } }, by decide⟩

set_option maxRecDepth 100000 in
theorem meets_kernelSessionOpen : ∃ n : Fin 32, ∃ d : Dev, (d.shellRuns = true ∧ d.passive = false ∧ (d.o n).kWant = true) :=
  ⟨0, svc.setO 0 fun o => { o with kWant := true }, by decide⟩

set_option maxRecDepth 100000 in
theorem meets_kernelSessionClose : ∃ n : Fin 32, ∃ d : Dev, (d.shellRuns = true ∧ d.twinState ≠ 3 ∧ d.sessWanted n = false) :=
  ⟨0, svc, by decide⟩

set_option maxRecDepth 100000 in
theorem meets_iBreakPass : ∃ _n : Fin 32, ∃ d : Dev, (d.shellRuns = true ∧ d.passive = false) :=
  ⟨31, svc, by decide⟩

set_option maxRecDepth 100000 in
theorem meets_switchDieFrame : ∃ f : DieIn, ∃ _meas : List (Fin 80 × Nat × Int), ∃ d : Dev, ((f.crc = false ∨ f.seq ≠ d.lsw.seq + 1) ∧ d.sys.inReset = false ∧ d.mode ≠ .boot ∧ d.mode ≠ .sprout ∧ d.domainRuns 0 = true ∧ d.domainRuns 4 = true) :=
  ⟨{ crc := true, seq := 3 }, [], svc, by decide⟩

set_option maxRecDepth 100000 in
theorem meets_switchDieFrame_2 : ∃ f : DieIn, ∃ meas : List (Fin 80 × Nat × Int), ∃ d : Dev, (f.crc = true ∧ f.seq = d.lsw.seq + 1 ∧ d.sys.inReset = false ∧ d.mode ≠ .boot ∧ d.mode ≠ .sprout ∧ d.domainRuns 0 = true ∧ d.domainRuns 4 = true ∧ (d.switchFrame f meas).fwu.pauseFrom = none ∧ due (d.switchFrame f meas).sys.resetReq (d.switchFrame f meas).pip = false) :=
  ⟨{ crc := true, seq := 1 }, [], svc, by decide⟩

set_option maxRecDepth 100000 in
theorem meets_switchDieFrame_3 : ∃ f : DieIn, ∃ meas : List (Fin 80 × Nat × Int), ∃ d : Dev, (f.crc = true ∧ f.seq = d.lsw.seq + 1 ∧ d.sys.inReset = false ∧ d.mode ≠ .boot ∧ d.mode ≠ .sprout ∧ d.domainRuns 0 = true ∧ d.domainRuns 4 = true ∧ (d.switchFrame f meas).fwu.pauseFrom = none ∧ due (d.switchFrame f meas).sys.resetReq (d.switchFrame f meas).pip = true ∧ (d.switchFrame f meas).sys.resetCause = 6) :=
  ⟨{ crc := true, seq := 1 }, [], { svc with sys := { svc.sys with resetReq := some 0, resetCause := 6 } }, by decide⟩

set_option maxRecDepth 100000 in
theorem meets_switchDieWatchdogExpiry : ∃ d : Dev, (d.rbit Reg.LSW_STATUS 3 = false ∧ d.rbit Reg.LSW_CFG 0 = false ∧ d.lsw.holdTill = none ∧ d.lsw.lastFrame + d.fld Reg.LSW_WD_CFG 11 0 ≤ d.osc) :=
  ⟨{ svc with pip := 1000000, osc := 1000000 }, by decide⟩

set_option maxRecDepth 100000 in
theorem meets_actHoldExpiry : ∃ d : Dev, (due d.lsw.holdTill d.osc = true ∧ d.rbit Reg.LSW_CFG 0 = true) :=
  ⟨{ { svc.setBit Reg.LSW_CFG 0 true with lsw := { svc.lsw with holdTill := some 5 } } with pip := 1000000, osc := 1000000 }, by decide⟩

set_option maxRecDepth 100000 in
theorem meets_overcurrentTrip : ∃ ch : Fin 80, ∃ ma : Nat, ∃ us : Nat, ∃ d : Dev, (d.lst ch = 1 ∧ (((d.rbit (Reg.LSW_CH_STATUS ch) 9 = true ∨ d.inrushTill ch = d.osc) ∧ d.inrushTill ch ≤ d.osc ∧ lswLimit ch true ≤ ma) ∨ (d.inrushTill ch + 4 ≤ d.osc ∧ lswLimit ch false ≤ ma ∧ 1000 ≤ us))) :=
  ⟨79, 3500, 1000, { (svc.setFld (Reg.LSW_CH_STATUS 79) 2 0 1) with pip := 1000000, osc := 1000000 }, by decide⟩

set_option maxRecDepth 100000 in
theorem meets_inrushWindowEnd : ∃ ch : Fin 80, ∃ _ma : Nat, ∃ _us : Nat, ∃ d : Dev, (d.lst ch = 1 ∧ (d.l ch).onAt + 4 * d.fld (Reg.LSW_CH_CFG ch) 15 8 ≤ d.osc) :=
  ⟨79, 0, 0, { (svc.setFld (Reg.LSW_CH_STATUS 79) 2 0 1) with pip := 1000000, osc := 1000000 }, by decide⟩

set_option maxRecDepth 100000 in
theorem meets_thermalLatchSet : ∃ ch : Fin 80, ∃ _ma : Nat, ∃ _us : Nat, ∃ d : Dev, (d.latched ch = false ∧ (d.lst ch = 0 ∨ d.lst ch = 4)) :=
  ⟨79, 0, 0, (svc.setFld (Reg.LSW_CH_STATUS 79) 2 0 4), by decide⟩

set_option maxRecDepth 100000 in
theorem meets_thermalLatchSet_2 : ∃ ch : Fin 80, ∃ _ma : Nat, ∃ _us : Nat, ∃ d : Dev, (d.latched ch = false ∧ d.lst ch = 1) :=
  ⟨79, 0, 0, (svc.setFld (Reg.LSW_CH_STATUS 79) 2 0 1), by decide⟩

set_option maxRecDepth 100000 in
theorem meets_thermalLatchSet_3 : ∃ ch : Fin 80, ∃ _ma : Nat, ∃ _us : Nat, ∃ t : Nat, ∃ d : Dev, (d.latched ch = false ∧ d.lst ch = 3 ∧ (d.l ch).backAt = some t) :=
  ⟨79, 0, 0, 5, ((svc.setFld (Reg.LSW_CH_STATUS 79) 2 0 3).setL 79 fun l => { l with backAt := some 5 }), by decide⟩

set_option maxRecDepth 100000 in
theorem meets_thermalLatchClear : ∃ ch : Fin 80, ∃ _ma : Nat, ∃ _us : Nat, ∃ d : Dev, (d.lst ch = 3 ∧ (d.l ch).backAt = none) :=
  ⟨79, 0, 0, (svc.setFld (Reg.LSW_CH_STATUS 79) 2 0 3), by decide⟩

set_option maxRecDepth 100000 in
theorem meets_thermalLatchClear_2 : ∃ ch : Fin 80, ∃ _ma : Nat, ∃ _us : Nat, ∃ d : Dev, (d.lst ch = 2 ∧ (d.l ch).tgt = false) :=
  ⟨79, 0, 0, (svc.setFld (Reg.LSW_CH_STATUS 79) 2 0 2), by decide⟩

set_option maxRecDepth 100000 in
theorem meets_thermalLatchClear_3 : ∃ ch : Fin 80, ∃ _ma : Nat, ∃ _us : Nat, ∃ d : Dev, (d.lst ch = 2 ∧ (d.l ch).tgt = true ∧ (d.setBit (Reg.LSW_CH_STATUS ch) 13 false).mayTurnOn ch = true ∧ d.lsw.restart.all (ch.val < ·) = true) :=
  ⟨79, 0, 0, ((svc.setFld (Reg.LSW_CH_STATUS 79) 2 0 2).setL 79 fun l => { l with tgt := true }), by decide⟩

set_option maxRecDepth 100000 in
theorem meets_thermalLatchClear_4 : ∃ ch : Fin 80, ∃ _ma : Nat, ∃ _us : Nat, ∃ d : Dev, (d.lst ch = 0 ∨ d.lst ch = 1 ∨ d.lst ch = 4) :=
  ⟨79, 0, 0, (svc.setFld (Reg.LSW_CH_STATUS 79) 2 0 4), by decide⟩

set_option maxRecDepth 100000 in
theorem meets_retryBackoffElapsed : ∃ ch : Fin 80, ∃ _ma : Nat, ∃ _us : Nat, ∃ d : Dev, (d.lst ch = 3 ∧ (d.l ch).backAt.any (fun t => t + (d.l ch).back ≤ d.osc) = true ∧ d.mayTurnOn ch = true ∧ d.lsw.restart.all (ch.val < ·) = true) :=
  ⟨79, 0, 0, { (svc.setFld (Reg.LSW_CH_STATUS 79) 2 0 3).setL 79 fun l => { l with backAt := some 5, back := 7 } with pip := 1000000, osc := 1000000 }, by decide⟩

set_option maxRecDepth 100000 in
theorem meets_retryCounterReload : ∃ ch : Fin 80, ∃ _ma : Nat, ∃ _us : Nat, ∃ d : Dev, (d.lst ch = 1 ∧ (d.l ch).onAt + 40000 ≤ d.osc) :=
  ⟨79, 0, 0, { (svc.setFld (Reg.LSW_CH_STATUS 79) 2 0 1) with pip := 1000000, osc := 1000000 }, by decide⟩

set_option maxRecDepth 100000 in
theorem meets_openLoadDetect : ∃ ch : Fin 80, ∃ ma : Nat, ∃ us : Nat, ∃ d : Dev, (d.lst ch = 1 ∧ (ma < if ch.val < 64 then 20 else 10) ∧ 10000 ≤ us ∧ (d.l ch).onAt + (if ch.val < 64 then 40 * d.fld (Reg.LSW_CH_CFG ch) 7 0 else 0) + 40 ≤ d.osc ∧ (64 ≤ ch.val ∨ (d.rbit (Reg.LSW_CH_STATUS ch) 8 = true ∧ d.rbit Reg.LSW_CFG 1 = false))) :=
  ⟨79, 9, 10000, { (svc.setFld (Reg.LSW_CH_STATUS 79) 2 0 1) with pip := 1000000, osc := 1000000 }, by decide⟩

set_option maxRecDepth 100000 in
theorem meets_pullInEnd : ∃ ch : Fin 80, ∃ _ma : Nat, ∃ _us : Nat, ∃ d : Dev, (ch.val < 64 ∧ d.lst ch = 1 ∧ d.fld (Reg.LSW_CH_CFG ch) 29 28 = 1 ∧ (d.l ch).onAt + 40 * d.fld (Reg.LSW_CH_CFG ch) 7 0 ≤ d.osc ∧ d.rbit Reg.LSW_CFG 1 = false) :=
  ⟨63, 0, 0, { ((svc.setFld (Reg.LSW_CH_STATUS 63) 2 0 1).setFld (Reg.LSW_CH_CFG 63) 29 28 1) with pip := 1000000, osc := 1000000 }, by decide⟩

set_option maxRecDepth 100000 in
theorem meets_underVoltage : ∃ d : Dev, (d.lswUv = false) :=
  ⟨svc, by decide⟩

set_option maxRecDepth 100000 in
theorem meets_underVoltageRestore : ∃ d : Dev, (d.lswUv = true ∧ d.lsw.uvGood.any (fun t => t + 80 ≤ d.osc) = true ∧ d.lsw.restartPip ≠ d.osc) :=
  ⟨{ { svc.setBit Reg.LSW_STATUS 2 true with lsw := { svc.lsw with uvGood := some 5 } } with pip := 1000000, osc := 1000000 }, by decide⟩

set_option maxRecDepth 100000 in
theorem meets_underVoltageRestore_2 : ∃ a : Nat, ∃ d : Dev, (d.lswUv = false ∧ d.lsw.restart = some a ∧ d.lsw.restartPip ≠ d.osc) :=
  ⟨3, { { svc with lsw := { svc.lsw with restart := some 3 } } with pip := 1000000, osc := 1000000 }, by decide⟩

set_option maxRecDepth 100000 in
theorem meets_ptpOffsetMeasured : ∃ m : PtpMeas, ∃ d : Dev, ((measures (heardPtp d m) m) ∧ ((measured (heardPtp d m) m)).servo = .locked ∧ ((((delayOffset (heardPtp d m) m).2)).natAbs ≤ ((measured (heardPtp d m) m)).rn Reg.TIME_JUMP_THRESH)) :=
  ⟨{ t1 := 0, t2 := 0, t3 := 0, t4 := 0, turn := 0, seq := 3, began := 7, events0 := 1, events1 := 0, utc := some 37 }, ((svc.setBit Reg.TIME_PTP_CFG 0 true).setFld Reg.TIME_STATUS 2 0 1), by decide⟩

set_option maxRecDepth 100000 in
theorem meets_ptpOffsetMeasured_2 : ∃ m : PtpMeas, ∃ d : Dev, ((measures (heardPtp d m) m) ∧ ((measured (heardPtp d m) m)).servo = .locked ∧ ¬ ((((delayOffset (heardPtp d m) m).2)).natAbs ≤ ((measured (heardPtp d m) m)).rn Reg.TIME_JUMP_THRESH)) :=
  ⟨{ t1 := 0, t2 := 16000, t3 := 0, t4 := -16000, turn := 0, seq := 3, began := 7, events0 := 1, events1 := 0, utc := some 37 }, ((svc.setBit Reg.TIME_PTP_CFG 0 true).setFld Reg.TIME_STATUS 2 0 1), by decide⟩

set_option maxRecDepth 100000 in
theorem meets_ptpOffsetMeasured_3 : ∃ m : PtpMeas, ∃ d : Dev, ((measures (heardPtp d m) m) ∧ ((measured (heardPtp d m) m)).servo = .holdover ∧ ((((delayOffset (heardPtp d m) m).2)).natAbs ≤ ((measured (heardPtp d m) m)).rn Reg.TIME_JUMP_THRESH)) :=
  ⟨{ t1 := 0, t2 := 0, t3 := 0, t4 := 0, turn := 0, seq := 3, began := 7, events0 := 1, events1 := 0, utc := some 37 }, ((svc.setBit Reg.TIME_PTP_CFG 0 true).setFld Reg.TIME_STATUS 2 0 2), by decide⟩

set_option maxRecDepth 100000 in
theorem meets_ptpOffsetMeasured_4 : ∃ m : PtpMeas, ∃ d : Dev, ((measures (heardPtp d m) m) ∧ ((measured (heardPtp d m) m)).servo = .holdover ∧ ¬ ((((delayOffset (heardPtp d m) m).2)).natAbs ≤ ((measured (heardPtp d m) m)).rn Reg.TIME_JUMP_THRESH)) :=
  ⟨{ t1 := 0, t2 := 16000, t3 := 0, t4 := -16000, turn := 0, seq := 3, began := 7, events0 := 1, events1 := 0, utc := some 37 }, ((svc.setBit Reg.TIME_PTP_CFG 0 true).setFld Reg.TIME_STATUS 2 0 2), by decide⟩

set_option maxRecDepth 100000 in
theorem meets_ptpOffsetMeasured_5 : ∃ m : PtpMeas, ∃ d : Dev, ((measures (heardPtp d m) m) ∧ (((measured (heardPtp d m) m)).servo = .start ∨ ((measured (heardPtp d m) m)).servo = .recovery ∨ ((measured (heardPtp d m) m)).servo = .test) ∧ ((d.time.lastStep.all (· ≤ m.began)) = false ∨ ((measured (heardPtp d m) m)).time.pend.isSome = true)) :=
  ⟨{ t1 := 0, t2 := 0, t3 := 0, t4 := 0, turn := 0, seq := 3, began := 7, events0 := 1, events1 := 0, utc := some 37 }, { ((svc.setBit Reg.TIME_PTP_CFG 0 true).setFld Reg.TIME_STATUS 2 0 3) with time := { svc.time with lastStep := some 8 } }, by decide⟩

set_option maxRecDepth 100000 in
theorem meets_ptpOffsetMeasured_6 : ∃ m : PtpMeas, ∃ d : Dev, ((measures (heardPtp d m) m) ∧ (((measured (heardPtp d m) m)).servo = .start ∨ ((measured (heardPtp d m) m)).servo = .recovery ∨ ((measured (heardPtp d m) m)).servo = .test) ∧ (d.time.lastStep.all (· ≤ m.began)) = true ∧ ((measured (heardPtp d m) m)).time.pend = none ∧ ((measured (heardPtp d m) m)).time.stepped = true ∧ ((measured (heardPtp d m) m)).servo ≠ .test) :=
  ⟨{ t1 := 0, t2 := 0, t3 := 0, t4 := 0, turn := 0, seq := 3, began := 7, events0 := 1, events1 := 0, utc := some 37 }, { ((svc.setBit Reg.TIME_PTP_CFG 0 true).setFld Reg.TIME_STATUS 2 0 3) with time := { svc.time with stepped := true, good := 15, lastStep := some 7 } }, by decide⟩

set_option maxRecDepth 100000 in
theorem meets_ptpOffsetMeasured_7 : ∃ m : PtpMeas, ∃ d : Dev, ((measures (heardPtp d m) m) ∧ (((measured (heardPtp d m) m)).servo = .start ∨ ((measured (heardPtp d m) m)).servo = .recovery ∨ ((measured (heardPtp d m) m)).servo = .test) ∧ (d.time.lastStep.all (· ≤ m.began)) = true ∧ ((measured (heardPtp d m) m)).time.pend = none ∧ (((measured (heardPtp d m) m)).time.stepped = false ∨ ((measured (heardPtp d m) m)).servo = .test)) :=
  ⟨{ t1 := 0, t2 := 0, t3 := 0, t4 := 0, turn := 0, seq := 3, began := 7, events0 := 1, events1 := 0, utc := some 37 }, { ((svc.setBit Reg.TIME_PTP_CFG 0 true).setFld Reg.TIME_STATUS 2 0 4) with time := { svc.time with meas := [0, 4, 8] } }, by decide⟩

set_option maxRecDepth 100000 in
theorem meets_ptpOffsetMeasured_8 : ∃ m : PtpMeas, ∃ d : Dev, (d.ptpRuns = false ∨ d.rbit Reg.TIME_PTP_CFG 0 = false ∨ d.time.lost.contains (d.ptpRequest m) = true) :=
  ⟨{ t1 := 0, t2 := 0, t3 := 0, t4 := 0, turn := 0, seq := 3, began := 7, events0 := 1, events1 := 0, utc := some 37 }, svc.setBit Reg.TIME_PTP_CFG 0 false, by decide⟩

set_option maxRecDepth 100000 in
theorem meets_announceReceiptTimeout : ∃ d : Dev, (d.ptpRuns = true ∧ d.rbit Reg.TIME_PTP_CFG 0 = true ∧ d.rbit Reg.TIME_PTP_CFG 11 = false ∧ d.servo = .locked) :=
  ⟨(((svc.setBit Reg.TIME_PTP_CFG 0 true).setBit Reg.TIME_PTP_CFG 11 false).setFld Reg.TIME_STATUS 2 0 1), by decide⟩

set_option maxRecDepth 100000 in
theorem meets_bmcaOtherMaster : ∃ _i : PtpInfo, ∃ d : Dev, (d.ptpRuns = true ∧ d.ethRuns = true ∧ d.rbit Reg.TIME_PTP_CFG 0 = true) :=
  ⟨{ gmId := [], stepsRemoved := 1, clockClass := 6, accuracy := 0, prio1 := 0, prio2 := 0, portState := 9 }, (svc.setBit Reg.TIME_PTP_CFG 0 true), by decide⟩

set_option maxRecDepth 100000 in
theorem meets_bmcaSelectsSelf : ∃ d : Dev, (d.ptpRuns = true ∧ d.rbit Reg.TIME_PTP_CFG 0 = true ∧ d.rbit Reg.TIME_PTP_CFG 11 = true ∧ d.inService = true) :=
  ⟨(((svc.setBit Reg.TIME_PTP_CFG 0 true).setBit Reg.TIME_PTP_CFG 11 true).setFld Reg.TIME_STATUS 2 0 1), by decide⟩

set_option maxRecDepth 100000 in
theorem meets_holdoverLimitReached : ∃ d : Dev, (d.domainRuns 4 = true ∧ d.servo = .holdover ∧ d.rn Reg.TIME_HOLD_PIPS = d.rn Reg.TIME_HOLDOVER_LIMIT) :=
  ⟨(svc.setFld Reg.TIME_STATUS 2 0 2).wr Reg.TIME_HOLD_PIPS (svc.rd Reg.TIME_HOLDOVER_LIMIT), by decide⟩

set_option maxRecDepth 100000 in
theorem meets_ptpEventSent : ∃ x : TxStamp, ∃ d : Dev, (d.ethRuns = true ∧ d.domainRuns 4 = true ∧ d.ptpRuns = true ∧ x.mac.val = 0 ∧ d.time.txts0.length < 16) :=
  ⟨{ mac := 0, sec := 1, ns := 2, typ := 0, domain := 0, seq := 3 }, svc, by decide⟩

set_option maxRecDepth 100000 in
theorem meets_friendlyWindowClose : ∃ _d : Dev, True :=
  ⟨svc, by decide⟩

set_option maxRecDepth 100000 in
theorem meets_billStateSave : ∃ d : Dev, (d.shellRuns = true ∧ d.pip % 4000 = 0) :=
  ⟨svc, by decide⟩

set_option maxRecDepth 100000 in
theorem meets_billMeterRecord : ∃ n : Fin 32, ∃ d : Dev, (d.taskRuns = true ∧ (d.bo n).active = true ∧ d.rn Reg.BILL_METER_INTERVAL ≠ 0 ∧ (d.bo n).meterAt + d.rn Reg.BILL_METER_INTERVAL ≤ d.pip) :=
  ⟨0, { ((svc.wn Reg.BILL_METER_INTERVAL 4000).setBo 0 fun b => { b with active := true }) with pip := 1000000, osc := 1000000 }, by decide⟩

set_option maxRecDepth 100000 in
theorem meets_tokenMidnightPurge : ∃ d : Dev, (d.taskRuns = true ∧ d.localDay ≠ d.bill.midnight) :=
  ⟨{ svc with bill := { svc.bill with midnight := svc.localDay - 1 } }, by decide⟩

set_option maxRecDepth 100000 in
theorem meets_dispFrameStart : ∃ _volt : Nat, ∃ _curr : Nat, ∃ d : Dev, (d.domainRuns 6 = true ∧ d.rbit Reg.DISP_STATUS 0 = true ∧ d.disp.age.all (33 ≤ ·) = true ∧ d.disp.bandNext = none ∧ d.disp.active = [] ∧ d.rbit Reg.DISP_CTRL 2 = false) :=
  ⟨100, 5, (svc.setBit Reg.DISP_STATUS 0 true).setBit Reg.DISP_CTRL 2 false, by decide⟩

set_option maxRecDepth 100000 in
theorem meets_dispUpdateDone : ∃ r : Fin 8, ∃ id : Nat, ∃ d : Dev, (d.domainRuns 6 = true ∧ (d.upd r).run = some id ∧ (d.upd r).pending = none ∧ ((d.updRest r 64).upd r).run = some id ∧ ((d.updRest r 64).region r).2.2.2 < ((d.updRest r 64).upd r).line) :=
  ⟨0, 9, svc.setUpd 0 { run := some 9, line := 0, copied := 0, pending := none }, by decide⟩

set_option maxRecDepth 100000 in
theorem meets_dispVpFault : ∃ d : Dev, (d.rbit Reg.DISP_STATUS 1 = true) :=
  ⟨svc.setBit Reg.DISP_STATUS 1 true, by decide⟩

set_option maxRecDepth 100000 in
theorem meets_dispStressSave : ∃ d : Dev, (d.domainRuns 6 = true ∧ d.domainRuns 0 = true ∧ d.pip % 14400000 = 0) :=
  ⟨svc, by decide⟩

set_option maxRecDepth 100000 in
theorem meets_tForceExpiry : ∃ n : Fin 32, ∃ t : Nat, ∃ d : Dev, (d.rampReq n = some (t, true) ∧ t + tget 400 d.safe.tForce n ≤ d.osc ∧ d.flagBelow n = false ∧ d.sls n = true ∧ d.safe.hbLost = none ∧ d.ost n ≠ .rampdown) :=
  ⟨0, 5, { { svc.setBit Reg.SAFE_SLS_MASK 0 true with safe := { svc.safe with ramp := tset none [] 0 (some (5, true)) } } with pip := 1000000, osc := 1000000 }, by decide⟩

set_option maxRecDepth 100000 in
theorem meets_safetyInputChange : ∃ i : Fin 16, ∃ l : HeldLevel, ∃ d : Dev, (500 * wfld (d.pairCfg (i.val / 2)) 5 0 ≤ d.heldFor i l.level l.held ∧ l.level ≠ if i.val % 2 = 0 then (d.pair (i.val / 2)).a else (d.pair (i.val / 2)).b) :=
  ⟨15, { level := true, held := 100000 }, svc, by decide⟩

set_option maxRecDepth 100000 in
theorem meets_discrepancyTimeout : ∃ p : Fin 8, ∃ d : Dev, (d.pairFn p ≠ 0 ∧ d.pairFn p ≠ 4 ∧ d.pairOwner p = p ∧ d.startMode p = false ∧ (d.pair p).disc.any (fun t => t + d.discPips p ≤ d.osc) = true ∧ (d.pair p).fault = 0) :=
  ⟨0, { { svc with safe := { svc.safe with active := List.replicate 3 0 ++ [0x10000000#32], pairs := tset SPair.reset [] 0 { SPair.reset with disc := some 5 } } } with pip := 1000000, osc := 1000000 }, by decide⟩

set_option maxRecDepth 100000 in
theorem meets_antivalenceTimeout : ∃ p : Fin 8, ∃ d : Dev, (d.pairFn (d.pairOwner p) = 4 ∧ (d.pair (d.pairOwner p)).fault = 0 ∧ (d.pair p).disc.any (fun t => t + d.discPips p ≤ d.osc) = true) :=
  ⟨0, { { svc with safe := { svc.safe with active := List.replicate 3 0 ++ [0x40000000#32], pairs := tset SPair.reset [] 0 { SPair.reset with disc := some 5 } } } with pip := 1000000, osc := 1000000 }, by decide⟩

set_option maxRecDepth 100000 in
theorem meets_testPulse : ∃ k : Fin 4, ∃ _low : List Nat, ∃ d : Dev, (d.cfgValid = true ∧ wbit (d.actWord 1) k = true ∧ d.tpNext k ≤ d.osc) :=
  ⟨3, [], { svc.setBit Reg.SAFE_STATUS 5 true with safe := { svc.safe with active := [0, 8#32] } }, by decide⟩

set_option maxRecDepth 100000 in
theorem meets_resetButtonRelease : ∃ p : Fin 8, ∃ t : Nat, ∃ d : Dev, (200 ≤ t) ∧ (t ≤ 12000) ∧ ((d.pair p).press = some t ∧ d.pairFn p = 5 ∧ (d.pair p).fault = 0 ∧ (d.pair p).needReset = false) :=
  ⟨0, 200, { svc with safe := { svc.safe with active := List.replicate 3 0 ++ [0x50000000#32], pairs := tset SPair.reset [] 0 { SPair.reset with press := some 200, needReset := false } } }, by decide⟩

set_option maxRecDepth 100000 in
theorem meets_crossDisagreement : ∃ p : Fin 8, ∃ cpu : Bool, ∃ held : Nat, ∃ d : Dev, (d.pairFn (d.pairOwner p) ≠ 0 ∧ cpu ≠ d.pairPermits (d.pairOwner p) ∧ 250 * d.discPips (d.pairOwner p) + 20000 < held) :=
  ⟨0, true, 1000000, { svc with safe := { svc.safe with active := List.replicate 3 0 ++ [0x10000000#32] } }, by decide⟩

set_option maxRecDepth 100000 in
theorem meets_crossDisagreement_2 : ∃ p : Fin 8, ∃ cpu : Bool, ∃ held : Nat, ∃ d : Dev, (d.pairFn (d.pairOwner p) ≠ 0 ∧ cpu ≠ d.pairPermits (d.pairOwner p) ∧ held ≤ 250 * d.discPips (d.pairOwner p) + 20000) :=
  ⟨0, true, 20000, { svc with safe := { svc.safe with active := List.replicate 3 0 ++ [0x10000000#32] } }, by decide⟩

set_option maxRecDepth 100000 in
theorem meets_crossDisagreement_3 : ∃ p : Fin 8, ∃ cpu : Bool, ∃ _held : Nat, ∃ d : Dev, (d.pairFn (d.pairOwner p) ≠ 0 ∧ cpu = d.pairPermits (d.pairOwner p)) :=
  ⟨0, false, 5, { svc with safe := { svc.safe with active := List.replicate 3 0 ++ [0x10000000#32] } }, by decide⟩

set_option maxRecDepth 100000 in
theorem meets_stoneSelfFault : ∃ _d : Dev, True :=
  ⟨svc, by decide⟩

set_option maxRecDepth 100000 in
theorem meets_permitWord : ∃ d : Dev, (d.safetyRuns = true ∧ (d.safe.hbRun = 0 ∨ d.safe.hbLast ≠ d.osc)) :=
  ⟨{ svc with sys := { svc.sys with safetyHalt := false } }, by decide⟩

set_option maxRecDepth 100000 in
theorem meets_permitWord_2 : ∃ d : Dev, (d.safetyRuns = true) :=
  ⟨{ svc with sys := { svc.sys with safetyHalt := false } }, by decide⟩

set_option maxRecDepth 100000 in
theorem meets_permitWord_3 : ∃ _good : Bool, ∃ d : Dev, (d.safetyRuns = false) :=
  ⟨true, svc, by decide⟩

set_option maxRecDepth 100000 in
theorem meets_heartbeatLost : ∃ d : Dev, (d.hbOk = true ∧ d.safe.hbLast + 4 ≤ d.osc ∧ d.sys.safetyForced = false) :=
  ⟨{ svc.setBit Reg.SAFE_STATUS 4 true with pip := 1000000, osc := 1000000 }, by decide⟩

set_option maxRecDepth 100000 in
theorem meets_heartbeatValid : ∃ d : Dev, (d.hbOk = false ∧ 8 ≤ d.safe.hbRun) :=
  ⟨{ svc with safe := { svc.safe with hbRun := 8 } }, by decide⟩

set_option maxRecDepth 100000 in
theorem meets_hubStopHoldEnd : ∃ _d : Dev, True :=
  ⟨svc, by decide⟩

set_option maxRecDepth 100000 in
theorem meets_stoneFrameRx : ∃ c : Fin 8, ∃ f : List Byte, ∃ d : Dev, (d.safetyRuns = true ∧ d.connRx c = true ∧ d.connCarried c = true ∧ f.length = 18 ∧ num f 8 1 = 1 ∧ num f 9 1 = 4 ∧ (crcSafety (f.take 14)).toNat = num f 14 4 ∧ num f 0 4 = (d.connWord c 1).toNat ∧ d.fld (Reg.SAFE_CONN_STATUS c) 1 0 = 2 ∧ num f 4 2 = ((d.conn c).seq + 1) % 65536 ∧ (d.conn c).seq < 65536) :=
  ⟨0, stoneBytes, { svc.setFld (Reg.SAFE_CONN_STATUS 0) 1 0 2 with sys := { svc.sys with safetyHalt := false }, safe := { svc.safe with active := List.replicate 19 0 ++ [0x80000000#32] } }, by decide⟩

set_option maxRecDepth 100000 in
theorem meets_stoneFrameRx_2 : ∃ c : Fin 8, ∃ f : List Byte, ∃ d : Dev, (d.safetyRuns = true ∧ d.connRx c = true ∧ d.connCarried c = true ∧ f.length < 14) :=
  ⟨0, [], { svc with sys := { svc.sys with safetyHalt := false }, safe := { svc.safe with active := List.replicate 19 0 ++ [0x80000000#32] } }, by decide⟩

set_option maxRecDepth 100000 in
theorem meets_stoneFrameTx : ∃ c : Fin 8, ∃ d : Dev, (d.safetyRuns = true ∧ d.twinState ≠ 1 ∧ d.twinState ≠ 2 ∧ wbit (d.connWord c 0) 31 = true ∧ wbit (d.connWord c 0) 30 = true ∧ wfld (d.connWord c 0) 29 28 ≠ 2 ∧ d.connCarried c = true ∧ (d.conn c).lastTx = none) :=
  ⟨0, { svc with sys := { svc.sys with safetyHalt := false }, safe := { svc.safe with active := List.replicate 19 0 ++ [0xC0000000#32] } }, by decide⟩

set_option maxRecDepth 100000 in
theorem meets_stoneConnWatchdog : ∃ d : Dev, (d.safetyRuns = true) :=
  ⟨{ svc with sys := { svc.sys with safetyHalt := false } }, by decide⟩

set_option maxRecDepth 100000 in
theorem meets_rcmStageTrip : ∃ n : Fin 32, ∃ c : Nat, ∃ p : Nat, ∃ d : Dev, (d.domainRuns 5 = true ∧ d.gstate n = 2 ∧ d.gmode n = 1 ∧ d.rbit Reg.GUARD_TRIP_MASK n = false ∧ (d.g n).met = some (c, p) ∧ p < (d.g n).t) :=
  ⟨0, 0, 5, { (((svc.setFld (Reg.GUARD_CH_STATUS 0) 2 0 2).setFld (Reg.GUARD_CH_CFG 0) 17 16 1).setG 0 fun g => { g with t := 5000, met := some (0, 5) }) with pip := 1000000, osc := 1000000 }, by decide⟩

set_option maxRecDepth 100000 in
theorem meets_imdWindowStart : ∃ n : Fin 32, ∃ d : Dev, (d.domainRuns 5 = true ∧ d.passive = false ∧ d.gstate n = 2 ∧ d.gmode n = 2 ∧ (d.g n).imd = none ∧ d.pip % 4000 = 500 * d.fld (Reg.GUARD_CH_IMD_CFG n) 30 28) :=
  ⟨0, { ((svc.setFld (Reg.GUARD_CH_STATUS 0) 2 0 2).setFld (Reg.GUARD_CH_CFG 0) 17 16 2).setFld (Reg.GUARD_CH_IMD_CFG 0) 30 28 1 with pip := 4500 }, by decide⟩

set_option maxRecDepth 100000 in
theorem meets_imdWindowEnd : ∃ n : Fin 32, ∃ w : Nat, ∃ d : Dev, (d.domainRuns 5 = true ∧ d.gstate n = 2 ∧ (d.g n).imd = some w ∧ (d.g n).imdT + 4000 ≤ (d.g n).t ∧ d.fld (Reg.GUARD_CH_IMD_THRESH n) 15 0 < (d.imdResult n).1 ∧ d.fld (Reg.GUARD_CH_IMD_THRESH n) 31 16 ≤ (d.imdResult n).1 ∧ (d.imdResult n).2 = true) :=
  ⟨0, 5, { (((svc.setFld (Reg.GUARD_CH_STATUS 0) 2 0 2).setFld (Reg.GUARD_CH_CFG 0) 17 16 2).setG 0 fun g => { g with t := 5000, imd := some 5, imdT := 5, sums := [1, 1, -1, -1] }) with pip := 1000000, osc := 1000000 }, by decide⟩

set_option maxRecDepth 100000 in
theorem meets_guardStreamFault : ∃ n : Fin 32, ∃ d : Dev, (d.domainRuns 5 = true ∧ d.gstate n ≠ 0 ∧ d.gstate n ≠ 4) :=
  ⟨0, svc.setFld (Reg.GUARD_CH_STATUS 0) 2 0 1, by decide⟩

set_option maxRecDepth 100000 in
theorem meets_guardSelfTestEnd : ∃ n : Fin 32, ∃ t : Nat, ∃ d : Dev, (d.domainRuns 5 = true ∧ (d.g n).test = some t ∧ d.gstate n = 3 ∧ t + (if d.gmode n = 1 then 800 else 4000) ≤ (d.g n).t ∧ d.testPassed n = true) :=
  ⟨0, 5, { ((((svc.setFld (Reg.GUARD_CH_CFG 0) 9 0 0).setFld (Reg.GUARD_CH_STATUS 0) 2 0 3).setFld (Reg.GUARD_CH_CFG 0) 17 16 1).setG 0 fun g => { g with t := 5000, test := some 5, testDc := [0, 0] }) with pip := 1000000, osc := 1000000 }, by decide⟩

set_option maxRecDepth 100000 in
theorem meets_guardSelfTestEnd_2 : ∃ n : Fin 32, ∃ t : Nat, ∃ d : Dev, (d.domainRuns 5 = true ∧ (d.g n).test = some t ∧ d.gstate n = 3 ∧ t + (if d.gmode n = 1 then 800 else 4000) ≤ (d.g n).t ∧ d.testPassed n = false) :=
  ⟨0, 5, { ((((svc.setFld (Reg.GUARD_CH_CFG 0) 9 0 0).setFld (Reg.GUARD_CH_STATUS 0) 2 0 3).setFld (Reg.GUARD_CH_CFG 0) 17 16 1).setG 0 fun g => { g with t := 5000, test := some 5, testDc := [1, 0] }) with pip := 1000000, osc := 1000000 }, by decide⟩

set_option maxRecDepth 100000 in
theorem meets_fcDecode : ∃ f : FcIn, ∃ d : Dev, (d.huskRuns = true ∧ d.laneActive f.lane.val = true ∧ (d.sniOk f.lane.val f.sni = false ∨ d.destOk f.lane.val f.dest = false ∨ 1200 < f.us ∨ f.mode = 3 ∨ (f.lane.val < 32 ∧ (f.blocks ≠ 1 ∨ (f.octets ≠ 136 ∧ f.octets ≠ 520))))) :=
  ⟨{ lane := 0, sni := 0, dest := 0, us := 1201, mode := 0, blocks := 1, octets := 136 }, ((svc.setBit (Reg.LANE_CFG 0) 0 true).setFld (Reg.OUT_CFG 0) 2 0 1), ⟨by decide, by decide, Or.inr (Or.inr (Or.inl (by decide)))⟩⟩

set_option maxRecDepth 100000 in
theorem meets_fcDecode_2 : ∃ f : FcIn, ∃ d : Dev, (f.us ≤ 1200) ∧ (f.mode ≠ 3) ∧ ((f.lane.val = 32 ∨ (f.blocks = 1 ∧ (f.octets = 136 ∨ f.octets = 520)))) ∧ (d.huskRuns = true ∧ d.laneActive f.lane.val = true ∧ (d.inc (Reg.LANE_FC_DETECT f.lane.val)).sniOk f.lane.val f.sni = true ∧ (d.inc (Reg.LANE_FC_DETECT f.lane.val)).destOk f.lane.val f.dest = true ∧ d.husk.ctxs.length < (d.inc (Reg.LANE_FC_DETECT f.lane.val)).ctxMax ∧ (d.lane f.lane.val).ring + 1536 ≤ 16384) :=
  ⟨{ lane := 0, sni := Config.unassociated, dest := 281474976710655, us := 1200, mode := 2, blocks := 1, octets := 520 }, ((svc.setBit (Reg.LANE_CFG 0) 0 true).setFld (Reg.OUT_CFG 0) 2 0 1), ⟨by decide, by decide, by decide, by decide, by decide, by simp [Dev.sniOk], by decide, by decide, by decide⟩⟩

set_option maxRecDepth 100000 in
theorem meets_frameDelivery : ∃ f : FrameIn, ∃ c : HCtx, ∃ d : Dev, (f.ok = true) ∧ ((f.frame ≠ .other ∨ f.lane.val = 32)) ∧ (d.huskRuns = true ∧ d.husk.oldestRx f.lane.val = some c) :=
  ⟨{ lane := 0, ok := true, snr := 0, level := 0, symbols := [], frame := .data [1] }, { lane := 0, rx := true, acc := 0, seq := 0, lastSym := false, sack := false, late := false, served := 0, msg := none }, { svc with husk := { svc.husk with ctxs := [{ lane := 0, rx := true, acc := 0, seq := 0, lastSym := false, sack := false, late := false, served := 0, msg := none }] } }, by decide⟩

set_option maxRecDepth 100000 in
theorem meets_frameDelivery_2 : ∃ f : FrameIn, ∃ c : HCtx, ∃ d : Dev, (f.ok = false) ∧ (d.huskRuns = true ∧ d.husk.oldestRx f.lane.val = some c) :=
  ⟨{ lane := 0, ok := false, snr := 0, level := 0, symbols := [], frame := .data [1] }, { lane := 0, rx := true, acc := 0, seq := 0, lastSym := false, sack := false, late := false, served := 0, msg := none }, { svc with husk := { svc.husk with ctxs := [{ lane := 0, rx := true, acc := 0, seq := 0, lastSym := false, sack := false, late := false, served := 0, msg := none }] } }, by decide⟩

set_option maxRecDepth 100000 in
theorem meets_frameLate : ∃ n : Fin 33, ∃ c : HCtx, ∃ d : Dev, (d.huskRuns = true ∧ d.husk.ctxs.find? (fun c => c.rx && c.lane = n.val && !c.late && c.acc + 8 ≤ d.pip) = some c) :=
  ⟨0, { lane := 0, rx := true, acc := 0, seq := 0, lastSym := false, sack := false, late := false, served := 0, msg := none }, { { svc with husk := { svc.husk with ctxs := [{ lane := 0, rx := true, acc := 0, seq := 0, lastSym := false, sack := false, late := false, served := 0, msg := none }] } } with pip := 1000000, osc := 1000000 }, by decide⟩

set_option maxRecDepth 100000 in
theorem meets_huskSlice : ∃ _again : Bool, ∃ d : Dev, (d.huskRuns = true ∧ d.husk.ctxs = []) :=
  ⟨true, svc, by decide⟩

set_option maxRecDepth 100000 in
theorem meets_huskSlice_2 : ∃ l : List (Fin 33), ∃ idle : List (Fin 33), ∃ _again : Bool, ∃ b : HCtx, ∃ d : Dev, (d.huskRuns = true ∧ bestCtx ((markLast d.husk.ctxs (l.map (·.val))).filter (HCtx.works (idle.map (·.val)))) = some b) :=
  ⟨[0], [], false, { lane := 0, rx := true, acc := 0, seq := 0, lastSym := true, sack := false, late := false, served := 0, msg := none }, { svc with husk := { svc.husk with ctxs := [{ lane := 0, rx := true, acc := 0, seq := 0, lastSym := false, sack := false, late := false, served := 0, msg := none }] } }, by decide⟩

set_option maxRecDepth 100000 in
theorem meets_noiseWindowEnd : ∃ n : Fin 33, ∃ _rms : Int, ∃ _gain : Nat, ∃ _peak : Int, ∃ d : Dev, (d.huskRuns = true ∧ d.laneActive n = true) :=
  ⟨32, -3, 4, 5, svc.setBit (Reg.LANE_CFG 32) 0 true, by decide⟩

set_option maxRecDepth 100000 in
theorem meets_slacParmReq : ∃ n : Fin 32, ∃ d : Dev, (d.huskRuns = true ∧ d.taskRuns = true ∧ d.laneActive n = true ∧ d.slacEligible n = true) :=
  ⟨0, ((((inState 2).setBit (Reg.LANE_CFG 0) 0 true).setBit (Reg.LANE_CFG 0) 4 true).setFld (Reg.OUT_CFG 0) 2 0 1).wn (Reg.OUT_CP_STATUS 0) 1, by decide⟩

set_option maxRecDepth 100000 in
theorem meets_soundCapture : ∃ lane : Fin 32, ∃ run : List Byte, ∃ _announced : Nat, ∃ d : Dev, (d.huskRuns = true ∧ d.laneActive lane.val = true ∧ ∀ r ∈ d.husk.runs, r.run ≠ run) :=
  ⟨0, [1, 2, 3, 4, 5, 6, 7, 8], 10, ((svc.setBit (Reg.LANE_CFG 0) 0 true).setFld (Reg.OUT_CFG 0) 2 0 1), by decide⟩

set_option maxRecDepth 100000 in
theorem meets_slacDecision : ∃ run : List Byte, ∃ r : SlacRun, ∃ d : Dev, (d.huskRuns = true ∧ d.taskRuns = true ∧ d.husk.runs.find? (fun r => r.run = run && r.st = .sounding) = some r ∧ (r.announced ≤ r.sounds ∨ r.start + 2000 ≤ d.pip) ∧ d.rbit Reg.HUSK_SLAC_CFG 0 = false ∧ (∀ n ∈ List.range 32, (r.heard n && d.plainOpen n) = false)) :=
  ⟨[1, 2, 3, 4, 5, 6, 7, 8], { run := [1, 2, 3, 4, 5, 6, 7, 8], announced := 10, start := 0, sounds := 10, caps := [], st := .sounding }, { svc.setBit Reg.HUSK_SLAC_CFG 0 false with husk := { svc.husk with runs := [{ run := [1, 2, 3, 4, 5, 6, 7, 8], announced := 10, start := 0, sounds := 10, caps := [], st := .sounding }] } }, by decide⟩

set_option maxRecDepth 100000 in
theorem meets_slacDecision_2 : ∃ run : List Byte, ∃ r : SlacRun, ∃ d : Dev, (d.huskRuns = true ∧ d.taskRuns = true ∧ d.husk.runs.find? (fun r => r.run = run && r.st = .sounding) = some r ∧ (r.announced ≤ r.sounds ∨ r.start + 2000 ≤ d.pip) ∧ (plainAnswers d r).rbit Reg.HUSK_SLAC_CFG 0 = true) :=
  ⟨[1, 2, 3, 4, 5, 6, 7, 8], { run := [1, 2, 3, 4, 5, 6, 7, 8], announced := 10, start := 0, sounds := 10, caps := [], st := .sounding }, { svc.setBit Reg.HUSK_SLAC_CFG 0 true with husk := { svc.husk with runs := [{ run := [1, 2, 3, 4, 5, 6, 7, 8], announced := 10, start := 0, sounds := 10, caps := [], st := .sounding }] } }, by decide⟩

set_option maxRecDepth 100000 in
theorem meets_slacMatchReq : ∃ n : Fin 32, ∃ run : List Byte, ∃ r : SlacRun, ∃ d : Dev, (d.huskRuns = true ∧ d.taskRuns = true ∧ d.laneActive n = true ∧ d.husk.runs.find? (fun r => r.run = run) = some r ∧ d.ost n = .linking ∧ (d.lane n).matched = none ∧ d.slacAnswers r n = true) :=
  ⟨0, [1, 2, 3, 4, 5, 6, 7, 8], { run := [1, 2, 3, 4, 5, 6, 7, 8], announced := 10, start := 0, sounds := 10, caps := [], st := .plain }, { (((inState 2).setBit (Reg.LANE_CFG 0) 0 true).setFld (Reg.OUT_CFG 0) 2 0 1) with husk := { svc.husk with runs := [{ run := [1, 2, 3, 4, 5, 6, 7, 8], announced := 10, start := 0, sounds := 10, caps := [], st := .plain }] } }, by decide⟩

set_option maxRecDepth 100000 in
theorem meets_t1sFrameRx : ∃ t : Fin 8, ∃ _node : Nat, ∃ d : Dev, (d.shellRuns = true ∧ d.t1sUsed t = true) :=
  ⟨0, 1, (((svc.setFld (Reg.OUT_CFG 24) 2 0 3).setBit (Reg.T1S_CFG 0) 0 true).setBit (Reg.T1S_CFG 0) 1 true), by decide⟩

set_option maxRecDepth 100000 in
theorem meets_t1sFrameRx_2 : ∃ t : Fin 8, ∃ _node : Nat, ∃ d : Dev, (d.shellRuns = true ∧ d.t1sUsed t = true) :=
  ⟨0, 1, ((svc.setFld (Reg.OUT_CFG 24) 2 0 3).setBit (Reg.T1S_CFG 0) 0 true), by decide⟩

set_option maxRecDepth 100000 in
theorem meets_t1sFrameRx_3 : ∃ t : Fin 8, ∃ bits : Nat, ∃ d : Dev, (d.shellRuns = true ∧ d.t1sUsed t = true ∧ d.plca t = true ∧ 1 ≤ tget 0 d.husk.t1sNode t ∧ d.fld (Reg.T1S_CFG t) 23 16 * 16 ≤ bits ∧ tget 0 d.husk.t1sNode t < d.fld (Reg.T1S_CFG t) 7 2) :=
  ⟨0, 4080, { (((svc.setFld (Reg.OUT_CFG 24) 2 0 3).setBit (Reg.T1S_CFG 0) 0 true).setBit (Reg.T1S_CFG 0) 1 true).setFld (Reg.T1S_CFG 0) 7 2 3 with husk := { svc.husk with t1sNode := tset 0 [] 0 2 } }, by decide⟩

set_option maxRecDepth 100000 in
theorem meets_t1sFrameRx_4 : ∃ t : Fin 8, ∃ bits : Nat, ∃ d : Dev, (d.shellRuns = true ∧ d.t1sUsed t = true ∧ d.plca t = true ∧ 1 ≤ tget 0 d.husk.t1sNode t ∧ d.fld (Reg.T1S_CFG t) 23 16 * 16 ≤ bits ∧ d.fld (Reg.T1S_CFG t) 7 2 ≤ tget 0 d.husk.t1sNode t) :=
  ⟨0, 4080, { (((svc.setFld (Reg.OUT_CFG 24) 2 0 3).setBit (Reg.T1S_CFG 0) 0 true).setBit (Reg.T1S_CFG 0) 1 true).setFld (Reg.T1S_CFG 0) 7 2 3 with husk := { svc.husk with t1sNode := tset 0 [] 0 3 } }, by decide⟩

set_option maxRecDepth 100000 in
theorem meets_t1sFrameRx_5 : ∃ t : Fin 8, ∃ bits : Nat, ∃ d : Dev, (d.shellRuns = true ∧ (bits < d.fld (Reg.T1S_CFG t) 23 16 * 16 ∨ tget 0 d.husk.t1sNode t = 0)) :=
  ⟨0, 4080, { (((svc.setFld (Reg.OUT_CFG 24) 2 0 3).setBit (Reg.T1S_CFG 0) 0 true).setBit (Reg.T1S_CFG 0) 1 true).setFld (Reg.T1S_CFG 0) 7 2 3 with husk := { svc.husk with t1sNode := tset 0 [] 0 0 } }, by decide⟩

set_option maxRecDepth 100000 in
theorem meets_t1sFrameRx_6 : ∃ t : Fin 8, ∃ d : Dev, (d.shellRuns = true ∧ d.t1sUsed t = true) :=
  ⟨0, ((svc.setFld (Reg.OUT_CFG 24) 2 0 3).setBit (Reg.T1S_CFG 0) 0 true), by decide⟩

set_option maxRecDepth 100000 in
theorem meets_t1sFrameRx_7 : ∃ t : Fin 8, ∃ d : Dev, (d.shellRuns = true ∧ d.t1sUsed t = true ∧ d.plca t = true ∧ tget 0 d.husk.t1sNode t = 0) :=
  ⟨0, { (((svc.setFld (Reg.OUT_CFG 24) 2 0 3).setBit (Reg.T1S_CFG 0) 0 true).setBit (Reg.T1S_CFG 0) 1 true).setFld (Reg.T1S_CFG 0) 7 2 3 with husk := { svc.husk with t1sNode := tset 0 [] 0 0, t1sq := tset 0 [] 0 3 } }, by decide⟩

set_option maxRecDepth 100000 in
theorem meets_t1sFrameRx_8 : ∃ t : Fin 8, ∃ node : Nat, ∃ d : Dev, (d.shellRuns = true ∧ d.t1sUsed t = true ∧ d.plca t = true ∧ 1 ≤ node ∧ node = tget 0 d.husk.t1sNode t) :=
  ⟨0, 1, { (((svc.setFld (Reg.OUT_CFG 24) 2 0 3).setBit (Reg.T1S_CFG 0) 0 true).setBit (Reg.T1S_CFG 0) 1 true).setFld (Reg.T1S_CFG 0) 7 2 3 with husk := { svc.husk with t1sNode := tset 0 [] 0 1 } }, by decide⟩

set_option maxRecDepth 100000 in
theorem meets_t1sFrameRx_9 : ∃ t : Fin 8, ∃ node : Nat, ∃ d : Dev, (d.shellRuns = true ∧ (d.plca t = false ∨ node = 0 ∨ node ≠ tget 0 d.husk.t1sNode t)) :=
  ⟨0, 2, { (((svc.setFld (Reg.OUT_CFG 24) 2 0 3).setBit (Reg.T1S_CFG 0) 0 true).setBit (Reg.T1S_CFG 0) 1 true).setFld (Reg.T1S_CFG 0) 7 2 3 with husk := { svc.husk with t1sNode := tset 0 [] 0 1 } }, by decide⟩

set_option maxRecDepth 100000 in
theorem meets_t1sFrameRx_10 : ∃ t : Fin 8, ∃ _x : T1sIn, ∃ d : Dev, (d.shellRuns = true ∧ d.t1sUsed t = false) :=
  ⟨0, .energy, svc, by decide⟩

set_option maxRecDepth 100000 in
theorem meets_t1sLinkLoss : ∃ t : Fin 8, ∃ energy : Bool, ∃ d : Dev, (d.shellRuns = true ∧ d.t1sLost t energy = true) :=
  ⟨0, false, ((svc.setFld (Reg.OUT_CFG 24) 2 0 3).setBit (Reg.T1S_CFG 0) 0 true).setBit (Reg.T1S_STATUS 0) 0 true, by decide⟩

set_option maxRecDepth 100000 in
theorem meets_huskFrontEndsRunning : ∃ d : Dev, (d.sys.inReset = false ∧ d.domainRuns 2 = true) :=
  ⟨svc, by decide⟩

set_option maxRecDepth 100000 in
theorem meets_meshPeriodStart : ∃ d : Dev, (d.meshRuns = true ∧ d.mesh.st = .coordinator ∧ d.mesh.periodAt + 200 ≤ d.osc ∧ d.mesh.leavers = []) :=
  ⟨{ { ((svc.setSlot (svc.fld Reg.MESH_CFG 29 24) { use := 4, alg := 6, origin := 1, label := 0, version := 1, key := [] }).setBit (Reg.LANE_CFG 32) 0 true) with mesh := { svc.mesh with st := .coordinator } } with pip := 1000000, osc := 1000000 }, by decide⟩

set_option maxRecDepth 100000 in
theorem meets_meshPeriodStart_2 : ∃ d : Dev, (d.meshRuns = true ∧ d.mesh.st = .member ∧ d.mesh.rescan = false ∧ d.mesh.count ≠ 0 ∧ d.mesh.periodAt + 200 ≤ d.osc) :=
  ⟨{ { ((svc.setSlot (svc.fld Reg.MESH_CFG 29 24) { use := 4, alg := 6, origin := 1, label := 0, version := 1, key := [] }).setBit (Reg.LANE_CFG 32) 0 true) with mesh := { svc.mesh with st := .member, count := 1 } } with pip := 1000000, osc := 1000000 }, by decide⟩

set_option maxRecDepth 100000 in
theorem meets_meshBeaconRx : ∃ b : List Byte, ∃ _snr : Nat, ∃ d : Dev, (b.length = 172) ∧ (d.meshRuns = true ∧ d.mesh.st ≠ .off ∧ num b 16 4 = d.rn Reg.MESH_NETWORK_ID ∧ d.meshKeyOk = true ∧ d.laneActive 32 = true ∧ num b 0 4 < d.mesh.epoch) :=
  ⟨List.replicate 172 0, 5, { ((svc.setSlot (svc.fld Reg.MESH_CFG 29 24) { use := 4, alg := 6, origin := 1, label := 0, version := 1, key := [] }).setBit (Reg.LANE_CFG 32) 0 true) with mesh := { svc.mesh with st := .member, epoch := 1 } }, by decide⟩

set_option maxRecDepth 100000 in
theorem meets_meshBeaconRx_2 : ∃ b : List Byte, ∃ snr : Nat, ∃ d : Dev, (b.length = 172) ∧ (d.meshRuns = true ∧ d.mesh.st ≠ .off ∧ num b 16 4 = d.rn Reg.MESH_NETWORK_ID ∧ d.meshKeyOk = true ∧ d.laneActive 32 = true ∧ d.mesh.epoch ≤ num b 0 4 ∧ (d.meshHeader b snr (some ((b.drop 20).take 6))).isSome = true) :=
  ⟨List.replicate 172 0, 5, { ((svc.setSlot (svc.fld Reg.MESH_CFG 29 24) { use := 4, alg := 6, origin := 1, label := 0, version := 1, key := [] }).setBit (Reg.LANE_CFG 32) 0 true) with mesh := { svc.mesh with st := .member } }, by decide⟩

set_option maxRecDepth 100000 in
theorem meets_meshSlotFrameRx : ∃ b : List Byte, ∃ _snr : Nat, ∃ d : Dev, (16 ≤ b.length) ∧ (d.meshRuns = true ∧ d.mesh.st ≠ .off ∧ d.meshKeyOk = true ∧ d.laneActive 32 = true) :=
  ⟨List.replicate 16 0, 5, { ((svc.setSlot (svc.fld Reg.MESH_CFG 29 24) { use := 4, alg := 6, origin := 1, label := 0, version := 1, key := [] }).setBit (Reg.LANE_CFG 32) 0 true) with mesh := { svc.mesh with st := .member } }, by decide⟩

set_option maxRecDepth 100000 in
theorem meets_meshSlotFrameRx_2 : ∃ b : List Byte, ∃ _snr : Nat, ∃ d : Dev, (16 ≤ b.length) ∧ (d.meshRuns = true ∧ d.mesh.st ≠ .off ∧ d.meshKeyOk = true ∧ d.laneActive 32 = true ∧ num b 0 4 < d.mesh.epoch) :=
  ⟨List.replicate 16 0, 5, { ((svc.setSlot (svc.fld Reg.MESH_CFG 29 24) { use := 4, alg := 6, origin := 1, label := 0, version := 1, key := [] }).setBit (Reg.LANE_CFG 32) 0 true) with mesh := { svc.mesh with st := .member, epoch := 1 } }, by decide⟩

set_option maxRecDepth 100000 in
theorem meets_meshSlotFrameRx_3 : ∃ b : List Byte, ∃ _snr : Nat, ∃ d : Dev, (16 ≤ b.length) ∧ (num b 11 1 ≠ 0xFE) ∧ (d.meshRuns = true ∧ d.mesh.st = .member ∧ d.meshKeyOk = true ∧ d.laneActive 32 = true ∧ d.mesh.epoch = num b 0 4 ∧ d.mesh.hold = none) :=
  ⟨List.replicate 16 0, 5, { ((svc.setSlot (svc.fld Reg.MESH_CFG 29 24) { use := 4, alg := 6, origin := 1, label := 0, version := 1, key := [] }).setBit (Reg.LANE_CFG 32) 0 true) with mesh := { svc.mesh with st := .member } }, by decide⟩

set_option maxRecDepth 100000 in
theorem meets_meshSlotFrameRx_4 : ∃ b : List Byte, ∃ _snr : Nat, ∃ d : Dev, (16 ≤ b.length) ∧ (num b 11 1 ≠ 0xFE) ∧ ((num b 15 1).testBit 1 = true) ∧ (d.meshRuns = true ∧ d.mesh.st = .coordinator ∧ d.meshKeyOk = true ∧ d.laneActive 32 = true ∧ d.mesh.epoch = num b 0 4 ∧ d.mesh.hold = none) :=
  ⟨[0, 0, 0, 0, 0, 0, 0, 0, 0, 0, 9, 0, 0, 0, 0, 2], 5, { ((svc.setSlot (svc.fld Reg.MESH_CFG 29 24) { use := 4, alg := 6, origin := 1, label := 0, version := 1, key := [] }).setBit (Reg.LANE_CFG 32) 0 true) with mesh := { svc.mesh with st := .coordinator } }, by decide⟩

set_option maxRecDepth 100000 in
theorem meets_meshSackRx : ∃ d : Dev, (d.meshRuns = true ∧ d.mesh.flight.isSome = true) :=
  ⟨{ svc with mesh := { svc.mesh with flight := some { msgs := [], hop := 0, tries := 0 } } }, by decide⟩

set_option maxRecDepth 100000 in
theorem meets_meshSackRx_2 : ∃ f : MeshFlight, ∃ d : Dev, (d.meshRuns = true ∧ d.mesh.flight = some f ∧ f.tries < d.fld Reg.MESH_CFG 18 16) :=
  ⟨{ msgs := [], hop := 0, tries := 0 }, { svc.setFld Reg.MESH_CFG 18 16 3 with mesh := { svc.mesh with flight := some { msgs := [], hop := 0, tries := 0 } } }, by decide⟩

set_option maxRecDepth 100000 in
theorem meets_meshSackRx_3 : ∃ f : MeshFlight, ∃ d : Dev, (d.meshRuns = true ∧ d.mesh.flight = some f ∧ d.fld Reg.MESH_CFG 18 16 ≤ f.tries) :=
  ⟨{ msgs := [], hop := 0, tries := 3 }, { svc.setFld Reg.MESH_CFG 18 16 3 with mesh := { svc.mesh with flight := some { msgs := [], hop := 0, tries := 3 } } }, by decide⟩

set_option maxRecDepth 100000 in
theorem meets_meshPeriodEnd : ∃ d : Dev, (d.meshRuns = true ∧ d.mesh.st = .member ∧ d.mesh.ended = false ∧ d.mesh.periodAt + 199 ≤ d.osc ∧ d.mesh.refAge = none ∧ 2 ≤ d.mesh.missed) :=
  ⟨{ { svc with mesh := { svc.mesh with st := .member, missed := 2 } } with pip := 1000000, osc := 1000000 }, by decide⟩

set_option maxRecDepth 100000 in
theorem meets_meshScanEnd : ∃ d : Dev, (d.meshRuns = true ∧ d.mesh.st = .scanning ∧ d.mesh.scanFrom + d.fld Reg.MESH_JOIN_CFG 5 0 ≤ d.mesh.count ∧ d.mesh.waitTill ≤ d.mesh.count ∧ d.meshKeyOk = true ∧ d.meshRole = 1 ∧ d.mesh.heardNet = false) :=
  ⟨{ ((svc.setSlot (svc.fld Reg.MESH_CFG 29 24) { use := 4, alg := 6, origin := 1, label := 0, version := 1, key := [] }).setBit (Reg.LANE_CFG 32) 0 true).setFld Reg.MESH_CFG 1 0 1 with mesh := { svc.mesh with st := .scanning, count := 1000 } }, by decide⟩

set_option maxRecDepth 100000 in
theorem meets_meshJoinReq : ∃ ident : List Byte, ∃ parent : Nat, ∃ n : Nat, ∃ d : Dev, (d.meshRuns = true ∧ d.mesh.st = .coordinator ∧ d.meshKeyOk = true ∧ (∀ x ∈ d.mesh.idents, x.1 ≠ ident) ∧ (List.range 64).find? (fun n => !d.mesh.map.used n) = some n ∧ d.mesh.map.parentOf n ≠ parent ∧ d.mesh.map.used parent = true ∧ (d.mesh.map.setParent n parent).shallow = true) :=
  ⟨[1, 2, 3, 4, 5, 6], 0, 1, { ((svc.setSlot (svc.fld Reg.MESH_CFG 29 24) { use := 4, alg := 6, origin := 1, label := 0, version := 1, key := [] }).setBit (Reg.LANE_CFG 32) 0 true) with mesh := { svc.mesh with st := .coordinator, node := 0, map := MeshMap.empty.setParent 0 0xFE } }, by decide⟩

set_option maxRecDepth 100000 in
theorem meets_meshJoinAck : ∃ ident : List Byte, ∃ id : Nat, ∃ _epoch : Nat, ∃ d : Dev, (id < 64) ∧ (d.meshRuns = true ∧ d.mesh.st = .joining ∧ d.meshKeyOk = true ∧ padTo 6 ident = padTo 6 d.meshIdent) :=
  ⟨svc.meshIdent, 63, 1, { ((svc.setSlot (svc.fld Reg.MESH_CFG 29 24) { use := 4, alg := 6, origin := 1, label := 0, version := 1, key := [] }).setBit (Reg.LANE_CFG 32) 0 true) with mesh := { svc.mesh with st := .joining } }, by decide⟩

set_option maxRecDepth 100000 in
theorem meets_meshJoinTimeout : ∃ d : Dev, (d.meshRuns = true ∧ d.mesh.st = .joining ∧ d.mesh.joinSent ≠ 0 ∧ d.mesh.joinSent + 16 ≤ d.mesh.count ∧ 4 < d.mesh.joinTries) :=
  ⟨{ svc with mesh := { svc.mesh with st := .joining, joinSent := 1, count := 1000, joinTries := 5 } }, by decide⟩

set_option maxRecDepth 100000 in
theorem meets_meshJoinTimeout_2 : ∃ d : Dev, (d.meshRuns = true ∧ d.mesh.st = .joining ∧ d.mesh.joinSent = 0 ∧ d.mesh.joinAt + 16 ≤ d.mesh.count ∧ 4 ≤ d.mesh.joinTries) :=
  ⟨{ svc with mesh := { svc.mesh with st := .joining, joinSent := 0, joinAt := 984, count := 1000, joinTries := 4 } }, by decide⟩

set_option maxRecDepth 100000 in
theorem meets_meshNodeTimeout : ∃ n : Fin 64, ∃ d : Dev, (d.meshRuns = true ∧ d.mesh.st = .coordinator ∧ d.mesh.map.used n = true ∧ n.val ≠ d.mesh.node ∧ (d.mesh.nbr n).heard + d.fld Reg.MESH_NODE_TIMEOUT 7 0 ≤ d.mesh.count) :=
  ⟨5, { svc with mesh := { svc.mesh with st := .coordinator, count := 1000, node := 0, map := MeshMap.empty.setParent 5 0 } }, by decide⟩

set_option maxRecDepth 100000 in
theorem meets_meshBackupPromotion : ∃ c : Nat, ∃ d : Dev, (d.meshRuns = true ∧ d.mesh.st = .scanning ∧ d.meshRole = 2 ∧ d.meshKeyOk = true ∧ d.mesh.quietFrom + d.fld Reg.MESH_JOIN_CFG 5 0 + 4 * d.meshRank ≤ d.mesh.count ∧ d.mesh.map.coord = some c ∧ d.mesh.node < 64) :=
  ⟨7, { ((svc.setSlot (svc.fld Reg.MESH_CFG 29 24) { use := 4, alg := 6, origin := 1, label := 0, version := 1, key := [] }).setBit (Reg.LANE_CFG 32) 0 true).setFld Reg.MESH_CFG 1 0 2 with mesh := { svc.mesh with st := .scanning, count := 1000, node := 3, map := MeshMap.empty.setParent 7 0xFE } }, by decide⟩

set_option maxRecDepth 100000 in
theorem meets_meshActionExecute : ∃ a : MeshAct, ∃ d : Dev, (d.huskRuns = true ∧ d.taskRuns = true ∧ d.mesh.actions = [a] ∧ a.ready d.mesh d.osc = true) :=
  ⟨{ src := 0, seq := 0, action := 1, outlet := 0, arg := 0, period := 0, offset := 0, answer := false }, { svc with mesh := { svc.mesh with actions := [{ src := 0, seq := 0, action := 1, outlet := 0, arg := 0, period := 0, offset := 0, answer := false }] } }, by decide⟩

set_option maxRecDepth 100000 in
theorem meets_meshTransmitOpportunity : ∃ i : Fin 64, ∃ d : Dev, (d.meshRuns = true ∧ d.slotOpen i = true ∧ (d.meshLocal Dev.meshSafeFrame).slotOpen i = true ∧ (d.meshLocal Dev.meshSafeFrame).mesh.leaving = true) :=
  ⟨63, { ((svc.setSlot (svc.fld Reg.MESH_CFG 29 24) { use := 4, alg := 6, origin := 1, label := 0, version := 1, key := [] }).setBit (Reg.LANE_CFG 32) 0 true) with osc := 195, mesh := { svc.mesh with st := .member, node := 63, leaving := true, map := { MeshMap.empty.setParent 63 0 with owners := List.replicate 64 63 } } }, by decide⟩

set_option maxRecDepth 100000 in
theorem meets_meshTransmitOpportunity_2 : ∃ d : Dev, (d.meshRuns = true ∧ d.mesh.st = .joining ∧ d.mesh.joinAt = d.mesh.count ∧ d.mesh.joinSent ≠ d.mesh.count ∧ d.mesh.hold = none ∧ d.mesh.periodAt ≤ d.osc ∧ 198 ≤ d.meshOffset ∧ d.meshOffset ≤ 199 ∧ d.meshCan = true) :=
  ⟨{ ((svc.setSlot (svc.fld Reg.MESH_CFG 29 24) { use := 4, alg := 6, origin := 1, label := 0, version := 1, key := [] }).setBit (Reg.LANE_CFG 32) 0 true) with osc := 198, mesh := { svc.mesh with st := .joining, joinAt := 7, count := 7 } }, by decide⟩

set_option maxRecDepth 100000 in
theorem meets_podTrainingComplete : ∃ _n : Fin 2, ∃ d : Dev, (d.shellRuns = true ∧ d.twinEn = true) :=
  ⟨1, ((svc.setBit Reg.TWIN_CFG 16 true).setFld Reg.TWIN_STATUS 2 0 1), by decide⟩

set_option maxRecDepth 100000 in
theorem meets_podTrainingComplete_2 : ∃ d : Dev, (d.shellRuns = true ∧ d.twinEn = true ∧ d.fld Reg.TWIN_POD_STATUS 1 0 = 3) :=
  ⟨(((svc.setBit Reg.TWIN_CFG 16 true).setFld Reg.TWIN_STATUS 2 0 1).setFld Reg.TWIN_POD_STATUS 1 0 3), by decide⟩

set_option maxRecDepth 100000 in
theorem meets_podTrainingComplete_3 : ∃ _p : Peer, ∃ d : Dev, (d.shellRuns = true ∧ (d.fld Reg.TWIN_POD_STATUS 1 0 ≠ 3 ∨ d.twin.deskew = false)) :=
  ⟨{ serial := [], role := 1, state := 2, epoch := 0, fmt := Config.copyFormat 0, cfgCrc := 0, keyMap := svc.keyMap, hold := true, aligned := true, pip := 0 }, { (((svc.setBit Reg.TWIN_CFG 16 true).setFld Reg.TWIN_STATUS 2 0 2).setFld Reg.TWIN_POD_STATUS 1 0 3) with twin := { svc.twin with deskew := false } }, by decide⟩

set_option maxRecDepth 100000 in
theorem meets_podTrainingComplete_4 : ∃ _p : Peer, ∃ d : Dev, (d.shellRuns = true ∧ d.twinEn = true ∧ d.twinState = 2 ∧ d.fld Reg.TWIN_POD_STATUS 1 0 = 3 ∧ d.twin.deskew = true) :=
  ⟨{ serial := [], role := 1, state := 2, epoch := 0, fmt := Config.copyFormat 0, cfgCrc := 0, keyMap := svc.keyMap, hold := true, aligned := true, pip := 0 }, { (((svc.setBit Reg.TWIN_CFG 16 true).setFld Reg.TWIN_STATUS 2 0 2).setFld Reg.TWIN_POD_STATUS 1 0 3) with twin := { svc.twin with deskew := true } }, by decide⟩

set_option maxRecDepth 100000 in
theorem meets_podLaneLockLoss : ∃ lane : Fin 2, ∃ d : Dev, (d.shellRuns = true ∧ d.twinEn = true ∧ d.rbit Reg.TWIN_POD_STATUS lane = true) :=
  ⟨1, (((svc.setBit Reg.TWIN_CFG 16 true).setFld Reg.TWIN_STATUS 2 0 4).setFld Reg.TWIN_POD_STATUS 1 0 3), by decide⟩

set_option maxRecDepth 100000 in
theorem meets_podFrameRx : ∃ f : PodOut, ∃ crc : Nat, ∃ d : Dev, (podCrc f ≠ crc) ∧ (d.shellRuns = true ∧ d.twinEn = true ∧ d.rbit Reg.TWIN_POD_STATUS 2 = true) :=
  ⟨{ epoch := 0, pip := 0, state := 4, aligned := true, copy := none, short := false, ack := false, adv := [], fwd := [] }, podCrc { epoch := 0, pip := 0, state := 4, aligned := true, copy := none, short := false, ack := false, adv := [], fwd := [] } + 1, (((svc.setBit Reg.TWIN_CFG 16 true).setFld Reg.TWIN_STATUS 2 0 4).setBit Reg.TWIN_POD_STATUS 2 true), ⟨Nat.ne_of_lt (Nat.lt_succ_self _), by decide⟩⟩

set_option maxRecDepth 100000 in
theorem meets_podFrameRx_2 : ∃ f : PodOut, ∃ d : Dev, (d.shellRuns = true ∧ d.twinEn = true ∧ d.rbit Reg.TWIN_POD_STATUS 2 = true ∧ f.epoch < d.rn Reg.TWIN_EPOCH) :=
  ⟨{ epoch := 0, pip := 0, state := 4, aligned := true, copy := none, short := false, ack := false, adv := [], fwd := [] }, (((svc.setBit Reg.TWIN_CFG 16 true).setFld Reg.TWIN_STATUS 2 0 4).setBit Reg.TWIN_POD_STATUS 2 true).wn Reg.TWIN_EPOCH 1, by decide⟩

set_option maxRecDepth 100000 in
theorem meets_podFrameRx_3 : ∃ f : PodOut, ∃ d : Dev, (d.shellRuns = true ∧ d.twinEn = true ∧ d.rbit Reg.TWIN_POD_STATUS 2 = true ∧ d.rn Reg.TWIN_EPOCH ≤ f.epoch ∧ d.twinState = 2) :=
  ⟨{ epoch := 0, pip := 0, state := 4, aligned := true, copy := none, short := false, ack := false, adv := [], fwd := [] }, (((svc.setBit Reg.TWIN_CFG 16 true).setFld Reg.TWIN_STATUS 2 0 2).setBit Reg.TWIN_POD_STATUS 2 true), by decide⟩

set_option maxRecDepth 100000 in
theorem meets_kcmpMismatchSet : ∃ d : Dev, (d.shellRuns = true) :=
  ⟨svc, by decide⟩

set_option maxRecDepth 100000 in
theorem meets_twinLiveToggle : ∃ d : Dev, (d.twinEn = true ∧ d.mode ≠ .boot ∧ d.sys.inReset = false ∧ d.domainRuns 0 = true) :=
  ⟨((svc.setBit Reg.TWIN_CFG 16 true).setFld Reg.TWIN_STATUS 2 0 4), by decide⟩

set_option maxRecDepth 100000 in
theorem meets_promotedHubStopRampdown : ∃ p : Nat, ∃ d : Dev, (d.shellRuns = true ∧ d.twin.promotedAt = some p ∧ d.pip ≤ p + 40 ∧ d.rbit Reg.SAFE_STATUS 3 = true ∧ d.rbit Reg.SAFE_STATUS 2 = false) :=
  ⟨0, { ((svc.setBit Reg.SAFE_STATUS 3 true).setBit Reg.SAFE_STATUS 2 false) with twin := { svc.twin with promotedAt := some 0 } }, by decide⟩

set_option maxRecDepth 100000 in
theorem meets_podFaultDetect : ∃ d : Dev, (d.shellRuns = true ∧ d.twinEn = true ∧ 3 ≤ d.twin.podSilent ∧ d.twin.liveSilent = 0 ∧ d.twinState = 3) :=
  ⟨{ ((svc.setBit Reg.TWIN_CFG 16 true).setFld Reg.TWIN_STATUS 2 0 3) with twin := { svc.twin with podSilent := 3, liveSilent := 0 } }, by decide⟩

set_option maxRecDepth 100000 in
theorem meets_partnerSilent : ∃ d : Dev, (d.shellRuns = true ∧ d.twinState = 4 ∧ 3 ≤ d.twin.podSilent ∧ 3 ≤ d.twin.liveSilent) :=
  ⟨{ ((svc.setBit Reg.TWIN_CFG 16 true).setFld Reg.TWIN_STATUS 2 0 4) with twin := { svc.twin with podSilent := 3, liveSilent := 3 } }, by decide⟩

set_option maxRecDepth 100000 in
theorem meets_twinCopyLag : ∃ d : Dev, (d.shellRuns = true ∧ d.twinState = 3 ∧ 8 ≤ d.twin.lag) :=
  ⟨{ ((svc.setBit Reg.TWIN_CFG 16 true).setFld Reg.TWIN_STATUS 2 0 3) with twin := { svc.twin with lag := 8 } }, by decide⟩

set_option maxRecDepth 100000 in
theorem meets_twinCopyApply : ∃ c : CopyImage, ∃ d : Dev, (c.handover = false) ∧ (d.shellRuns = true ∧ d.twin.copy = some c ∧ d.twin.copyAt + 1 = d.pip ∧ d.lsw.lastFrame ≠ d.osc ∧ (d.twinState = 2 ∨ d.twinState = 3)) :=
  ⟨{ pip := 0, epoch := 0, bulk := true, handover := false, regs := [], shadow := [], out := OutUnit.reset, bill := Bill.reset, lanes := [], mesh := Mesh.reset, osc := 0, active := [], staging := [], fram := [], flights := [], seqs := [], kern := [(0, .iBreak 0 20 0)], owed := 0 }, { { ((svc.setBit Reg.TWIN_CFG 16 true).setFld Reg.TWIN_STATUS 2 0 2) with twin := { svc.twin with copy := some { pip := 0, epoch := 0, bulk := true, handover := false, regs := [], shadow := [], out := OutUnit.reset, bill := Bill.reset, lanes := [], mesh := Mesh.reset, osc := 0, active := [], staging := [], fram := [], flights := [], seqs := [], kern := [(0, .iBreak 0 20 0)], owed := 0 }, copyAt := 999999 } } with pip := 1000000, osc := 1000000 }, by decide⟩

set_option maxRecDepth 100000 in
theorem meets_twinSyncComplete : ∃ p : Peer, ∃ d : Dev, (d.shellRuns = true ∧ d.twin.peer = some p ∧ d.twinState = 2 ∧ d.syncCause p = 0 ∧ d.twin.bulk = true ∧ 400 ≤ d.twin.run ∧ d.rbit Reg.TWIN_POD_STATUS 2 = true) :=
  ⟨{ serial := [], role := 1, state := 2, epoch := 0, fmt := svc.copyFormat, cfgCrc := 0, keyMap := svc.keyMap, hold := true, aligned := true, pip := 0 }, { ((((svc.setBit Reg.TWIN_CFG 16 true).setFld Reg.TWIN_STATUS 2 0 2).setBit Reg.TWIN_POD_STATUS 2 true).setBit Reg.LSW_CFG 1 true).setBit Reg.TIME_STATUS 8 true with twin := { svc.twin with peer := some { serial := [], role := 1, state := 2, epoch := 0, fmt := svc.copyFormat, cfgCrc := 0, keyMap := svc.keyMap, hold := true, aligned := true, pip := 0 }, bulk := true, run := 400 } }, ⟨by decide, rfl, by decide, by
    unfold Dev.syncCause
    rw [if_neg (by decide), if_neg (by rw [Bool.and_eq_true]; exact fun h => absurd rfl (of_decide_eq_true h.1)), if_neg (by decide), if_neg (by decide)], by decide⟩⟩

set_option maxRecDepth 100000 in
theorem meets_twinSearchTimeout : ∃ d : Dev, (d.shellRuns = true ∧ d.twinState = 1 ∧ d.twin.searchAt + (if d.roleB = true then 2 else 1) * d.fld Reg.TWIN_CFG 15 0 ≤ d.pip ∧ d.rbit Reg.TWIN_POD_STATUS 2 = false ∧ d.twin.notice = none ∧ d.twin.lastEdge = none) :=
  ⟨{ { ((svc.setBit Reg.TWIN_CFG 16 true).setFld Reg.TWIN_STATUS 2 0 1) with twin := { svc.twin with searchAt := 0 } } with pip := 1000000, osc := 1000000 }, by decide⟩

set_option maxRecDepth 100000 in
theorem meets_epochNoticeTx : ∃ d : Dev, (d.shellRuns = true ∧ d.ethRuns = true ∧ d.twinEn = true ∧ d.rbit Reg.TWIN_CFG 17 = true ∧ d.twin.noticeAt + 40 ≤ d.pip) :=
  ⟨{ (((svc.setBit Reg.TWIN_CFG 16 true).setFld Reg.TWIN_STATUS 2 0 4).setBit Reg.TWIN_CFG 17 true) with pip := 1000000, osc := 1000000 }, by decide⟩

set_option maxRecDepth 100000 in
theorem meets_epochNoticeRx : ∃ ip : BitVec 32, ∃ b : List Byte, ∃ d : Dev, (b.length = 16) ∧ (b.take 4 = [0x4B, 0x42, 0x54, 0x4E]) ∧ (num b 12 4 = (crc32c (b.take 12)).toNat) ∧ (d.shellRuns = true ∧ d.ethRuns = true ∧ d.twinEn = true ∧ d.rbit Reg.TWIN_CFG 17 = true ∧ ip.toNat = d.rn Reg.TWIN_PEER_IP ∧ d.rn Reg.TWIN_EPOCH ≤ num b 4 4 ∧ d.twinState ≠ 4) :=
  ⟨0, noticeBytes, ((svc.setBit Reg.TWIN_CFG 16 true).setFld Reg.TWIN_STATUS 2 0 2).setBit Reg.TWIN_CFG 17 true, by decide⟩

set_option maxRecDepth 100000 in
theorem meets_twinLiveInEdge : ∃ d : Dev, (d.shellRuns = true ∧ d.twinEn = true) :=
  ⟨((svc.setBit Reg.TWIN_CFG 16 true).setFld Reg.TWIN_STATUS 2 0 4), by decide⟩

set_option maxRecDepth 100000 in
theorem meets_readerPollCycle : ∃ _cards : List CardSeen, ∃ start : Nat, ∃ d : Dev, (d.shellRuns = true ∧ d.iface = true ∧ d.rbit Reg.TAG_CTRL 0 = true ∧ d.mode ≠ .boot ∧ d.tag.cycle = some start ∧ (d.tag.here ≠ [] ∨ start + 20 ≤ d.pip)) :=
  ⟨[], 999980, { { (svc.setBit Reg.TAG_STATUS 8 true).setBit Reg.TAG_CTRL 0 true with tag := { svc.tag with cycle := some 999980 } } with pip := 1000000, osc := 1000000 }, by decide⟩

set_option maxRecDepth 100000 in
theorem meets_tagActivation : ∃ _r : BitVec 24, ∃ d : Dev, (d.tag.fe.ant = true ∧ d.rbit Reg.TAG_CTRL 1 = true) :=
  ⟨0, ({ (svc.setBit Reg.TAG_STATUS 8 true) with tag := { svc.tag with fe := { svc.tag.fe with ant := true, field := true, selected := true } } } : Dev).setBit Reg.TAG_CTRL 1 true, by decide⟩

set_option maxRecDepth 100000 in
theorem meets_tagApdu : ∃ d : Dev, (d.tag.fe.ant = true ∧ d.rbit Reg.TAG_CTRL 1 = true ∧ d.tag.fe.field = true) :=
  ⟨(({ svc with tag := { svc.tag with fe := { svc.tag.fe with ant := true, field := true, session := true, fsd := 256, selected := true } } } : Dev).setBit Reg.TAG_CTRL 1 true), by decide⟩

set_option maxRecDepth 100000 in
theorem meets_tagApdu_2 : ∃ d : Dev, (d.tag.fe.ant = true ∧ d.rbit Reg.TAG_CTRL 1 = true ∧ d.tag.fe.field = true) :=
  ⟨(({ svc with tag := { svc.tag with fe := { svc.tag.fe with ant := true, field := true, session := true, fsd := 256, selected := true } } } : Dev).setBit Reg.TAG_CTRL 1 true), by decide⟩

set_option maxRecDepth 100000 in
theorem meets_tagApdu_3 : ∃ fsdi : Nat, ∃ _cid : Nat, ∃ d : Dev, (fsdi ≤ 8) ∧ (d.tag.fe.ant = true ∧ d.rbit Reg.TAG_CTRL 1 = true ∧ d.tag.fe.field = true) :=
  ⟨8, 15, (({ svc with tag := { svc.tag with fe := { svc.tag.fe with ant := true, field := true, session := true, fsd := 256, selected := true } } } : Dev).setBit Reg.TAG_CTRL 1 true), by decide⟩

set_option maxRecDepth 100000 in
theorem meets_tagApdu_4 : ∃ cid : Bool, ∃ nad : Bool, ∃ _a : List Byte, ∃ _d : Dev, ((cid = true ∨ nad = true)) ∧ True :=
  ⟨true, false, [], (({ svc with tag := { svc.tag with fe := { svc.tag.fe with ant := true, field := true, session := true, fsd := 256, selected := true } } } : Dev).setBit Reg.TAG_CTRL 1 true), by decide⟩

set_option maxRecDepth 100000 in
theorem meets_tagApdu_5 : ∃ d : Dev, (d.tag.fe.ant = true ∧ d.rbit Reg.TAG_CTRL 1 = true ∧ d.tag.fe.field = true ∧ d.tag.accs.any FramAcc.isField = true ∧ d.tag.hold.isSome = true) :=
  ⟨(({ svc with tag := { svc.tag with hold := some 0, accs := [.field []], fe := { svc.tag.fe with ant := true, field := true, session := true, fsd := 256 } } } : Dev).setBit Reg.TAG_CTRL 1 true), by decide⟩

set_option maxRecDepth 100000 in
theorem meets_tagApdu_6 : ∃ a : List Byte, ∃ d : Dev, (num a 0 1 ≠ 0) ∧ (d.tag.fe.ant = true ∧ d.rbit Reg.TAG_CTRL 1 = true ∧ d.tag.fe.field = true ∧ d.tag.fe.session = true ∧ d.tag.accs.any FramAcc.isField = false) :=
  ⟨[1], (({ svc with tag := { svc.tag with fe := { svc.tag.fe with ant := true, field := true, session := true, fsd := 256, selected := true } } } : Dev).setBit Reg.TAG_CTRL 1 true), by decide⟩

set_option maxRecDepth 100000 in
theorem meets_tagApdu_7 : ∃ a : List Byte, ∃ d : Dev, (num a 0 1 = 0) ∧ (num a 1 1 = 0xB0) ∧ (beNat ((a.drop 2).take 2) ≤ 0x3FFF) ∧ (d.tag.fe.ant = true ∧ d.rbit Reg.TAG_CTRL 1 = true ∧ d.tag.fe.field = true ∧ d.tag.fe.session = true ∧ d.tag.fe.selected = true ∧ d.tag.hold = none ∧ d.tag.accs = [] ∧ d.tag.serving = false) :=
  ⟨[0, 0xB0, 0x3F, 0xFF, 4], (({ svc with tag := { svc.tag with fe := { svc.tag.fe with ant := true, field := true, session := true, fsd := 256, selected := true } } } : Dev).setBit Reg.TAG_CTRL 1 true), by decide⟩

set_option maxRecDepth 100000 in
theorem meets_framHoldCut : ∃ _lines : Nat, ∃ h : Nat, ∃ d : Dev, (d.tag.hold = some h ∧ h + 80 ≤ d.pip) :=
  ⟨1, 0, { { svc with tag := { svc.tag with hold := some 0, serving := true, accs := [.write 1 60 [1, 2, 3, 4, 5, 6, 7, 8], .read 2 0 4, .field [0, 1]] } } with pip := 1000000, osc := 1000000 }, by decide⟩

set_option maxRecDepth 100000 in
theorem meets_framHoldCut_2 : ∃ _lines : Nat, ∃ h : Nat, ∃ id : Nat, ∃ off : Nat, ∃ data : List Byte, ∃ d : Dev, (d.tag.hold = some h ∧ h + 80 ≤ d.pip ∧ d.tag.serving = true ∧ d.tag.accs = [.write id off data]) :=
  ⟨1, 0, 1, 60, [1, 2, 3, 4, 5, 6, 7, 8], { { svc with tag := { svc.tag with hold := some 0, serving := true, accs := [.write 1 60 [1, 2, 3, 4, 5, 6, 7, 8]] } } with pip := 1000000, osc := 1000000 }, by decide⟩

set_option maxRecDepth 100000 in
theorem meets_passportWrite : ∃ d : Dev, (d.shellRuns = true ∧ d.passportStale = true ∧ d.tag.accs = []) :=
  ⟨svc, by decide⟩

set_option maxRecDepth 100000 in
theorem meets_keypadScan : ∃ keys : List (Fin 16), ∃ d : Dev, (3 ≤ keys.length) ∧ (d.shellRuns = true ∧ d.iface = true ∧ d.rbit Reg.TAG_CTRL 2 = true ∧ d.mode ≠ .boot ∧ d.tag.scanAt ≤ d.pip) :=
  ⟨[1, 2, 3], (svc.setBit Reg.TAG_STATUS 8 true).setBit Reg.TAG_CTRL 2 true, by decide⟩

set_option maxRecDepth 100000 in
theorem meets_keypadScan_2 : ∃ k : Fin 16, ∃ d : Dev, (d.shellRuns = true ∧ d.iface = true ∧ d.rbit Reg.TAG_CTRL 2 = true ∧ d.mode ≠ .boot ∧ d.tag.scanAt ≤ d.pip ∧ d.tag.down = none ∧ d.fld Reg.TAG_KP_CFG 3 0 ≤ tget 0 d.tag.agree k + 1) :=
  ⟨15, { ((svc.setBit Reg.TAG_STATUS 8 true).setBit Reg.TAG_CTRL 2 true) with tag := { svc.tag with agree := tset 0 [] 15 20 } }, by decide⟩

set_option maxRecDepth 100000 in
theorem meets_keypadScan_3 : ∃ k : Fin 16, ∃ d : Dev, (d.shellRuns = true ∧ d.iface = true ∧ d.rbit Reg.TAG_CTRL 2 = true ∧ d.mode ≠ .boot ∧ d.tag.scanAt ≤ d.pip ∧ d.tag.down = none ∧ tget 0 d.tag.agree k + 1 < d.fld Reg.TAG_KP_CFG 3 0) :=
  ⟨15, ((svc.setBit Reg.TAG_STATUS 8 true).setBit Reg.TAG_CTRL 2 true).setFld Reg.TAG_KP_CFG 3 0 3, by decide⟩

set_option maxRecDepth 100000 in
theorem meets_keypadScan_4 : ∃ d : Dev, (d.shellRuns = true ∧ d.iface = true ∧ d.rbit Reg.TAG_CTRL 2 = true ∧ d.mode ≠ .boot ∧ d.tag.scanAt ≤ d.pip ∧ d.tag.down = none) :=
  ⟨((svc.setBit Reg.TAG_STATUS 8 true).setBit Reg.TAG_CTRL 2 true), by decide⟩

set_option maxRecDepth 100000 in
theorem meets_keypadScan_5 : ∃ k : Nat, ∃ keys : List (Fin 16), ∃ d : Dev, (keys.length < 3) ∧ ((∀ x ∈ keys, x.val ≠ k)) ∧ (d.shellRuns = true ∧ d.iface = true ∧ d.rbit Reg.TAG_CTRL 2 = true ∧ d.mode ≠ .boot ∧ d.tag.scanAt ≤ d.pip ∧ d.tag.down = some k ∧ d.fld Reg.TAG_KP_CFG 3 0 ≤ tget 0 d.tag.agree k + 1) :=
  ⟨3, [], { ((svc.setBit Reg.TAG_STATUS 8 true).setBit Reg.TAG_CTRL 2 true) with tag := { svc.tag with down := some 3, agree := tset 0 [] 3 20 } }, by decide⟩

set_option maxRecDepth 100000 in
theorem meets_keypadEntryTimeout : ∃ d : Dev, (d.shellRuns = true ∧ d.tag.entry ≠ 0 ∧ d.tag.keyAt + d.fld Reg.TAG_KP_CFG 15 8 * 4000 < d.pip) :=
  ⟨{ { svc with tag := { svc.tag with entry := 1 } } with pip := 1000000, osc := 1000000 }, by decide⟩

set_option maxRecDepth 100000 in
theorem meets_keypadSelectionExpiry : ∃ d : Dev, (d.shellRuns = true ∧ d.fld Reg.TAG_KP_STATUS 23 16 ≠ 0xFF ∧ d.tag.selTill ≤ d.pip) :=
  ⟨{ svc.setFld Reg.TAG_KP_STATUS 23 16 4 with pip := 1000000, osc := 1000000 }, by decide⟩

set_option maxRecDepth 100000 in
theorem meets_framAccessComplete : ∃ id : Nat, ∃ off : Nat, ∃ len : Nat, ∃ rest : List FramAcc, ∃ d : Dev, (d.tag.serving = true ∧ d.tag.accs = .read id off len :: rest) :=
  ⟨1, 0x3FFF, 1, [], { svc with tag := { svc.tag with serving := true, accs := [.read 1 0x3FFF 1] } }, by decide⟩

set_option maxRecDepth 100000 in
theorem meets_framAccessComplete_2 : ∃ id : Nat, ∃ off : Nat, ∃ data : List Byte, ∃ rest : List FramAcc, ∃ d : Dev, (d.tag.serving = true ∧ d.tag.accs = .write id off data :: rest) :=
  ⟨1, 0x3FFF, [9], [], { svc with tag := { svc.tag with serving := true, accs := [.write 1 0x3FFF [9]] } }, by decide⟩

set_option maxRecDepth 100000 in
theorem meets_cardAnswer : ∃ e : CardExch, ∃ d : Dev, (e.stage = .wupa) ∧ (d.shellRuns = true ∧ d.tag.exch = some e ∧ d.pip < e.start + 392 ∧ d.pip < e.since + 4) :=
  ⟨{ id := 1, uid := [1, 2, 3, 4], apdu := [], start := 999900, stage := .wupa, fwi := 4, fsc := 256, since := 999999, mult := 1, nak := false, got := [0x6A] }, { { svc with tag := { svc.tag with exch := some { id := 1, uid := [1, 2, 3, 4], apdu := [], start := 999900, stage := .wupa, fwi := 4, fsc := 256, since := 999999, mult := 1, nak := false, got := [0x6A] } } } with pip := 1000000, osc := 1000000 }, by decide⟩

set_option maxRecDepth 100000 in
theorem meets_cardAnswer_2 : ∃ e : CardExch, ∃ d : Dev, (e.stage = .select) ∧ (d.shellRuns = true ∧ d.tag.exch = some e ∧ d.pip < e.start + 392 ∧ d.pip < e.since + 4) :=
  ⟨{ id := 1, uid := [1, 2, 3, 4], apdu := [], start := 999900, stage := .select, fwi := 4, fsc := 256, since := 999999, mult := 1, nak := false, got := [0x6A] }, { { svc with tag := { svc.tag with exch := some { id := 1, uid := [1, 2, 3, 4], apdu := [], start := 999900, stage := .select, fwi := 4, fsc := 256, since := 999999, mult := 1, nak := false, got := [0x6A] } } } with pip := 1000000, osc := 1000000 }, by decide⟩

set_option maxRecDepth 100000 in
theorem meets_cardAnswer_3 : ∃ r : List Byte, ∃ e : CardExch, ∃ d : Dev, (e.stage = .blocks) ∧ (e.apdu = []) ∧ (e.got.length + r.length ≤ 256) ∧ (d.shellRuns = true ∧ d.tag.exch = some e ∧ d.waitOver e = false) :=
  ⟨[0x90, 0x00], { id := 1, uid := [1, 2, 3, 4], apdu := [], start := 999900, stage := .blocks, fwi := 4, fsc := 256, since := 999999, mult := 1, nak := false, got := [0x6A] }, { { svc with tag := { svc.tag with exch := some { id := 1, uid := [1, 2, 3, 4], apdu := [], start := 999900, stage := .blocks, fwi := 4, fsc := 256, since := 999999, mult := 1, nak := false, got := [0x6A] } } } with pip := 1000000, osc := 1000000 }, by decide⟩

set_option maxRecDepth 100000 in
theorem meets_cardAnswer_4 : ∃ r : List Byte, ∃ e : CardExch, ∃ d : Dev, (e.stage = .blocks) ∧ (e.apdu = []) ∧ (e.got.length + r.length ≤ 256) ∧ (d.shellRuns = true ∧ d.tag.exch = some e ∧ d.waitOver e = false) :=
  ⟨[0x90, 0x00], { id := 1, uid := [1, 2, 3, 4], apdu := [], start := 999900, stage := .blocks, fwi := 4, fsc := 256, since := 999999, mult := 1, nak := false, got := [0x6A] }, { { svc with tag := { svc.tag with exch := some { id := 1, uid := [1, 2, 3, 4], apdu := [], start := 999900, stage := .blocks, fwi := 4, fsc := 256, since := 999999, mult := 1, nak := false, got := [0x6A] } } } with pip := 1000000, osc := 1000000 }, by decide⟩

set_option maxRecDepth 100000 in
theorem meets_cardAnswer_5 : ∃ _a : CardIn, ∃ e : CardExch, ∃ d : Dev, (d.shellRuns = true ∧ d.tag.exch = some e ∧ e.start + 392 ≤ d.pip) :=
  ⟨.ack, { id := 1, uid := [1, 2, 3, 4], apdu := [], start := 5, stage := .blocks, fwi := 4, fsc := 256, since := 999999, mult := 1, nak := false, got := [0x6A] }, { { svc with tag := { svc.tag with exch := some { id := 1, uid := [1, 2, 3, 4], apdu := [], start := 5, stage := .blocks, fwi := 4, fsc := 256, since := 999999, mult := 1, nak := false, got := [0x6A] } } } with pip := 1000000, osc := 1000000 }, by decide⟩

set_option maxRecDepth 100000 in
theorem meets_cardWaitExpiry : ∃ e : CardExch, ∃ d : Dev, (d.shellRuns = true ∧ d.tag.exch = some e ∧ e.start + 392 ≤ d.pip) :=
  ⟨{ id := 1, uid := [1, 2, 3, 4], apdu := [], start := 5, stage := .blocks, fwi := 4, fsc := 256, since := 999999, mult := 1, nak := false, got := [0x6A] }, { { svc with tag := { svc.tag with exch := some { id := 1, uid := [1, 2, 3, 4], apdu := [], start := 5, stage := .blocks, fwi := 4, fsc := 256, since := 999999, mult := 1, nak := false, got := [0x6A] } } } with pip := 1000000, osc := 1000000 }, by decide⟩

set_option maxRecDepth 100000 in
theorem meets_tagFieldDrop : ∃ _d : Dev, True :=
  ⟨svc, by decide⟩

set_option maxRecDepth 100000 in
theorem meets_burrLineFire : ∃ t : BitVec 5, ∃ _away : Nat, ∃ d : Dev, (t.toNat &&& d.fld Reg.KEY_TAMPER_ARMED 4 0 ≠ 0) :=
  ⟨16, 8, svc.setFld Reg.KEY_TAMPER_ARMED 4 0 16, by decide⟩

set_option maxRecDepth 100000 in
theorem meets_fwuTrialExpiry : ∃ t : Nat, ∃ d : Dev, (d.shellRuns = true ∧ d.trial = true ∧ d.fwu.trialAt = some t ∧ t + d.fld Reg.FWU_CFG 23 0 ≤ d.pip ∧ d.sys.resetReq = none) :=
  ⟨0, { svc.setBit Reg.FWU_STATUS 4 true with pip := 20000000, fwu := { svc.fwu with trialAt := some 0 } }, by decide⟩

set_option maxRecDepth 100000 in
theorem meets_mbistRowTest : ∃ d : Dev, (d.shellRuns = true ∧ d.rbit Reg.MEM_CTRL 1 = true ∧ d.mem.rowAt ≤ d.pip) :=
  ⟨svc.setBit Reg.MEM_CTRL 1 true, by decide⟩

set_option maxRecDepth 100000 in
theorem meets_mbistRowTest_2 : ∃ _w : Fin 16, ∃ _b : Fin 72, ∃ d : Dev, (d.shellRuns = true ∧ d.rbit Reg.MEM_CTRL 1 = true ∧ d.mem.rowAt ≤ d.pip) :=
  ⟨15, 71, svc.setBit Reg.MEM_CTRL 1 true, by decide⟩

set_option maxRecDepth 100000 in
theorem meets_lbistChainTest : ∃ _sig : Word, ∃ _bit : Nat, ∃ d : Dev, (d.shellRuns = true ∧ d.rbit Reg.MEM_CTRL 0 = true ∧ d.mem.waits = false ∧ d.mem.slice ≠ some d.pip ∧ d.pip % max 1 (d.fld Reg.MEM_LBIST_CFG 15 0) = 0) :=
  ⟨0, 0, { svc.setBit Reg.MEM_CTRL 0 true with mem := { svc.mem with waits := false } }, by decide⟩

set_option maxRecDepth 100000 in
theorem meets_lbistRetest : ∃ x : LbistSig, ∃ c : Nat, ∃ rest : List Nat, ∃ d : Dev, (x.sig = Config.lbistSignature c) ∧ (d.shellRuns = true ∧ d.mem.retest = c :: rest) :=
  ⟨{ sig := Config.lbistSignature 2398, bit := 5 }, 2398, [], { svc with mem := { svc.mem with retest := [2398] } }, ⟨rfl, by decide, rfl⟩⟩

set_option maxRecDepth 100000 in
theorem meets_sramCorrectableError : ∃ _m : Fin 3, ∃ _a : Nat, ∃ _d : Dev, True :=
  ⟨2, 0, svc, by decide⟩

set_option maxRecDepth 100000 in
theorem meets_sramUncorrectableError : ∃ _m : Fin 3, ∃ _a : Nat, ∃ _d : Dev, True :=
  ⟨2, 0, svc, by decide⟩

set_option maxRecDepth 100000 in
theorem meets_sramUncorrectableError_2 : ∃ _m : Fin 3, ∃ _a : Nat, ∃ _d : Dev, True :=
  ⟨2, 0, svc, by decide⟩

set_option maxRecDepth 100000 in
theorem meets_flashRefresh : ∃ _d : Dev, True :=
  ⟨svc, by decide⟩

set_option maxRecDepth 100000 in
theorem meets_flashUncorrectable : ∃ _b : Nat, ∃ _d : Dev, True :=
  ⟨0, svc, by decide⟩

set_option maxRecDepth 100000 in
theorem meets_keyOperationComplete : ∃ n : Fin 64, ∃ i : Nat, ∃ o : KeyOp, ∃ d : Dev, (o.blob = none) ∧ (o.forget = false) ∧ (o.load = true) ∧ (d.shellRuns = true ∧ d.key.ops.find? (fun x => x.1 = n.val) = some (i, o)) :=
  ⟨63, 63, { id := 1, key := KeySlot.empty, blob := none, forget := false, reply := [], load := true, due := none }, { svc with key := { svc.key with ops := [(63, { id := 1, key := KeySlot.empty, blob := none, forget := false, reply := [], load := true, due := none })] } }, by decide⟩

set_option maxRecDepth 100000 in
theorem meets_cfgSaveComplete : ∃ id : Nat, ∃ l : List SavedBlock, ∃ d : Dev, (d.sys.save = some (id, l)) :=
  ⟨1, [], { svc with sys := { svc.sys with save := some (1, []) } }, by decide⟩

set_option maxRecDepth 100000 in
theorem meets_fwuCommandComplete : ∃ id : Nat, ∃ st : Nat, ∃ pl : List Byte, ∃ d : Dev, (d.fwu.busy = some (id, st, pl)) :=
  ⟨1, 0, [], { svc with fwu := { svc.fwu with busy := some (1, 0, []) } }, by decide⟩

set_option maxRecDepth 100000 in
theorem meets_powerOnReset : ∃ _a : Bool, ∃ _b : Bool, ∃ _x : Straps, ∃ _d : Dev, True :=
  ⟨true, false, { role := true, sprout := false, hostsel := true }, svc, by decide⟩

set_option maxRecDepth 100000 in
theorem meets_boot : ∃ i : BootIn, ∃ d : Dev, (d.mode = .boot ∧ d.sys.inReset = false ∧ d.sys.coldClk = false ∧ ((d.bootClocks i).bootChoice i).1.isSome = true) :=
  ⟨{ badA := false, badB := false, lost := 0, refInput := true, antenna := true, spareFails := [], carryBad := false, unwatched := false, tripped := 0 }, { Dev.reset with sys := { svc.sys with resetCause := 3, coldClk := false } }, by decide⟩

set_option maxRecDepth 100000 in
theorem meets_feedGood : ∃ f : Bool, ∃ d : Dev, (d.rbit Reg.SYS_POWER_STATUS (feedBit (!f)) = false) :=
  ⟨true, svc, by decide⟩

set_option maxRecDepth 100000 in
theorem meets_feedLost : ∃ f : Bool, ∃ d : Dev, (d.rbit Reg.SYS_POWER_STATUS (feedBit f) = true ∧ d.rbit Reg.SYS_POWER_STATUS (feedBit (!f)) = true ∧ d.rbit Reg.SYS_FEED_CFG 0 = true ∧ d.rbit Reg.SYS_FEED_CFG 1 = true) :=
  ⟨true, (((svc.setBit Reg.SYS_POWER_STATUS 2 true).setBit Reg.SYS_POWER_STATUS 3 true).setBit Reg.SYS_FEED_CFG 0 true).setBit Reg.SYS_FEED_CFG 1 true, by decide⟩

set_option maxRecDepth 100000 in
theorem meets_feedLossClear : ∃ d : Dev, (d.rbit Reg.SYS_DEGRADE_CAUSE 0 = true ∧ d.sys.bothGoodSince.any (fun t => t + 4000 ≤ d.pip) = true) :=
  ⟨{ { svc.setBit Reg.SYS_DEGRADE_CAUSE 0 true with sys := { svc.sys with bothGoodSince := some 5 } } with pip := 1000000, osc := 1000000 }, by decide⟩

set_option maxRecDepth 100000 in
theorem meets_powerFail : ∃ _lines : Nat, ∃ d : Dev, (d.rbit Reg.SYS_POWER_STATUS 5 = false) :=
  ⟨0, svc, by decide⟩

set_option maxRecDepth 100000 in
theorem meets_holdupCollapse : ∃ d : Dev, (d.rbit Reg.SYS_POWER_STATUS 5 = true ∧ (d.kern.pfail = false ∨ d.kern.commitOk = false)) :=
  ⟨svc.setBit Reg.SYS_POWER_STATUS 5 true, by decide⟩

set_option maxRecDepth 100000 in
theorem meets_powerFailReset : ∃ d : Dev, (d.rbit Reg.SYS_POWER_STATUS 5 = true ∧ d.kern.pfail = true ∧ d.kern.commitOk = true ∧ d.sys.node175Since.any (fun t => t + 80 ≤ d.pip) = true) :=
  ⟨{ { svc.setBit Reg.SYS_POWER_STATUS 5 true with kern := { svc.kern with pfail := true, commitOk := true }, sys := { svc.sys with node175Since := some 5 } } with pip := 1000000, osc := 1000000 }, by decide⟩

set_option maxRecDepth 100000 in
theorem meets_resetNPin : ∃ d : Dev, (d.sys.pfReset = false) :=
  ⟨svc, by decide⟩

set_option maxRecDepth 100000 in
theorem meets_resetNPin_2 : ∃ _low : Bool, ∃ d : Dev, (d.sys.pfReset = true) :=
  ⟨true, { svc with sys := { svc.sys with pfReset := true } }, by decide⟩

set_option maxRecDepth 100000 in
theorem meets_resetNPin_3 : ∃ d : Dev, (d.sys.pfReset = false ∧ d.sys.inReset = true) :=
  ⟨{ svc with sys := { svc.sys with inReset := true } }, by decide⟩

set_option maxRecDepth 100000 in
theorem meets_internalWatchdogExpiry : ∃ d : Dev, (d.sys.inReset = false ∧ d.sys.wdtAt + (if d.mode = .boot then 8000 else d.fld Reg.SYS_WDT_CFG 11 0) ≤ d.osc) :=
  ⟨{ svc with osc := 1000000 }, by decide⟩

set_option maxRecDepth 100000 in
theorem meets_refclkFail : ∃ d : Dev, (d.rbit Reg.SYS_CLK_STATUS 28 = false ∧ d.sys.coldClk = false) :=
  ⟨{ svc with sys := { svc.sys with coldClk := false } }, by decide⟩

set_option maxRecDepth 100000 in
theorem meets_refclkFail_2 : ∃ d : Dev, (d.rbit Reg.SYS_CLK_STATUS 28 = true ∧ d.sys.coldClk = false) :=
  ⟨{ svc.setBit Reg.SYS_CLK_STATUS 28 true with sys := { svc.sys with coldClk := false } }, by decide⟩

set_option maxRecDepth 100000 in
theorem meets_refclkFail_3 : ∃ d : Dev, (d.sys.coldClk = true) :=
  ⟨{ svc with sys := { svc.sys with coldClk := true } }, by decide⟩

set_option maxRecDepth 100000 in
theorem meets_pllRelock : ∃ d : Dev, (d.rbit Reg.SYS_CLK_STATUS 28 = true ∧ 4000 ≤ d.sys.refValid) :=
  ⟨{ svc.setBit Reg.SYS_CLK_STATUS 28 true with sys := { svc.sys with refValid := 4000 } }, by decide⟩

set_option maxRecDepth 100000 in
theorem meets_clkMuxHang : ∃ _i : Fin 7, ∃ _d : Dev, True :=
  ⟨6, svc, by decide⟩

set_option maxRecDepth 100000 in
theorem meets_podFrameRx_4 : ∃ f : PodOut, ∃ d : Dev, (d.shellRuns = true ∧ d.twinEn = true ∧ d.rbit Reg.TWIN_POD_STATUS 2 = true ∧ f.epoch < d.rn Reg.TWIN_EPOCH) :=
  ⟨{ epoch := 0, pip := 0, state := 4, aligned := true, copy := none, short := false, ack := false, adv := [], fwd := [] }, (((svc.setBit Reg.TWIN_CFG 16 true).setFld Reg.TWIN_STATUS 2 0 4).setBit Reg.TWIN_POD_STATUS 2 true).wn Reg.TWIN_EPOCH 1, by decide⟩

set_option maxRecDepth 100000 in
theorem meets_epochNoticeRx_2 : ∃ ip : BitVec 32, ∃ b : Bytes, ∃ d : Dev, (b.length = 16) ∧ (b.take 4 = [0x4B, 0x42, 0x54, 0x4E]) ∧ (num b 12 4 = (crc32c (b.take 12)).toNat) ∧ (d.shellRuns = true ∧ d.ethRuns = true ∧ d.twinEn = true ∧ d.rbit Reg.TWIN_CFG 17 = true ∧ ip.toNat = d.rn Reg.TWIN_PEER_IP ∧ num b 4 4 < d.rn Reg.TWIN_EPOCH) :=
  ⟨0, noticeBytes, (((svc.setBit Reg.TWIN_CFG 16 true).setFld Reg.TWIN_STATUS 2 0 4).setBit Reg.TWIN_CFG 17 true).wn Reg.TWIN_EPOCH 1, by decide⟩

/-! ### Hypotheses met: the fabric and the block as a whole -/

/-- The state of reset with a device. -/
def stateOf (d : Dev) : State := { State.reset with dev := d }
/-- A device whose host speaks over UDP (R76). -/
def udpDev : Dev := svc.setBit Reg.SYS_STRAPS 2 true
/-- A state with one buffer to take. -/
def received (b : Bytes) : State := { stateOf svc with fab := { State.reset.fab with rxBufs := [b] } }
/-- A state with one command in flight. -/
def flying (op : Nat) (p : Bytes) (ph : Phase) : State :=
  { stateOf svc with fab := { State.reset.fab with flights := [{ cmd := cmdOf (stateOf svc) hdr op p, phase := ph }], nextId := 5 } }
/-- A header with a launch pip. -/
def later : Hdr := { hdr with launch := 400 }
/-- A reply of FAB_NOP. -/
def aReply : Reply := rejection (stateOf svc) hdr 0x0108 0x11 []
/-- A command without launch pip. -/
def aCmd (op : Nat) (p : Bytes) : Cmd := cmdOf (stateOf svc) hdr op p

set_option maxRecDepth 100000 in
theorem meets_fabCommit : Admitted (stateOf svc) hdr 0x0104 [0, 0, 1, 0] ∧ maskOk (num ([0, 0, 1, 0] : Bytes) 0 4) = true := by decide
set_option maxRecDepth 100000 in
theorem meets_fabCancel : ∃ (s : State) (p : Bytes) (x : Flight), Admitted s hdr 0x0106 p ∧ p.length = 4 ∧ num p 1 1 = 0 ∧ num p 0 1 ≤ 31 ∧
    (begun s hdr 0x0106 p).fab.flights.find? (fun x => x.cmd.queue = num p 0 1 && x.cmd.tag = num p 2 2 && x.phase == .waitLaunch) = some x :=
  let s : State := { stateOf svc with fab := { State.reset.fab with flights := [{ cmd := { aCmd 0x0108 [] with tag := 9 }, phase := .waitLaunch }], nextId := 5 } }
  ⟨s, [0, 0, 9, 0], { cmd := { aCmd 0x0108 [] with tag := 9 }, phase := .waitLaunch }, by decide⟩
set_option maxRecDepth 100000 in
theorem meets_replyRecall : ∃ (s : State) (p : Bytes) (r : Reply), Admitted s hdr 0x0107 p ∧ p.length = 8 ∧ num p 1 1 = 0 ∧ num p 6 2 = 0 ∧ num p 4 2 ≤ 1043 ∧
    (begun s hdr 0x0107 p).fab.history.find? (fun r => r.queue = num p 0 1 && r.tag = num p 2 2) = some r ∧ num p 4 2 < r.bytes.length :=
  ⟨{ stateOf svc with fab := { State.reset.fab with history := [aReply] } }, [0, 0, 7, 0, 0, 0, 0, 0], aReply, by decide⟩
set_option maxRecDepth 100000 in
theorem meets_memMbistRun : let s := withDefects (stateOf mt) hdr [{ spare := false, mem := 2, row := 5, word := 0, bit := 1 }]
    Admitted s hdr 0x0F03 [2, 0, 8, 0] ∧ Enabled.memMbistRun (startDev s hdr 0x0F03 [2, 0, 8, 0]) [2, 0, 8, 0] := by decide
set_option maxRecDepth 100000 in
/-- The row is met where no fuse takes the macro's spare rows: the fuses are a constant of the module. -/
theorem meets_memRepairAdd (hf : Config.fuseRows 2 0 < 10) :
    Admitted (stateOf mt) hdr 0x0F04 [2, 0, 255, 1] ∧ Enabled.memRepairAdd (startDev (stateOf mt) hdr 0x0F04 [2, 0, 255, 1]) [2, 0, 255, 1] := by
  have hr : (startDev (stateOf mt) hdr 0x0F04 [2, 0, 255, 1]).mem.repair = [] := by decide
  refine ⟨by decide, by decide, by decide, by decide, by decide, by decide, ?_, by decide⟩
  unfold Dev.sparesTaken
  rw [hr]
  exact hf
set_option maxRecDepth 100000 in
theorem meets_intervalBoundary : ∃ s : State, s.dev.kern.pfail = false ∧ s.dev.kern.lastBoundary < s.dev.kern.tariff.boundaryAt s.dev.kern.utc :=
  ⟨stateOf { svc with kern := { svc.kern with us := 86400000000 } }, by decide⟩
set_option maxRecDepth 100000 in
theorem meets_kernelCommandExecute : ∃ (s : State) (op : Nat) (p : Bytes) (id t : Nat) (rest : List KCmd), s.dev.kern.inbox = .host op p id t :: rest ∧ t < s.dev.kern.latches :=
  ⟨stateOf { svc with kern := { svc.kern with latches := 5, inbox := [.host 0x0311 [] 1 4] } }, 0x0311, [], 1, 4, [], by decide⟩
/-- The session task's commands: an opening carried out, one refused, a closing refused, an I_break. -/
def asked (k : KCmd) (inS : Bool) : State :=
  stateOf { svc with kern := { (svc.kern.setCh 31 fun c => { c with gangSession := if inS then 9 else 0 }) with latches := 5, inbox := [k] } }
set_option maxRecDepth 100000 in
theorem meets_sessOpen : ∃ (s : State) (n id t : Nat) (rest : List KCmd), s.dev.kern.inbox = .sessOpen n id t :: rest ∧ t < s.dev.kern.latches ∧ s.dev.kern.inSession n = false :=
  ⟨asked (.sessOpen 31 7 4) false, 31, 7, 4, [], by decide⟩
set_option maxRecDepth 100000 in
theorem meets_sessOpen_refused : ∃ (s : State) (n id t : Nat) (rest : List KCmd), s.dev.kern.inbox = .sessOpen n id t :: rest ∧ t < s.dev.kern.latches ∧ s.dev.kern.inSession n = true :=
  ⟨asked (.sessOpen 31 7 4) true, 31, 7, 4, [], by decide⟩
set_option maxRecDepth 100000 in
theorem meets_sessClose_refused : ∃ (s : State) (n t : Nat) (forced : Bool) (rest : List KCmd), s.dev.kern.inbox = .sessClose n forced t :: rest ∧ t < s.dev.kern.latches ∧ (s.dev.kern.ch n).session = none :=
  ⟨asked (.sessClose 31 true 4) false, 31, 4, true, [], by decide⟩
/-- A session of metering channel 31. -/
def aSession : KSession := { id := 9, outlet := 31, startUs := 0, startOfs := 0, startPip := 0, imp0 := 0, exp0 := 0, impAcc := 0, expAcc := 0, tImp0 := [], tExp0 := [], tariff0 := 0, switches := 0, flags := 0 }
set_option maxRecDepth 100000 in
theorem meets_sessClose : ∃ (s : State) (n t : Nat) (forced : Bool) (rest : List KCmd) (x : KSession), s.dev.kern.inbox = .sessClose n forced t :: rest ∧ t < s.dev.kern.latches ∧ (s.dev.kern.ch n).session = some x :=
  ⟨stateOf { svc with kern := { (svc.kern.setCh 31 fun c => { c with session := some aSession }) with latches := 5, inbox := [.sessClose 31 true 4] } }, 31, 4, true, [], aSession, by decide⟩
set_option maxRecDepth 100000 in
theorem meets_offsetChange : ∃ s : State, s.dev.kern.pfail = false ∧ (s.dev.kern.tariff.changes.any fun c => c.1 = s.dev.kern.utc) = true :=
  ⟨stateOf { svc with kern := { svc.kern with tariff := { svc.kern.tariff with changes := [(svc.kern.utc, 60)] } } }, by decide⟩
set_option maxRecDepth 100000 in
theorem meets_iBreak : ∃ (s : State) (n v t : Nat) (rest : List KCmd), s.dev.kern.inbox = .iBreak n v t :: rest ∧ t < s.dev.kern.latches :=
  ⟨asked (.iBreak 31 20 4) false, 31, 20, 4, [], by decide⟩
set_option maxRecDepth 100000 in
theorem meets_tb0Step : ∃ (s : State) (t : Nat) (delta : Int), s.dev.domainRuns 4 = true ∧ s.dev.time.pend = some (.agreed t delta) ∧ t ≤ s.dev.pip ∧ s.dev.pip % 4000 = 0 :=
  ⟨stateOf { svc with pip := 4000, time := { svc.time with pend := some (.agreed 4000 (-7)) } }, 4000, -7, by decide⟩
set_option maxRecDepth 100000 in
theorem signature_differs (c : Nat) : ~~~Config.lbistSignature c ≠ Config.lbistSignature c := by
  intro h
  have := congrArg (·.getLsbD 0) h
  simp at this
set_option maxRecDepth 100000 in
theorem meets_lbistChainTest_bad : ∃ (d : Dev) (sig : Word), d.shellRuns = true ∧ d.rbit Reg.MEM_CTRL 0 = true ∧ d.mem.waits = true ∧ d.mem.slice ≠ some d.pip ∧ d.fld Reg.MEM_LBIST_POS 11 0 < 2399 ∧
    sig ≠ Config.lbistSignature (d.fld Reg.MEM_LBIST_POS 11 0) :=
  ⟨{ svc.setBit Reg.MEM_CTRL 0 true with mem := { svc.mem with waits := true } }, _, by decide, by decide, by decide, by decide, by decide, signature_differs _⟩
set_option maxRecDepth 100000 in
theorem meets_lbistRetest_bad : ∃ (d : Dev) (x : LbistSig) (c : Nat) (rest : List Nat), x.sig ≠ Config.lbistSignature c ∧ d.shellRuns = true ∧ d.mem.retest = c :: rest :=
  ⟨{ svc with mem := { svc.mem with retest := [2398] } }, ⟨_, 7⟩, 2398, [], signature_differs _, by decide, rfl⟩

/-- A write of a register that R602 lets pass, on the device of a mode. -/
abbrev Written (d : Dev) (a : Nat) (v : Word) : Prop :=
  Admitted (stateOf d) hdr 0x0101 (oneWord a v) ∧ (begun (stateOf d) hdr 0x0101 (oneWord a v)).dev.wordStatus ((begun (stateOf d) hdr 0x0101 (oneWord a v)).dev.after [(a, v)]) a v 0xFFFFFFFF = 0
set_option maxRecDepth 100000 in
theorem meets_guardStateRequest : Written mt (Reg.GUARD_CH_CTRL 31) 0 := by decide
set_option maxRecDepth 100000 in
theorem meets_lswChannelCommand : Written mt (Reg.LSW_CH_CMD 79) 0 := by decide
set_option maxRecDepth 100000 in
theorem meets_meshEnable : Written (mt.wn Reg.MESH_NETWORK_ID 7) Reg.MESH_CTRL 1 := by decide
set_option maxRecDepth 100000 in
theorem meets_meshDisable : Written mt Reg.MESH_CTRL 0 := by decide
set_option maxRecDepth 100000 in
theorem meets_timePipOffsetWrite : Written mt Reg.TIME_PIP_OFFSET 3 := by decide
set_option maxRecDepth 100000 in
theorem meets_twinEnable : Written mt Reg.TWIN_CFG (mt.rd Reg.TWIN_CFG ||| 0x10000#32) := by decide
set_option maxRecDepth 100000 in
theorem meets_twinDisable : Written mt Reg.TWIN_CFG (mt.rd Reg.TWIN_CFG &&& 0xFFFEFFFF#32) := by decide
set_option maxRecDepth 100000 in
theorem meets_dispVpRestart : Written mt Reg.DISP_CTRL (0 ||| 2#32) ∧ Written mt Reg.DISP_CTRL (1 &&& 0xFFFFFFFD#32) := by decide
set_option maxRecDepth 100000 in
theorem meets_sysClkSelWrite : Written mt Reg.SYS_CLK_SEL 0x1555 := by decide
set_option maxRecDepth 100000 in
theorem meets_lswCfgWrite : Written mt (Reg.LSW_CH_CFG 79) (mt.rd (Reg.LSW_CH_CFG 79)) := by decide
set_option maxRecDepth 100000 in
theorem meets_guardModeWrite : Written mt (Reg.GUARD_CH_CFG 31) (mt.rd (Reg.GUARD_CH_CFG 31)) := by decide
set_option maxRecDepth 100000 in
theorem meets_outletTypeChange : Written mt (Reg.OUT_CFG 31) (mt.rd (Reg.OUT_CFG 31)) := by decide

set_option maxRecDepth 100000 in
theorem meets_PacketArrives : (stateOf udpDev).fabRuns = true ∧ (stateOf udpDev).udp = true ∧ udpDev.ethRuns = true ∧ udpDev.hears udpDev.ownAddr = true ∧ udpDev.rn Reg.FAB_UDP_PORT < 65536 ∧ (received (packetBytes hdr 0x0108 [1, 2])).fabRuns = true ∧
    (received (packetBytes hdr 0x0108 [1, 2])).udp = false ∧ (received (packetBytes hdr 0x0108 [1, 2])).fab.rxBufs = packetBytes hdr 0x0108 [1, 2] :: [] := by decide
set_option maxRecDepth 100000 in
/-- A module that is no twin's ACTIVE hears its own twin address beside the one it answers from; and a port it does not listen on. -/
theorem meets_PacketArrives_other : ∃ (d : Dev) (toIp : BitVec 32) (toPort : BitVec 16), (stateOf d).fabRuns = true ∧ (stateOf d).udp = true ∧ d.ethRuns = true ∧ toPort.toNat ≠ d.rn Reg.FAB_UDP_PORT ∧ d.hears toIp.toNat = true ∧ toIp.toNat ≠ d.ownAddr ∧
    (d.rn Reg.FAB_UDP_PEER = 0 ∨ hdr.ip.toNat = d.rn Reg.FAB_UDP_PEER) :=
  ⟨(udpDev.wn Reg.TWIN_OWN_IP 9).setBit Reg.TWIN_CFG 16 true, 9, 1, by decide⟩
set_option maxRecDepth 100000 in
/-- One bad packet for each clause: a wrong sync byte, a wrong length, a wrong CRC, a wrong version. -/
theorem meets_BadPackets : (∃ b : Bytes, b.head? ≠ some 0xB6 ∨ b.length < 16) ∧ (∃ b : Bytes, b.head? = some 0xB6 ∧ 16 ≤ b.length ∧ (b.length < 20 ∨ 1024 < num b 8 2 ∨ b.length ≠ 20 + num b 8 2)) ∧
    (∃ b : Bytes, b.head? = some 0xB6 ∧ num b 8 2 ≤ 1024 ∧ b.length = 20 + num b 8 2 ∧ num b (b.length - 4) 4 ≠ (crc32c (b.take (b.length - 4))).toNat) ∧
    (∃ b : Bytes, b.head? = some 0xB6 ∧ num b 8 2 ≤ 1024 ∧ b.length = 20 + num b 8 2 ∧ ¬ num b (b.length - 4) 4 ≠ (crc32c (b.take (b.length - 4))).toNat ∧ num b 1 1 ≠ 1) :=
  ⟨⟨[0], by decide⟩, ⟨0xB6 :: List.replicate 15 0, by decide⟩, ⟨0xB6 :: List.replicate 19 0, by decide⟩,
    ⟨(0xB6 :: 2 :: List.replicate 14 0) ++ leN (crc32c (0xB6 :: 2 :: List.replicate 14 0)).toNat 4, by decide⟩⟩
set_option maxRecDepth 100000 in
/-- Both ways in which a bad packet comes: out of a buffer, and as a datagram from the fabric's peer. -/
theorem meets_BadPackets_ways (b : Bytes) : ((received b).fabRuns = true ∧ (received b).udp = false ∧ (received b).fab.rxBufs = b :: []) ∧
    ((stateOf udpDev).fabRuns = true ∧ (stateOf udpDev).udp = true ∧ udpDev.ethRuns = true ∧ udpDev.hears udpDev.ownAddr = true ∧ udpDev.rn Reg.FAB_UDP_PEER = 0) :=
  have h : (stateOf svc).fabRuns = true ∧ (stateOf svc).udp = false := by decide
  ⟨⟨h.1, h.2, rfl⟩, by decide⟩
set_option maxRecDepth 100000 in
theorem meets_BadPackets_wrongPeer : ∃ (d : Dev) (from_ toIp : BitVec 32), (stateOf d).fabRuns = true ∧ (stateOf d).udp = true ∧ d.ethRuns = true ∧ d.hears toIp.toNat = true ∧ d.rn Reg.FAB_UDP_PEER ≠ 0 ∧ from_.toNat ≠ d.rn Reg.FAB_UDP_PEER :=
  ⟨udpDev.wn Reg.FAB_UDP_PEER 7, 8, BitVec.ofNat 32 udpDev.ownAddr, by decide⟩
set_option maxRecDepth 100000 in
/-- A reply that is next, over both transports. -/
theorem meets_Transports : (∃ (s : State) (r : Reply) (a : Nat × Nat × Nat) (f : Fab), s.fabRuns = true ∧ s.udp = false ∧ s.fab.next = some (r, a, f) ∧ r.bytes.length ≤ 20) ∧
    (∃ (s : State) (r : Reply) (ip port own : Nat) (f : Fab), s.fabRuns = true ∧ s.udp = true ∧ s.dev.ethRuns = true ∧ s.fab.next = some (r, (ip, port, own), f) ∧ s.dev.mayReply own = true) ∧
    (∃ (s : State) (r : Reply) (ip port own : Nat) (f : Fab), s.fabRuns = true ∧ s.udp = true ∧ s.dev.ethRuns = true ∧ s.fab.next = some (r, (ip, port, own), f) ∧ s.dev.mayReply own = false) ∧
    (∃ s : State, s.fabRuns = true ∧ s.udp = false ∧ s.fab.next = none ∧ s.fab.rxBufs.length < 4) ∧ (∃ s : State, s.fabRuns = true ∧ s.udp = false ∧ 4 ≤ s.fab.rxBufs.length) :=
  let f : Fab := { State.reset.fab with answers := [answerOf (stateOf svc) hdr 0x0108 [] aReply .rejected] }
  ⟨⟨{ stateOf svc with fab := f }, aReply, (0, 0, 0), State.reset.fab, by decide⟩, ⟨{ stateOf udpDev with fab := f }, aReply, 0, 0, 0, State.reset.fab, by decide⟩,
   ⟨{ stateOf (udpDev.wn Reg.TWIN_STATUS 2) with fab := f }, aReply, 0, 0, 0, State.reset.fab, by decide⟩,
   ⟨stateOf svc, by decide⟩, ⟨{ stateOf svc with fab := { State.reset.fab with rxBufs := List.replicate 4 [] } }, by decide⟩⟩
set_option maxRecDepth 100000 in
theorem meets_OldestReplyFirst : ∃ (f : Fab) (x : Flight), x ∈ f.flights ∧ f.answers = [] ∧ f.stale = [] ∧ x.ready = true :=
  ⟨(flying 0x0300 [] (.delivered 4 aReply)).fab, { cmd := aCmd 0x0300 [], phase := .delivered 4 aReply }, by decide⟩
/-- A reply to a command of a silent partner, before and behind the module's own (R418). -/
def staleFab (own old : Nat) : Fab :=
  { State.reset.fab with flights := [{ cmd := aCmd 0x0300 [], phase := .delivered own aReply }], stale := [{ cmd := aCmd 0x0300 [], phase := .delivered old aReply }] }
set_option maxRecDepth 100000 in
theorem meets_OldestReplyFirst_stale : (∃ (f : Fab) (x : Flight) (rest : List Flight) (p : Nat) (r : Reply), f.answers = [] ∧ f.stale = x :: rest ∧ x.phase = .delivered p r ∧ (∀ y ∈ f.flights, y.ready = true → x.order ≤ y.order)) ∧
    (∃ (f : Fab) (x : Flight) (rest : List Flight), f.answers = [] ∧ f.stale = x :: rest ∧ (∃ y ∈ f.flights, y.ready = true ∧ y.order < x.order)) :=
  ⟨⟨staleFab 4 4, { cmd := aCmd 0x0300 [], phase := .delivered 4 aReply }, [], 4, aReply, by decide⟩,
   ⟨staleFab 4 5, { cmd := aCmd 0x0300 [], phase := .delivered 5 aReply }, [], by decide⟩⟩
set_option maxRecDepth 100000 in
/-- Live writes that wait: two to one register with a W1C write of another, and one to each register by which its block acts. -/
theorem meets_applyLive : (∃ (d : Dev) (l1 l2 : List LivePend) (a : Nat) (v : Word) (host : Bool), d.twin.held = [] ∧ d.live = l1 ++ .set a v host :: l2 ∧ (∀ p ∈ d.live, plainPend p = true) ∧ (∀ p ∈ l2, pendAddr p ≠ a)) ∧
    (∃ (d : Dev) (l1 l2 : List LivePend) (a : Nat) (bits : Word), d.twin.held = [] ∧ d.live = l1 ++ .clear a bits :: l2 ∧ (∀ p ∈ d.live, plainPend p = true) ∧ (∀ p ∈ l1 ++ l2, pendAddr p ≠ a)) ∧
    (∀ a ∈ [Reg.DISP_CTRL, Reg.MESH_CTRL, Reg.TAG_CTRL, Reg.SAFE_CONN_OUT 7], ∃ d : Dev, d.twin.held = [] ∧ d.live = [.set a 1 true] ∧ (a = Reg.DISP_CTRL ∨ a = Reg.MESH_CTRL ∨ a = Reg.TAG_CTRL ∨ a ∈ stagingAddrs)) ∧
    (∃ (d : Dev) (ch : Fin 80), d.twin.held = [] ∧ d.live = [.set (Reg.LSW_CH_CMD ch.val) 0 true] ∧ d.twinState = 4 ∧ 1 ≤ d.twin.early) :=
  ⟨⟨{ svc with live := [.set (Reg.LANE_CFG 0) 1 true, .clear Reg.FAB_EVENT 4, .set (Reg.LANE_CFG 0) 0 true, .set Reg.TAG_KP_CFG 2 false] }, [.set (Reg.LANE_CFG 0) 1 true, .clear Reg.FAB_EVENT 4], [.set Reg.TAG_KP_CFG 2 false], Reg.LANE_CFG 0, 0, true, by decide⟩,
   ⟨{ svc with live := [.set (Reg.LANE_CFG 0) 1 true, .clear Reg.FAB_EVENT 4] }, [.set (Reg.LANE_CFG 0) 1 true], [], Reg.FAB_EVENT, 4, by decide⟩,
   fun a h => ⟨{ svc with live := [.set a 1 true] }, rfl, rfl, by revert a; decide⟩,
   ⟨{ svc.setFld Reg.TWIN_STATUS 2 0 4 with live := [.set (Reg.LSW_CH_CMD 79) 0 true], twin := { svc.twin with early := 1 } }, 79, by decide⟩⟩
/-- FAB_COMMITs that are due: one accepted in this pip, one with a launch pip, and two of different queues. -/
def commitOf (q id : Nat) (launch : Option Nat) : Flight :=
  { cmd := { aCmd 0x0104 [1, 0, 0, 0] with queue := q, id := id, launch := launch }, phase := if launch.isSome then .waitLaunch else .waitCommit 0 }
def flyingAll (l : List Flight) : State := { stateOf svc with fab := { State.reset.fab with flights := l, nextId := 9 } }
set_option maxRecDepth 100000 in
theorem meets_commitPoint : (∀ launch ∈ [none, some 0], let s := flyingAll [commitOf 0 1 launch]
      s.fab.flights.filter (fun x => x.commitDue s.dev.pip) = [commitOf 0 1 launch] ∧ commits s (commitOf 0 1 launch)) ∧
    (∀ q ∈ [1, 2], let s := flyingAll [commitOf q 1 none, commitOf 1 2 (some 0)]
      let x := commitOf q 1 none
      let y := commitOf 1 2 (some 0)
      s.fab.flights.filter (fun x => x.commitDue s.dev.pip) = [x, y] ∧ commits s x ∧ commits s y ∧ commits (committed s x) y ∧ commits (committed s y) x) := by
  unfold commits
  decide
set_option maxRecDepth 100000 in
theorem meets_fire : (∃ (s : State) (x : Flight), s.fab.flights.filter (fun x => x.phase == .waitLaunch && x.cmd.launch.any (· ≤ s.dev.pip)) = [x] ∧ x.cmd.opcode ≠ 0x0104 ∧ x.cmd.opcode ≠ 0x0106 ∧ x.cmd.opcode ≠ 0x0107 ∧
      x.cmd.needsQuiet = false ∧ s.dev.passive = false ∧ (x.cmd.queue, x.cmd.tag) ∉ s.fab.faults ∧ ((opSpec x.cmd.opcode).bind (·.run)).isSome = true) ∧
    (∃ (s : State) (x : Flight) (a b : Nat), s.fab.flights = [x] ∧ x.phase = .waitQuiet a b ∧ a ≤ s.dev.pip ∧ s.dev.pip ≤ b ∧ x.cmd.opcode ≠ 0x0106 ∧ x.cmd.opcode ≠ 0x0107 ∧
      (x.cmd.queue, x.cmd.tag) ∉ s.fab.faults ∧ ((opSpec x.cmd.opcode).bind (·.run)).isSome = true) :=
  ⟨⟨flyingAll [{ cmd := { aCmd 0x0108 [] with launch := some 0 }, phase := .waitLaunch }], { cmd := { aCmd 0x0108 [] with launch := some 0 }, phase := .waitLaunch }, by decide⟩,
   ⟨flyingAll [{ cmd := aCmd 0x0B01 [], phase := .waitQuiet 0 0 }], { cmd := aCmd 0x0B01 [], phase := .waitQuiet 0 0 }, 0, 0, by decide⟩⟩
/-- A command met by an error that cannot be corrected, with what waits. -/
def faulty (x : Flight) : State := { flyingAll [x] with fab := { (flyingAll [x]).fab with faults := [(x.cmd.queue, x.cmd.tag)] } }
set_option maxRecDepth 100000 in
theorem meets_fire_fault : ∃ (s : State) (x : Flight), s.fab.flights.filter (fun x => x.phase == .waitLaunch && x.cmd.launch.any (· ≤ s.dev.pip)) = [x] ∧ x.cmd.opcode ≠ 0x0104 ∧ x.cmd.needsQuiet = false ∧
    s.dev.passive = false ∧ (x.cmd.queue, x.cmd.tag) ∈ s.fab.faults :=
  ⟨faulty { cmd := { aCmd 0x0108 [] with launch := some 0 }, phase := .waitLaunch }, { cmd := { aCmd 0x0108 [] with launch := some 0 }, phase := .waitLaunch }, by decide⟩
set_option maxRecDepth 100000 in
theorem meets_commit_fault : ∃ (s : State) (x : Flight), s.fab.flights.filter (fun x => x.commitDue s.dev.pip) = [x] ∧ s.dev.passive = false ∧ (x.cmd.queue, x.cmd.tag) ∈ s.fab.faults :=
  ⟨faulty (commitOf 0 1 none), commitOf 0 1 none, by decide⟩
set_option maxRecDepth 100000 in
theorem meets_sram_wait : ∃ (s : State) (q : Fin 32) (g : BitVec 16), s.fab.flights ≠ [] ∧ ∀ x ∈ s.fab.flights, x.cmd.queue = q.val → x.cmd.tag = g.toNat → x.phase.waits = true :=
  ⟨flying 0x0108 [] .waitLaunch, 0, 7, by decide⟩
set_option maxRecDepth 100000 in
theorem meets_sram_running : ∃ (s : State) (q : Fin 32) (g : BitVec 16) (x : Flight), s.fab.flights.find? (fun x => x.cmd.queue = q.val && x.cmd.tag = g.toNat) = some x ∧ x.phase = .running :=
  ⟨flying 0x0A03 [] .running, 0, 7, { cmd := cmdOf (stateOf svc) hdr 0x0A03 [], phase := .running }, by decide⟩
set_option maxRecDepth 100000 in
theorem meets_collector : ∃ s : State, s.dev.twin.stale = [] ∧ s.dev.outbox = [] ∧ s.fab.history.length ≤ 256 ∧ (s.fab.flights.any fun x => (collected s.dev x).isSome) = true :=
  ⟨flying 0x0300 [] (.produced 0 [] 0), by decide⟩
set_option maxRecDepth 100000 in
/-- A SLAC run of one sound heard on lane 3 alone decides for it, whatever the free value of ties. -/
theorem meets_slacDecides (free : Nat) : slacVerdict { run := [], announced := 1, start := 0, sounds := 1, caps := [{ lane := 3, heard := 1, sums := [58] }], st := .sounding } [] [3] [3] 20 1 free = .lane (some 3) := by
  have h : ([some 3] : List (Option Nat)).eraseDups = [some 3] := by decide
  simp [slacVerdict, SlacRun.candidates, SlacRun.figNum, assignments, h, Nat.mod_one]
set_option maxRecDepth 100000 in
/-- The time unit runs, with a reset due in the pip that ends and without one; and it hangs. -/
theorem meets_pipBoundary : svc.sys.resetReq = none ∧ (({ svc.pfailEnd with osc := svc.osc + 1 } : Dev).refTick true).domainRuns 4 = true ∧ (({ (svc.setBit Reg.SYS_CLK_STATUS 20 true).pfailEnd with osc := 1 } : Dev).refTick true).domainRuns 4 = false ∧
    (let s0 := stateOf { svc with sys := { svc.sys with resetReq := some svc.pip, resetCause := 5 } }
     due s0.dev.sys.resetReq s0.dev.pip = true ∧ ((({ s0 with dev := s0.dev.resetDue } : State).settle).dev.pfailEnd.refTick false).domainRuns 4 = true) := by decide
set_option maxRecDepth 100000 in
theorem meets_twinSilencePromote : ∃ s : State, s.dev.shellRuns = true ∧ 3 ≤ s.dev.twin.podSilent ∧ 3 ≤ s.dev.twin.liveSilent ∧ s.dev.twinState = 3 :=
  ⟨stateOf { (svc.setBit Reg.TWIN_CFG 16 true).setFld Reg.TWIN_STATUS 2 0 3 with twin := { svc.twin with podSilent := 3, liveSilent := 3 } }, by decide⟩
set_option maxRecDepth 100000 in
/-- A deadline missed before the command began and after it. -/
theorem meets_deadlineMiss : ∀ z ∈ [(Phase.waitLaunch, false), (Phase.running, true)], ∃ (s : State) (x : Flight), s.fab.flights.filter (fun x => (x.missed s.dev).isSome) = [x] ∧ x.missed s.dev = some z.2 :=
  fun z _ => ⟨{ flying 0x0300 [] z.1 with dev := { svc with pip := 9000 } }, { cmd := aCmd 0x0300 [], phase := z.1 }, by revert z; decide⟩
set_option maxRecDepth 100000 in
/-- A window that has passed while another command is in flight. -/
theorem meets_quietPipWindowExpiry : ∃ (s : State) (x : Flight), s.fab.flights.filter (windowOver s.dev.pip) = [x] ∧ (∃ y ∈ s.fab.flights, y.cmd.id ≠ x.cmd.id) :=
  ⟨{ flyingAll [{ cmd := aCmd 0x0B01 [], phase := .waitQuiet 1 40 }, commitOf 3 2 none] with dev := { svc with pip := 40 } }, { cmd := aCmd 0x0B01 [], phase := .waitQuiet 1 40 }, by decide⟩

set_option maxRecDepth 100000 in
theorem meets_StepTakesFront : ∃ (c : Instr) (rest : List Instr) (s : State), s.pending = c :: rest := ⟨.readStatus, [], { State.reset with pending := [.readStatus] }, rfl⟩
set_option maxRecDepth 100000 in
theorem meets_Invariants : FabWf State.reset.fab ∧ Quiet State.reset.dev ∧ MemWf State.reset.dev := by decide
set_option maxRecDepth 100000 in
/-- An opcode row of the table of R606 for the statements over all rows: FAB_NOP. -/
theorem nop_row : ∃ r ∈ opcodeRows, r.1 = 0x0108 := ⟨opcodeRows[15]'(by decide), List.getElem_mem _, by decide⟩
set_option maxRecDepth 100000 in
theorem meets_LaunchedCommandsWait : Admitted (stateOf svc) later 0x0108 [] ∧ later.launch ≠ 0 := by decide
set_option maxRecDepth 100000 in
/-- A refusal: the queue is none of the 32 (R46). -/
theorem meets_Rejection : ∃ (s : State) (h : Hdr) (p : Bytes) (st : Nat) (pl : Bytes), Quiet s.dev ∧ Heard s h ∧ refused s h 0x0108 p = some (st, pl) ∧ (s.fab.answers.filter fun a => a.kind == .rejected).length < 32 :=
  ⟨stateOf svc, { hdr with queue := 32 }, [], _, _, by decide, by decide, rfl, by decide⟩
set_option maxRecDepth 100000 in
theorem meets_AnswerFifo : ∃ (s : State) (h : Hdr) (p : Bytes), Quiet s.dev ∧ Heard s h ∧ (refused s h 0x0108 p).isSome = true ∧ 32 ≤ (s.fab.answers.filter fun a => a.kind == .rejected).length :=
  ⟨{ stateOf svc with fab := { State.reset.fab with answers := List.replicate 32 (answerOf (stateOf svc) hdr 0x0108 [] aReply .rejected) } }, { hdr with queue := 32 }, [], by decide⟩
set_option maxRecDepth 100000 in
theorem meets_Deadline : FabWf (stateOf svc).fab ∧ Quiet (stateOf svc).dev ∧ Admitted (stateOf svc) hdr 0x0108 [] ∧ Admitted (stateOf svc) later 0x0108 [] := by decide
set_option maxRecDepth 100000 in
/-- Both ends of the range of states: PRECHARGE (6) and WELD_CHECK (9). -/
theorem meets_Maintenance : ∀ st ∈ [6, 9], let s := stateOf (inState st)
    Admitted s hdr 0x0004 [2, 0, 0, 0] ∧ Quiet s.dev ∧ 6 ≤ s.dev.fld (Reg.OUT_STATE 0) 3 0 ∧ s.dev.fld (Reg.OUT_STATE 0) 3 0 ≤ 9 := by decide
/-- A slot with an operation under way. -/
def busySlot (d : Dev) : Dev := { d with key := { d.key with ops := [(63, { id := 1, key := KeySlot.empty, blob := none, forget := false, reply := [], load := true, due := none })] } }
set_option maxRecDepth 100000 in
theorem meets_BusySlot : (busySlot mt).slotBusy 63 = true ∧ keyCombo 1 1 = true ∧ Admitted (stateOf (busySlot mt)) hdr 0x0802 [63, 0, 0, 0] ∧ (startDev (stateOf (busySlot mt)) hdr 0x0802 [63, 0, 0, 0]).slotBusy 63 = true := by decide
set_option maxRecDepth 100000 in
theorem meets_FramWrite : ∃ (s : State) (id off : Nat) (data : Bytes), s.dev.tag.serving = true ∧ s.dev.tag.accs = [.write id off data] :=
  ⟨stateOf { svc with tag := { svc.tag with serving := true, accs := [.write 1 0x3FFF [9]] } }, 1, 0x3FFF, [9], by decide⟩
set_option maxRecDepth 100000 in
theorem meets_FramedShadows : ∃ (a : Nat) (r : RegRow), a % 4 = 0 ∧ inKern a = false ∧ regAt a = some r ∧ r.cls = .framed ∧ r.access = .rw := by
  have h : (regAt Reg.FAB_UDP_IP).isSome = true := by decide
  obtain ⟨r, hr⟩ := Option.isSome_iff_exists.1 h
  have h2 : (regAt Reg.FAB_UDP_IP).all (fun r => decide (r.cls = .framed) && decide (r.access = .rw)) = true := by decide
  simp only [hr, Option.all_some, Bool.and_eq_true, decide_eq_true_eq] at h2
  exact ⟨Reg.FAB_UDP_IP, r, by decide, by decide, hr, h2.1, h2.2⟩
set_option maxRecDepth 100000 in
/-- The first clause's thresholds above the counter, the second clause's last entry reached. -/
theorem meets_AgeingGain : (∃ (d : Dev) (c : Nat), ∀ k < 16, c < d.fld (Reg.DISP_AGE k) 31 16) ∧
    (∃ (d : Dev) (c k : Nat), k < 16 ∧ d.fld (Reg.DISP_AGE k) 31 16 ≤ c ∧ ∀ j, k < j → j < 16 → c < d.fld (Reg.DISP_AGE j) 31 16) ∧
    (∃ d : Dev, d.rbit Reg.DISP_CTRL 2 = true) ∧ (∃ d : Dev, d.rbit Reg.DISP_CTRL 2 = false) :=
  ⟨⟨(List.range 16).foldl (fun (d : Dev) k => d.wn (Reg.DISP_AGE k) 0x10000) svc, 0, by decide⟩, ⟨svc, 65535, 15, by decide, by decide, by intro j h1 h2; omega⟩,
   ⟨svc.setBit Reg.DISP_CTRL 2 true, by decide⟩, ⟨svc.setBit Reg.DISP_CTRL 2 false, by decide⟩⟩
set_option maxRecDepth 100000 in
theorem meets_Coils : (svc.setFld (Reg.OUT_CFG 31) 2 0 1).outType 31 ≠ 0 ∧ (0x800003E8#32 &&& 0x7FFFFC00#32 = 0) ∧ wfld 0x800003E8#32 9 0 ≤ 1000 ∧ svc.outType (63 / 2) = 0 := by decide

end Sys2Proof.Tests
end

section
/-!
What acceptance, an answer and the settling of the fabric leave in the registers, and with it R18: MAINTENANCE waits for the sessions of every outlet.
-/
namespace Sys2Proof.Proofs
open Sys2Proof.Machine Sys2Proof.Claims Sys2Proof.Laws

/-! ### Registers outside the fabric's block -/

theorem rd_wn_other (d : Dev) (n : Nat) {a b : Nat} (h : b ≠ a) : (d.wn a n).rd b = d.rd b := d.rd_wr_other _ h

theorem rd_inc_other (d : Dev) {a b : Nat} (h : b ≠ a) : (d.inc a).rd b = d.rd b := d.rd_wr_other _ h

theorem rd_setBit_other (d : Dev) (i : Nat) (v : Bool) {a b : Nat} (h : b ≠ a) : (d.setBit a i v).rd b = d.rd b := d.rd_wr_other _ h

/-- A run of register writes leaves a register that none of them names. -/
theorem rd_foldl_wn_other {α : Type} (f g : α → Nat) {b : Nat} (l : List α) (h : ∀ x ∈ l, b ≠ f x) (d : Dev) :
    (l.foldl (fun (d : Dev) x => d.wn (f x) (g x)) d).rd b = d.rd b := by
  induction l generalizing d with
  | nil => rfl
  | cons x l ih =>
    rw [List.foldl_cons, ih (fun y hy => h y (List.mem_cons_of_mem x hy)), rd_wn_other d _ (h x List.mem_cons_self)]

/-- A run of register writes changes nothing but registers. -/
theorem foldl_wn_eq {α : Type} (f g : α → Nat) (l : List α) (d : Dev) :
    l.foldl (fun (d : Dev) x => d.wn (f x) (g x)) d = { d with regs := (l.foldl (fun (d : Dev) x => d.wn (f x) (g x)) d).regs } := by
  induction l generalizing d with
  | nil => rfl
  | cons x l ih => exact ih (d.wn (f x) (g x))

/-- Showing the fabric changes nothing but registers. -/
theorem show_eq (f : Fab) (d : Dev) : f.show d = { d with regs := (f.show d).regs } := foldl_wn_eq _ _ _ _

/-- The registers that show the fabric stand in its block, 0x1xxxx. -/
theorem rd_show_outside (f : Fab) (d : Dev) {b : Nat} (hb : b / 0x10000 ≠ 1) : (f.show d).rd b = d.rd b := by
  have hstat : ∀ q ∈ List.range 32, b ≠ Reg.FAB_Q_STAT q := by
    intro q hq
    have := List.mem_range.1 hq
    unfold Reg.FAB_Q_STAT
    omega
  have hne : ∀ a : Nat, a / 0x10000 = 1 → b ≠ a := fun a ha hba => hb (hba ▸ ha)
  rw [Fab.show, rd_foldl_wn_other _ _ _ hstat, rd_wn_other _ _ (hne _ rfl), rd_wn_other _ _ (hne _ rfl), rd_wn_other _ _ (hne _ rfl)]

/-- Accepting a command writes the fabric's registers and OUT_STATUS alone. -/
theorem rd_begun_outside (s : State) (h : Hdr) (op : Nat) (p : Bytes) {b : Nat} (hb : b / 0x10000 ≠ 1) (ho : b ≠ Reg.OUT_STATUS) :
    (begun s h op p).dev.rd b = s.dev.rd b := by
  have hq : b ≠ Reg.FAB_Q_ACCEPTED h.queue.toNat := by
    have := h.queue.isLt
    unfold Reg.FAB_Q_ACCEPTED
    omega
  calc (begun s h op p).dev.rd b = ((s.dev.inc (Reg.FAB_Q_ACCEPTED h.queue.toNat)).setBit Reg.OUT_STATUS 0 true).rd b := rd_show_outside _ _ hb
    _ = s.dev.rd b := by rw [rd_setBit_other _ _ _ ho, rd_inc_other _ hq]

/-! ### Settling when nothing waits -/

theorem takeKernel_of_quiet {d : Dev} (h : Quiet d) : d.takeKernel = d := by
  obtain ⟨hdone, hstored, hconf, -, -⟩ := h
  have hk : ({ d.kern with done := [], stored := [], confirmed := [] } : Kernel) = { d.kern with done := d.kern.done, stored := d.kern.stored, confirmed := d.kern.confirmed } := by
    rw [hdone, hstored, hconf]
  simp only [Dev.takeKernel, hdone, hstored, hconf, List.foldl_nil]
  rw [hk]

theorem drain_of_empty {s : State} (h : s.dev.outbox = []) : s.drain = s := by
  have hd : ({ s.dev with outbox := [] } : Dev) = { s.dev with outbox := s.dev.outbox } := by rw [h]
  simp only [State.drain, h, List.foldl_nil]
  rw [hd]

/-- With nothing produced and no reset due, settling shows the fabric and does no more. -/
theorem settle_of_quiet {s : State} (h : Quiet s.dev) : s.settle = s.shown := by
  have ⟨_, _, _, hout, hreset⟩ := h
  have ht : s.onDev Dev.takeKernel = s := by rw [State.onDev, takeKernel_of_quiet h]
  rw [State.settle, ht, drain_of_empty hout]
  simp only [hreset, Bool.false_eq_true, if_false]

theorem rd_settle_outside {s : State} (h : Quiet s.dev) {b : Nat} (hb : b / 0x10000 ≠ 1) : s.settle.dev.rd b = s.dev.rd b := by
  rw [settle_of_quiet h]
  exact rd_show_outside s.fab s.dev hb

theorem quiet_begun {s : State} (h : Hdr) (op : Nat) (p : Bytes) (hs : Quiet s.dev) : Quiet (begun s h op p).dev := by
  rw [show (begun s h op p).dev = _ from show_eq _ _]
  exact hs

/-- A command that is answered with nothing done leaves every register but the fabric's and OUT_STATUS. -/
theorem rd_answered_outside {s : State} (h : Hdr) (op : Nat) (p : Bytes) (st : Nat) (pl : Bytes) (hs : Quiet s.dev) {b : Nat}
    (hb : b / 0x10000 ≠ 1) (ho : b ≠ Reg.OUT_STATUS) : (answered s h op p (begun s h op p).dev st pl).dev.rd b = s.dev.rd b := by
  calc (answered s h op p (begun s h op p).dev st pl).dev.rd b = (begun s h op p).dev.rd b := rd_settle_outside (by exact quiet_begun h op p hs) hb
    _ = s.dev.rd b := rd_begun_outside s h op p hb ho

/-! ### MAINTENANCE waits for sessions (R18) -/

/-- The states from PRECHARGE to WELD_CHECK inclusive, by their codes in OUT_nn_STATE. -/
theorem ost_of_session_code {d : Dev} {n : Nat} (hlo : 6 ≤ d.fld (Reg.OUT_STATE n) 3 0) (hhi : d.fld (Reg.OUT_STATE n) 3 0 ≤ 9) :
    d.ost n = .precharge ∨ d.ost n = .energy ∨ d.ost n = .rampdown ∨ d.ost n = .weldCheck := by
  have hcode : d.fld (Reg.OUT_STATE n) 3 0 = 6 ∨ d.fld (Reg.OUT_STATE n) 3 0 = 7 ∨ d.fld (Reg.OUT_STATE n) 3 0 = 8 ∨ d.fld (Reg.OUT_STATE n) 3 0 = 9 := by omega
  rcases hcode with h | h | h | h <;> simp [Dev.ost, h]

/-- A request of MAINTENANCE is answered BUSY, with nothing done, while a session runs. -/
theorem opSetMode_busy (d : Dev) (c : Cmd) (n : Fin 32) (hlen : c.payload.length = 4) (hmode : num c.payload 0 1 = 2) (hres : num c.payload 1 3 = 0)
    (hlo : 6 ≤ d.fld (Reg.OUT_STATE n.val) 3 0) (hhi : d.fld (Reg.OUT_STATE n.val) 3 0 ≤ 9) : opSetMode d c = (d, .done St.busy []) := by
  have hbusy : ((List.range 32).any fun k => let s := d.ost k; s == .precharge || s == .energy || s == .rampdown || s == .weldCheck) = true := by
    refine List.any_eq_true.2 ⟨n.val, List.mem_range.2 n.isLt, ?_⟩
    rcases ost_of_session_code hlo hhi with h | h | h | h <;> simp [h]
  simp [opSetMode, check_cons, hlen, hmode, hres, hbusy]

/-- The row of SYS_SET_MODE in the opcode table. -/
theorem opSpec_sysSetMode : opSpec 0x0004 = some { opcode := 0x0004, classes := [1, 2, 3], immediate := true, source := fun _ => 78, run := some opSetMode } := rfl

/-- OUT_nn_STATE is none of the registers that an acceptance writes. -/
theorem begun_outState (s : State) (h : Hdr) (op : Nat) (p : Bytes) (n : Fin 32) :
    (begun s h op p).dev.fld (Reg.OUT_STATE n.val) 3 0 = s.dev.fld (Reg.OUT_STATE n.val) 3 0 := by
  have hn := n.isLt
  rw [Dev.fld, Dev.fld, rd_begun_outside s h op p (by unfold Reg.OUT_STATE; omega) (by unfold Reg.OUT_STATE Reg.OUT_STATUS; omega)]

/-- A command that is answered with nothing done leaves the mode. -/
theorem mode_answered {s : State} (h : Hdr) (op : Nat) (p : Bytes) (st : Nat) (pl : Bytes) (hs : Quiet s.dev) :
    (answered s h op p (begun s h op p).dev st pl).dev.mode = s.dev.mode := by
  simp only [Dev.mode, Dev.fld, rd_answered_outside h op p st pl hs (b := Reg.SYS_MODE) (by decide) (by decide)]

/-- Settles O54: no register that OUT_nn_STATE or the mode stands in changes between the packet's arrival and the answer, so the busy check of the opcode meets the outlet as it is. -/
theorem maintenanceWaitsForSessions : Obligations.MaintenanceWaitsForSessions := by
  refine ⟨opSetMode_busy, ?_⟩
  intro s h p n ha hl hs hlen hmode hres hlo hhi
  have hbusy := opSetMode_busy (begun s h 0x0004 p).dev (cmdOf s h 0x0004 p) n hlen hmode hres
    (by rw [begun_outState]; exact hlo) (by rw [begun_outState]; exact hhi)
  have hsubmit := submit_answers ha hl opSpec_sysSetMode rfl rfl (by decide) hbusy
  have hexec : exec (.sysSetMode h p) s = .next (s.submit h 0x0004 p) := rfl
  exact ⟨by rw [hexec, hsubmit], mode_answered h 0x0004 p 0x11 [] hs⟩

end Sys2Proof.Proofs
end

section
/-!
R60: the deadline that a command has from its acceptance is that of its class, and nothing that its own packet sets going changes it.
-/
namespace Sys2Proof.Proofs
open Sys2Proof.Machine Sys2Proof.Claims Sys2Proof.Laws

/-! ### What admission says of class and launch pip (R46, R48) -/

/-- A chain of refusals answers none where none of its conditions holds. -/
theorem ite_some_eq_none_iff {α : Type} {c : Prop} [Decidable c] {x : α} {y : Option α} : (if c then some x else y) = none ↔ ¬ c ∧ y = none := by
  by_cases h : c
  · simp only [h, if_true, not_true_eq_false, false_and, reduceCtorEq]
  · simp only [h, if_false, not_false_eq_true, true_and]

/-- Only the four classes pass step 7 of R46. -/
theorem cls_le_of_not_refused {s : State} {p : Packet} (h : s.refusal p = none) : p.cls ≤ 3 := by
  simp only [State.refusal, ite_some_eq_none_iff] at h
  obtain ⟨-, -, hcls, -⟩ := h
  simp only [Bool.or_eq_true, decide_eq_true_eq, not_or] at hcls
  obtain ⟨⟨h3, -⟩, -⟩ := hcls
  exact Nat.le_of_not_lt h3

/-- A launch field that passes step 11 of R46 names a pip to come. -/
theorem launchPip_of_not_refused {s : State} {p : Packet} (h : s.refusal p = none) (hl : p.launch ≠ 0) : ∃ L, launchPip s.dev.pip p.launch = some L := by
  simp only [State.refusal, ite_some_eq_none_iff] at h
  obtain ⟨-, -, -, -, -, -, -, hlaunch, -⟩ := h
  cases hL : launchPip s.dev.pip p.launch with
  | some L => exact ⟨L, rfl⟩
  | none => exact absurd (by simp only [hL, Option.isNone_none, Bool.and_true, decide_eq_true_eq]; exact hl) hlaunch

theorem classPips_of_le {c : BitVec 8} (h : c.toNat ≤ 3) :
    classPips c.toNat = if c = 0 then 2 else if c = 1 then 4 else if c = 2 then 40 else 400 := by
  have hc : c = 0 ∨ c = 1 ∨ c = 2 ∨ c = 3 := by bv_omega
  rcases hc with rfl | rfl | rfl | rfl <;> rfl

theorem toNat_launch_ne_zero {h : Hdr} (hl : h.launch ≠ 0) : h.launch.toNat ≠ 0 := fun h0 => hl (BitVec.eq_of_toNat_eq h0)

/-- An admitted command with a launch pip launches in the pip that its field names. -/
theorem cmdOf_launch_some {s : State} {h : Hdr} {op : Nat} {p : Bytes} (ha : Admitted s h op p) (hl : h.launch ≠ 0) :
    ∃ L, launchPip s.dev.pip h.launch.toNat = some L ∧ (cmdOf s h op p).launch = some L := by
  obtain ⟨-, -, -, hr, -⟩ := ha
  obtain ⟨L, hL⟩ := launchPip_of_not_refused hr (toNat_launch_ne_zero hl)
  refine ⟨L, hL, ?_⟩
  exact (if_neg (toNat_launch_ne_zero hl)).trans hL

/-- S + d − 1 (R60), as `Obligations.DeadlineOfItsClass` writes it. -/
def deadlineOf (s : State) (h : Hdr) : Nat :=
  (if h.launch = 0 then s.dev.pip else (launchPip s.dev.pip h.launch.toNat).getD 0) +
    (if h.cls = 0 then 2 else if h.cls = 1 then 4 else if h.cls = 2 then 40 else 400) - 1

theorem cmdOf_deadline {s : State} {h : Hdr} {op : Nat} {p : Bytes} (ha : Admitted s h op p) : (cmdOf s h op p).deadline = deadlineOf s h := by
  have hr : s.refusal (packetOf s h op p) = none := ha.2.2.2.1
  have hd : (cmdOf s h op p).deadline = (cmdOf s h op p).launch.getD s.dev.pip + classPips h.cls.toNat - 1 := rfl
  rw [hd, classPips_of_le (cls_le_of_not_refused hr), deadlineOf]
  by_cases hl : h.launch = 0
  · rw [cmdOf_launch hl, if_pos hl, Option.getD_none]
  · obtain ⟨L, hL, hc⟩ := cmdOf_launch_some (op := op) (p := p) ha hl
    rw [hc, if_neg hl, hL, Option.getD_some, Option.getD_some]

/-! ### What the fabric does in a packet's arrival leaves every deadline -/

/-- Whatever flight has the id `n` has the deadline `D`. -/
def DeadlineAt (n D : Nat) (f : Fab) : Prop := ∀ x ∈ f.flights, x.cmd.id = n → x.cmd.deadline = D

section
variable {n D : Nat}

/-- A change of each flight that leaves id and deadline. -/
theorem deadlineAt_map {f f' : Fab} (g : Flight → Flight) (hf : f'.flights = f.flights.map g)
    (hg : ∀ x, (g x).cmd.id = x.cmd.id ∧ (g x).cmd.deadline = x.cmd.deadline) (h : DeadlineAt n D f) : DeadlineAt n D f' := by
  intro y hy hid
  rw [hf] at hy
  obtain ⟨x, hx, rfl⟩ := List.mem_map.1 hy
  rw [(hg x).2]
  exact h x hx ((hg x).1 ▸ hid)

theorem deadlineAt_setPhase {f : Fab} (id : Nat) (ph : Phase) (h : DeadlineAt n D f) : DeadlineAt n D (f.setPhase id ph) :=
  deadlineAt_map _ rfl (fun x => by split <;> exact ⟨rfl, rfl⟩) h

theorem deadlineAt_finish {f : Fab} (r : Done) (h : DeadlineAt n D f) : DeadlineAt n D (f.finish r) :=
  deadlineAt_map _ rfl (fun x => by split <;> exact ⟨rfl, rfl⟩) h

theorem deadlineAt_drain {s : State} (h : DeadlineAt n D s.fab) : DeadlineAt n D s.drain.fab := by
  have hfold : ∀ (l : List Done) (f : Fab), DeadlineAt n D f → DeadlineAt n D (l.foldl Fab.finish f) := by
    intro l
    induction l with
    | nil => exact fun f hf => hf
    | cons r l ih => exact fun f hf => ih _ (deadlineAt_finish r hf)
  exact hfold _ _ h

/-- Settling keeps the deadlines, or a reset of the fabric has left no flight. -/
theorem deadlineAt_settle {s : State} (h : DeadlineAt n D s.fab) : DeadlineAt n D s.settle.fab := by
  have hd : DeadlineAt n D (s.onDev Dev.takeKernel).drain.fab := deadlineAt_drain h
  rw [State.settle]
  split
  · exact fun x hx => absurd hx (List.not_mem_nil)
  · exact hd

theorem deadlineAt_fabCancel {s : State} (c : Cmd) (h : DeadlineAt n D s.fab) : DeadlineAt n D (s.fabCancel c).1.fab := by
  rw [State.fabCancel]
  split
  · exact h
  · split
    · exact h
    · split
      · exact h
      · exact deadlineAt_map _ rfl (fun y => by split <;> exact ⟨rfl, rfl⟩) h

theorem deadlineAt_runOp {s : State} (c : Cmd) (h : DeadlineAt n D s.fab) : DeadlineAt n D (s.runOp c).1.fab := by
  rw [State.runOp]
  split
  · exact h
  · split
    · exact deadlineAt_fabCancel c h
    · split
      · exact h
      · split <;> exact h

theorem deadlineAt_start {s : State} (c : Cmd) (h : DeadlineAt n D s.fab) : DeadlineAt n D (s.start c).fab := by
  have hrun : DeadlineAt n D (s.runOp c).1.fab := deadlineAt_runOp c h
  rw [State.start]
  split
  · exact h
  · split
    · exact deadlineAt_setPhase _ _ h
    · split
      · next heq =>
        rw [heq] at hrun
        split
        · exact deadlineAt_setPhase _ _ h
        · exact deadlineAt_setPhase _ _ hrun
      · next heq =>
        rw [heq] at hrun
        split
        · exact deadlineAt_setPhase _ _ h
        · exact deadlineAt_setPhase _ _ hrun

end

/-! ### Acceptance -/

/-- A newly taken command is the one flight with its id. -/
theorem deadlineAt_taken {s : State} (h : Hdr) (op : Nat) (p : Bytes) (ph : Phase) (hwf : FabWf s.fab) :
    DeadlineAt s.fab.nextId (cmdOf s h op p).deadline (taken s h op p ph).fab := by
  intro x hx hid
  rcases List.mem_append.1 hx with hx | hx
  · have hlt : x.cmd.id < s.fab.nextId := (hwf.2.1 x hx).1
    omega
  · rw [List.mem_singleton.1 hx]

theorem deadlineAt_accept {s : State} (h : Hdr) (op : Nat) (p : Bytes) (hwf : FabWf s.fab) :
    DeadlineAt s.fab.nextId (cmdOf s h op p).deadline (s.accept (packetOf s h op p)).fab := by
  cases hnow : (opSpec op).any (·.immediate) && (cmdOf s h op p).launch.isNone with
  | true =>
    have hrun := deadlineAt_runOp (s := (taken s h op p .answered).shown) (cmdOf s h op p) (deadlineAt_taken h op p _ hwf)
    rw [accept_now hnow]
    split <;> rename_i heq <;> rw [heq] at hrun
    · exact hrun
    · exact deadlineAt_setPhase (cmdOf s h op p).id .running hrun
  | false =>
    rw [accept_later hnow]
    split
    · exact deadlineAt_taken h op p _ hwf
    · exact deadlineAt_start _ (deadlineAt_taken h op p _ hwf)

theorem quiet_shown {s : State} (h : Quiet s.dev) : Quiet s.shown.dev := by
  rw [show s.shown.dev = _ from show_eq _ _]
  exact h

/-- A command with a launch pip is in flight when its packet has arrived. -/
theorem mem_flights_of_launch {s : State} {h : Hdr} {op : Nat} {p : Bytes} (ha : Admitted s h op p) (hs : Quiet s.dev) (hl : h.launch ≠ 0) :
    { cmd := cmdOf s h op p, phase := .waitLaunch } ∈ (s.submit h op p).fab.flights := by
  obtain ⟨L, -, hL⟩ := cmdOf_launch_some (op := op) (p := p) ha hl
  have hq : Quiet (acceptedIn s h op p .waitLaunch).dev := quiet_shown hs
  rw [submit_admitted ha, accept_later (by simp [hL]), hL, Option.isSome_some, if_pos rfl, settle_of_quiet hq]
  exact List.mem_append_right _ List.mem_cons_self

/-- Settles O53: acceptance fixes the deadline by launch pip and class, and starting, answering and settling leave the deadline of every flight. -/
theorem deadlineOfItsClass : Obligations.DeadlineOfItsClass := by
  intro r hr s h p hwf hs ha
  have hdl : (cmdOf s h r.1 p).deadline = deadlineOf s h := cmdOf_deadline ha
  refine ⟨rfl, hdl, s.submit h r.1 p, exec_row h p s r hr, ?_, fun hl => ⟨_, mem_flights_of_launch ha hs hl, rfl⟩⟩
  have hacc := deadlineAt_settle (deadlineAt_accept h r.1 p hwf)
  rw [hdl, ← submit_admitted ha] at hacc
  exact hacc

end Sys2Proof.Proofs
end

section
/-!
R69: what a Framed register and its shadow read after a write, a discard and a commit.
-/
namespace Sys2Proof.Proofs
open Sys2Proof.Machine

/-! ### Sparse tables and the entries of one key -/

theorem tget_filter_key {α : Type} (d : α) (p : Nat → Bool) (t : Tab α) (n : Nat) : tget d (t.filter fun e => p e.1) n = if p n then tget d t n else d := by
  induction t with
  | nil => simp [tget]
  | cons e t ih =>
    obtain ⟨k, v⟩ := e
    by_cases hk : k = n
    · subst hk
      cases hp : p k <;> simp [hp, tget, ih]
    · cases hp : p k <;> simp [hp, tget, hk, ih]

theorem filter_key_absent {α : Type} {t : Tab α} {n : Nat} (h : ∀ e ∈ t, e.1 ≠ n) : t.filter (fun e => e.1 = n) = [] :=
  List.filter_eq_nil_iff.2 (by simpa using h)

theorem filter_key_tinsert {α : Type} (n : Nat) (v : α) (t : Tab α) (h : ∀ e ∈ t, e.1 ≠ n) : (tinsert n v t).filter (fun e => e.1 = n) = [(n, v)] := by
  induction t with
  | nil => simp [tinsert]
  | cons e t ih =>
    obtain ⟨hk, ht⟩ := List.forall_mem_cons.1 h
    rw [tinsert]
    split
    · rw [List.filter_cons_of_pos (by simp), filter_key_absent h]
    · rw [List.filter_cons_of_neg (by simpa using hk), ih ht]

/-- A table that has been set at a key holds at most one entry of the key, also where it was not canonical before. -/
theorem filter_key_tset {α : Type} [DecidableEq α] (d : α) (t : Tab α) (n : Nat) (v : α) :
    (tset d t n v).filter (fun e => e.1 = n) = if v = d then [] else [(n, v)] := by
  rw [tset]
  split
  · exact filter_key_absent (terase_no_key t n)
  · exact filter_key_tinsert n v _ (terase_no_key t n)

/-! ### Writing a Framed register -/

theorem writeWord_framed {a : Nat} {r : RegRow} (d : Dev) (v : Word) (hr : regAt a = some r) (hc : r.cls = .framed) (ha : r.access = .rw) : d.writeWord a v = d.setShadow a v := by
  simp only [Dev.writeWord, hr, hc, ha]

theorem readShadow_framed {a : Nat} {r : RegRow} (d : Dev) (h4 : a % 4 = 0) (hr : regAt a = some r) (hc : r.cls = .framed) : d.readShadow a = some (d.shadowAt a) := by
  simp [Dev.readShadow, h4, hr, hc]

theorem ne_of_access_rw {a b : Nat} {r : RegRow} (hr : regAt a = some r) (ha : r.access = .rw) (hb : (regAt b).map (·.access) ≠ some .rw) : a ≠ b := by
  rintro rfl
  simp [hr, ha] at hb

/-- The registers that a read shows from other state are all read-only. -/
theorem view_rw {a : Nat} {r : RegRow} (d : Dev) (hr : regAt a = some r) (ha : r.access = .rw) : d.view a = d.rd a := by
  have hne : ∀ {b : Nat}, (regAt b).map (·.access) ≠ some .rw → a ≠ b := ne_of_access_rw hr ha
  have hsafety : a ≠ Reg.FWU_SAFETY_VERSION := hne (by decide)
  rw [Dev.view]
  iterate 8 rw [if_neg (hne (by decide))]
  rw [if_neg (by simp [hsafety])]

theorem readWord_rw {a : Nat} {r : RegRow} (d : Dev) (h4 : a % 4 = 0) (hk : inKern a = false) (hr : regAt a = some r) (ha : r.access = .rw) : d.readWord a = some (d.rd a) := by
  simp [Dev.readWord, h4, hk, hr, view_rw d hr ha]

theorem rd_setShadow (d : Dev) (a b : Nat) (v : Word) : (d.setShadow a v).rd b = d.rd b := rfl

theorem tget_setShadow (d : Dev) (a : Nat) (v : Word) : tget 0 (d.setShadow a v).shadow a = v ^^^ d.rd a := tget_tset_same _ _ _ _

theorem shadowAt_setShadow (d : Dev) (a : Nat) (v : Word) : (d.setShadow a v).shadowAt a = v := by
  rw [Dev.shadowAt, tget_setShadow, rd_setShadow, BitVec.xor_assoc, BitVec.xor_self, BitVec.xor_zero]

/-! ### Discard (R71) -/

theorem rd_discard (d : Dev) (m a : Nat) : (d.discard m).rd a = d.rd a := rfl

theorem tget_discard (d : Dev) (m a : Nat) : tget 0 (d.discard m).shadow a = if inMask m a then 0 else tget 0 d.shadow a := by
  rw [Dev.discard, tget_filter_key 0 (fun b => !inMask m b)]
  cases inMask m a <;> rfl

theorem shadowAt_discard (d : Dev) (m a : Nat) : (d.discard m).shadowAt a = if inMask m a then d.rd a else d.shadowAt a := by
  rw [Dev.shadowAt, tget_discard, rd_discard]
  cases inMask m a
  · rfl
  · exact BitVec.zero_xor

/-! ### Commit (R68) -/

theorem shadow_alignShow (d : Dev) : d.alignShow.shadow = d.shadow := rfl

theorem rd_alignShow_other (d : Dev) {a : Nat} (h : a ≠ Reg.TIME_STATUS) : d.alignShow.rd a = d.rd a := rd_setBit_other _ _ _ h

theorem masterGone_eq (d : Dev) : d.masterGone = { d with time := d.masterGone.time } := by
  unfold Dev.masterGone
  split <;> rfl

theorem shadow_masterChanged (d : Dev) : d.masterChanged.shadow = d.shadow := by
  rw [Dev.masterChanged, shadow_alignShow]
  split
  · rfl
  · rw [masterGone_eq]

theorem rd_masterChanged_other (d : Dev) {a : Nat} (hs : a ≠ Reg.TIME_STATUS) (he : a ≠ Reg.TIME_EVENT) : d.masterChanged.rd a = d.rd a := by
  rw [Dev.masterChanged, rd_alignShow_other _ hs]
  split
  · exact d.rd_wr_other _ he
  · rw [masterGone_eq]; rfl

/-- The shadows of `l`, held as differences from live, move to live. -/
def moveShadows (d : Dev) (l : Tab Word) : Dev := l.foldl (fun (d : Dev) e => d.wr e.1 (d.rd e.1 ^^^ e.2)) d

theorem shadow_moveShadows (d : Dev) (l : Tab Word) : (moveShadows d l).shadow = d.shadow := by
  induction l generalizing d with
  | nil => rfl
  | cons e l ih => exact ih (d.wr e.1 (d.rd e.1 ^^^ e.2))

/-- Each entry of a register's own key changes it by its difference. -/
theorem rd_moveShadows (d : Dev) (l : Tab Word) (a : Nat) : (moveShadows d l).rd a = (l.filter fun e => e.1 = a).foldl (fun v e => v ^^^ e.2) (d.rd a) := by
  induction l generalizing d with
  | nil => rfl
  | cons e l ih =>
    have hstep : (moveShadows d (e :: l)).rd a = _ := ih (d.wr e.1 (d.rd e.1 ^^^ e.2))
    rw [hstep]
    by_cases he : e.1 = a
    · subst he
      simp only [List.filter_cons, decide_true, if_true, List.foldl_cons, Dev.rd_wr_same]
    · rw [List.filter_cons_of_neg (by simpa only [decide_eq_true_eq] using he), Dev.rd_wr_other d _ (Ne.symm he)]

/-- What a commit does besides moving the shadows writes TIME_STATUS and TIME_EVENT alone (R94, R98). -/
theorem commit_moves (d : Dev) (m : Nat) {a : Nat} (hs : a ≠ Reg.TIME_STATUS) (he : a ≠ Reg.TIME_EVENT) :
    (d.commit m).shadow = (d.discard m).shadow ∧ (d.commit m).rd a = (moveShadows (d.discard m) (d.shadow.filter fun e => inMask m e.1)).rd a := by
  have hmove : (moveShadows (d.discard m) (d.shadow.filter fun e => inMask m e.1)).shadow = (d.discard m).shadow := shadow_moveShadows _ _
  rw [Dev.commit, Dev.commitSel]
  split
  · exact ⟨(shadow_masterChanged _).trans hmove, rd_masterChanged_other _ hs he⟩
  · split
    · exact ⟨(shadow_alignShow _).trans hmove, rd_alignShow_other _ hs⟩
    · exact ⟨hmove, rfl⟩

/-- The one difference that a write leaves is selected with the block of its register. -/
theorem selected_setShadow (d : Dev) (m a : Nat) (v : Word) :
    ((d.setShadow a v).shadow.filter fun e => inMask m e.1).filter (fun e => e.1 = a) = if inMask m a ∧ v ^^^ d.rd a ≠ 0 then [(a, v ^^^ d.rd a)] else [] := by
  have hkey : (d.setShadow a v).shadow.filter (fun e => e.1 = a) = if v ^^^ d.rd a = 0 then [] else [(a, v ^^^ d.rd a)] := filter_key_tset _ _ _ _
  have hswap : ((d.setShadow a v).shadow.filter fun e => inMask m e.1).filter (fun e => e.1 = a) = ((d.setShadow a v).shadow.filter fun e => e.1 = a).filter fun e => inMask m e.1 := by
    simp only [List.filter_filter, Bool.and_comm]
  rw [hswap, hkey]
  by_cases hx : v ^^^ d.rd a = 0
  · rw [if_pos hx, if_neg (fun h => h.2 hx), List.filter_nil]
  · rw [if_neg hx]
    by_cases hm : inMask m a = true
    · rw [if_pos ⟨hm, hx⟩]
      simp only [List.filter_cons, hm, if_true, List.filter_nil]
    · rw [if_neg (fun h => hm h.1)]
      simp only [List.filter_cons, hm, if_false, List.filter_nil, Bool.false_eq_true]

theorem rd_commit_setShadow (d : Dev) (m : Nat) (v : Word) {a : Nat} (hs : a ≠ Reg.TIME_STATUS) (he : a ≠ Reg.TIME_EVENT) :
    ((d.setShadow a v).commit m).rd a = if inMask m a then v else d.rd a := by
  rw [(commit_moves _ m hs he).2, rd_moveShadows, selected_setShadow, rd_discard, rd_setShadow]
  by_cases hm : inMask m a = true
  · rw [if_pos hm]
    by_cases hx : v ^^^ d.rd a = 0
    · rw [if_neg (fun h => h.2 hx), List.foldl_nil]
      exact (BitVec.xor_eq_zero_iff.1 hx).symm
    · rw [if_pos ⟨hm, hx⟩, List.foldl_cons, List.foldl_nil, BitVec.xor_comm v, ← BitVec.xor_assoc, BitVec.xor_self, BitVec.zero_xor]
  · rw [if_neg hm, if_neg (fun h => hm h.1), List.foldl_nil]

/-- A commit leaves what was written as the shadow, whether or not it has moved to live. -/
theorem shadowAt_commit_setShadow (d : Dev) (m : Nat) (v : Word) {a : Nat} (hs : a ≠ Reg.TIME_STATUS) (he : a ≠ Reg.TIME_EVENT) :
    ((d.setShadow a v).commit m).shadowAt a = v := by
  rw [Dev.shadowAt, (commit_moves _ m hs he).1, rd_commit_setShadow d m v hs he, tget_discard, tget_setShadow]
  by_cases hm : inMask m a = true
  · rw [if_pos hm, if_pos hm]
    exact BitVec.zero_xor
  · rw [if_neg hm, if_neg hm, BitVec.xor_assoc, BitVec.xor_self, BitVec.xor_zero]

/-- A commit of blocks whose shadows have been discarded changes nothing. -/
theorem commit_discard (d : Dev) (m : Nat) : (d.discard m).commit m = d.discard m := by
  have hnone : (d.discard m).shadow.filter (fun e => inMask m e.1) = [] := by
    simp [Dev.discard, List.filter_filter]
  have hrest : (d.discard m).shadow.filter (fun e => !inMask m e.1) = (d.discard m).shadow := by
    simp [Dev.discard, List.filter_filter]
  simp only [Dev.commit, Dev.commitSel, hnone, hrest, List.any_nil, List.foldl_nil, Bool.false_eq_true, if_false]

/-- Settles O56: the shadow is held as its difference from live, which a write sets, a discard drops and a commit adds to live. -/
theorem framedShadows : Obligations.FramedShadows := by
  intro d a m v r h4 hk hr hc ha
  have hs : a ≠ Reg.TIME_STATUS := ne_of_access_rw hr ha (by decide)
  have he : a ≠ Reg.TIME_EVENT := ne_of_access_rw hr ha (by decide)
  have hread : ∀ e : Dev, e.readWord a = some (e.rd a) := fun e => readWord_rw e h4 hk hr ha
  have hshadow : ∀ e : Dev, e.readShadow a = some (e.shadowAt a) := fun e => readShadow_framed e h4 hr hc
  rw [writeWord_framed d v hr hc ha, hread, hread, hshadow, hshadow, hshadow]
  refine ⟨rfl, rfl, ?_, rfl, ?_, rd_commit_setShadow d m v hs he, ?_, commit_discard d m⟩
  · rw [shadowAt_setShadow]
  · rw [shadowAt_discard, shadowAt_setShadow, rd_setShadow]
  · rw [shadowAt_commit_setShadow d m v hs he]

end Sys2Proof.Proofs
end

section
/-!
R371: the coil channels of an outlet with a type refuse the Host's commands; no other channel does so.
-/
namespace Sys2Proof.Proofs
open Sys2Proof.Machine Sys2Proof.Laws

/-! ### The channels of the session task -/

/-- Coils 2n and 2n + 1 are outlet n's. -/
theorem lswOwned_coil {d : Dev} (n : Fin 32) (k : Fin 2) (h : d.outType n.val ≠ 0) : d.lswOwned (2 * n.val + k.val) = true := by
  have hcoil : 2 * n.val + k.val < 64 := by omega
  have hslot : (2 * n.val + k.val) / 2 = n.val := by omega
  simp [Dev.lswOwned, hcoil, hslot, h]

theorem lswOwned_free {d : Dev} {ch : Nat} (h : 64 ≤ ch ∨ d.outType (ch / 2) = 0) : d.lswOwned ch = false := by
  rcases h with haux | hnone
  · simp [Dev.lswOwned, Nat.not_lt.2 haux]
  · simp [Dev.lswOwned, hnone]

theorem lswRefuses_owned {d : Dev} {ch : Nat} (on : Bool) (h : d.lswOwned ch = true) : d.lswRefuses ch on = some St.denied := by
  simp [Dev.lswRefuses, h]

/-- A channel that is not the session task's is refused for the contactor permit alone (R373). -/
theorem lswRefuses_free {d : Dev} {ch : Nat} (on : Bool) (h : d.lswOwned ch = false) : d.lswRefuses ch on = none ∨ d.lswRefuses ch on = some St.safetyHold := by
  simp only [Dev.lswRefuses, h, Bool.false_eq_true, if_false]
  split
  · exact .inr rfl
  · exact .inl rfl

/-! ### REG_WRITE of LSW_ch_CMD -/

theorem lswCmd_block {ch : Nat} (h : ch < 80) : Reg.LSW_CH_CMD ch / 0x10000 = 8 := by
  rw [Reg.LSW_CH_CMD]; omega

theorem lswCmd_offset {ch : Nat} (h : ch < 80) : Reg.LSW_CH_CMD ch % 0x10000 = 0x40 * ch + 4 := by
  rw [Reg.LSW_CH_CMD]; omega

/-- A row of one stride has no instance off its stride. -/
theorem hits_off_stride {r : RegRow} {a : Nat} (hs : r.stride ≠ 0) (h2 : r.stride2 = 0) (h : r.base ≤ a → (a - r.base) % r.stride ≠ 0) : r.hits a = false := by
  by_cases hb : a < r.base
  · simp [RegRow.hits, hb]
  · simp [RegRow.hits, hb, hs, h2, h (Nat.le_of_not_lt hb)]

/-- A row of one stride has its instances at the multiples of the stride. -/
theorem hits_at_stride {r : RegRow} {n : Nat} (hs : r.stride ≠ 0) (h2 : r.stride2 = 0) (hn : n < r.count) : r.hits (r.base + r.stride * n) = true := by
  simp [RegRow.hits, hs, h2, Nat.mul_div_cancel_left n (Nat.pos_of_ne_zero hs), hn]

/-- The row of LSW_ch_CMD in the register map. -/
def lswCmdRow : RegRow := regsLsw[2]'(by decide)

/-- The two rows of LSW_ch_CFG stand before that of LSW_ch_CMD. -/
theorem regsLsw_eq_cons : regsLsw = regsLsw[0]'(by decide) :: regsLsw[1]'(by decide) :: lswCmdRow :: regsLsw.drop 3 := rfl

theorem regAt_lswCmd {ch : Nat} (h : ch < 80) : regAt (Reg.LSW_CH_CMD ch) = some lswCmdRow := by
  have hrows : regRowsAt (Reg.LSW_CH_CMD ch) = regsLsw := by simp only [regRowsAt, lswCmd_block h]
  have hcoil : 0x80000 ≤ Reg.LSW_CH_CMD ch → (Reg.LSW_CH_CMD ch - 0x80000) % 0x40 ≠ 0 := by rw [Reg.LSW_CH_CMD]; omega
  have haux : 0x81000 ≤ Reg.LSW_CH_CMD ch → (Reg.LSW_CH_CMD ch - 0x81000) % 0x40 ≠ 0 := by rw [Reg.LSW_CH_CMD]; omega
  have hcoilCfg : (regsLsw[0]'(by decide)).hits (Reg.LSW_CH_CMD ch) = false := hits_off_stride (by decide) rfl hcoil
  have hauxCfg : (regsLsw[1]'(by decide)).hits (Reg.LSW_CH_CMD ch) = false := hits_off_stride (by decide) rfl haux
  have hcmd : lswCmdRow.hits (Reg.LSW_CH_CMD ch) = true := hits_at_stride (r := lswCmdRow) (by decide) rfl h
  rw [regAt, hrows, regsLsw_eq_cons]
  simp only [List.find?_cons, hcoilCfg, hauxCfg, hcmd]

theorem lswCmdRow_inRange (v : Word) : lswCmdRow.inRange v = decide (wfld v 9 0 ≤ 1000) := by
  have hrange : lswCmdRow.inRange v = (decide ((0 : Int) ≤ (wfld v 9 0 : Nat)) && decide (((wfld v 9 0 : Nat) : Int) ≤ 1000) && true) := rfl
  rw [hrange, Bool.and_true, ← Bool.decide_and, decide_eq_decide]
  omega

/-- No rule of R393 is about LSW_ch_CMD. -/
theorem ruleOk_lswCmd (d : Dev) (w : Nat → Word) {ch : Nat} (v : Word) (h : ch < 80) : d.ruleOk w (Reg.LSW_CH_CMD ch) v = true := by
  have hword : (0x40 * ch + 4) % 0x40 = 4 := by omega
  simp [Dev.ruleOk, lswCmd_block h, lswCmd_offset h, hword]

theorem liveRefuses_lswCmd (d : Dev) {ch : Nat} (v : Word) (h : ch < 80) : d.liveRefuses (Reg.LSW_CH_CMD ch) v = d.lswRefuses ch (wbit v 31) := by
  have hspan : 0x40 * ch + 4 < 0x1400 := by omega
  have hch : (0x40 * ch + 4) / 0x40 = ch := by omega
  have hword : (0x40 * ch + 4) % 0x40 = 4 := by omega
  simp [Dev.liveRefuses, lswCmd_block h, lswCmd_offset h, hspan, hch, hword]

/-- The status of a word for LSW_ch_CMD: its bits and its duty first, then the refusals of R371 and R373. -/
theorem wordStatus_lswCmd (d : Dev) (w : Nat → Word) {ch : Nat} (v : Word) (h : ch < 80) :
    d.wordStatus w (Reg.LSW_CH_CMD ch) v 0xFFFFFFFF =
      if v &&& 0x7FFFFC00#32 ≠ 0 ∨ 1000 < wfld v 9 0 then St.badParam else (d.lswRefuses ch (wbit v 31)).getD 0 := by
  have halign : Reg.LSW_CH_CMD ch % 4 = 0 := by rw [Reg.LSW_CH_CMD]; omega
  have hbelow : Reg.LSW_CH_CMD ch < 0x200000 := by rw [Reg.LSW_CH_CMD]; omega
  have hkern : inKern (Reg.LSW_CH_CMD ch) = false := by simp [inKern, Nat.not_le.2 hbelow]
  have hsel : v &&& (0xFFFFFFFF : Word) = v := BitVec.and_allOnes
  have hreserved : ~~~lswCmdRow.fields = 0x7FFFFC00#32 := rfl
  have hcls : lswCmdRow.cls = .live := rfl
  have haccess : lswCmdRow.access = .rw := rfl
  simp only [Dev.wordStatus, halign, hkern, regAt_lswCmd h, hsel, hreserved, hcls, haccess, lswCmdRow_inRange, ruleOk_lswCmd d w v h, liveRefuses_lswCmd d v h]
  by_cases hbits : v &&& 0x7FFFFC00#32 = 0#32
  · by_cases hduty : 1000 < wfld v 9 0
    · simp [hbits, hduty]
    · cases d.lswRefuses ch (wbit v 31) <;> simp [hbits, hduty]
  · simp [hbits]

/-! ### LSW_SET -/

/-- The checks of LSW_SET, in the order of R606. -/
theorem opLswSet_eq (d : Dev) (c : Cmd) :
    opLswSet d c =
      if c.payload.length ≠ 4 then (d, .done St.badLength [])
      else if 79 < num c.payload 0 1 ∨ 1 < num c.payload 1 1 ∨ 1000 < num c.payload 2 2 then (d, .done St.badParam [])
      else match d.lswRefuses (num c.payload 0 1) (num c.payload 1 1 = 1) with
        | some st => (d, .done st [])
        | none =>
          if num c.payload 1 1 = 1 ∧ d.lst (num c.payload 0 1) = 4 then (d, .done St.f0 [])
          else (d.lswCommand c (num c.payload 0 1) (word ((if num c.payload 1 1 = 1 then 0x80000000 else 0) + num c.payload 2 2)), .done St.ok []) := by
  simp only [opLswSet, check_cons, check_nil]
  cases d.lswRefuses (num c.payload 0 1) (num c.payload 1 1 = 1) <;> simp [or_assoc]

theorem opLswSet_owned {d : Dev} {c : Cmd} (h : d.lswOwned (num c.payload 0 1) = true) (hlen : c.payload.length = 4) (hch : num c.payload 0 1 ≤ 79)
    (hon : num c.payload 1 1 ≤ 1) (hduty : num c.payload 2 2 ≤ 1000) : opLswSet d c = (d, .done St.denied []) := by
  have hgood : ¬ (79 < num c.payload 0 1 ∨ 1 < num c.payload 1 1 ∨ 1000 < num c.payload 2 2) := by omega
  rw [opLswSet_eq, if_neg (fun hne => hne hlen), if_neg hgood, lswRefuses_owned _ h]

theorem done_ne_denied {st : Nat} (h : st ≠ St.denied) : Ans.done st [] ≠ .done St.denied [] := fun heq => h (Ans.done.inj heq).1

theorem opLswSet_free {d : Dev} {c : Cmd} (h : d.lswOwned (num c.payload 0 1) = false) : (opLswSet d c).2 ≠ .done St.denied [] := by
  rw [opLswSet_eq]
  split
  · exact done_ne_denied (by decide)
  · split
    · exact done_ne_denied (by decide)
    · rcases lswRefuses_free (decide (num c.payload 1 1 = 1)) h with hr | hr <;> simp only [hr]
      · split
        · exact done_ne_denied (by decide)
        · exact done_ne_denied (by decide)
      · exact done_ne_denied (by decide)

/-- Settles O58: for a word of LSW_ch_CMD as for LSW_SET, DENIED comes from `Dev.lswRefuses` alone, and that gives it for the session task's channels alone. -/
theorem coilsBelongToSessions : Obligations.CoilsBelongToSessions := by
  refine ⟨?_, ?_, ?_, ?_⟩
  · intro d w n k v htype hbits hduty
    have hgood : ¬ (v &&& 0x7FFFFC00#32 ≠ 0 ∨ 1000 < wfld v 9 0) := by simp [hbits, hduty]
    rw [wordStatus_lswCmd d w v (by omega), if_neg hgood, lswRefuses_owned _ (lswOwned_coil n k htype), Option.getD_some]
  · intro d c n k htype hlen hch hon hduty
    exact opLswSet_owned (hch ▸ lswOwned_coil n k htype) hlen (by omega) hon hduty
  · intro d w ch v hfree
    rw [wordStatus_lswCmd d w v ch.isLt]
    split
    · decide
    · rcases lswRefuses_free (wbit v 31) (lswOwned_free hfree) with hr | hr <;> rw [hr] <;> decide
  · intro d c hfree
    exact opLswSet_free (lswOwned_free hfree)

end Sys2Proof.Proofs
end

section
/-!
R421: what carries a lower epoch than the module's own is counted and goes no further, whether a Pod frame or a notice brings it.
-/
namespace Sys2Proof.Proofs
open Sys2Proof.Machine Sys2Proof.Claims Sys2Proof.Laws

/-- A guarded step is its function where the guard holds. -/
theorem when_of_true {d : Dev} {b : Bool} (f : Dev → Dev) (hb : b = true) : d.when b f = f d := if_pos hb

/-- A whole Pod frame of a lower epoch, with the link trained, passes the checks of R398 and is counted as stale, with nothing of it taken. -/
theorem podFrame_lowerEpoch {d : Dev} {f : PodOut} (htwin : d.twinEn = true) (hlink : d.rbit Reg.TWIN_POD_STATUS 2 = true) (hepoch : f.epoch < d.rn Reg.TWIN_EPOCH) :
    d.podFrame { body := f, crc := podCrc f } = d.staleTwin := by
  have hhears : ¬ (!d.twinEn || !d.rbit Reg.TWIN_POD_STATUS 2) = true := by simp [htwin, hlink]
  have hcrc : ¬ (podCrc f ≠ podCrc f) := fun h => h rfl
  rw [Dev.podFrame, if_neg hhears, if_neg hcrc, if_pos hepoch]

/-- A notice that is the partner's and passes its check, of a lower epoch, is counted as stale and not as heard. -/
theorem noticeRx_lowerEpoch {d : Dev} {b : Bytes} (hlen : b.length = 16) (hmagic : b.take 4 = [0x4B, 0x42, 0x54, 0x4E]) (hcheck : num b 12 4 = (crc32c (b.take 12)).toNat)
    (htwin : d.twinEn = true) (hnotices : d.rbit Reg.TWIN_CFG 17 = true) (hepoch : num b 4 4 < d.rn Reg.TWIN_EPOCH) :
    d.noticeRx (d.rn Reg.TWIN_PEER_IP) b = d.staleTwin := by
  rw [Dev.noticeRx, if_neg (by simp [htwin, hnotices, hlen, hmagic, hcheck])]
  exact if_pos hepoch

/-- Settles O59: the epoch is compared right after the checks of frame and notice, before anything of either is taken. -/
theorem lowerEpochDiscarded : Obligations.LowerEpochDiscarded := by
  refine ⟨?frame, ?notice⟩
  case frame =>
    intro f
    refine acts_of (fun _ => rfl) ?_
    rintro d ⟨hruns, htwin, hlink, hepoch⟩
    calc d.when d.shellRuns (fun d => d.podFrame { body := f, crc := podCrc f }) = d.podFrame { body := f, crc := podCrc f } := when_of_true _ hruns
      _ = d.staleTwin := podFrame_lowerEpoch htwin hlink hepoch
  case notice =>
    intro ip b hlen hmagic hcheck
    refine acts_of (fun _ => rfl) ?_
    rintro d ⟨hruns, heth, htwin, hnotices, hip, hepoch⟩
    have hguard : (d.shellRuns && d.ethRuns) = true := by rw [hruns, heth, Bool.and_self]
    calc d.when (d.shellRuns && d.ethRuns) (fun d => d.noticeRx ip.toNat b) = d.noticeRx (d.rn Reg.TWIN_PEER_IP) b := by rw [when_of_true _ hguard, hip]
      _ = d.staleTwin := noticeRx_lowerEpoch hlen hmagic hcheck htwin hnotices hepoch

end Sys2Proof.Proofs
end

section
/-!
R458: of the entries that a counter has reached the highest-numbered gives the gain, and without age_en no pixel has a gain and no frame ages one.
-/
namespace Sys2Proof.Proofs
open Sys2Proof.Machine

/-! ### The gain of a counter -/

/-- The gain that the entries below the `n`-th give a counter: `Dev.ageGain` without the others. -/
def ageGainBelow (d : Dev) (c n : Nat) : Nat :=
  (List.range n).foldl (fun g k => if d.fld (Reg.DISP_AGE k) 31 16 ≤ c then d.fld (Reg.DISP_AGE k) 9 0 else g) 0

theorem ageGain_eq (d : Dev) (c : Nat) : d.ageGain c = ageGainBelow d c 16 := rfl

/-- An entry that the counter has reached takes the place of all those before it. -/
theorem ageGainBelow_succ (d : Dev) (c n : Nat) :
    ageGainBelow d c (n + 1) = if d.fld (Reg.DISP_AGE n) 31 16 ≤ c then d.fld (Reg.DISP_AGE n) 9 0 else ageGainBelow d c n := by
  rw [ageGainBelow, List.range_succ, List.foldl_append]
  rfl

theorem ageGainBelow_none {d : Dev} {c n : Nat} (h : ∀ k < n, c < d.fld (Reg.DISP_AGE k) 31 16) : ageGainBelow d c n = 0 := by
  induction n with
  | zero => rfl
  | succ n ih => rw [ageGainBelow_succ, if_neg (Nat.not_le.2 (h n n.lt_succ_self)), ih fun k hk => h k (Nat.lt_succ_of_lt hk)]

theorem ageGainBelow_last {d : Dev} {c n k : Nat} (hk : k < n) (hreached : d.fld (Reg.DISP_AGE k) 31 16 ≤ c)
    (hlast : ∀ j, k < j → j < n → c < d.fld (Reg.DISP_AGE j) 31 16) : ageGainBelow d c n = d.fld (Reg.DISP_AGE k) 9 0 := by
  induction n with
  | zero => exact absurd hk k.not_lt_zero
  | succ n ih =>
    rw [ageGainBelow_succ]
    rcases Nat.lt_succ_iff_lt_or_eq.1 hk with hlt | rfl
    · rw [if_neg (Nat.not_le.2 (hlast n hlt n.lt_succ_self)), ih hlt fun j hj hjn => hlast j hj (Nat.lt_succ_of_lt hjn)]
    · rw [if_pos hreached]

/-! ### What the settling of the fabric leaves of the display -/

/-- A run of updates leaves the display where each of them does. -/
theorem disp_foldl {α : Type} {f : Dev → α → Dev} (hf : ∀ d x, (f d x).disp = d.disp) (l : List α) (d : Dev) : (l.foldl f d).disp = d.disp := by
  induction l generalizing d with
  | nil => rfl
  | cons x l ih => rw [List.foldl_cons, ih, hf]

/-- The mesh shows itself in registers alone. -/
theorem disp_setMesh (d : Dev) (m : Mesh) : (d.setMesh m).disp = d.disp := by
  rw [Dev.setMesh]
  refine (disp_foldl ?_ _ _).trans ?_
  · exact fun e n => e.wn_disp _ _
  · iterate 8 rw [Dev.wn_disp]

theorem disp_meshForward (d : Dev) (rec : Bytes) : (d.meshForward rec).disp = d.disp := by
  simp only [Dev.meshForward, apply_ite Dev.disp, disp_setMesh, Dev.inc_disp, ite_self]

theorem disp_receiptReady (d : Dev) (n counter session : Nat) : (d.receiptReady n counter session).disp = d.disp := by
  rw [Dev.receiptReady, Dev.outRecBy, disp_meshForward, Dev.wn_disp]

theorem disp_takeKernel (d : Dev) : d.takeKernel.disp = d.disp := by
  simp only [Dev.takeKernel]
  rw [disp_foldl, disp_foldl, disp_foldl]
  case hf => exact fun d n => d.setO_disp n _
  case hf => exact fun d r => d.finish_disp _ _ _
  case hf => exact fun d r => disp_receiptReady d _ _ _

theorem disp_show (f : Fab) (d : Dev) : (f.show d).disp = d.disp := by rw [show_eq]

theorem disp_settle (s : State) : s.settle.dev.disp = s.dev.disp := by
  have htaken : (s.onDev Dev.takeKernel).drain.dev.disp = s.dev.disp := disp_takeKernel s.dev
  rw [State.settle, State.shown, disp_show]
  split <;> exact htaken

/-! ### A frame start without age_en -/

/-- Two devices that agree on DISP_CTRL, in which age_en stands, and on the stress of every pixel (R457). -/
structure SameAgeing (d e : Dev) : Prop where
  ctrl : e.rd Reg.DISP_CTRL = d.rd Reg.DISP_CTRL
  stress : e.disp.stress = d.disp.stress
  accum : e.disp.accum = d.disp.accum

theorem sameAgeing_wr {d e : Dev} {a : Nat} (v : Word) (h : SameAgeing d e) (ha : Reg.DISP_CTRL ≠ a) : SameAgeing d (e.wr a v) :=
  ⟨(e.rd_wr_other v ha).trans h.ctrl, h.stress, h.accum⟩

/-- What a frame start does besides adding stress leaves the ageing, and it adds none without age_en. -/
theorem dispFrame_sameAgeing {d : Dev} (volt curr : Nat) (hoff : d.rbit Reg.DISP_CTRL 2 = false) : SameAgeing d (d.dispFrame volt curr) := by
  rw [Dev.dispFrame]
  split
  · exact ⟨rfl, rfl, rfl⟩
  · extract_lets _ begun counted _ banded lit capped
    have hbegun : SameAgeing d begun := ⟨rfl, rfl, rfl⟩
    have hcounted : SameAgeing d counted := sameAgeing_wr _ (sameAgeing_wr _ hbegun (by decide)) (by decide)
    have hbanded : SameAgeing d banded := by
      simp only [banded]
      split
      · have hnone : SameAgeing d { counted with disp := { counted.disp with bandNext := none } } := ⟨hcounted.ctrl, hcounted.stress, hcounted.accum⟩
        exact sameAgeing_wr _ (sameAgeing_wr _ hnone (by decide)) (by decide)
      · exact hcounted
    have hcapped : SameAgeing d capped := sameAgeing_wr _ hbanded (by decide)
    have hstill : ¬ capped.rbit Reg.DISP_CTRL 2 = true := by
      rw [Dev.rbit, hcapped.ctrl, ← Dev.rbit, hoff]
      exact Bool.false_ne_true
    rw [if_neg hstill]
    exact hcapped

/-- Settles O57: the entries are gone through in order, each that the counter has reached in place of those before it; age_en off, a frame start writes registers other than DISP_CTRL and parts of the display other than the stress. -/
theorem ageingGain : Obligations.AgeingGain := by
  refine ⟨?none, ?last, ?on, ?off, ?frame⟩
  case none => exact fun d c h => (ageGain_eq d c).trans (ageGainBelow_none h)
  case last => exact fun d c k hk hreached hlast => (ageGain_eq d c).trans (ageGainBelow_last hk hreached hlast)
  case on => exact fun d i hon => if_pos hon
  case off => exact fun d i hoff => if_neg (by rw [hoff]; exact Bool.false_ne_true)
  case frame =>
    intro s volt curr hoff
    refine ⟨_, rfl, ?_⟩
    rw [State.devStep, disp_settle, State.onDev_dev, Dev.when]
    split
    · have hkept := dispFrame_sameAgeing volt curr hoff
      exact ⟨hkept.stress, hkept.accum⟩
    · exact ⟨rfl, rfl⟩

end Sys2Proof.Proofs
end

section
/-!
R478: the key commands that fill or empty a slot answer BUSY, with nothing done, while an operation on a slot that they name is under way.
-/
namespace Sys2Proof.Proofs
open Sys2Proof.Machine Sys2Proof.Claims Sys2Proof.Laws

/-! ### The checks before an opcode's effect (R606) -/

/-- A check whose condition does not hold leaves the answer to the ones after it. -/
theorem check_passed {d : Dev} {b : Bool} {st : Nat} {l : List (Bool × Nat)} {k : Dev × Ans} (h : b = false) : check d ((b, st) :: l) k = check d l k := by
  rw [check_cons, h, if_neg Bool.false_ne_true]

/-- A check whose condition holds answers its status with nothing done. -/
theorem check_failed {d : Dev} {b : Bool} {st : Nat} {l : List (Bool × Nat)} {k : Dev × Ans} (h : b = true) : check d ((b, st) :: l) k = (d, .done st []) := by
  rw [check_cons, h, if_pos rfl]

/-! ### Each command on a slot that is busy -/

section
variable {d : Dev} {c : Cmd}

theorem opKeyLoad_busy (hbusy : d.slotBusy (num c.payload 0 1) = true) (hmin : 60 ≤ c.payload.length) (hmax : c.payload.length ≤ 116)
    (hslot : num c.payload 0 1 ≤ 63) (hpersist : num c.payload 1 1 ≤ 1) (hres : num c.payload 2 2 = 0) : opKeyLoad d c = (d, .done St.busy []) := by
  have hlength : ((c.payload.drop 4).length < 56 || 112 < (c.payload.drop 4).length || c.payload.length < 4) = false := by
    simp only [List.length_drop, Bool.or_eq_false_iff, decide_eq_false_iff_not]; omega
  have hreserved : decide (num c.payload 2 2 ≠ 0) = false := by simp [hres]
  have hrange : (63 < num c.payload 0 1 || 1 < num c.payload 1 1) = false := by simp [hslot, hpersist]
  exact (check_passed hlength).trans <| (check_passed hreserved).trans <| (check_passed hrange).trans <| check_failed hbusy

theorem opKeyClear_busy (hbusy : d.slotBusy (num c.payload 0 1) = true) (hlen : c.payload.length = 4)
    (hslot : num c.payload 0 1 ≤ 63) (hforget : num c.payload 1 1 ≤ 1) (hres : num c.payload 2 2 = 0) : opKeyClear d c = (d, .done St.busy []) := by
  have hlength : decide (c.payload.length ≠ 4) = false := by simp [hlen]
  have hreserved : decide (num c.payload 2 2 ≠ 0) = false := by simp [hres]
  have hrange : (63 < num c.payload 0 1 || 1 < num c.payload 1 1) = false := by simp [hslot, hforget]
  exact (check_passed hlength).trans <| (check_passed hreserved).trans <| (check_passed hrange).trans <| check_failed hbusy

theorem opKeyGenerate_busy (hbusy : d.slotBusy (num c.payload 0 1) = true) (hlen : c.payload.length = 12)
    (hslot : num c.payload 0 1 ≤ 63) (hcombo : keyCombo (num c.payload 1 1) (num c.payload 2 1) = true) (hpersist : num c.payload 3 1 ≤ 1) :
    opKeyGenerate d c = (d, .done St.busy []) := by
  have hlength : decide (c.payload.length ≠ 12) = false := by simp [hlen]
  have hrange : (63 < num c.payload 0 1 || 1 < num c.payload 3 1) = false := by simp [hslot, hpersist]
  have hkind : (!keyCombo (num c.payload 1 1) (num c.payload 2 1)) = false := by rw [hcombo, Bool.not_true]
  exact (check_passed hlength).trans <| (check_passed hrange).trans <| (check_passed hkind).trans <| check_failed hbusy

/-- KEY_IMPORT names two slots, that of the wrapping key and that of the new one. -/
theorem opKeyImport_busy (hbusy : (d.slotBusy (num c.payload 0 1) || d.slotBusy (num c.payload 1 1)) = true) (hmin : 20 ≤ c.payload.length)
    (hwrap : num c.payload 0 1 ≤ 63) (hslot : num c.payload 1 1 ≤ 63) (hpersist : num c.payload 2 1 ≤ 1) (hres : num c.payload 3 1 = 0)
    (hcombo : keyCombo (num c.payload 9 1) (num c.payload 10 1) = true) : opKeyImport d c = (d, .done St.busy []) := by
  have hlength : decide (c.payload.length < 20) = false := by simp [hmin]
  have hreserved : decide (num c.payload 3 1 ≠ 0) = false := by simp [hres]
  have hrange : (63 < num c.payload 0 1 || 63 < num c.payload 1 1 || 1 < num c.payload 2 1) = false := by simp [hwrap, hslot, hpersist]
  have hkind : (!keyCombo (num c.payload 9 1) (num c.payload 10 1)) = false := by rw [hcombo, Bool.not_true]
  exact (check_passed hlength).trans <| (check_passed hreserved).trans <| (check_passed hrange).trans <| (check_passed hkind).trans <| check_failed hbusy

end

/-- The row of KEY_CLEAR in the opcode table. -/
theorem opSpec_keyClear : opSpec 0x0802 = some { opcode := 0x0802, classes := [1, 2, 3], immediate := false, source := fun _ => 73, run := some opKeyClear } := rfl

/-- Settles O55: each command's own operands pass the checks that come before the one on the slots that it names, and that one answers before anything is started. -/
theorem busySlotUnchanged : Obligations.BusySlotUnchanged := by
  intro n hn
  refine ⟨?keyLoad, ?keyClear, ?keyGenerate, ?keyImport, ?execKeyClear⟩
  case keyLoad =>
    rintro d c hbusy hmin hmax rfl
    exact opKeyLoad_busy hbusy hmin hmax hn
  case keyClear =>
    rintro d c hbusy hlen rfl
    exact opKeyClear_busy hbusy hlen hn
  case keyGenerate =>
    rintro d c hbusy hlen rfl
    exact opKeyGenerate_busy hbusy hlen hn
  case keyImport =>
    intro d c hbusy hmin hwrap hslot hnamed
    have hone : (d.slotBusy (num c.payload 0 1) || d.slotBusy (num c.payload 1 1)) = true := by
      rcases hnamed with h | h <;> simp [h, hbusy]
    exact opKeyImport_busy hone hmin hwrap hslot
  case execKeyClear =>
    rintro s h p ha hl hbusy hlen rfl hforget hres
    have hanswer : opKeyClear (startDev s h 0x0802 p) (cmdOf s h 0x0802 p) = (startDev s h 0x0802 p, .done St.busy []) :=
      opKeyClear_busy hbusy hlen hn hforget hres
    have hsubmit := submit_produces ha hl opSpec_keyClear rfl rfl (by decide) rfl hanswer
    have hexec : exec (.keyClear h p) s = .next (s.submit h 0x0802 p) := rfl
    rw [hexec, hsubmit]

end Sys2Proof.Proofs
end

section
/-!
What every command leaves of the fabric and of the queue: the credits in use, with the ids, queues, classes and tags of the commands that hold them, change only where a packet is accepted, a reply is read or the fabric is reset.
-/
namespace Sys2Proof.Proofs
open Sys2Proof.Machine Sys2Proof.Claims Sys2Proof.Laws

/-! ### Credits -/

/-- What a command in flight holds for as long as it is in flight: its id, queue, class and tag. -/
def creditKey (x : Flight) : Nat × Nat × Nat × Nat := (x.cmd.id, x.cmd.queue, x.cmd.cls, x.cmd.tag)

/-- The fabric `g` holds the credits, answers and receive buffers of `f`, and no more replies than may be kept where `f` does not. -/
structure SameCredits (f g : Fab) : Prop where
  keys : g.flights.map creditKey = f.flights.map creditKey
  answers : g.answers = f.answers
  rxBufs : g.rxBufs = f.rxBufs
  nextId : g.nextId = f.nextId
  history : f.history.length ≤ 256 → g.history.length ≤ 256

theorem SameCredits.refl (f : Fab) : SameCredits f f := ⟨rfl, rfl, rfl, rfl, id⟩

theorem SameCredits.trans {f g k : Fab} (h : SameCredits f g) (h' : SameCredits g k) : SameCredits f k :=
  ⟨h'.keys.trans h.keys, h'.answers.trans h.answers, h'.rxBufs.trans h.rxBufs, h'.nextId.trans h.nextId, h'.history ∘ h.history⟩

/-- What the credits do not show may change: late commands, STALE_EPOCH replies, faults and the bytes sent. -/
theorem sameCredits_of_eq {f g : Fab} (hf : g.flights = f.flights) (ha : g.answers = f.answers) (hb : g.rxBufs = f.rxBufs) (hn : g.nextId = f.nextId) (hh : g.history = f.history) :
    SameCredits f g := ⟨by rw [hf], ha, hb, hn, fun h => hh ▸ h⟩

/-- A change of the phases of the commands in flight. -/
theorem sameCredits_mapFlights {u : Flight → Flight} (f : Fab) (hu : ∀ x, creditKey (u x) = creditKey x) : SameCredits f { f with flights := f.flights.map u } :=
  ⟨by rw [List.map_map]; exact List.map_congr_left fun x _ => hu x, rfl, rfl, rfl, fun h => h⟩

theorem fabWf_of_sameCredits {f g : Fab} (h : SameCredits f g) (hf : FabWf f) : FabWf g := by
  obtain ⟨hlen, hall, hid, htag, hrej, hother, hhist, hrx⟩ := hf
  have hsize : g.flights.length = f.flights.length := by simpa using congrArg List.length h.keys
  refine ⟨hsize ▸ hlen, ?_, ?_, ?_, h.answers ▸ hrej, by rw [h.answers, hsize]; exact hother, h.history hhist, h.rxBufs ▸ hrx⟩
  · have hkeys : ∀ k ∈ f.flights.map creditKey, k.1 < f.nextId ∧ k.2.1 ≤ 31 ∧ k.2.2.1 ≤ 3 := List.forall_mem_map.2 hall
    rw [← h.keys, ← h.nextId] at hkeys
    exact List.forall_mem_map.1 hkeys
  · have hmap : ∀ l : List Flight, l.map (fun x => x.cmd.id) = (l.map creditKey).map Prod.fst := fun l => by simp [creditKey, Function.comp_def]
    rw [hmap, h.keys, ← hmap]
    exact hid
  · have hmap : ∀ l : List Flight, l.map (fun x => (x.cmd.queue, x.cmd.tag)) = (l.map creditKey).map fun k => (k.2.1, k.2.2.2) := fun l => by simp [creditKey, Function.comp_def]
    rw [hmap, h.keys, ← hmap]
    exact htag

theorem sameCredits_keep (f : Fab) (r : Reply) : SameCredits f (f.keep r) := ⟨rfl, rfl, rfl, rfl, fun _ => List.length_take_le _ _⟩

theorem sameCredits_foldl {α : Type} {u : Fab → α → Fab} (hu : ∀ f a, SameCredits f (u f a)) (l : List α) (f : Fab) : SameCredits f (l.foldl u f) := by
  induction l generalizing f with
  | nil => exact .refl f
  | cons a l ih => exact (hu f a).trans (ih _)

theorem sameCredits_setPhase (f : Fab) (id : Nat) (ph : Phase) : SameCredits f (f.setPhase id ph) :=
  sameCredits_mapFlights f fun x => by split <;> rfl

theorem sameCredits_finish (f : Fab) (r : Done) : SameCredits f (f.finish r) :=
  (sameCredits_mapFlights f fun x => by split <;> rfl).trans (sameCredits_of_eq rfl rfl rfl rfl rfl)

theorem sameCredits_shift (f : Fab) (k : Nat) : SameCredits f (f.shift k) :=
  sameCredits_mapFlights f fun _ => rfl

theorem sameCredits_endQuiet (f : Fab) (pip : Nat) : SameCredits f (f.endQuiet pip) :=
  sameCredits_mapFlights f fun x => by
    split
    · split <;> rfl
    · rfl

theorem sameCredits_dropFault (f : Fab) (c : Cmd) : SameCredits f (f.dropFault c) := sameCredits_of_eq rfl rfl rfl rfl rfl

/-! ### What keeps credits and queue -/

/-- The state `t` has the queue of waiting commands of `s` and its credits. -/
structure Keeps (s t : State) : Prop where
  pending : t.pending = s.pending
  credits : SameCredits s.fab t.fab

theorem Keeps.refl (s : State) : Keeps s s := ⟨rfl, .refl _⟩

theorem Keeps.trans {s t u : State} (h : Keeps s t) (h' : Keeps t u) : Keeps s u := ⟨h'.pending.trans h.pending, h.credits.trans h'.credits⟩

theorem keeps_onDev (s : State) (f : Dev → Dev) : Keeps s (s.onDev f) := ⟨rfl, .refl _⟩

theorem keeps_onFab {s : State} {f : Fab → Fab} (h : SameCredits s.fab (f s.fab)) : Keeps s (s.onFab f) := ⟨rfl, h⟩

theorem keeps_foldl {α : Type} {u : State → α → State} (hu : ∀ s a, Keeps s (u s a)) (l : List α) (s : State) : Keeps s (l.foldl u s) := by
  induction l generalizing s with
  | nil => exact .refl s
  | cons a l ih => exact (hu s a).trans (ih _)

theorem keeps_shown (s : State) : Keeps s s.shown := ⟨s.shown_pending, by rw [State.shown_fab]; exact SameCredits.refl s.fab⟩

theorem keeps_drain (s : State) : Keeps s s.drain := ⟨rfl, sameCredits_foldl sameCredits_finish _ _⟩

/-- Delivery puts chosen commands in flight into the phase of a delivered reply, and keeps their replies. -/
theorem deliver_eq (s : State) (sel : Flight → Bool) : ∃ (l : List Reply) (pick : Flight → Option Reply), s.deliver sel =
    { s with fab := { l.foldl Fab.keep s.fab with flights := (l.foldl Fab.keep s.fab).flights.map fun x => match pick x with
      | some r => { x with phase := .delivered s.dev.pip r }
      | none => x } } := ⟨_, _, rfl⟩

theorem keeps_deliver (s : State) (sel : Flight → Bool) : Keeps s (s.deliver sel) := by
  obtain ⟨l, pick, h⟩ := deliver_eq s sel
  rw [h]
  refine ⟨rfl, (sameCredits_foldl sameCredits_keep l s.fab).trans (sameCredits_mapFlights _ fun x => ?_)⟩
  cases pick x <;> rfl

theorem keeps_fabCancel (s : State) (c : Cmd) : Keeps s (s.fabCancel c).1 := by
  rw [State.fabCancel]
  split
  · exact .refl s
  · split
    · exact .refl s
    · split
      · exact .refl s
      · refine ⟨rfl, sameCredits_mapFlights s.fab fun x => ?_⟩
        split <;> rfl

theorem keeps_runOp (s : State) (c : Cmd) : Keeps s (s.runOp c).1 := by
  rw [State.runOp]
  split
  · exact ⟨rfl, sameCredits_dropFault s.fab c⟩
  · split
    · exact keeps_fabCancel s c
    · split
      · exact .refl s
      · split
        · exact ⟨rfl, .refl _⟩
        · exact .refl s

theorem keeps_setPhase {s t : State} (h : Keeps s t) (id : Nat) (ph : Phase) : Keeps s (t.onFab fun f => f.setPhase id ph) :=
  h.trans (keeps_onFab (sameCredits_setPhase _ _ _))

theorem keeps_start (s : State) (c : Cmd) : Keeps s (s.start c) := by
  have hrun := keeps_runOp s c
  rw [State.start]
  split
  · exact .refl s
  · split
    · exact keeps_setPhase (.refl s) _ _
    · split <;> rename_i heq <;> rw [heq] at hrun <;> split
      · exact keeps_setPhase (.refl s) _ _
      · exact keeps_setPhase hrun _ _
      · exact keeps_setPhase (.refl s) _ _
      · exact keeps_setPhase hrun _ _

theorem keeps_commitPoint (s : State) : Keeps s s.commitPoint := by
  refine keeps_foldl (fun s x => ?_) _ s
  dsimp only
  split
  · refine (keeps_onDev s _).trans (keeps_onFab (.trans ?_ (sameCredits_setPhase _ _ _)))
    split
    · exact sameCredits_dropFault _ _
    · exact .refl _
  · exact ((keeps_onDev s _).trans (keeps_onDev _ _)).trans (keeps_onFab (sameCredits_setPhase _ _ _))

/-- The launched commands that are due have fired, in the order of `l`. -/
def firedDue (s : State) (l : List Flight) : State :=
  l.foldl (fun (s : State) x =>
    if !s.fab.waits x.cmd.id then s
    else if s.dev.refusesNow x.cmd then s.onFab fun f => f.setPhase x.cmd.id (.produced St.denied [] s.dev.pip)
    else (s.onDev fun d => d.unaligned x.cmd).start x.cmd) s

theorem keeps_firedDue (s : State) (l : List Flight) : Keeps s (firedDue s l) := by
  refine keeps_foldl (fun s x => ?_) l s
  split
  · exact .refl s
  · split
    · exact keeps_setPhase (.refl s) _ _
    · exact (keeps_onDev s _).trans (keeps_start _ _)

/-- A command that waits for a quiet pip acts where no other is in flight. -/
def firedQuiet (s : State) : State :=
  match s.fab.flights with
  | [x] => match x.phase with
    | .waitQuiet a b =>
      if a ≤ s.dev.pip && s.dev.pip ≤ b then
        match s.runOp x.cmd with
        | (s', .done st pl) => s'.onFab fun f => f.setPhase x.cmd.id (.produced st pl s.dev.pip)
        | (s', .running) => s'.onFab fun f => f.setPhase x.cmd.id .running
      else s
    | _ => s
  | _ => s

theorem keeps_firedQuiet (s : State) : Keeps s (firedQuiet s) := by
  rw [firedQuiet]
  split
  · next x _ =>
    have hrun := keeps_runOp s x.cmd
    split
    · split
      · split <;> rename_i heq <;> rw [heq] at hrun <;> exact keeps_setPhase hrun _ _
      · exact .refl s
    · exact .refl s
  · exact .refl s

theorem fire_eq (s : State) :
    s.fire = firedQuiet (firedDue s (sortBy (fun x : Flight => x.cmd.queue) (s.fab.flights.filter fun x => x.phase == .waitLaunch && x.cmd.launch.any (· ≤ s.dev.pip)))) := rfl

theorem keeps_fire (s : State) : Keeps s s.fire := by
  rw [fire_eq]
  exact (keeps_firedDue s _).trans (keeps_firedQuiet _)

theorem keeps_staleReplies (s : State) : Keeps s s.staleReplies := by
  rw [State.staleReplies]
  split
  · exact .refl s
  · exact ⟨rfl, (sameCredits_foldl sameCredits_keep _ s.fab).trans (sameCredits_of_eq rfl rfl rfl rfl rfl)⟩

theorem keeps_collector (s : State) : Keeps s s.collector :=
  (((keeps_staleReplies s).trans (keeps_drain _)).trans (keeps_onFab (sameCredits_endQuiet _ _))).trans (keeps_deliver _ _)

theorem keeps_memoryFault (s : State) (r : Requester) : Keeps s (s.memoryFault r) := by
  cases r with
  | host q t =>
    have harm : Keeps s (s.onFab fun f => { f with faults := (q.val, t.toNat) :: f.faults.filter (· ≠ (q.val, t.toNat)) }) :=
      keeps_onFab (sameCredits_of_eq rfl rfl rfl rfl rfl)
    simp only [State.memoryFault]
    split
    · split
      · exact keeps_onDev s _
      · exact harm
      · exact harm
      · exact harm
      all_goals exact .refl s
    · exact harm
  | core => exact ⟨rfl, .refl _⟩
  | safety => exact ⟨rfl, .refl _⟩
  | husk n => exact ⟨rfl, .refl _⟩
  | copy => exact ⟨rfl, .refl _⟩
  | display => exact .refl s
  | none => exact .refl s

/-! ### Well-formedness -/

/-- Settling leaves the fabric's credits, or a reset of the fabric leaves none. -/
theorem fabWf_settle {s : State} (h : FabWf s.fab) : FabWf s.settle.fab := by
  have hd : Keeps s (s.onDev Dev.takeKernel).drain := (keeps_onDev s _).trans (keeps_drain _)
  rw [State.settle]
  split
  · simp [Fab.reset, FabWf]
  · rw [State.shown_fab]
    exact fabWf_of_sameCredits hd.credits h

theorem Keeps.fabWf_settle {s t : State} (h : Keeps s t) (hs : FabWf s.fab) : FabWf t.settle.fab := Proofs.fabWf_settle (fabWf_of_sameCredits h.credits hs)

/-- A rejection finds room in the FIFO or leaves no answer (R74). -/
theorem fabWf_reject {s : State} (p : Packet) (st : Nat) (pl : Bytes) (h : FabWf s.fab) : FabWf (s.reject p st pl).fab := by
  rw [State.reject]
  split
  · exact h
  · next hroom =>
    obtain ⟨hlen, hall, hid, htag, hrej, hother, hhist, hrx⟩ := h
    have hadd : ∀ a : Answer, a.kind = .rejected → FabWf { s.fab.keep (s.dev.reply p.cmd st pl) with answers := s.fab.answers ++ [a] } := by
      intro a ha
      refine ⟨hlen, hall, hid, htag, ?_, ?_, (sameCredits_keep s.fab _).history hhist, hrx⟩
      · simp only [List.filter_append, List.length_append]
        have hone : ([a].filter fun a => a.kind == .rejected).length ≤ 1 := List.length_filter_le _ _
        omega
      · simpa [ha, Fab.keep] using hother
    split <;> exact hadd _ rfl

/-- The commands in flight with one more. -/
def takenFab (f : Fab) (c : Cmd) (ph : Phase) : Fab := { f with nextId := f.nextId + 1, flights := f.flights ++ [{ cmd := c, phase := ph }] }

/-- A newly accepted command takes a credit that is left, an id that none has had and a tag that is free in its queue; its answer comes with it. -/
theorem fabWf_answered {f g : Fab} {c : Cmd} {ph : Phase} {a : Answer} (hf : FabWf f) (hroom : f.flights.length < 128) (hid : c.id = f.nextId) (hq : c.queue ≤ 31) (hc : c.cls ≤ 3)
    (htag : ∀ x ∈ f.flights, x.cmd.queue = c.queue → x.cmd.tag ≠ c.tag) (ha : a.kind ≠ .rejected) (hg : SameCredits (takenFab f c ph) g) :
    FabWf { g with answers := g.answers ++ [a] } := by
  obtain ⟨hlen, hall, hids, htags, hrej, hother, hhist, hrx⟩ := hf
  have htaken : FabWf (takenFab f c ph) := by
    refine ⟨by rw [takenFab, List.length_append]; exact hroom, ?_, ?_, ?_, hrej, Nat.le_trans hother (by simp [takenFab]), hhist, hrx⟩
    · intro x hx
      rcases List.mem_append.1 hx with hx | hx
      · obtain ⟨hlt, hrest⟩ := hall x hx
        exact ⟨Nat.lt_succ_of_lt hlt, hrest⟩
      · rw [List.mem_singleton.1 hx]
        exact ⟨hid ▸ Nat.lt_succ_self _, hq, hc⟩
    · have hnew : ∀ x ∈ f.flights, x.cmd.id ≠ c.id := fun x hx => hid ▸ Nat.ne_of_lt (hall x hx).1
      simpa [takenFab, List.nodup_append] using ⟨hids, hnew⟩
    · simpa [takenFab, List.nodup_append] using ⟨htags, htag⟩
  have hsize : g.flights.length = f.flights.length + 1 := by simpa [takenFab] using congrArg List.length hg.keys
  have hanswers : g.answers = f.answers := hg.answers
  obtain ⟨hlen', hall', hids', htags', hrej', -, hhist', hrx'⟩ := fabWf_of_sameCredits hg htaken
  refine ⟨hlen', hall', hids', htags', by simpa [ha] using hrej', ?_, hhist', hrx'⟩
  simp only [List.filter_append, List.length_append, hsize, hanswers]
  have hone : ([a].filter fun a => a.kind != .rejected).length ≤ 1 := List.length_filter_le _ _
  omega

/-- What steps 5 to 13 of R46 leave to an accepted packet: a queue, a class, a free tag and a credit. -/
theorem room_of_not_refused {s : State} {p : Packet} (h : s.refusal p = none) :
    p.queue ≤ 31 ∧ (∀ x ∈ s.fab.flights, x.cmd.queue = p.queue → x.cmd.tag ≠ p.tag) ∧ s.fab.flights.length < 128 := by
  simp only [State.refusal, ite_some_eq_none_iff] at h
  obtain ⟨hq, -, -, -, -, -, hbusy, -, -, hcredit⟩ := h
  refine ⟨by omega, ?_, ?_⟩
  · simpa [Fab.inQueue] using hbusy
  · cases hn : s.noCredit p with
    | some x => simp [hn] at hcredit
    | none =>
      simp only [State.noCredit, ite_some_eq_none_iff] at hn
      omega

theorem fabWf_accept {s : State} {p : Packet} (h : FabWf s.fab) (hr : s.refusal p = none) : FabWf (s.accept p).fab := by
  obtain ⟨hq, htag, hroom⟩ := room_of_not_refused hr
  have hadd : ∀ (ph : Phase) (g : Fab) (a : Answer), a.kind ≠ .rejected → SameCredits (takenFab s.fab (s.accepted p) ph) g → FabWf { g with answers := g.answers ++ [a] } :=
    fun ph g a ha hg => fabWf_answered h hroom rfl hq (cls_le_of_not_refused hr) htag ha hg
  have hrun : ∀ (t : State) (c : Cmd), SameCredits t.fab (t.shown.runOp c).1.fab := fun t c => ((keeps_shown t).trans (keeps_runOp _ c)).credits
  unfold State.accept
  extract_lets c now s1 s2 ans s3
  split
  · have hnow := hrun s3 c
    split <;> rename_i heq <;> rw [heq] at hnow
    · exact hadd _ _ _ (by simp) (hnow.trans (sameCredits_keep _ _))
    · exact hadd _ _ _ (by simp) (hnow.trans (sameCredits_setPhase _ _ _))
  · have hwait : FabWf (s3.onFab fun f => ans St.accepted [] .accepted f s3.dev).shown.fab := by
      rw [State.shown_fab]
      exact hadd _ s3.fab _ (by simp) (.refl _)
    split
    · exact hwait
    · exact fabWf_of_sameCredits (keeps_start _ _).credits hwait

end Sys2Proof.Proofs
end

section
/-!
What a step of the block can do to the fabric, and the invariants that every step keeps: the fabric's form (O46), nothing left waiting (O47), the limits of the answer FIFO (O52).
-/
namespace Sys2Proof.Proofs
open Sys2Proof.Machine Sys2Proof.Claims Sys2Proof.Laws

/-! ### Reading a reply (R54, R79) -/

/-- Of flights with different ids, at most one has a given id. -/
theorem length_le_filter_id_ne {l : List Flight} (h : (l.map fun x => x.cmd.id).Nodup) (id : Nat) : l.length ≤ (l.filter fun x => x.cmd.id ≠ id).length + 1 := by
  have herase : ((l.map fun x => x.cmd.id).erase id).length = (l.filter fun x => x.cmd.id ≠ id).length := by
    rw [h.erase_eq_filter, List.filter_map, List.length_map]
    congr 2
    funext x
    simp [bne, BEq.beq]
  have hlen : (l.map fun x => x.cmd.id).length ≤ ((l.map fun x => x.cmd.id).erase id).length + 1 := by
    rw [List.length_erase]
    split <;> omega
  rwa [herase, List.length_map] at hlen

/-- Commands leave the fabric with their answers. -/
theorem fabWf_filter {f : Fab} (hf : FabWf f) (p : Flight → Bool) {l : List Answer} (hrej : (l.filter fun a => a.kind == .rejected).length ≤ 32)
    (hother : (l.filter fun a => a.kind != .rejected).length ≤ (f.flights.filter p).length) : FabWf { f with answers := l, flights := f.flights.filter p } := by
  obtain ⟨hlen, hall, hid, htag, -, -, hhist, hrx⟩ := hf
  have hsub : (f.flights.filter p).Sublist f.flights := List.filter_sublist
  exact ⟨Nat.le_trans hsub.length_le hlen, fun x hx => hall x (hsub.subset hx), hid.sublist (hsub.map _), htag.sublist (hsub.map _), hrej, hother, hhist, hrx⟩

/-- The oldest answer is read. -/
theorem fabWf_answer_read {f : Fab} (hf : FabWf f) {a : Answer} {rest : List Answer} (ha : f.answers = a :: rest) :
    FabWf (match a.kind with | .final id => { f with answers := rest, flights := f.flights.filter fun x => x.cmd.id ≠ id } | _ => { f with answers := rest }) := by
  have hwf := hf
  obtain ⟨hlen, hall, hid, htag, hrej, hother, hhist, hrx⟩ := hf
  rw [ha] at hrej hother
  have hrej' : (rest.filter fun a => a.kind == .rejected).length ≤ 32 := Nat.le_trans ((List.sublist_cons_self a rest).filter _).length_le hrej
  have hother' : (rest.filter fun a => a.kind != .rejected).length ≤ f.flights.length := Nat.le_trans ((List.sublist_cons_self a rest).filter _).length_le hother
  split
  · next id hk =>
    refine fabWf_filter hwf _ hrej' ?_
    have hcount : (rest.filter fun a => a.kind != .rejected).length + 1 ≤ f.flights.length := by simpa [hk] using hother
    have := length_le_filter_id_ne hid id
    omega
  · exact ⟨hlen, hall, hid, htag, hrej', hother', hhist, hrx⟩

theorem fabWf_next {f g : Fab} {r : Reply} {a : Nat × Nat × Nat} (hf : FabWf f) (hn : f.next = some (r, a, g)) : FabWf g := by
  unfold Fab.next at hn
  split at hn
  · next x rest hx =>
    simp only [Option.some.injEq, Prod.mk.injEq] at hn
    obtain ⟨-, -, rfl⟩ := hn
    exact fabWf_answer_read hf hx
  · next hnone =>
    extract_lets own old oldFirst at hn
    split at hn
    · next x _ =>
      split at hn
      · simp only [Option.some.injEq, Prod.mk.injEq] at hn
        obtain ⟨-, -, rfl⟩ := hn
        split
        · exact hf
        · exact fabWf_filter hf (fun y => y.cmd.id ≠ x.cmd.id) (l := f.answers) (by simp [hnone]) (by simp [hnone])
      · simp at hn
    · simp at hn

/-! ### Arrival -/

theorem fabWf_arrive {s : State} (p : Packet) (h : FabWf s.fab) : FabWf (s.arrive p).fab := by
  rw [State.arrive]
  split
  · exact fabWf_reject p _ _ h
  · next hr => exact fabWf_accept h hr

theorem fabWf_packet {s : State} (b : Bytes) (ip port own : Nat) (h : FabWf s.fab) : FabWf (s.packet b ip port own).fab := by
  unfold State.packet
  extract_lets p
  split
  · exact h
  · split
    · exact fabWf_reject p _ _ h
    · split
      · exact fabWf_reject p _ _ h
      · split
        · exact fabWf_reject p _ _ h
        · exact fabWf_arrive p h

theorem fabWf_devStep {s : State} (f : Dev → Dev) (h : FabWf s.fab) : FabWf (s.devStep f).fab := (keeps_onDev s f).fabWf_settle h

theorem fabWf_latchStep {s : State} (f : Dev → Dev) (h : FabWf s.fab) : FabWf (s.latchStep f).fab :=
  (((keeps_onDev s _).trans (keeps_drain _)).trans (keeps_deliver _ _)).fabWf_settle h

theorem fabWf_submit {s : State} (h : Hdr) (op : Nat) (p : Bytes) (hs : FabWf s.fab) : FabWf (s.submit h op p).fab := by
  unfold State.submit
  extract_lets q
  split
  · exact hs
  · split
    · exact fabWf_devStep _ hs
    · split
      · exact fabWf_settle (fabWf_reject q _ _ hs)
      · exact fabWf_settle (fabWf_arrive q hs)

theorem fabWf_arrival {s : State} (i : PacketIn) (h : FabWf s.fab) : FabWf (s.arrival i).fab := by
  unfold State.arrival
  split
  · exact h
  · split
    · split
      · exact h
      · split
        · next b rest hb =>
          obtain ⟨hlen, hall, hid, htag, hrej, hother, hhist, hrx⟩ := h
          rw [hb, List.length_cons] at hrx
          exact fabWf_settle (fabWf_packet (s := { s with fab := { s.fab with rxBufs := rest } }) b 0 0 0 ⟨hlen, hall, hid, htag, hrej, hother, hhist, Nat.le_of_succ_le hrx⟩)
        · exact h
    · split
      · exact h
      · split
        · exact fabWf_devStep _ h
        · exact fabWf_settle (fabWf_packet _ _ _ _ h)

theorem fabWf_writePacket {s : State} (b : Bytes) (h : FabWf s.fab) : FabWf (s.writePacket b).fab := by
  rw [State.writePacket]
  split
  · exact h
  · split
    · exact fabWf_devStep _ h
    · next hroom =>
      obtain ⟨hlen, hall, hid, htag, hrej, hother, hhist, -⟩ := h
      refine ⟨hlen, hall, hid, htag, hrej, hother, hhist, ?_⟩
      have hfour : s.fab.rxBufs.length + 1 ≤ 4 := by omega
      simpa using hfour

theorem keeps_spiOut (s : State) (b : Bytes) : Keeps s (s.onFab fun f => { f with spiOut := b }) := keeps_onFab (sameCredits_of_eq rfl rfl rfl rfl rfl)

theorem fabWf_readReply {s : State} (n : Nat) (h : FabWf s.fab) : FabWf (s.readReply n).fab := by
  have hspi : ∀ (f : Fab) (b : Bytes), FabWf f → FabWf { f with spiOut := b } := fun f b hf => hf
  rw [State.readReply]
  split
  · exact h
  · split
    · exact h
    · split
      · exact h
      · next hn =>
        refine fabWf_settle (hspi _ _ ?_)
        split
        · exact fabWf_next h hn
        · exact h

theorem fabWf_udpSend {s : State} (h : FabWf s.fab) : FabWf s.udpSend.fab := by
  rw [State.udpSend]
  split
  · exact h
  · split
    · exact h
    · next hn =>
      have hnext := fabWf_next h hn
      split
      · exact fabWf_settle hnext
      · exact fabWf_settle hnext

/-! ### The pip boundary, deadlines and uncorrectable errors -/

/-- The pip boundary is parts that keep credits and queue, after a reset that is due and before a settling. -/
theorem pipBoundary_keeps (s : State) (i : PipIn) : ∃ t, Keeps (if due s.dev.sys.resetReq s.dev.pip then s.devStep Dev.resetDue else s) t ∧ s.pipBoundary i = t.settle := by
  unfold State.pipBoundary
  generalize (if due s.dev.sys.resetReq s.dev.pip = true then s.devStep Dev.resetDue else s) = s1
  dsimp -zeta only
  extract_lets s2
  have h2 : Keeps s1 s2 := keeps_onDev _ _
  clear_value s2
  split
  · exact ⟨_, h2.trans (keeps_onDev _ _), rfl⟩
  · next s3 _ _ _ s4 s5 s6 _ =>
    have h3 : Keeps s1 s3 := h2.trans (keeps_onDev _ _)
    have h4 : Keeps s3 s4 := ⟨rfl, (sameCredits_shift _ _).trans (sameCredits_of_eq rfl rfl rfl rfl rfl)⟩
    have h5 : Keeps s4 s5 := (keeps_commitPoint s4).trans (keeps_onDev _ _)
    have h6 : Keeps s5 s6 := (keeps_fire s5).trans (keeps_onDev _ _)
    exact ⟨_, (((h3.trans h4).trans h5).trans h6).trans ((keeps_collector s6).trans (keeps_onDev _ _)), rfl⟩

/-! ### The moves of the block -/

/-- What a command of the block can do to the state: a step of the device at the latch or within the pip, an opcode's packet, or one of the fabric's own events. -/
inductive Move (s : State) : State → Prop
  | dev (f : Dev → Dev) : Move s (s.devStep f)
  | latch (f : Dev → Dev) : Move s (s.latchStep f)
  | packet (h : Hdr) (op : Nat) (p : Bytes) : Move s (s.submit h op p)
  | mbist (q g : Nat) (l : List RowDefect) (h : Hdr) (op : Nat) (p : Bytes) : Move s ((s.onDev fun d => d.mbistGiven q g l).submit h op p)
  | arrival (i : PacketIn) : Move s (s.arrival i)
  | writePacket (b : Bytes) : Move s (s.writePacket b)
  | readStatus : Move s s.readStatus
  | readReply (n : Nat) : Move s (s.readReply n)
  | spiUnknown : Move s s.spiUnknown
  | udpSend : Move s s.udpSend
  | pipBoundary (i : PipIn) : Move s (s.pipBoundary i)
  | deadlineMiss : Move s s.deadlineMiss
  | startedEnd : Move s s.startedEnd
  | quietExpiry : Move s s.quietExpiry
  | sramUncorrectable (m addr : Nat) (r : Requester) : Move s (s.sramUncorrectable m addr r)
  | flashUncorrectable (block : Nat) (r : Requester) : Move s (s.flashUncorrectable block r)
  | promote (f : Dev → Dev) : Move s ((s.onDev f).staleReplies.settle)

theorem move_latchIf (s : State) (b : Bool) (f : Dev → Dev) : Move s (s.latchIf b f) := by
  rw [State.latchIf]
  split
  · exact .latch f
  · exact .dev f

/-- Every command of the block has a next state, by one of these moves. -/
theorem exec_move (i : Instr) (s : State) : ∃ t, exec i s = .next t ∧ Move s t := by
  cases i
  case commandPacketArrival x => exact ⟨_, rfl, .arrival x⟩
  case writePacket b => exact ⟨_, rfl, .writePacket b⟩
  case readStatus => exact ⟨_, rfl, .readStatus⟩
  case readReply n => exact ⟨_, rfl, .readReply n⟩
  case spiUnknownInstruction => exact ⟨_, rfl, .spiUnknown⟩
  case udpReplySend => exact ⟨_, rfl, .udpSend⟩
  case pipBoundary x => exact ⟨_, rfl, .pipBoundary x⟩
  case deadlineMiss => exact ⟨_, rfl, .deadlineMiss⟩
  case startedCommandEnd => exact ⟨_, rfl, .startedEnd⟩
  case quietPipWindowExpiry => exact ⟨_, rfl, .quietExpiry⟩
  case kernelCommandExecute => exact ⟨_, rfl, .latch _⟩
  case kernelSample x => exact ⟨_, rfl, move_latchIf s _ _⟩
  case intervalBoundary => exact ⟨_, rfl, .latch _⟩
  case offsetChange => exact ⟨_, rfl, .latch _⟩
  case tb0Step => exact ⟨_, rfl, .latch _⟩
  case memMbistRun l h p => exact ⟨_, rfl, .mbist _ _ l h 0x0F03 p⟩
  case sramUncorrectableError m a r => exact ⟨_, rfl, .sramUncorrectable m.val a r⟩
  case flashUncorrectable b r => exact ⟨_, rfl, .flashUncorrectable b r⟩
  case twinSilencePromote => exact ⟨_, rfl, .promote _⟩
  case switchDieFrame | switchDieWatchdogExpiry | kernelSessionOpen | kernelSessionClose | iBreakPass | ptpOffsetMeasured | announceReceiptTimeout | bmcaOtherMaster |
    bmcaSelectsSelf | holdoverLimitReached | ptpEventSent | pipStrobe | kernelRealignStart | kernelAligned | noZc | streamRecovered | mclkClockFault | mclkSettlingEnd |
    pendingPulseEmit | balanceCheck | sealOpen | sealClose | ledgerRecordProgram | checkpointDue | meterFaultEntry | kernelPowerOn | legalTimeSlewTick | friendlyWindowClose |
    billStateSave | billMeterRecord | tokenMidnightPurge | pilotStateAccepted | faultPilotProbe | linkUp | linkTimerExpiry | paymentSelectionComplete | protocolError |
    authorisationTimerExpiry | hostWaitExpiry | hostOffline | preauthExpiry | floatingPreauthExpiry | cableCheckTimerExpiry | powerDeliveryRequest | prechargeTimerExpiry |
    vehicleStopRequest | canRxFrame | canTxTemplate | pmStatusTimeout | tForceExpiry | weldCheckTimeout | unpluggedToIdle | fcDecode | frameDelivery | frameLate | huskSlice |
    noiseWindowEnd | slacParmReq | soundCapture | slacDecision | slacMatchReq | t1sFrameRx | t1sLinkLoss | meshPeriodStart | meshBeaconRx | meshSlotFrameRx | meshSackRx |
    meshPeriodEnd | meshScanEnd | meshJoinReq | meshJoinAck | meshJoinTimeout | meshNodeTimeout | meshBackupPromotion | meshActionExecute | rcmStageTrip | imdWindowStart |
    imdWindowEnd | guardStreamFault | guardSelfTestEnd | safetyInputChange | discrepancyTimeout | antivalenceTimeout | testPulse | resetButtonRelease | crossDisagreement |
    stoneSelfFault | permitWord | heartbeatLost | heartbeatValid | hubStopHoldEnd | stoneFrameRx | stoneFrameTx | stoneConnWatchdog | overcurrentTrip | inrushWindowEnd |
    thermalLatchSet | thermalLatchClear | retryBackoffElapsed | retryCounterReload | openLoadDetect | pullInEnd | underVoltage | underVoltageRestore | actHoldExpiry |
    podTrainingComplete | podLaneLockLoss | podFrameRx | kcmpMismatchSet | twinLiveToggle | promotedHubStopRampdown | podFaultDetect | partnerSilent | twinCopyLag | twinCopyApply |
    twinSyncComplete | twinSearchTimeout | epochNoticeTx | epochNoticeRx | readerPollCycle | tagActivation | tagApdu | framHoldCut | passportWrite | keypadScan |
    keypadEntryTimeout | keypadSelectionExpiry | dispFrameStart | dispUpdateDone | dispVpFault | dispStressSave | burrLineFire | fwuTrialExpiry | mbistRowTest | lbistChainTest |
    lbistRetest | sramCorrectableError | flashRefresh | powerOnReset | boot | feedLost | feedLossClear | powerFail | holdupCollapse | powerFailReset | resetNPin |
    internalWatchdogExpiry | lxoStop | krefFail | refclkFail | pllRelock | clkMuxHang | feedGood | twinLiveInEdge | keyOperationComplete | cfgSaveComplete | fwuCommandComplete |
    huskFrontEndsRunning | framAccessComplete | cardAnswer | cardWaitExpiry | tagFieldDrop | meshTransmitOpportunity | vehicleRequestDecoded |
    certificateInstallationRequest => exact ⟨_, rfl, .dev _⟩
  all_goals exact ⟨_, rfl, .packet _ _ _⟩

/-! ### The fabric's form -/

theorem keeps_deadlineMiss (s : State) : ∃ t, Keeps s t ∧ s.deadlineMiss = t.settle := by
  refine ⟨_, ?_, rfl⟩
  refine (keeps_foldl (fun s x => (keeps_onDev s _).trans (keeps_onFab ?_)) _ s).trans (keeps_deliver _ _)
  exact (sameCredits_mapFlights _ fun y => by split <;> rfl).trans (sameCredits_of_eq rfl rfl rfl rfl rfl)

theorem keeps_startedEnd (s : State) : ∃ t, Keeps s t ∧ s.startedEnd = t.settle :=
  ⟨_, (keeps_onFab (sameCredits_of_eq rfl rfl rfl rfl rfl)).trans (keeps_onDev _ _), rfl⟩

theorem keeps_quietExpiry (s : State) : ∃ t, Keeps s t ∧ s.quietExpiry = t.settle :=
  ⟨_, (keeps_onFab (sameCredits_endQuiet _ _)).trans (keeps_deliver _ _), rfl⟩

theorem keeps_sramUncorrectable (s : State) (m addr : Nat) (r : Requester) : ∃ t, Keeps s t ∧ s.sramUncorrectable m addr r = t.settle := by
  refine ⟨_, ?_, rfl⟩
  have hfault : Keeps s ((s.onDev fun d => d.sramUe m addr).memoryFault r) := (keeps_onDev s _).trans (keeps_memoryFault _ r)
  split
  · exact hfault.trans (keeps_onDev _ _)
  · exact hfault

theorem keeps_flashUncorrectable (s : State) (block : Nat) (r : Requester) : ∃ t, Keeps s t ∧ s.flashUncorrectable block r = t.settle := by
  refine ⟨_, ?_, rfl⟩
  cases r with
  | host q t => exact (keeps_onDev s _).trans (keeps_memoryFault _ _)
  | core | safety | husk n | display | copy | none => exact keeps_onDev s _

theorem Move.fabWf {s t : State} (h : Move s t) (hs : FabWf s.fab) : FabWf t.fab := by
  have hkept : (∃ u, Keeps s u ∧ t = u.settle) → FabWf t.fab := by
    rintro ⟨u, hu, rfl⟩
    exact hu.fabWf_settle hs
  cases h with
  | dev f => exact fabWf_devStep f hs
  | latch f => exact fabWf_latchStep f hs
  | packet h op p => exact fabWf_submit h op p hs
  | mbist q g l h op p => exact fabWf_submit h op p hs
  | arrival i => exact fabWf_arrival i hs
  | writePacket b => exact fabWf_writePacket b hs
  | readStatus => exact hs
  | readReply n => exact fabWf_readReply n hs
  | spiUnknown =>
    rw [State.spiUnknown]
    split
    · exact hs
    · exact fabWf_devStep _ hs
  | udpSend => exact fabWf_udpSend hs
  | pipBoundary i =>
    obtain ⟨u, hu, heq⟩ := pipBoundary_keeps s i
    rw [heq]
    refine hu.fabWf_settle ?_
    split
    · exact fabWf_devStep _ hs
    · exact hs
  | deadlineMiss => exact hkept (keeps_deadlineMiss s)
  | startedEnd => exact hkept (keeps_startedEnd s)
  | quietExpiry => exact hkept (keeps_quietExpiry s)
  | sramUncorrectable m addr r => exact hkept (keeps_sramUncorrectable s m addr r)
  | flashUncorrectable block r => exact hkept (keeps_flashUncorrectable s block r)
  | promote f => exact ((keeps_onDev s f).trans (keeps_staleReplies _)).fabWf_settle hs

/-- A step is a move of the state with the queue's rest, or idles. -/
theorem step_move {s t : State} (h : step s = .next t) : t = s ∨ ∃ rest, Move { s with pending := rest } t := by
  rw [step] at h
  split at h
  · exact .inl (Host.Outcome.next.inj h).symm
  · next c rest _ =>
    obtain ⟨u, hu, hm⟩ := exec_move c { s with pending := rest }
    rw [hu] at h
    exact .inr ⟨rest, Host.Outcome.next.inj h ▸ hm⟩

/-- Settles O46: credits, ids and tags change where a packet is accepted, a reply is read or the fabric is reset, and each of these keeps the fabric's form. -/
theorem stepKeepsFabric : Obligations.StepKeepsFabric := by
  intro s t hs h
  rcases step_move h with rfl | ⟨rest, hm⟩
  · exact hs
  · exact hm.fabWf hs

end Sys2Proof.Proofs
end

section
/-!
What a step leaves waiting: nothing that a unit has produced (O47), and every other command (O44); and the limits of the answer FIFO (O52).
-/
namespace Sys2Proof.Proofs
open Sys2Proof.Machine Sys2Proof.Claims Sys2Proof.Laws

/-! ### What the Kernel's results leave of the Kernel -/

/-- What no step of a run changes, the run leaves. -/
theorem foldl_same {α β γ : Type} (g : β → γ) {u : β → α → β} (hu : ∀ b a, g (u b a) = g b) (l : List α) (b : β) : g (l.foldl u b) = g b := by
  induction l generalizing b with
  | nil => rfl
  | cons a l ih => rw [List.foldl_cons, ih, hu]

/-- Runs of equal steps are equal. -/
theorem foldl_step_congr {α β : Type} {u v : β → α → β} (huv : ∀ b a, u b a = v b a) (l : List α) (b : β) : l.foldl u b = l.foldl v b := by
  rw [funext fun b => funext (huv b)]

theorem setMesh_kern (d : Dev) (m : Mesh) : (d.setMesh m).kern = d.kern := by
  rw [Dev.setMesh, foldl_same Dev.kern (fun d _ => d.wn_kern _ _)]
  iterate 8 rw [Dev.wn_kern]

theorem meshForward_kern (d : Dev) (rec : Bytes) : (d.meshForward rec).kern = d.kern := by
  unfold Dev.meshForward
  extract_lets m
  split
  · rfl
  · split
    split
    · exact setMesh_kern d _
    · rfl

theorem receiptReady_kern (d : Dev) (n counter session : Nat) : (d.receiptReady n counter session).kern = d.kern := meshForward_kern _ _

/-- What the Kernel has produced is taken whole. -/
theorem takeKernel_kern (d : Dev) : d.takeKernel.kern = { d.kern with done := [], stored := [], confirmed := [] } := by
  have hstored : ∀ (l : List (Nat × Nat × Nat)) (e : Dev), (l.foldl (fun (d : Dev) r => d.receiptReady r.1 r.2.1 r.2.2) e).kern = e.kern :=
    foldl_same Dev.kern fun d r => receiptReady_kern d r.1 r.2.1 r.2.2
  have hdone : ∀ (l : List (Nat × Nat × Bytes)) (e : Dev), (l.foldl (fun (d : Dev) r => d.finish r.1 r.2.1 r.2.2) e).kern = e.kern :=
    foldl_same Dev.kern fun d r => d.finish_kern r.1 r.2.1 r.2.2
  have hconf : ∀ (l : List Nat) (e : Dev), (l.foldl (fun (d : Dev) n => d.setO n fun o => { o with confK := true }) e).kern = e.kern :=
    foldl_same Dev.kern fun d n => d.setO_kern n _
  rw [Dev.takeKernel, hstored, hdone, hconf]

/-! ### Nothing waits -/

/-- After settling nothing waits, whatever did before. -/
theorem quiet_settle (s : State) : Quiet s.settle.dev := by
  have hk : (s.onDev Dev.takeKernel).drain.dev.kern = { s.dev.kern with done := [], stored := [], confirmed := [] } := takeKernel_kern s.dev
  rw [State.settle]
  split
  · exact quiet_shown ⟨by simp [hk], by simp [hk], by simp [hk], rfl, rfl⟩
  · next hreset => exact quiet_shown ⟨by simp [hk], by simp [hk], by simp [hk], rfl, by simpa using hreset⟩

theorem quiet_mbistGiven {d : Dev} (q g : Nat) (l : List RowDefect) (h : Quiet d) : Quiet (d.mbistGiven q g l) := by
  rw [Dev.mbistGiven]
  split <;> exact h

theorem quiet_submit {s : State} (h : Hdr) (op : Nat) (p : Bytes) (hs : Quiet s.dev) : Quiet (s.submit h op p).dev := by
  unfold State.submit
  extract_lets q
  split
  · exact hs
  · split
    · exact quiet_settle _
    · split <;> exact quiet_settle _

theorem quiet_arrival {s : State} (i : PacketIn) (hs : Quiet s.dev) : Quiet (s.arrival i).dev := by
  unfold State.arrival
  split
  · exact hs
  · split
    · split
      · exact hs
      · split
        · exact quiet_settle _
        · exact hs
    · split
      · exact hs
      · split <;> exact quiet_settle _

theorem Move.quiet {s t : State} (h : Move s t) (hs : Quiet s.dev) : Quiet t.dev := by
  have hkept : (∃ u, Keeps s u ∧ t = u.settle) → Quiet t.dev := by
    rintro ⟨u, -, rfl⟩
    exact quiet_settle u
  cases h with
  | dev f => exact quiet_settle _
  | latch f => exact quiet_settle _
  | packet h op p => exact quiet_submit h op p hs
  | mbist q g l h op p => exact quiet_submit h op p (quiet_mbistGiven q g l hs)
  | arrival i => exact quiet_arrival i hs
  | writePacket b =>
    rw [State.writePacket]
    split
    · exact hs
    · split
      · exact quiet_settle _
      · exact hs
  | readStatus => exact hs
  | readReply n =>
    rw [State.readReply]
    split
    · exact hs
    · split
      · exact hs
      · split
        · exact hs
        · exact quiet_settle _
  | spiUnknown =>
    rw [State.spiUnknown]
    split
    · exact hs
    · exact quiet_settle _
  | udpSend =>
    rw [State.udpSend]
    split
    · exact hs
    · split
      · exact hs
      · split <;> exact quiet_settle _
  | pipBoundary i =>
    obtain ⟨u, -, heq⟩ := pipBoundary_keeps s i
    rw [heq]
    exact quiet_settle u
  | deadlineMiss => exact hkept (keeps_deadlineMiss s)
  | startedEnd => exact hkept (keeps_startedEnd s)
  | quietExpiry => exact hkept (keeps_quietExpiry s)
  | sramUncorrectable m addr r => exact hkept (keeps_sramUncorrectable s m addr r)
  | flashUncorrectable block r => exact hkept (keeps_flashUncorrectable s block r)
  | promote f => exact quiet_settle _

/-- Settles O47: every move ends with a settling, which takes all that the units have produced, or leaves the device. -/
theorem stepKeepsQuiet : Obligations.StepKeepsQuiet := by
  intro s t hs h
  rcases step_move h with rfl | ⟨rest, hm⟩
  · exact hs
  · exact hm.quiet hs

/-! ### The commands that wait stay -/

theorem reject_pending (s : State) (p : Packet) (st : Nat) (pl : Bytes) : (s.reject p st pl).pending = s.pending := by
  unfold State.reject
  extract_lets r s1
  split
  · rfl
  · split <;> rfl

theorem accept_pending (s : State) (p : Packet) : (s.accept p).pending = s.pending := by
  unfold State.accept
  extract_lets c now s1 s2 ans s3
  split
  · have hrun : (s3.shown.runOp c).1.pending = s.pending := ((keeps_shown s3).trans (keeps_runOp _ c)).pending
    split <;> rename_i heq <;> rw [heq] at hrun <;> exact hrun
  · have hwait : (s3.onFab fun f => ans St.accepted [] .accepted f s3.dev).shown.pending = s.pending := State.shown_pending _
    split
    · exact hwait
    · exact (keeps_start _ _).pending.trans hwait

theorem arrive_pending (s : State) (p : Packet) : (s.arrive p).pending = s.pending := by
  rw [State.arrive]
  split
  · exact reject_pending s p _ _
  · exact accept_pending s p

theorem packet_pending (s : State) (b : Bytes) (ip port own : Nat) : (s.packet b ip port own).pending = s.pending := by
  unfold State.packet
  extract_lets p
  repeat' split
  · rfl
  · exact reject_pending s p _ _
  · exact reject_pending s p _ _
  · exact reject_pending s p _ _
  · exact arrive_pending s p

theorem submit_pending (s : State) (h : Hdr) (op : Nat) (p : Bytes) : (s.submit h op p).pending = s.pending := by
  unfold State.submit
  extract_lets q
  repeat' split
  · rfl
  · exact State.devStep_pending _ _
  · exact (State.settle_pending _).trans (reject_pending s q _ _)
  · exact (State.settle_pending _).trans (arrive_pending s q)

theorem arrival_pending (s : State) (i : PacketIn) : (s.arrival i).pending = s.pending := by
  unfold State.arrival
  split
  · rfl
  · split
    · split
      · rfl
      · split
        · exact (State.settle_pending _).trans (packet_pending _ _ _ _ _)
        · rfl
    · split
      · rfl
      · split
        · exact State.devStep_pending _ _
        · exact (State.settle_pending _).trans (packet_pending _ _ _ _ _)

theorem Move.pending {s t : State} (h : Move s t) : t.pending = s.pending := by
  have hkept : (∃ u, Keeps s u ∧ t = u.settle) → t.pending = s.pending := by
    rintro ⟨u, hu, rfl⟩
    exact (State.settle_pending u).trans hu.pending
  cases h with
  | dev f => exact State.devStep_pending s f
  | latch f => exact State.settle_pending _
  | packet h op p => exact submit_pending s h op p
  | mbist q g l h op p => exact submit_pending _ h op p
  | arrival i => exact arrival_pending s i
  | writePacket b =>
    rw [State.writePacket]
    split
    · rfl
    · split
      · exact State.devStep_pending s _
      · rfl
  | readStatus => rfl
  | readReply n =>
    rw [State.readReply]
    split
    · rfl
    · split
      · rfl
      · split
        · rfl
        · exact State.settle_pending _
  | spiUnknown =>
    rw [State.spiUnknown]
    split
    · rfl
    · exact State.devStep_pending s _
  | udpSend =>
    rw [State.udpSend]
    split
    · rfl
    · split
      · rfl
      · split <;> exact State.settle_pending _
  | pipBoundary i =>
    obtain ⟨u, hu, heq⟩ := pipBoundary_keeps s i
    rw [heq, State.settle_pending, hu.pending]
    split
    · exact State.devStep_pending s _
    · rfl
  | deadlineMiss => exact hkept (keeps_deadlineMiss s)
  | startedEnd => exact hkept (keeps_startedEnd s)
  | quietExpiry => exact hkept (keeps_quietExpiry s)
  | sramUncorrectable m addr r => exact hkept (keeps_sramUncorrectable s m addr r)
  | flashUncorrectable block r => exact hkept (keeps_flashUncorrectable s block r)
  | promote f => exact (State.settle_pending _).trans (keeps_staleReplies _).pending

/-- Settles O44: every command is one of the moves, and none of them touches the queue. -/
theorem everyCommandCompletes : Obligations.EveryCommandCompletes := by
  intro i s
  obtain ⟨t, ht, hm⟩ := exec_move i s
  exact ⟨t, ht, hm.pending⟩

/-- Settles O43, by the definition of the step. -/
theorem stepTakesFront : Obligations.StepTakesFront := by
  intro c rest s h
  rw [step, h]

end Sys2Proof.Proofs
end

section
/-!
Rejections (R51, R74) and launched commands (R48, R59): what the fabric does with a packet on which no opcode acts.
-/
namespace Sys2Proof.Proofs
open Sys2Proof.Machine Sys2Proof.Claims Sys2Proof.Laws

/-! ### Rejections (R51) -/

/-- A packet that the fabric hears and refuses is rejected, whichever step of R46 refuses it. -/
theorem submit_refused {s : State} {h : Hdr} {op : Nat} {p : Bytes} {st : Nat} {pl : Bytes} (hh : Heard s h) (hr : refused s h op p = some (st, pl)) :
    s.submit h op p = (s.reject (packetOf s h op p) st pl).settle := by
  obtain ⟨hruns, heth, hpeer⟩ := hh
  rw [refused] at hr
  have hstop : (!s.fabRuns || (s.udp && !s.dev.ethRuns)) = false := by rw [hruns, heth]; rfl
  unfold State.submit
  extract_lets q
  rw [if_neg (by simp [hstop]), if_neg (by rw [hpeer]; decide)]
  split at hr
  · next hlong =>
    obtain ⟨rfl, rfl⟩ : 0x14 = st ∧ [] = pl := by simpa using hr
    rw [if_pos hlong]
    rfl
  · next hlong =>
    have hq : s.refusal q = some (st, pl) := hr
    rw [if_neg hlong, State.arrive, hq]
    rfl

/-- The registers that count what is not admitted. -/
def notedDev (d : Dev) (st : Nat) : Dev := if st = St.notAdmitted then (d.inc Reg.FAB_NOT_ADMITTED).raise Reg.FAB_EVENT FabEv.notAdmitted else d

/-- With room in the FIFO a rejection leaves its reply there and among the replies kept. -/
theorem reject_room {s : State} {p : Packet} (st : Nat) (pl : Bytes) (hroom : (s.fab.answers.filter fun a => a.kind == .rejected).length < 32) :
    s.reject p st pl = { s with
      fab := { s.fab with history := (s.dev.reply p.cmd st pl :: s.fab.history).take 256,
                          answers := s.fab.answers ++ [{ reply := s.dev.reply p.cmd st pl, kind := .rejected, ip := p.ip, port := p.port, own := p.own }] },
      dev := notedDev s.dev st } := by
  rw [State.reject, if_neg (Nat.not_le.2 hroom), notedDev]
  split <;> rfl

/-- Counting changes nothing but registers of the fabric's block. -/
theorem notedDev_eq (d : Dev) (st : Nat) : notedDev d st = { d with regs := (notedDev d st).regs } := by
  rw [notedDev]
  split <;> rfl

theorem rd_notedDev_outside (d : Dev) (st : Nat) {b : Nat} (hb : b / 0x10000 ≠ 1) : (notedDev d st).rd b = d.rd b := by
  have hne : ∀ a : Nat, a / 0x10000 = 1 → b ≠ a := fun a ha hba => hb (hba ▸ ha)
  rw [notedDev]
  split
  · rw [Dev.raise, Dev.rd_wr_other _ _ (hne _ rfl), rd_inc_other _ (hne _ rfl)]
  · rfl

/-- Settles O51: a rejection writes the FIFO, the kept replies and counters, and settling shows the fabric. -/
theorem rejectionChangesNothing : Obligations.RejectionChangesNothing := by
  intro r hr s h p st pl hs hh href hroom
  refine ⟨_, exec_row h p s r hr, submit_pending s h r.1 p, ?_⟩
  have hnoted : Quiet (notedDev s.dev st) := by rw [notedDev_eq]; exact hs
  rw [submit_refused hh href, reject_room st pl hroom, settle_of_quiet (by exact hnoted)]
  refine ⟨State.shown_fab _, ?_, fun a ha => ?_⟩
  · rw [State.shown, show_eq, notedDev_eq]
  · exact (rd_show_outside _ _ ha).trans (rd_notedDev_outside _ _ ha)

/-! ### The answer FIFO (R74) -/

/-- The registers that show the fabric: credits in use, levels, and one word for each queue. -/
theorem rd_show_other (f : Fab) (d : Dev) {b : Nat} (hclass : b ≠ Reg.FAB_CLASS_INUSE) (hpool : b ≠ Reg.FAB_POOL_INUSE) (hlevel : b ≠ Reg.FAB_ANSWER_LEVEL) (hstat : ∀ q, b ≠ Reg.FAB_Q_STAT q) :
    (f.show d).rd b = d.rd b := by
  rw [Fab.show, rd_foldl_wn_other _ _ _ fun q _ => hstat q, rd_wn_other _ _ hlevel, rd_wn_other _ _ hpool, rd_wn_other _ _ hclass]

theorem rn_inc_same (d : Dev) (a : Nat) : (d.inc a).rn a = (d.rn a + 1) % 2 ^ 32 := by
  rw [Dev.rn, Dev.inc, Dev.rd_wr_same, BitVec.toNat_add]
  rfl

/-- Without room a rejection is dropped and counted. -/
theorem reject_full {s : State} {p : Packet} (st : Nat) (pl : Bytes) (hfull : 32 ≤ (s.fab.answers.filter fun a => a.kind == .rejected).length) :
    s.reject p st pl = { s with dev := (s.dev.inc Reg.FAB_REJECT_DROP).raise Reg.FAB_EVENT FabEv.rejectDrop } := by
  rw [State.reject, if_pos hfull]
  rfl

/-- A list is what passes a test and what does not. -/
theorem length_filter_parts {α : Type} (p : α → Bool) (l : List α) : l.length = (l.filter p).length + (l.filter fun a => !p a).length := by
  induction l with
  | nil => rfl
  | cons a l ih =>
    cases h : p a with
    | true =>
      rw [List.filter_cons_of_pos h, List.filter_cons_of_neg (by rw [h]; decide), List.length_cons, List.length_cons, ih]
      omega
    | false =>
      rw [List.filter_cons_of_neg (by rw [h]; decide), List.filter_cons_of_pos (by rw [h]; rfl), List.length_cons, List.length_cons, ih]
      omega

/-- Settles O52: the limits are in the fabric's form, and a rejection without room counts in FAB_REJECT_DROP, which shows no credit. -/
theorem answerFifoLimits : Obligations.AnswerFifoLimits := by
  refine ⟨fun s t hs h => ?_, fun r hr s h p hs hh href hfull => ?_⟩
  · obtain ⟨hlen, -, -, -, hrej, hother, -, -⟩ := stepKeepsFabric s t hs h
    have hparts := length_filter_parts (fun a => a.kind == .rejected) t.fab.answers
    have hnot : (t.fab.answers.filter fun a => !(a.kind == .rejected)).length = (t.fab.answers.filter fun a => a.kind != .rejected).length := rfl
    omega
  · obtain ⟨⟨st, pl⟩, hsome⟩ := Option.isSome_iff_exists.1 href
    refine ⟨_, exec_row h p s r hr, ?_⟩
    have hq : Quiet ((s.dev.inc Reg.FAB_REJECT_DROP).raise Reg.FAB_EVENT FabEv.rejectDrop) := hs
    rw [submit_refused hh hsome, reject_full st pl hfull, settle_of_quiet (by exact hq)]
    refine ⟨State.shown_fab _, ?_⟩
    have hshow := rd_show_other s.fab ((s.dev.inc Reg.FAB_REJECT_DROP).raise Reg.FAB_EVENT FabEv.rejectDrop) (b := Reg.FAB_REJECT_DROP) (by decide) (by decide) (by decide)
      fun q => by unfold Reg.FAB_Q_STAT Reg.FAB_REJECT_DROP; omega
    rw [← rn_inc_same, Dev.rn, State.shown, hshow, Dev.raise, Dev.rd_wr_other _ _ (by decide), Dev.rn]

/-! ### Launched commands (R48, R59) -/

/-- A launch pip is the one to come, within 2³¹ pips, whose number ends in the launch field. -/
theorem launchPip_spec {pip l L : Nat} (hl : l < 2 ^ 32) (h : launchPip pip l = some L) : pip < L ∧ L % 2 ^ 32 = l := by
  unfold launchPip at h
  extract_lets delta at h
  split at h
  · cases h
  · next hd =>
    obtain rfl := Option.some.inj h
    have hne : delta ≠ 0 := by
      simp only [Bool.or_eq_true, decide_eq_true_eq, not_or] at hd
      exact hd.1
    refine ⟨by omega, ?_⟩
    simp only [delta]
    omega

/-- Step 12 of R46 leaves no launch pip more than 2,400,000 pips away. -/
theorem launch_near_of_not_refused {s : State} {p : Packet} {L : Nat} (h : s.refusal p = none) (hl : p.launch ≠ 0) (hL : launchPip s.dev.pip p.launch = some L) : L ≤ s.dev.pip + 2400000 := by
  simp only [State.refusal, ite_some_eq_none_iff] at h
  obtain ⟨-, -, -, -, -, -, -, -, hfar, -⟩ := h
  rw [hL] at hfar
  simpa [hl] using hfar

/-- Settles O49: admission has checked the launch pip, and a command with one only waits. -/
theorem launchedCommandsWait : Obligations.LaunchedCommandsWait := by
  intro r hr s h p ha hl
  obtain ⟨L, hL, hc⟩ := cmdOf_launch_some (op := r.1) (p := p) ha hl
  have hnot : s.refusal (packetOf s h r.1 p) = none := ha.2.2.2.1
  obtain ⟨hafter, hmod⟩ := launchPip_spec h.launch.isLt hL
  refine ⟨⟨L, hc, hafter, launch_near_of_not_refused hnot (toNat_launch_ne_zero hl) hL, hmod⟩, ?_⟩
  rw [exec_row h p s r hr, submit_admitted ha, accept_later (by simp [hc]), hc, Option.isSome_some, if_pos rfl]

end Sys2Proof.Proofs
end

section
/-!
From an opcode's function to its command, for each way in which an opcode completes; and the system, register and fabric opcodes (O1 to O3).
-/
namespace Sys2Proof.Proofs
open Sys2Proof.Machine Sys2Proof.Claims Sys2Proof.Laws

/-! ### How opcodes complete -/

/-- Where no check holds, the command goes on. -/
theorem check_passes {d : Dev} {l : List (Bool × Nat)} {k : Dev × Ans} (h : ∀ x ∈ l, x.1 = false) : check d l k = k := by
  have hnone : l.find? (·.1) = none := List.find?_eq_none.2 fun x hx => by simp [h x hx]
  rw [check, hnone]

section
variable {mk : Hdr → Bytes → Instr} {op : Nat} {good : Dev → Bytes → Prop} {eff : Dev → Cmd → Dev} {pl : Dev → Cmd → Bytes} (f : Dev → Cmd → Dev × Ans)

/-- The opcode's row: whether it answers at once, and its function. -/
def RowIs (op : Nat) (imm : Bool) (f : Dev → Cmd → Dev × Ans) : Prop := ∃ o, opSpec op = some o ∧ o.immediate = imm ∧ o.run = some f

/-- The opcodes that act on the fabric or at a quiet pip have statements of their own. -/
def plainOp (op : Nat) : Bool := !([0x0104, 0x0106, 0x0107, 0x0704, 0x0B01, 0x0002].contains op)

theorem needsQuiet_of_plain {c : Cmd} (ho : c.opcode = op) (hop : plainOp op = true) : c.needsQuiet = false := by
  simp only [plainOp, Bool.not_eq_true', List.contains_eq_mem, List.mem_cons, List.not_mem_nil, or_false, decide_eq_false_iff_not, not_or] at hop
  simp [Cmd.needsQuiet, ho, hop]

theorem notFabric_of_plain (hop : plainOp op = true) : op ≠ 0x0106 ∧ op ≠ 0x0107 ∧ op ≠ 0x0104 := by
  simp only [plainOp, Bool.not_eq_true', List.contains_eq_mem, List.mem_cons, List.not_mem_nil, or_false, decide_eq_false_iff_not, not_or] at hop
  exact ⟨hop.2.1, hop.2.2.1, hop.1⟩

theorem atOnce (hf : ∀ (d : Dev) (c : Cmd), good d c.payload → f d c = (eff d c, .done St.ok (pl d c)))
    (hop : plainOp op = true := by decide) (hm : ∀ h p s, exec (mk h p) s = .next (s.submit h op p) := by exact fun _ _ _ => rfl)
    (hrow : RowIs op true f := by exact ⟨_, rfl, rfl, rfl⟩) : AnswersAtOnce mk op good eff pl := by
  obtain ⟨o, ho, hi, hr⟩ := hrow
  obtain ⟨hc, hrc, -⟩ := notFabric_of_plain hop
  exact answersAtOnce_of f o hm ho hi hr ⟨hc, hrc⟩ hf

theorem produces (hf : ∀ (d : Dev) (c : Cmd), good d c.payload → f d c = (eff d c, .done St.ok (pl d c)))
    (hop : plainOp op = true := by decide) (hm : ∀ h p s, exec (mk h p) s = .next (s.submit h op p) := by exact fun _ _ _ => rfl)
    (hrow : RowIs op false f := by exact ⟨_, rfl, rfl, rfl⟩) : ProducesReply mk op good eff pl := by
  obtain ⟨o, ho, hi, hr⟩ := hrow
  exact producesReply_of f o hm ho hi hr (notFabric_of_plain hop) (fun _ _ hc _ => needsQuiet_of_plain hc hop) hf

theorem works (hf : ∀ (d : Dev) (c : Cmd), c.opcode = op → good d c.payload → f d c = (eff d c, .running))
    (hop : plainOp op = true := by decide) (hm : ∀ h p s, exec (mk h p) s = .next (s.submit h op p) := by exact fun _ _ _ => rfl)
    (hrow : RowIs op false f := by exact ⟨_, rfl, rfl, rfl⟩) : StartsWork mk op good eff := by
  obtain ⟨o, ho, hi, hr⟩ := hrow
  exact startsWork_of f o hm ho hi hr (notFabric_of_plain hop) (fun _ _ hc _ => needsQuiet_of_plain hc hop) hf

theorem startDev_pip (s : State) (h : Hdr) (op : Nat) (p : Bytes) : (startDev s h op p).pip = s.dev.pip := by
  rw [startDev, acceptedIn, State.shown, show_eq]
  rfl

/-- An opcode that would act now acts at its quiet pip instead (R607). -/
theorem awaitsQuiet (hq : ∀ c : Cmd, c.opcode = op → ∀ d, good d c.payload → c.needsQuiet = true) (hf : ∀ (d : Dev) (c : Cmd), good d c.payload → (f d c).2 = .running ∨ ∃ pl, (f d c).2 = .done 0 pl)
    (hn : op ≠ 0x0106 ∧ op ≠ 0x0107 ∧ op ≠ 0x0104 := by decide) (hm : ∀ h p s, exec (mk h p) s = .next (s.submit h op p) := by exact fun _ _ _ => rfl)
    (hrow : RowIs op false f := by exact ⟨_, rfl, rfl, rfl⟩) : AwaitsQuietPip mk op good := by
  obtain ⟨o, ho, hi, hr⟩ := hrow
  intro s h p ha hl hg
  rw [hm, submit_waits ha hl ho hi hr hn (hq _ rfl _ hg) rfl (hf _ (cmdOf s h op p) hg) (startDev_pip s h op p)]

end

/-! ### System opcodes 0x00xx -/

section
variable {d : Dev} {c : Cmd}

/-- A payload that has to be empty. -/
theorem check_empty {k : Dev × Ans} (h : c.payload.length = 0) : check d [(c.payload.length ≠ 0, St.badLength)] k = k := check_passes (by simp [h])

theorem opSetMode_ok (h : Enabled.sysSetMode d c.payload) : opSetMode d c =
    let e := if num c.payload 0 1 = 2 then d.setMode .maintenance else if d.mode = .maintenance then d.setMode (if d.rn Reg.SYS_DEGRADE_CAUSE = 0 then .service else .degraded) else d
    (e, .done St.ok [byte e.mode.code, 0, 0, 0]) := by
  obtain ⟨hlen, hres, hmode⟩ := h
  have hrange : num c.payload 0 1 = 2 ∨ num c.payload 0 1 = 3 := hmode.symm.imp And.left id
  have hbusy : num c.payload 0 1 = 2 → ((List.range 32).any fun n => let s := d.ost n; s == .precharge || s == .energy || s == .rampdown || s == .weldCheck) = false := by
    intro hm
    obtain ⟨-, hidle⟩ : _ ∧ _ := hmode.resolve_left (by omega)
    refine List.any_eq_false.2 fun n hn => ?_
    simp [hidle n (List.mem_range.1 hn)]
  unfold opSetMode
  refine check_passes ?_
  rcases hrange with hm | hm <;> simp [hlen, hres, hm]
  simpa using hbusy hm

theorem opSysReset_husk (h : Enabled.sysReset d c.payload) : opSysReset d c =
    ({ d.huskScopeReset.inc Reg.SYS_CMD_RESET_CNT with husk := { (d.huskScopeReset.inc Reg.SYS_CMD_RESET_CNT).husk with resetWaits := (d.huskScopeReset.inc Reg.SYS_CMD_RESET_CNT).husk.resetWaits ++ [c.id] } }, .running) := by
  obtain ⟨hlen, hres, hscope⟩ := h
  unfold opSysReset
  refine (check_passes (by simp [hlen, hres, hscope])).trans ?_
  rw [if_neg (by omega)]

theorem opSysReset_shell (h : Enabled.sysResetShell d c.payload) : (opSysReset d c).2 = .done St.ok [] := by
  obtain ⟨hlen, hres, hscope⟩ := h
  unfold opSysReset
  rw [check_passes (by simp [hlen, hres, hscope]), if_pos hscope]

/-- Records asked for from one that the ring still holds (R608). -/
theorem logRead_ok {head oldest first count gone : Nat} {bytesOf : Nat → Bytes} (h0 : first ≠ 0) (hold : oldest ≤ first) :
    logRead d head oldest first count gone bytesOf = (d, .done St.ok (((List.range count).filter fun k => first + k ≤ head).flatMap fun k => bytesOf (first + k))) := by
  rw [logRead, if_neg h0, if_neg (Nat.not_lt.2 hold)]

end

/-- Settles O1: under each opcode's conditions no check of its function holds. -/
theorem systemOpcodesComplete : Obligations.SystemOpcodesComplete := by
  refine ⟨atOnce opSysStatus fun d c h => check_empty h, atOnce opSysInfo fun d c h => check_empty h,
    awaitsQuiet opSysReset (fun c ho d h => by simp [Cmd.needsQuiet, ho, h.2.2]) fun d c h => .inr ⟨[], opSysReset_shell h⟩,
    ?sysReset, produces opForceSel ?forceSel, atOnce opSetMode fun d c h => opSetMode_ok h, works opCfgSave ?cfgSave, atOnce opLogRead ?logRead⟩
  case sysReset =>
    intro s h p ha hl hg
    have hq : (cmdOf s h 0x0002 p).needsQuiet = false := by simp [Cmd.needsQuiet, hg.2.2]
    obtain ⟨o, ho, hi, hr⟩ : RowIs 0x0002 false opSysReset := ⟨_, rfl, rfl, rfl⟩
    have hexec : exec (.sysReset h p) s = .next (s.submit h 0x0002 p) := rfl
    rw [hexec, submit_works ha hl ho hi hr (by decide) hq (opSysReset_husk (c := cmdOf s h 0x0002 p) hg)]
  case forceSel =>
    rintro d c ⟨hlen, hres, hlo, hhi, hsrc⟩
    exact check_passes (by simp [hlen, hres, hhi, hsrc]; omega)
  case cfgSave =>
    rintro d c - ⟨hlen, hmask, hbit, hnone⟩
    exact check_passes (by simp [hlen, hmask, hbit, hnone])
  case logRead =>
    rintro d c ⟨hlen, hres, hlo, hhi, h0, hold⟩
    exact (check_passes (by simp [hlen, hres, hhi]; omega)).trans (logRead_ok h0 hold)

/-! ### Register opcodes 0x01xx -/

theorem worst_of_zeros {l : List Nat} (h : ∀ x ∈ l, x = 0) : worst l = 0 := by
  have hnot : ∀ n : Nat, n ≠ 0 → l.contains n = false := fun n hn => by
    simpa using fun hmem => hn (h n hmem)
  have hfind : l.find? (fun x => decide (x ≠ 0)) = none := List.find?_eq_none.2 fun x hx => by simp [h x hx]
  rw [worst, hnot _ (by decide), hnot _ (by decide), hnot _ (by decide), hfind]
  rfl

/-- A write that no check refuses writes its words in order (R602). -/
theorem regWrite_ok {d : Dev} {ws : List (Nat × Word)} (h : ∀ e ∈ ws, d.wordStatus (d.after ws) e.1 e.2 0xFFFFFFFF = 0) :
    d.regWrite ws = (ws.foldl (fun (d : Dev) e => d.writeWord e.1 e.2) d, .done St.ok []) := by
  have hworst : worst (ws.map fun e => d.wordStatus (d.after ws) e.1 e.2 0xFFFFFFFF) = 0 := worst_of_zeros (List.forall_mem_map.2 h)
  unfold Dev.regWrite
  rw [hworst, if_neg (by simp)]

theorem opRegModify_ok {d : Dev} {c : Cmd} (h : Enabled.regModify d c.payload) :
    opRegModify d c = (d.writeWord (num c.payload 0 4) (Enabled.modified d c.payload), .done St.ok (leN (d.oldValue (num c.payload 0 4)).toNat 4)) := by
  obtain ⟨hlen, hkern, hrw, hst⟩ := h
  unfold opRegModify
  refine check_passes ?_
  simpa [hlen, hkern, hrw] using hst

/-- Settles O2: under each opcode's conditions no check of its function holds. -/
theorem registerOpcodesComplete : Obligations.RegisterOpcodesComplete := by
  refine ⟨atOnce opRegRead ?read, atOnce opRegWrite ?write, atOnce opRegModify fun d c h => opRegModify_ok h, atOnce opRegReadShadow ?shadow, atOnce opFabDiscard ?discard, atOnce opFabNop fun d c _ => rfl⟩
  case read =>
    rintro d c ⟨hlen, hres, hlo, hhi, hrun⟩
    exact check_passes (by simp [hlen, hres, hhi, Nat.one_le_iff_ne_zero.1 hlo, hrun])
  case write =>
    rintro d c ⟨hlen, hres, hlo, hhi, hst⟩
    exact (check_passes (by simp [hlen, hres, hhi]; omega)).trans (regWrite_ok hst)
  case shadow =>
    rintro d c ⟨hlen, hres, hlo, hhi, hrun⟩
    exact check_passes (by simp [hlen, hres, hhi, Nat.one_le_iff_ne_zero.1 hlo, hrun])
  case discard =>
    rintro d c ⟨hlen, hmask⟩
    exact check_passes (by simp [hlen, hmask])

/-! ### The opcodes that act on the fabric -/

theorem runOp_fabric {s : State} {c : Cmd} (hk : (c.queue, c.tag) ∉ s.fab.faults) :
    (c.opcode = 0x0106 → s.runOp c = s.fabCancel c) ∧ (c.opcode = 0x0107 → s.runOp c = (s, s.replyRecall c)) := by
  have hf : s.fab.faulted c = false := by simpa [Fab.faulted] using hk
  refine ⟨fun h => ?_, fun h => ?_⟩ <;> simp [State.runOp, hf, h]

theorem begun_no_fault {s : State} {h : Hdr} {op : Nat} {p : Bytes} (ha : Admitted s h op p) : ((cmdOf s h op p).queue, (cmdOf s h op p).tag) ∉ (begun s h op p).fab.faults := by
  simpa [begun] using admitted_no_fault ha

/-- FAB_COMMIT waits for the commit point of the next pip (R67). -/
theorem submit_commit {s : State} {h : Hdr} {p : Bytes} (ha : Admitted s h 0x0104 p) (hl : h.launch = 0) (hlen : p.length = 4) (hmask : maskOk (num p 0 4) = true) :
    s.submit h 0x0104 p = goesOn s h 0x0104 p (startDev s h 0x0104 p) (.waitCommit (s.dev.pip + 1)) := by
  have hpip : (acceptedIn s h 0x0104 p .running).dev.pip = s.dev.pip := startDev_pip s h 0x0104 p
  have hno : commitRefuses p = none := by simp [commitRefuses, hlen, hmask]
  have hlaunch : (cmdOf s h 0x0104 p).launch = none := cmdOf_launch hl
  rw [submit_admitted ha, accept_later rfl, hlaunch, Option.isSome_none, if_neg (by decide), State.start]
  simp only [waits_accepted, hlaunch, hpip, cmdOf_opcode, cmdOf_payload, hno, Option.isSome_none, Bool.not_true, Bool.false_eq_true, if_false, if_true]
  rfl

/-- FAB_CANCEL ends the waiting command that it names (R65). -/
theorem fabCancel_hit {s : State} {c : Cmd} {x : Flight} (hlen : c.payload.length = 4) (hres : num c.payload 1 1 = 0) (hq : num c.payload 0 1 ≤ 31)
    (hfind : s.fab.flights.find? (fun x => x.cmd.queue = num c.payload 0 1 && x.cmd.tag = num c.payload 2 2 && x.phase == .waitLaunch) = some x) :
    s.fabCancel c = (s.onFab fun f => { f with
      flights := f.flights.map fun (y : Flight) => if y.cmd.id = x.cmd.id then { cmd := { y.cmd with src := 79 }, phase := .produced St.denied [] s.dev.pip } else y }, .done St.ok []) := by
  unfold State.fabCancel
  extract_lets p hit
  have hhit : hit = some x := hfind
  rw [if_neg (by simpa [p] using hlen), if_neg (by simp [p, hres, hq]), hhit]

/-- REPLY_RECALL returns a kept reply from an offset (R83). -/
theorem replyRecall_hit {s : State} {c : Cmd} {r : Reply} (hlen : c.payload.length = 8) (hres : num c.payload 1 1 = 0) (hres2 : num c.payload 6 2 = 0) (hoff : num c.payload 4 2 ≤ 1043)
    (hfind : s.fab.history.find? (fun r => r.queue = num c.payload 0 1 && r.tag = num c.payload 2 2) = some r) (hlt : num c.payload 4 2 < r.bytes.length) :
    s.replyRecall c = .done St.ok (leN r.bytes.length 2 ++ [0, 0] ++ (r.bytes.drop (num c.payload 4 2)).take 1020) := by
  unfold State.replyRecall
  extract_lets p off
  rw [if_neg (by simpa [p] using hlen), if_neg (by simp [p, off, hres, hres2, hoff])]
  split
  · next hnone => exact absurd (hnone.symm.trans hfind) (by simp)
  · next r' hsome =>
    obtain rfl := Option.some.inj (hsome.symm.trans hfind)
    exact if_neg (Nat.not_le.2 hlt)

/-- Settles O3: each is one branch of what starts a command on the fabric. -/
theorem fabricOpcodesComplete : Obligations.FabricOpcodesComplete := by
  refine ⟨?commit, ?cancel, ?recalled⟩
  case commit =>
    intro s h p ha hl hlen hmask
    have hexec : exec (.fabCommit h p) s = .next (s.submit h 0x0104 p) := rfl
    rw [hexec, submit_commit ha hl hlen hmask]
  case cancel =>
    intro s h p x ha hl hlen hres hq hfind
    have hrun : (begun s h 0x0106 p).runOp (cmdOf s h 0x0106 p) = _ := ((runOp_fabric (begun_no_fault ha)).1 rfl).trans (fabCancel_hit hlen hres hq hfind)
    have hexec : exec (.fabCancel h p) s = .next (s.submit h 0x0106 p) := rfl
    rw [begun] at hrun
    rw [hexec, submit_admitted ha, accept_now (by rw [cmdOf_launch hl]; rfl), hrun]
    rfl
  case recalled =>
    intro s h p r ha hl hlen hres hres2 hoff hfind hlt
    have hrun : (begun s h 0x0107 p).runOp (cmdOf s h 0x0107 p) = _ := (runOp_fabric (begun_no_fault ha)).2 rfl
    rw [replyRecall_hit hlen hres hres2 hoff hfind hlt, begun] at hrun
    have hexec : exec (.replyRecall h p) s = .next (s.submit h 0x0107 p) := rfl
    rw [hexec, submit_admitted ha, accept_now (by rw [cmdOf_launch hl]; rfl), hrun]
    rfl

end Sys2Proof.Proofs
end

section
/-!
The outlet opcodes (O4).
-/
namespace Sys2Proof.Proofs
open Sys2Proof.Machine Sys2Proof.Claims Sys2Proof.Laws

section
variable {d : Dev} {c : Cmd}

/-- The three checks of a command about one outlet. -/
theorem check_oneOutlet {k : Dev × Ans} (h : Enabled.oneOutlet d c.payload) :
    check d [(c.payload.length ≠ 4, St.badLength), (num c.payload 1 3 ≠ 0, St.badParam), (d.noOutlet (num c.payload 0 1), St.f1)] k = k := by
  obtain ⟨hlen, hres, hout⟩ := h
  exact check_passes (by simp [hlen, hres, hout])

/-- OUT_START_REMOTE for the floating pre-authorisation, for an outlet in IDLE and for one in AUTHORISING (R129). -/
theorem opOutStartRemote_ok (h : Enabled.outStartRemote d c.payload) : opOutStartRemote d c =
    let n := num c.payload 0 1
    let i : Ident := { kind := num c.payload 2 1, len := num c.payload 3 1, bytes := (c.payload.drop 4).take 10, acct := num c.payload 14 2 }
    (if n = 0xFF then { d with out := { d.out with floating := some (i, d.pip + 240000) } }
     else if d.ost n = .idle then d.setO n fun o => { o with preauth := some (i, d.pip + d.fld (Reg.OUT_AUTH_CFG n) 31 24 * 4000) }
     else d.grant n i 4, .done St.ok []) := by
  obtain ⟨hlen, hres, hlo, hhi, hid, hwhere⟩ := h
  unfold opOutStartRemote
  extract_lets p n i
  refine (check_passes (by simp [p, i, hlen, hres, hhi, hid]; omega)).trans ?_
  by_cases hff : n = 0xFF
  · rw [if_pos hff, if_pos hff]
  · obtain ⟨hout, hbit, hst⟩ := hwhere.resolve_left hff
    rw [if_neg hff, if_neg hff]
    refine (check_passes (by simp [p, n, hout, hbit])).trans ?_
    rcases hst with hst | hst
    · rw [show d.ost n = .idle from hst, if_pos rfl]
    · rw [show d.ost n = .authorising from hst, if_neg (by decide)]

/-- What OUT_STOP does in a state from which a session ends (R124). -/
theorem stopRow_ok {n : Nat} (hidle : d.ost n ≠ .idle) (hun : d.ost n ≠ .unplugged) (hfault : d.ost n ≠ .fault) (hplug : d.ost n = .plugged → d.rbit (Reg.OUT_STATE n) 18 = false) :
    d.stopRow n = some (if d.ost n = .plugged then d.setFld (Reg.OUT_STATE n) 18 18 1
      else if d.ost n = .linking ∨ d.ost n = .negotiating ∨ d.ost n = .authorising then ((d.closeLink n).setFld (Reg.OUT_STATE n) 18 18 1).goto n .plugged
      else if d.ost n = .rampdown ∨ d.ost n = .weldCheck then d
      else d.rampdown n 0) := by
  unfold Dev.stopRow
  cases hst : d.ost n <;> simp_all

/-- OUT_CERT_RESPONSE takes its chunk. -/
theorem opOutCertResponse_ok (h : Enabled.outCertResponse d c.payload) : opOutCertResponse d c =
    let n := num c.payload 0 1
    let buf := padTo (num c.payload 4 2) (d.o n).certBuf ++ c.payload.drop 8
    (d.setO n fun o => if num c.payload 4 2 + num c.payload 6 2 = num c.payload 2 2 then { o with certPending := false, certBuf := [], certOut := buf } else { o with certBuf := buf }, .done St.ok []) := by
  obtain ⟨hlen, hres, hfit, hout, hpend⟩ := h
  exact check_passes (by simp [hlen, hres, hfit, hout, hpend])

/-- LIST_UPDATE leaves the list that its entries make of the one it starts from (R129). -/
theorem opListUpdate_ok (h : Enabled.listUpdate d c.payload) : opListUpdate d c =
    let l := Enabled.newList d c.payload
    (if num c.payload 4 1 = 0 then d.setList l (num c.payload 0 4)
     else if num c.payload 4 1 = 3 then ({ d with out := { d.out with staging := [] } } : Dev).setList l (num c.payload 0 4)
     else { d with out := { d.out with staging := l } }, .done St.ok []) := by
  obtain ⟨hlen, hres, hzero, hop, hcnt, hent, hver, hroom⟩ := h
  have hbad : ∀ e ∈ Enabled.entries c.payload, (e.kind = 0 || 3 < e.kind || 10 < e.len || 3 < e.status || (e.status = 3 && num c.payload 4 1 ≠ 0)) = false := by
    intro e he
    obtain ⟨h1, h2, h3, h4, h5⟩ := hent e he
    simpa using ⟨⟨⟨⟨by omega, h2⟩, h3⟩, h4⟩, h5⟩
  unfold opListUpdate
  extract_lets p ver op cnt es badE badZ live out staged l
  have hbadE : badE = false := List.any_eq_false.2 fun e he => by rw [hbad e he]; decide
  have hbadZ : badZ = false := List.any_eq_false.2 fun k hk => by simp [p, hzero k (List.mem_range.1 hk)]
  refine (check_passes ?_).trans ?_
  · simp only [List.mem_cons, List.not_mem_nil, or_false, forall_eq_or_imp, forall_eq, hbadE, hbadZ]
    simpa [p, cnt, op, ver, hlen, hres, hop, hcnt] using hver
  · have hl : l = es.foldl listApply (if op = 0 then d.out.list else if op = 1 then [] else d.out.staging) := rfl
    have hcase : op = 0 ∨ op = 1 ∨ op = 2 ∨ op = 3 := by have : op ≤ 3 := hop; omega
    have hopc : num c.payload 4 1 = op := rfl
    have hfits : ¬ 65536 < l.length := Nat.not_lt.2 hroom
    rw [hopc]
    clear_value l op
    rcases hcase with rfl | rfl | rfl | rfl <;> simp only [reduceIte, Nat.reduceEqDiff] at hl ⊢ <;> rw [hl] at hfits ⊢
    · exact if_neg hfits
    · exact if_neg hfits
    · exact if_neg hfits

end

/-- Settles O4: under each opcode's conditions no check of its function holds, and the state of the outlet takes the branch named. -/
theorem outletOpcodesComplete : Obligations.OutletOpcodesComplete := by
  refine ⟨atOnce opOutStatusGet fun d c h => check_oneOutlet h, atOnce opOutAuthorise ?authorise, atOnce opOutStartRemote fun d c h => opOutStartRemote_ok h,
    atOnce opOutStop ?stop, atOnce opOutSetAvailable ?available, atOnce opOutClearFault ?clear, atOnce opOutSessionInfo ?info, atOnce opOutEventRead ?event,
    atOnce opListUpdate fun d c h => opListUpdate_ok h, atOnce opListQuery ?query, atOnce opOutCertResponse fun d c h => opOutCertResponse_ok h⟩
  case authorise =>
    rintro d c ⟨hlen, hres, hres2, hok, hout, hst, hwait⟩
    exact check_passes (by simp [hlen, hres, hres2, hok, hout, hst, hwait])
  case stop =>
    rintro d c ⟨hone, hidle, hun, hfault, hplug⟩
    refine (check_oneOutlet hone).trans ?_
    rw [stopRow_ok hidle hun hfault hplug]
  case available =>
    rintro d c ⟨hlen, hres, hle, hout⟩
    exact check_passes (by simp [hlen, hres, hle, hout])
  case clear =>
    rintro d c ⟨⟨hlen, hres, hout⟩, hst, hcp⟩
    exact check_passes (by simp [hlen, hres, hout, hst, hcp])
  case info =>
    intro d c h
    refine (check_oneOutlet h).trans ?_
    simp only [Bool.or_eq_true, beq_iff_eq]
  case event =>
    rintro d c ⟨hlen, hres, hlo, hhi, h0, hold⟩
    exact (check_passes (by simp [hlen, hres, hhi]; omega)).trans (logRead_ok h0 hold)
  case query =>
    rintro d c ⟨hlen, hlo, hhi, hid, hfound⟩
    refine (check_passes (by simp [hlen, hhi, hid]; omega)).trans ?_
    obtain ⟨e, he⟩ := Option.isSome_iff_exists.1 hfound
    rw [he]
    rfl

end Sys2Proof.Proofs
end

section
/-!
The Kernel, billing, Husk, time and firmware opcodes (O5 to O9).
-/
namespace Sys2Proof.Proofs
open Sys2Proof.Machine Sys2Proof.Claims Sys2Proof.Laws

section
variable {d : Dev} {c : Cmd}

/-- The three checks of a command with one operand of a range. -/
theorem check_oneOf {top : Nat} {k : Dev × Ans} (h : Enabled.oneOf top d c.payload) :
    check d [(c.payload.length ≠ 4, St.badLength), (num c.payload 1 3 ≠ 0, St.badParam), (decide (top < num c.payload 0 1), St.badParam)] k = k := by
  obtain ⟨hlen, hres, hle⟩ := h
  exact check_passes (by simp [hlen, hres, hle])

theorem kernOp_ok {len : Nat} (h : Enabled.fixed len d c.payload) : kernOp len d c = (passedOn d c, .running) :=
  check_passes (by simp [show c.payload.length = len from h])

theorem kernChunk_ok (h : Enabled.chunk d c.payload) : kernChunk d c = (passedOn d c, .running) := by
  obtain ⟨hlo, hhi⟩ := h
  exact check_passes (by simp [hlo, hhi])

end

section
variable {mk : Hdr → Bytes → Instr} {op len : Nat}

/-- A Kernel command of a fixed length is passed on to the Kernel (R184). -/
theorem passesOn (hop : plainOp op = true := by decide) (hm : ∀ h p s, exec (mk h p) s = .next (s.submit h op p) := by exact fun _ _ _ => rfl)
    (hrow : RowIs op false (kernOp len) := by exact ⟨_, rfl, rfl, rfl⟩) : StartsWork mk op (Enabled.fixed len) passedOn :=
  works (kernOp len) (fun _ _ _ h => kernOp_ok h) hop hm hrow

/-- A Kernel command with a chunk is passed on to the Kernel (R184). -/
theorem passesChunkOn (hop : plainOp op = true := by decide) (hm : ∀ h p s, exec (mk h p) s = .next (s.submit h op p) := by exact fun _ _ _ => rfl)
    (hrow : RowIs op false kernChunk := by exact ⟨_, rfl, rfl, rfl⟩) : StartsWork mk op Enabled.chunk passedOn :=
  works kernChunk (fun _ _ _ h => kernChunk_ok h) hop hm hrow

end

/-! ### Kernel opcodes 0x03xx -/

/-- Settles O5: a Kernel command is passed on as it is, and a read of the mirror passes its checks. -/
theorem kernelOpcodesComplete : Obligations.KernelOpcodesComplete := by
  refine ⟨atOnce opKernStatus fun d c h => check_empty h, atOnce opKernCertRead ?cert, atOnce opKernPubkeyRead ?pubkey, passesOn, works opKernIntervalWait fun d c _ h => check_oneOf h,
    passesOn, passesOn, passesOn, passesOn, passesOn, passesOn, passesOn, passesOn, passesChunkOn, passesOn, passesOn, passesOn, passesOn⟩
  case cert =>
    rintro d c ⟨hlen, hlo, hhi, hfit⟩
    exact check_passes (by simp [hlen, hhi, hfit]; omega)
  case pubkey =>
    rintro d c ⟨hlen, hsigner⟩
    exact check_passes (by simp [hlen, hsigner])

/-! ### Billing opcodes 0x04xx -/

section
variable {d : Dev} {c : Cmd}

/-- ACCOUNT_ADJUST of an account that has not seen its reference (R247). -/
theorem opAccountAdjust_ok (h : Enabled.accountAdjust d c.payload) : opAccountAdjust d c =
    ({ d with bill := { d.bill with changes := d.bill.changes ++ [{ acct := num c.payload 0 2, due := d.pip + 1, op := .adjust (snum c.payload 4 8) (num c.payload 12 4) }] } },
     .done St.ok (leI (((d.acctSoon (num c.payload 0 2)).map (·.balance)).getD 0 + snum c.payload 4 8) 8)) := by
  obtain ⟨hlen, hres, hacct, x, hx, hnew⟩ := h
  refine (check_passes (by simp [hlen, hres, hacct])).trans ?_
  rw [hx]
  exact if_neg (by rw [hnew]; decide)

/-- TOKEN_SUBMIT of twenty decimal digits (R249). -/
theorem opTokenSubmit_ok (h : Enabled.tokenSubmit d c.payload) : opTokenSubmit d c =
    ((d.tokenDecide (num c.payload 0 1) (((c.payload.drop 2).take 20).map fun b => b.toNat - 48)).1,
     .done St.ok [byte (d.tokenDecide (num c.payload 0 1) (((c.payload.drop 2).take 20).map fun b => b.toNat - 48)).2, 0, 0, 0]) := by
  obtain ⟨hlen, hres, hres2, hdigits, hout⟩ := h
  unfold opTokenSubmit
  extract_lets p digits
  have hany : (digits.any fun x => x < 48 || 57 < x) = false := List.any_eq_false.2 <| List.forall_mem_map.2 fun b hb => by
    obtain ⟨hlo, hhi⟩ := hdigits b hb
    simp [hlo, hhi]
  have hmap : digits.map (· - 48) = ((c.payload.drop 2).take 20).map fun b => b.toNat - 48 := List.map_map
  rw [check_passes (by simp [p, hlen, hres, hres2, hany, hout]), hmap]

end

/-- Settles O6: tariff and legal-time commands are passed on to the Kernel, the others pass their checks. -/
theorem billingOpcodesComplete : Obligations.BillingOpcodesComplete := by
  refine ⟨passesOn, passesChunkOn, passesOn, passesOn, passesOn, passesOn, atOnce opLegalTimeGet fun d c h => check_empty h, atOnce opAccountSet ?set,
    atOnce opAccountAdjust fun d c h => opAccountAdjust_ok h, atOnce opAccountGet ?get, atOnce opTxnRead ?txn, produces opTokenSubmit fun d c h => opTokenSubmit_ok h, atOnce opTokenList ?tokens⟩
  case set =>
    rintro d c ⟨hlen, hres, hres2, hflags, hacct⟩
    exact check_passes (by simp [hlen, hres, hres2, hflags, hacct])
  case get =>
    rintro d c ⟨hlen, hres, hacct, hfound⟩
    refine (check_passes (by simp [hlen, hres, hacct])).trans ?_
    obtain ⟨x, hx⟩ := Option.isSome_iff_exists.1 hfound
    rw [hx]
  case txn =>
    rintro d c ⟨hlen, hres, hlo, hhi, h0, hold⟩
    exact (check_passes (by simp [hlen, hres, hhi]; omega)).trans (logRead_ok h0 hold)
  case tokens =>
    rintro d c ⟨hlen, hlo, hhi⟩
    exact check_passes (by simp [hlen, hhi]; omega)

/-! ### Husk opcodes 0x05xx -/

/-- Settles O7: under each opcode's conditions no check of its function holds. -/
theorem huskOpcodesComplete : Obligations.HuskOpcodesComplete := by
  refine ⟨atOnce opHuskStatus ?status, atOnce opLaneStats fun d c h => check_oneOf h, atOnce opSlacProfile ?profile, works opLaneReset ?reset, atOnce opT1sStatus ?t1s, works opLaneTxTest ?test⟩
  case status =>
    intro d c h
    exact check_passes (by simp [List.eq_nil_of_length_eq_zero h])
  case profile =>
    rintro d c ⟨hone, hlast⟩
    refine (check_oneOf hone).trans ?_
    obtain ⟨x, hx⟩ := Option.isSome_iff_exists.1 hlast
    rw [hx]
  case reset =>
    rintro d c - ⟨⟨hlen, hres, hle⟩, hst, hmesh⟩
    refine check_passes ?_
    simp only [List.mem_cons, List.not_mem_nil, or_false, forall_eq_or_imp, forall_eq]
    refine ⟨by simp [hlen], by simp [hres], by simp [hle], ?_, by simpa using hmesh⟩
    by_cases hn : num c.payload 0 1 < 32
    · rcases hst hn with hs | hs | hs <;> simp [hs]
    · simp [hn]
  case t1s =>
    rintro d c ⟨⟨hlen, hres, hle⟩, htype⟩
    exact check_passes (by simp [hlen, hres, hle, htype])
  case test =>
    rintro d c - ⟨hlen, hres, hlane, hmode, hlo, hhi, hmaint, hidle, hfree⟩
    have hany : (d.husk.tests.any fun t => t.lane = num c.payload 0 1) = false := List.any_eq_false.2 fun t ht => by simp [hfree t ht]
    refine check_passes ?_
    simp only [List.mem_cons, List.not_mem_nil, or_false, forall_eq_or_imp, forall_eq, hany]
    simp [hlen, hres, hlane, hmode, hhi, hmaint, hidle]
    omega

/-! ### Time opcodes 0x06xx -/

section
variable {d : Dev} {c : Cmd}

/-- TIME_SET_STATE asks for a servo state that R103 reaches from the present one. -/
theorem opTimeSetState_ok (h : Enabled.timeSetState d c.payload) : opTimeSetState d c =
    (d.setTime fun u => { u with stateReq := some (if num c.payload 0 1 = 3 then .recovery else if num c.payload 0 1 = 4 then .test else .holdover) }, .done St.ok []) := by
  obtain ⟨hlen, hres, hgoal⟩ := h
  unfold opTimeSetState
  extract_lets t goal
  have hsome : goal = some (if t = 3 then .recovery else if t = 4 then .test else .holdover) := by
    rcases hgoal with ⟨ht, hs⟩ | ⟨ht, hs⟩ | ⟨ht, -, hs⟩ <;> simp [goal, t, ht, hs]
  have hdenied : t = 4 → d.mode = .maintenance := by
    rcases hgoal with ⟨ht, -⟩ | ⟨ht, -⟩ | ⟨ht, hm, -⟩
    · simp [t, ht]
    · simp [t, ht]
    · exact fun _ => hm
  have hrange : ¬ t = 1 → ¬ t = 3 → t = 4 := by
    rcases hgoal with ⟨ht, -⟩ | ⟨ht, -⟩ | ⟨ht, -⟩ <;> simp [t, ht]
  rw [hsome, check_passes (by simpa [hlen, hres] using ⟨hrange, hdenied⟩)]

end

/-- Settles O8: under each opcode's conditions no check of its function holds. -/
theorem timeOpcodesComplete : Obligations.TimeOpcodesComplete := by
  refine ⟨atOnce opTimeGet fun d c h => check_empty h, atOnce opTimeSetState fun d c h => opTimeSetState_ok h, works opTimeSetTb0 ?tb0, atOnce opTimePtpStatus fun d c h => check_empty h⟩
  case tb0 =>
    rintro d c - ⟨hlen, hsec, hns, hout, hfree⟩
    unfold opTimeSetTb0
    extract_lets sec ns busy
    have hbusy : busy = false := by simp only [busy]
    have hrange : sec < 281474976710656 := hsec
    exact check_passes (by simp [ns, hlen, hrange, hns, hout, hbusy])

/-! ### Firmware opcodes 0x07xx -/

section
variable {d : Dev} {c : Cmd}

theorem opFwuChunk_ok (h : Enabled.fwuChunk d c.payload) :
    opFwuChunk d c = (d.setFwu fun f => { f with load := f.load.map fun l => (l.1, l.2.1, l.2.2 ++ c.payload.drop 4) }).fwuBusy c St.ok [] := by
  obtain ⟨hlo, hhi, hfree, ⟨len, ver, got⟩, hload, hat, hfit⟩ := h
  refine (check_passes (by simp [hlo, hhi, hfree])).trans ?_
  rw [hload]
  refine (check_passes (by simp [hat]; omega)).trans ?_
  simp only [Dev.setFwu, hload, Option.map_some]

theorem opFwuEnd_ok (h : Enabled.fwuEnd d c.payload) : opFwuEnd d c =
    let got := ((d.fwu.load.map fun l => l.2.2).getD [])
    let e := d.setFwu fun f => { f with load := none }
    ((e.setBank e.fwu.target (some (bankOf got))).setFwu fun f => { f with staged := true }).fwuBusy c St.ok (leN (bankOf got).version 4) := by
  obtain ⟨hlen, hfree, ⟨len, ver, got⟩, hload, hall, hcrc, hform⟩ := h
  refine (check_passes (by simp [hlen, hfree])).trans ?_
  rw [hload]
  exact if_pos (by simp_all)

/-- FWU_ACTIVATE passes its checks (R497, R502) and answers OK in Sprout and outside it. -/
theorem opFwuActivate_ok (h : Enabled.fwuActivate d c.payload) : (opFwuActivate d c).2 = .done St.ok [] := by
  obtain ⟨hlen, hres, hflags, hfree, hstaged, hver, htwin⟩ := h
  unfold opFwuActivate
  extract_lets p flags s
  have hpause : (decide (d.mode ≠ .sprout) && decide (s = 4) && d.inSync && decide (flags < 2)) = false := by
    rcases htwin with hm | ht | hi | hf
    · simp [hm]
    · simp [s, ht]
    · simp [hi]
    · simp [show ¬ flags < 2 from Nat.not_lt.2 hf]
  rw [check_passes]
  · split <;> rfl
  · simp only [List.mem_cons, List.not_mem_nil, or_false, forall_eq_or_imp, forall_eq, hpause]
    simp [p, flags, hlen, hres, hflags, hfree, hstaged, hver]

end

/-- Settles O9: under each opcode's conditions no check of its function holds, and FWU_ACTIVATE waits for its quiet pip. -/
theorem firmwareOpcodesComplete : Obligations.FirmwareOpcodesComplete := by
  refine ⟨atOnce opFwuStatus fun d c h => check_empty h, works opFwuBegin ?begin, works opFwuChunk fun d c _ h => opFwuChunk_ok h, works opFwuEnd fun d c _ h => opFwuEnd_ok h,
    awaitsQuiet opFwuActivate (fun c ho d h => by simp [Cmd.needsQuiet, ho]) fun d c h => .inr ⟨[], opFwuActivate_ok h⟩, atOnce opFwuConfirm fun d c h => check_empty h, produces opFwuAbort ?abort⟩
  case begin =>
    rintro d c - ⟨hlen, hlo, hhi, hload, hstaged, hfree, htrial⟩
    exact check_passes (by simp [hlen, hlo, hhi, hload, hstaged, hfree, htrial])
  case abort =>
    intro d c h
    refine (check_empty h).trans ?_
    split <;> rfl

end Sys2Proof.Proofs
end

section
/-!
The opcodes of keys, display, tags, twin, mesh, safety, switches and memories (O10 to O17).
-/
namespace Sys2Proof.Proofs
open Sys2Proof.Machine Sys2Proof.Claims Sys2Proof.Laws

/-! ### Key opcodes 0x08xx -/

section
variable {d : Dev} {c : Cmd}

theorem check_noBytes {k : Dev × Ans} (h : c.payload.length = 0) : check d [(decide (c.payload ≠ []), St.badLength)] k = k :=
  check_passes (by simp [List.eq_nil_of_length_eq_zero h])

theorem opKeyLoad_ok (h : Enabled.keyLoad d c.payload) : opKeyLoad d c =
    (d.keyStart (num c.payload 0 1) { id := c.id, key := (openBlob (Config.kek d.key.kekGen) (c.payload.drop 4)).getD KeySlot.empty, blob := if num c.payload 1 1 = 1 then some (c.payload.drop 4) else none, forget := false, reply := [], load := true, due := some (d.pip + 4) }, .running) := by
  obtain ⟨hlo, hhi, hres, hslot, hpers, hbusy, hkek, hblob⟩ := h
  obtain ⟨k, hk⟩ := Option.isSome_iff_exists.1 hblob
  refine (check_passes ?_).trans (by rw [hk]; rfl)
  simp [hres, hslot, hpers, hbusy, hkek]
  omega

theorem opKeyImport_ok (h : Enabled.keyImport d c.payload) : opKeyImport d c =
    let p := c.payload
    let k := { (openBlob (d.slot (num p 0 1)).key (p.drop 4)).getD KeySlot.empty with origin := 2 }
    ((d.useKey (num p 0 1)).keyStart (num p 1 1) { id := c.id, key := k, blob := if num p 2 1 = 1 then some (d.blobOf k) else none, forget := false, reply := d.blobOf k, load := true, due := none }, .running) := by
  obtain ⟨hlen, hres, hw, hn, hpers, hcombo, hbusyW, hbusyN, hkek, huse, hblob⟩ := h
  obtain ⟨k, hk⟩ := Option.isSome_iff_exists.1 hblob
  refine (check_passes (by simp [hlen, hres, hw, hn, hpers, hcombo, hbusyW, hbusyN, hkek])).trans ?_
  rw [if_neg (Classical.not_not.2 huse)]
  simp only [hk, Option.getD_some]

/-- KEY_AEAD with a key of use 1 seals its data (R482). -/
theorem opKeyAead_ok (h : Enabled.keyAead d c.payload) : opKeyAead d c =
    let p := c.payload
    let data := p.drop (16 + num p 2 2)
    let sealed := Config.gcmSeal (d.slot (num p 0 1)).key ((p.drop 4).take 12) ((p.drop 16).take (num p 2 2)) data
    (d.useKey (num c.payload 0 1), .done St.ok (padTo data.length sealed.1 ++ padTo 16 sealed.2)) := by
  obtain ⟨hlo, hhi, hres, hslot, haad, hkek, hhost, hloaded, halg, huse⟩ := h
  refine (check_passes ?_).trans ?_
  · simp [hres, hslot, haad, hkek, hhost, hloaded]
    omega
  · rw [if_neg (by rcases halg with ha | ha <;> simp [ha, huse]), if_pos huse]

theorem opChainWrite_ok (h : Enabled.keyChainWrite d c.payload) : opChainWrite d c =
    let p := c.payload
    let old := d.key.staging.getD (num p 0 1) []
    ({ d with key := { d.key with staging := d.key.staging.set (num p 0 1) (padTo (num p 4 2) old ++ p.drop 8 ++ old.drop (num p 4 2 + (p.drop 8).length)) } }, .done St.ok []) := by
  obtain ⟨hlo, hhi, hres, hres2, hset, hfin, hfit⟩ := h
  refine (check_passes ?_).trans ?_
  · simp [hlo, hres, hres2, hset, hfin, hfit]
    omega
  · rw [if_neg (by omega)]

end

/-- Settles O10: under each opcode's conditions no check of its function holds. -/
theorem keyOpcodesComplete : Obligations.KeyOpcodesComplete := by
  refine ⟨atOnce opKeyStatus fun d c h => check_noBytes h, works opKeyLoad fun d c _ h => opKeyLoad_ok h, works opKeyClear ?clear, works opKeyGenerate ?generate, works opKeyImport fun d c _ h => opKeyImport_ok h,
    atOnce opKeyPubkey ?pubkey, produces opKeyCsr ?csr, produces opKeyAead fun d c h => opKeyAead_ok h, atOnce opTamperArm ?arm, produces opChainWrite fun d c h => opChainWrite_ok h⟩
  case clear =>
    rintro d c - ⟨hlen, hres, hslot, hpers, hbusy⟩
    exact check_passes (by simp [hlen, hres, hslot, hpers, hbusy])
  case generate =>
    rintro d c - ⟨hlen, hslot, hpers, hcombo, hbusy, hkek⟩
    exact check_passes (by simp [hlen, hslot, hpers, hcombo, hbusy, hkek])
  case pubkey =>
    rintro d c ⟨⟨hlen, hres, hslot⟩, hloaded, huse⟩
    exact (check_passes (by simp [hlen, hres, hslot, hloaded])).trans (if_pos huse)
  case csr =>
    rintro d c ⟨hlen, hlo, hhi, hres, hslot, hkek, hhost, hloaded, huse⟩
    refine (check_passes ?_).trans (if_pos huse)
    simp [hlen, hhi, hres, hslot, hkek, hhost, hloaded]
    omega
  case arm =>
    rintro d c ⟨⟨hlen, hres, hmask⟩, hlatch⟩
    exact check_passes (by simp [hlen, hres, hmask, hlatch])

/-! ### Display opcodes 0x09xx -/

/-- Settles O11: under each opcode's conditions no check of its function holds. -/
theorem displayOpcodesComplete : Obligations.DisplayOpcodesComplete := by
  refine ⟨atOnce opDispStatus fun d c h => check_empty h, atOnce opDispWrite ?write, works opDispUpdate ?update, atOnce opDispStressRead ?read, atOnce opDispStressReset ?reset⟩
  case write =>
    rintro d c ⟨hfull, hlen, hw, hh, hx, hy⟩
    refine check_passes ?_
    simp only [List.mem_cons, List.not_mem_nil, or_false, forall_eq_or_imp, forall_eq, Bool.or_eq_false_iff, decide_eq_false_iff_not, ne_eq, Classical.not_not]
    omega
  case update =>
    rintro d c - ⟨⟨hlen, hres, hle⟩, hdef, hfree⟩
    refine (check_passes (by simp [hlen, hres, hle, hdef])).trans ?_
    exact if_pos (by rw [hfree]; rfl)
  case read =>
    rintro d c ⟨hlen, hlo, hhi, hfit⟩
    exact check_passes (by simp [hlen, hhi, hfit]; omega)
  case reset =>
    rintro d c ⟨hlen, hmode⟩
    exact check_passes (by simp [hlen, hmode])

/-! ### Tag opcodes 0x0Axx -/

section
variable {d : Dev} {c : Cmd}

/-- RDR_APDU starts an exchange with WUPA as the only block to send (R431). -/
theorem opRdrApdu_ok (h : Enabled.rdrApdu d c.payload) : opRdrApdu d c =
    ((d.setTag fun t => { t with
      cycle := none,
      exch := some { id := c.id, uid := (t.list[num c.payload 0 1]?.map fun x => x.uid).getD [], apdu := c.payload.drop 4, start := d.pip, stage := .wupa, fwi := 4, fsc := 16, since := d.pip, mult := 1, nak := false, got := [] },
      rdrOut := [.wupa] }).rdrShow, .running) := by
  obtain ⟨hlo, hhi, hres, hle, hiface, hfree, x, hx, hsak⟩ := h
  have hlt : num c.payload 0 1 < d.tag.list.length := (List.getElem?_eq_some_iff.1 hx).1
  refine (check_passes ?_).trans rfl
  simp only [List.mem_cons, List.not_mem_nil, or_false, forall_eq_or_imp, forall_eq, hx]
  simp [hlo, hhi, hres, hle, hiface, hfree, hsak, hlt]

end

/-- Settles O12: under each opcode's conditions no check of its function holds. -/
theorem tagOpcodesComplete : Obligations.TagOpcodesComplete := by
  refine ⟨atOnce opTagStatus fun d c h => check_empty h, atOnce opRdrList fun d c h => check_empty h, works opRdrApdu fun d c _ h => opRdrApdu_ok h, works opFramRead ?read, works opFramWrite ?write,
    produces opFramHold ?hold, produces opFramRelease ?release, atOnce opKpRead ?keys⟩
  case read =>
    rintro d c - ⟨hlen, hoff, hlo, hhi, hfit, hcut⟩
    exact check_passes (by simp [hlen, hoff, hhi, hfit, hcut]; omega)
  case write =>
    rintro d c - ⟨hlo, hhi, hres, hfit, hpassport, hcut⟩
    exact check_passes (by simp [hlo, hhi, hres, hfit, hpassport, hcut])
  case hold =>
    rintro d c ⟨hlen, hiface, hfree, hcut⟩
    exact check_passes (by simp [hlen, hiface, hfree, hcut])
  case release =>
    rintro d c ⟨hlen, hcut, hheld⟩
    refine (check_empty hlen).trans ?_
    obtain ⟨t, ht⟩ := Option.isSome_iff_exists.1 hheld
    simp only [hcut, ht, Option.isNone_some, Bool.false_eq_true, if_false]
  case keys =>
    rintro d c ⟨⟨hlen, hres, hhi⟩, hlo, hiface⟩
    exact check_passes (by simp [hlen, hres, hhi, hiface]; omega)

/-! ### Twin opcodes 0x0Bxx -/

/-- Settles O13: under each opcode's conditions no check of its function holds, and TWIN_SWITCHOVER waits for its quiet pip. -/
theorem twinOpcodesComplete : Obligations.TwinOpcodesComplete := by
  refine ⟨atOnce opTwinStatus fun d c h => check_empty h, awaitsQuiet opTwinSwitchover (fun c ho d h => by simp [Cmd.needsQuiet, ho]) ?switch, atOnce opTwinResync ?resync, atOnce opTwinKcmp ?kcmp⟩
  case switch =>
    rintro d c ⟨hlen, hres, hactive, hsync, hfree⟩
    unfold opTwinSwitchover
    rw [check_passes (by simp [hlen, hres, hactive, hsync, hfree])]
    exact .inl rfl
  case resync =>
    rintro d c ⟨hlen, hres, hactive, hoff⟩
    exact check_passes (by simp [hlen, hres, hactive, hoff])
  case kcmp =>
    rintro d c ⟨⟨hlen, hres, hle⟩, hpeer⟩
    exact check_passes (by simp [hlen, hres, hle, hpeer])

/-! ### Mesh opcodes 0x0Cxx -/

section
variable {d : Dev} {c : Cmd}

/-- MESH_SEND of a USER message that the node's queue takes (R298, R299). -/
theorem opMeshSend_ok (h : Enabled.meshSend d c.payload) : opMeshSend d c =
    let m := (d.mesh.originate 1 (num c.payload 2 1) (num c.payload 1 1) (c.payload.drop 4)).1
    (d.setMesh m, .done St.ok (leN m.nextSeq 2 ++ [0, 0])) := by
  obtain ⟨hlo, hhi, hres, htyp, hflags, hdst, hjoined, hroom⟩ := h
  have hknown : (decide (num c.payload 1 1 ≠ 0xFF) && !d.mesh.map.used (num c.payload 1 1)) = false := by
    rcases hdst with hd | ⟨-, hd⟩ <;> simp [hd]
  have hnode : num c.payload 1 1 ≤ 63 ∨ num c.payload 1 1 = 0xFF := hdst.symm.imp And.left id
  unfold opMeshSend
  extract_lets p typ dst data lenBad zeroBad rangeBad
  have htyp' : typ = 1 := htyp
  have hlen : lenBad = false := by simp [lenBad, htyp', p, data]; omega
  have hzero : zeroBad = false := by simp [zeroBad, htyp', p, hres]
  have hrange : rangeBad = false := by simp [rangeBad, htyp', p, dst, hflags]; omega
  rw [check_passes (by simpa [hlen, hzero, hrange, hjoined] using hknown), htyp']
  exact if_pos hroom

end

/-- Settles O14: under each opcode's conditions no check of its function holds. -/
theorem meshOpcodesComplete : Obligations.MeshOpcodesComplete := by
  refine ⟨atOnce opMeshStatus fun d c h => check_noBytes h, atOnce opMeshTable ?table, atOnce opMeshSend fun d c h => opMeshSend_ok h, atOnce opMeshRxRead ?rx, atOnce opMeshRescan ?rescan, atOnce opMeshEvict ?evict⟩
  case table =>
    rintro d c ⟨hempty, hoff, hscan⟩
    exact check_passes (by simp [hempty, hoff, hscan])
  case rx =>
    rintro d c ⟨⟨hlen, hres, hhi⟩, hlo⟩
    exact check_passes (by simp [hlen, hres, hhi]; omega)
  case rescan =>
    rintro d c ⟨hempty, hst⟩
    exact check_passes (by simp [hempty, hst])
  case evict =>
    rintro d c ⟨⟨hlen, hres, hhi⟩, hlo, hst, hused⟩
    exact check_passes (by simp [hlen, hres, hhi, hst, hused]; omega)

/-! ### Safety and Guard opcodes 0x0Dxx -/

section
variable {d : Dev} {c : Cmd}

/-- SAFE_RESET of pairs and connections whose causes are gone (R350, R367). -/
theorem opSafeReset_ok (h : Enabled.safeReset d c.payload) : opSafeReset d c =
    (((maskBits 8 (num c.payload 1 1)).filter d.connRx).foldl (fun (d : Dev) k => (d.setConn k fun x => { x with needReset := false }).setFld (Reg.SAFE_CONN_STATUS k) 1 0 2)
      ((maskBits 8 (num c.payload 0 1)).foldl (fun (d : Dev) q => d.pairReset (d.pairOwner q)) d), .done St.ok []) := by
  obtain ⟨hlen, hres, hpairs, hconns⟩ := h
  unfold opSafeReset
  extract_lets p pairs conns badPair conns' badConn
  have hpair : badPair = false := List.any_eq_false.2 fun q hq => by
    obtain ⟨hfault, hopen⟩ := hpairs q hq
    simp [hfault, hopen]
  have hconn : badConn = false := List.any_eq_false.2 fun k hk => by
    obtain ⟨hk, hrx⟩ := List.mem_filter.1 hk
    rcases hconns k hk hrx with hst | hrun
    · simp [hst]
    · simp [Nat.not_lt.2 hrun]
  exact check_passes (by simp [p, hlen, hres, hpair, hconn])

/-- SAFE_CFG_ACTIVATE passes the judgement of R361. -/
theorem opSafeActivate_ok (h : Enabled.safeCfgActivate d c.payload) : opSafeActivate d c =
    let image := d.staging
    let v := word (num c.payload 4 4)
    let d := ({ d with safe := { d.safe with stored := some (image, imageCrc image, v) } } : Dev)
    (((((d.setBit Reg.SAFE_STATUS 5 true).wr Reg.SAFE_CFG_VERSION v).wr Reg.SAFE_CFG_CRC (imageCrc image)).safeRestart image).undegrade 9, .done St.ok (leN v.toNat 4)) := by
  obtain ⟨hlen, hmode, hout, hcheck, hcrc⟩ := h
  have hany : ((List.range 32).any fun n => (d.ost n).running || d.ost n == .weldCheck) = false := List.any_eq_false.2 fun n hn => by
    obtain ⟨hrun, hweld⟩ := hout n (List.mem_range.1 hn)
    simp [hrun, hweld]
  refine check_passes ?_
  simp only [List.mem_cons, List.not_mem_nil, or_false, forall_eq_or_imp, forall_eq, hany]
  simp [hlen, hmode, hcheck, hcrc]

/-- GUARD_SELF_TEST of a channel at rest or off on an idle outlet (R330). -/
theorem opGuardTest_ok (h : Enabled.guardSelfTest d c.payload) : opGuardTest d c =
    let n := num c.payload 0 1
    (((d.setG n fun g => { g with test := some g.t, testDc := [], inj := if d.passive then 0 else 1, imd := if d.gmode n = 2 then some d.pip else none, imdT := g.t, sums := [0, 0, 0, 0], peaks := (0, 0) }).setFld (Reg.GUARD_CH_STATUS n) 2 0 3).setFld (Reg.GUARD_CH_STATUS n) 17 16 1, .done St.ok []) := by
  obtain ⟨⟨hlen, hres, hle⟩, hclk, hst, hidle⟩ := h
  unfold opGuardTest
  extract_lets p n imd e
  have hready : (decide (d.gstate n = 1) || (decide (d.gstate n = 0) && decide (d.gmode n ≠ 0))) = true := by
    rcases hst with hs | ⟨hs, hm⟩ <;> simp [n, p, hs]
    exact hm
  refine check_passes ?_
  simp only [List.mem_cons, List.not_mem_nil, or_false, forall_eq_or_imp, forall_eq, hready]
  simp [p, n, hlen, hres, hle, hclk, hidle]

end

/-- Settles O15: under each opcode's conditions no check of its function holds. -/
theorem safetyOpcodesComplete : Obligations.SafetyOpcodesComplete := by
  refine ⟨atOnce opSafeStatus fun d c h => check_noBytes h, atOnce opSafeReset fun d c h => opSafeReset_ok h, produces opSafeCheck fun d c h => check_noBytes h, produces opSafeActivate fun d c h => opSafeActivate_ok h,
    atOnce opSafeDiscard fun d c h => check_noBytes h, atOnce opSafeHubStop ?hub, atOnce opGuardStatus fun d c h => check_oneOf h, atOnce opGuardTest fun d c h => opGuardTest_ok h, atOnce opGuardClear ?clear⟩
  case hub =>
    intro d c h
    exact check_oneOf h
  case clear =>
    rintro d c ⟨⟨hlen, hres, hle⟩, hclk, hst, hclean⟩
    exact check_passes (by simp [hlen, hres, hle, hclk, hst, hclean])

/-! ### Load-switch opcodes 0x0Exx -/

/-- Settles O16: under each opcode's conditions no check of its function holds. -/
theorem switchOpcodesComplete : Obligations.SwitchOpcodesComplete := by
  refine ⟨atOnce opLswStatus fun d c h => check_oneOf h, atOnce opLswSet ?set, atOnce opLswSetAx ?setAx, atOnce opLswClear fun d c h => check_oneOf h⟩
  case set =>
    rintro d c ⟨hlen, hch, hon, hduty, hfree, hlock⟩
    refine (check_passes ?_).trans ?_
    · simp only [List.mem_cons, List.not_mem_nil, or_false, forall_eq_or_imp, forall_eq]
      simp [hlen, hch, hon, hduty, hfree]
      exact hlock
    · rfl
  case setAx =>
    rintro d c ⟨hlen, hlock⟩
    refine check_passes ?_
    simp only [List.mem_cons, List.not_mem_nil, or_false, forall_eq_or_imp, forall_eq]
    refine ⟨by simp [hlen], List.any_eq_false.2 fun a ha => ?_⟩
    simpa using hlock a ha

/-! ### Memory opcodes 0x0Fxx -/

section
variable {d : Dev} {c : Cmd}

/-- A word of which nothing is stored reads as zero under its own code. -/
theorem tget_of_no_key {α : Type} {z : α} {t : Tab α} {k : Nat} (h : t.find? (fun x => x.1 = k) = none) : tget z t k = z := by
  induction t with
  | nil => rfl
  | cons x t ih =>
    rw [List.find?_eq_none, List.forall_mem_cons, ← List.find?_eq_none] at h
    obtain ⟨hx, ht⟩ := h
    rw [tget, if_neg (by simpa using hx), ih ht]

/-- A read through the code corrects, counts and records by what it finds (R507, R509, R510). -/
theorem windowRead_eq (d : Dev) (m a : Nat) : d.windowRead m a =
    let r := eccRead (d.windowWord m a).1 (d.windowWord m a).2
    if r.2 = 0 then d else if r.2 = 1 then (d.setWindow m a r.1 (Config.secded r.1)).sramCe m a else d.sramUe m a := by
  unfold Dev.windowRead
  split
  · rfl
  · next hnone =>
    have hword : d.windowWord m a = (0, Config.secded 0) := by rw [Dev.windowWord, tget_of_no_key hnone, Option.getD_none]
    simp only [hword, eccRead, if_true]

theorem opRepairAdd_ok (h : Enabled.memRepairAdd d c.payload) : opRepairAdd d c =
    ((d.setMem fun u => { u with repair := u.repair ++ [{ mem := num c.payload 0 1, macro_ := num c.payload 1 1, row := num c.payload 2 2, uses := 1 }] }).wn Reg.MEM_REPAIR_USED (d.mem.repair.length + 1),
     .done St.ok (leN (d.mem.repair.length + 1) 4)) := by
  obtain ⟨hlen, hmem, hmacro, hrow, hroom, hspare, hnew⟩ := h
  have hnone : d.mem.repair.find? (fun r => r.mem = num c.payload 0 1 && r.macro_ = num c.payload 1 1 && r.row = num c.payload 2 2) = none :=
    List.find?_eq_none.2 fun r hr => by simpa [and_assoc] using hnew r hr
  unfold opRepairAdd
  refine (check_passes (by simp [hlen, hmem, hmacro, hrow])).trans ?_
  rw [hnone]
  refine (check_passes (by simp [hroom, hspare])).trans ?_
  simp only [Dev.setMem, List.length_append, List.length_singleton]

/-- MEM_MBIST_RUN over macros that its memory has (R522). -/
theorem opMbistRun_ok {l : List RowDefect} (h : Enabled.memMbistRun d c.payload) (hl : tget [] d.mem.defects (mbistKey c.queue c.tag) = l) : opMbistRun d c =
    let p := c.payload
    let e := d.setMem fun m => { m with defects := tset [] m.defects (mbistKey c.queue c.tag) [] }
    let hit := rowsHit d p l
    (hit.foldl (fun (d : Dev) x => d.rowFail x) ((List.range (512 * num p 2 1)).foldl (fun (d : Dev) i => if memRows (num p 0 1) - 32 ≤ 512 * num p 1 1 + i then d.scrubRow (num p 0 1) (512 * num p 1 1 + i) else d) e),
     .done St.ok (leN hit.length 4)) := by
  obtain ⟨hlen, hres, hmem, hlo, hhi, hmacros⟩ := h
  unfold opMbistRun
  rw [hl]
  exact check_passes (by simp [hlen, hres, hmem, hhi, hmacros]; omega)

end

theorem withDefects_eq (s : State) (h : Hdr) (l : List RowDefect) : (s.onDev fun d => d.mbistGiven h.queue.toNat h.tag.toNat l) = withDefects s h l := by
  simp only [State.onDev, Dev.mbistGiven, withDefects]
  split <;> rfl

theorem defects_withDefects (s : State) (h : Hdr) (l : List RowDefect) : tget [] (withDefects s h l).dev.mem.defects (mbistKey h.queue.toNat h.tag.toNat) = l := by
  rw [withDefects]
  split
  · assumption
  · simp [Dev.setMem]

theorem startDev_mem (s : State) (h : Hdr) (op : Nat) (p : Bytes) : (startDev s h op p).mem = s.dev.mem := by
  rw [startDev, acceptedIn, State.shown, show_eq]
  rfl

/-- Settles O17: under each opcode's conditions no check of its function holds. -/
theorem memoryOpcodesComplete : Obligations.MemoryOpcodesComplete := by
  refine ⟨atOnce opMemStatus fun d c h => check_empty h, atOnce opEccWrite ?write, atOnce opEccRead ?read, produces opRepairAdd fun d c h => opRepairAdd_ok h, atOnce opRepairList ?repairs, ?bist⟩
  case write =>
    rintro d c ⟨hlen, hres, hmem, hin⟩
    exact check_passes (by simp [hlen, hres, hmem, hin])
  case read =>
    rintro d c ⟨hlen, hres, hmem, hin⟩
    refine (check_passes (by simp [hlen, hres, hmem, hin])).trans ?_
    rw [windowRead_eq]
  case repairs =>
    rintro d c ⟨hlen, hres, hlo, hhi⟩
    exact check_passes (by simp [hlen, hres, hhi]; omega)
  case bist =>
    intro l s h p ha hl hg
    have hgiven : tget [] (startDev (withDefects s h l) h 0x0F03 p).mem.defects (mbistKey h.queue.toNat h.tag.toNat) = l := by
      rw [startDev_mem, defects_withDefects]
    obtain ⟨o, ho, hi, hr⟩ : RowIs 0x0F03 false opMbistRun := ⟨_, rfl, rfl, rfl⟩
    have hexec : exec (.memMbistRun l h p) s = .next ((withDefects s h l).submit h 0x0F03 p) := by rw [← withDefects_eq]; rfl
    rw [hexec, submit_produces ha hl ho hi hr (by decide) (needsQuiet_of_plain rfl rfl) (opMbistRun_ok (c := cmdOf (withDefects s h l) h 0x0F03 p) hg hgiven)]
    rfl

end Sys2Proof.Proofs
end

section
/-!
Numbers in packets; writes of one register (O36), the packets that arrive (O37, O38) and the host transports (O39).
-/
namespace Sys2Proof.Proofs
open Sys2Proof.Machine Sys2Proof.Claims Sys2Proof.Laws

/-! ### Numbers in byte strings (R5) -/

@[simp] theorem length_leN (n k : Nat) : (leN n k).length = k := by
  induction k generalizing n with
  | zero => rfl
  | succ k ih => rw [leN, List.length_cons, ih]

@[simp] theorem leNat_leN (n k : Nat) : leNat (leN n k) = n % 256 ^ k := by
  induction k generalizing n with
  | zero => simp [leN, leNat, Nat.mod_one]
  | succ k ih =>
    have hb : (byte n).toNat = n % 256 := BitVec.toNat_ofNat n 8
    rw [leN, leNat, ih, hb, Nat.pow_succ', Nat.mod_mul]

/-- A field of the front part of a byte string. -/
theorem num_append_left {a b : Bytes} {off len : Nat} (h : off + len ≤ a.length) : num (a ++ b) off len = num a off len := by
  rw [num, num, List.drop_append_of_le_length (by omega), List.take_append_of_le_length (by rw [List.length_drop]; omega)]

/-- A field of the rear part of a byte string. -/
theorem num_append_right {a b : Bytes} {off len : Nat} (h : a.length ≤ off) : num (a ++ b) off len = num b (off - a.length) len := by
  rw [num, num, List.drop_append, List.drop_eq_nil_of_le h, List.nil_append]

/-- A whole byte string is the number written in it. -/
theorem num_leN (n k : Nat) : num (leN n k) 0 k = n % 256 ^ k := by
  rw [num, List.drop_zero, List.take_of_length_le (by simp), leNat_leN]

theorem word_toNat (v : Word) : word v.toNat = v := BitVec.ofNat_toNat 32 v |>.trans (BitVec.setWidth_eq v)

/-! ### The commands that write one register (R602) -/

section
variable {a : Nat} {v : Word}

theorem oneWord_fields (ha : a < 2 ^ 32) : num (oneWord a v) 0 4 = a ∧ num (oneWord a v) 4 2 = 1 ∧ num (oneWord a v) 6 2 = 0 ∧ num (oneWord a v) 8 4 = v.toNat := by
  have ha : a < 256 ^ 4 := ha
  have hv : v.toNat < 256 ^ 4 := v.isLt
  refine ⟨?_, ?_, ?_, ?_⟩ <;> unfold oneWord
  · rw [num_append_left (by simp), num_append_left (by simp), num_append_left (by simp), num_leN, Nat.mod_eq_of_lt ha]
  · rw [num_append_left (by simp), num_append_left (by simp), num_append_right (by simp), length_leN]
    exact num_leN 1 2
  · rw [num_append_left (by simp), num_append_right (by simp), List.length_append, length_leN, length_leN]
    exact num_leN 0 2
  · rw [num_append_right (by simp), List.length_append, List.length_append, length_leN, length_leN, length_leN, num_leN, Nat.mod_eq_of_lt hv]

theorem oneWord_length : (oneWord a v).length = 12 := by simp [oneWord]

theorem writeWords_oneWord (ha : a < 2 ^ 32) : writeWords (oneWord a v) = [(a, v)] := by
  obtain ⟨h0, h4, -, h8⟩ := oneWord_fields (v := v) ha
  rw [writeWords, h4, h0]
  simp [h8, word_toNat]

theorem regWrite_oneWord_enabled {d : Dev} (ha : a < 2 ^ 32) (h : d.wordStatus (d.after [(a, v)]) a v 0xFFFFFFFF = 0) : Enabled.regWrite d (oneWord a v) := by
  obtain ⟨-, h4, h6, -⟩ := oneWord_fields (v := v) ha
  rw [Enabled.regWrite, h4, h6, oneWord_length, writeWords_oneWord ha]
  exact ⟨rfl, rfl, Nat.le_refl _, by decide, by simpa using h⟩

/-- A command that writes one register does what the write of that word does. -/
theorem writes_of {mk : Hdr → Instr} {eff : Dev → Dev} (ha : a < 2 ^ 32) (hm : ∀ h s, exec (mk h) s = .next (s.submitWrite h a v)) (hw : ∀ d : Dev, d.writeWord a v = eff d) : Writes mk a v eff := by
  intro s h hadm hl hst
  have hwrite : exec (.regWrite h (oneWord a v)) s = _ := registerOpcodesComplete.2.1 s h (oneWord a v) hadm hl (regWrite_oneWord_enabled ha hst)
  have hsame : exec (mk h) s = exec (.regWrite h (oneWord a v)) s := hm h s
  have hpay : (cmdOf s h 0x0101 (oneWord a v)).payload = oneWord a v := rfl
  simp only [hpay, writeWords_oneWord ha, List.foldl_cons, List.foldl_nil, hw] at hwrite
  rw [hsame, hwrite]

/-- Access and class of the register at an address. -/
def rowKind (a : Nat) : Option (Access × RegClass) := (regAt a).map fun r => (r.access, r.cls)

theorem exists_row {k : Access × RegClass} (h : rowKind a = some k) : ∃ r, regAt a = some r ∧ r.access = k.1 ∧ r.cls = k.2 := by
  obtain ⟨r, hr, rfl⟩ := Option.map_eq_some_iff.1 h
  exact ⟨r, hr, rfl, rfl⟩

theorem writeWord_live (d : Dev) (h : rowKind a = some (.rw, .live)) : d.writeWord a v = d.pendSet a v := by
  obtain ⟨r, hr, hacc, hcls⟩ := exists_row h
  simp only [Dev.writeWord, hr, hacc, hcls]

theorem writeWord_idle (d : Dev) (h : rowKind a = some (.rw, .idle)) : d.writeWord a v = d.idleWrite a v := by
  obtain ⟨r, hr, hacc, hcls⟩ := exists_row h
  simp only [Dev.writeWord, hr, hacc, hcls]

end

theorem rowKind_guardCtrl : ∀ n : Fin 32, rowKind (Reg.GUARD_CH_CTRL n.val) = some (.rw, .live) := by decide
theorem rowKind_guardCfg : ∀ n : Fin 32, rowKind (Reg.GUARD_CH_CFG n.val) = some (.rw, .idle) := by decide
theorem rowKind_outCfg : ∀ n : Fin 32, rowKind (Reg.OUT_CFG n.val) = some (.rw, .idle) := by decide
theorem rowKind_lswCfg : ∀ ch : Fin 80, rowKind (Reg.LSW_CH_CFG ch.val) = some (.rw, .idle) := by decide
theorem rowKind_lswCmd : ∀ ch : Fin 80, rowKind (Reg.LSW_CH_CMD ch.val) = some (.rw, .live) := by decide

/-- What an Idle write of a channel's configuration does, by the block and offset of its address (R316, R380, R116). -/
theorem idleWrite_lswCfg (d : Dev) (ch : Fin 80) (v : Word) : d.idleWrite (Reg.LSW_CH_CFG ch.val) v = (d.wr (Reg.LSW_CH_CFG ch.val) v).retryReload ch.val := by
  have hch := ch.isLt
  have haddr : Reg.LSW_CH_CFG ch.val = 0x80000 + 0x40 * ch.val := rfl
  have hblock : Reg.LSW_CH_CFG ch.val / 0x10000 = 8 := by omega
  have hoff : Reg.LSW_CH_CFG ch.val % 0x10000 = 0x40 * ch.val := by omega
  unfold Dev.idleWrite
  extract_lets b o
  have hb : b = 8 := hblock
  have ho : o = 0x40 * ch.val := hoff
  rw [if_neg (by rw [haddr, Reg.TWIN_CFG]; omega), if_neg (by rw [haddr, Reg.LSW_CFG]; omega), if_neg (by rw [haddr, Reg.SYS_CLK_SEL]; omega), if_neg (by rw [haddr, Reg.TIME_PIP_OFFSET]; omega),
    if_neg (by rw [haddr, Reg.TAG_EMU_CFG]; omega), if_pos (by simp [hb, ho]; omega), show o / 0x40 = ch.val by omega]

theorem idleWrite_guardCfg (d : Dev) (n : Fin 32) (v : Word) : d.idleWrite (Reg.GUARD_CH_CFG n.val) v =
    if wfld v 17 16 = d.gmode n.val then d.wr (Reg.GUARD_CH_CFG n.val) v else (d.wr (Reg.GUARD_CH_CFG n.val) v).guardMode n.val := by
  have hn := n.isLt
  have haddr : Reg.GUARD_CH_CFG n.val = 0xA0000 + 0x40 * n.val := rfl
  unfold Dev.idleWrite
  extract_lets b o
  have hb : b = 10 := show Reg.GUARD_CH_CFG n.val / 0x10000 = 10 by omega
  have ho : o = 0x40 * n.val := show Reg.GUARD_CH_CFG n.val % 0x10000 = _ by omega
  rw [if_neg (by rw [haddr, Reg.TWIN_CFG]; omega), if_neg (by rw [haddr, Reg.LSW_CFG]; omega), if_neg (by rw [haddr, Reg.SYS_CLK_SEL]; omega), if_neg (by rw [haddr, Reg.TIME_PIP_OFFSET]; omega),
    if_neg (by rw [haddr, Reg.TAG_EMU_CFG]; omega), if_neg (by simp [hb]), if_pos (by simp [hb, ho]; omega), show o / 0x40 = n.val by omega]

theorem idleWrite_outCfg (d : Dev) (n : Fin 32) (v : Word) : d.idleWrite (Reg.OUT_CFG n.val) v =
    let e := d.wr (Reg.OUT_CFG n.val) v
    if e.outType n.val = d.outType n.val then e.coilShow n.val else (e.guardTask n.val).coilShow n.val := by
  have hn := n.isLt
  have haddr : Reg.OUT_CFG n.val = 0x100000 + 0x400 * n.val := rfl
  unfold Dev.idleWrite
  extract_lets b o m e
  have hb : b = 16 := show Reg.OUT_CFG n.val / 0x10000 = 16 by omega
  have ho : o = 0x400 * n.val := show Reg.OUT_CFG n.val % 0x10000 = _ by omega
  have hm : m = n.val := show o / 0x400 = _ by omega
  rw [if_neg (by rw [haddr, Reg.TWIN_CFG]; omega), if_neg (by rw [haddr, Reg.LSW_CFG]; omega), if_neg (by rw [haddr, Reg.SYS_CLK_SEL]; omega), if_neg (by rw [haddr, Reg.TIME_PIP_OFFSET]; omega),
    if_neg (by rw [haddr, Reg.TAG_EMU_CFG]; omega), if_neg (by simp [hb]), if_neg (by simp [hb]), if_pos (by simp [hb, ho]; omega), hm]

/-- Settles O36: each command is a REG_WRITE of one word; a Live word is kept pending, an Idle word takes the branch of its block. -/
theorem registerWritesComplete : Obligations.RegisterWritesComplete := by
  refine ⟨fun n v => ?guardCtrl, fun ch v => ?lswCmd, ?meshOn, ?meshOff, fun v => ?offset, fun v => ?twinOn, fun v => ?twinOff, fun v => ?dispOn, fun v => ?dispOff, fun v => ?clk, fun ch v => ?lswCfg, fun n v => ?guardCfg, fun n v => ?outCfg⟩
  case guardCtrl => exact writes_of (by rw [Reg.GUARD_CH_CTRL]; omega) (fun _ _ => rfl) fun d => writeWord_live d (rowKind_guardCtrl n)
  case lswCmd => exact writes_of (by rw [Reg.LSW_CH_CMD]; omega) (fun _ _ => rfl) fun d => writeWord_live d (rowKind_lswCmd ch)
  case meshOn => exact writes_of (by decide) (fun _ _ => rfl) fun d => writeWord_live d (by decide)
  case meshOff => exact writes_of (by decide) (fun _ _ => rfl) fun d => writeWord_live d (by decide)
  case offset => exact writes_of (by decide) (fun _ _ => rfl) fun d => writeWord_idle d (by decide)
  case twinOn => exact writes_of (by decide) (fun _ _ => rfl) fun d => writeWord_idle d (by decide)
  case twinOff => exact writes_of (by decide) (fun _ _ => rfl) fun d => writeWord_idle d (by decide)
  case dispOn => exact writes_of (by decide) (fun _ _ => rfl) fun d => writeWord_live d (by decide)
  case dispOff => exact writes_of (by decide) (fun _ _ => rfl) fun d => writeWord_live d (by decide)
  case clk => exact writes_of (by decide) (fun _ _ => rfl) fun d => writeWord_idle d (by decide)
  case lswCfg => exact writes_of (by rw [Reg.LSW_CH_CFG]; omega) (fun _ _ => rfl) fun d => (writeWord_idle d (rowKind_lswCfg ch)).trans (idleWrite_lswCfg d ch v)
  case guardCfg => exact writes_of (by rw [Reg.GUARD_CH_CFG]; omega) (fun _ _ => rfl) fun d => (writeWord_idle d (rowKind_guardCfg n)).trans (idleWrite_guardCfg d n v)
  case outCfg => exact writes_of (by rw [Reg.OUT_CFG]; omega) (fun _ _ => rfl) fun d => (writeWord_idle d (rowKind_outCfg n)).trans (idleWrite_outCfg d n v)

/-! ### Packets (R42, R46) -/

/-- The packet that a byte string spells, sent from `ip` and `port` to the address `own`. -/
def readPacket (b : Bytes) (ip port own : Nat) : Packet :=
  { queue := num b 2 1, cls := num b 3 1, tag := num b 4 2, opcode := num b 6 2, launch := num b 10 4, epoch := num b 14 2, payload := (b.drop 16).take (num b 8 2), ip := ip, port := port, own := own }

section
variable {s : State} {b : Bytes} {ip port own : Nat}

theorem packet_noSync (h : b.head? ≠ some 0xB6 ∨ b.length < 16) : s.packet b ip port own = s.onDev fun d => d.inc Reg.FAB_RX_SYNC_ERR := by
  unfold State.packet
  exact if_pos (by simpa using h)

theorem packet_badLength (hsync : b.head? = some 0xB6) (h16 : 16 ≤ b.length) (h : b.length < 20 ∨ 1024 < num b 8 2 ∨ b.length ≠ 20 + num b 8 2) :
    s.packet b ip port own = s.reject (readPacket b ip port own) St.badLength [] := by
  unfold State.packet
  extract_lets p
  rw [if_neg (by simpa [hsync] using h16), if_pos (by simpa [or_assoc] using h)]
  rfl

theorem packet_whole (hsync : b.head? = some 0xB6) (hmax : num b 8 2 ≤ 1024) (hlen : b.length = 20 + num b 8 2) : s.packet b ip port own =
    if num b (b.length - 4) 4 ≠ (crc32c (b.take (b.length - 4))).toNat then s.reject (readPacket b ip port own) St.crcError []
    else if num b 1 1 ≠ 1 then s.reject (readPacket b ip port own) St.badParam (reason 1)
    else s.arrive (readPacket b ip port own) := by
  unfold State.packet
  extract_lets p
  rw [if_neg (by simp [hsync]; omega), if_neg (by simp; omega)]
  rfl

end

/-! ### A packet written by R42 is read as its fields -/

/-- The header of a packet, 16 bytes. -/
def headerBytes (h : Hdr) (op len : Nat) : Bytes :=
  [0xB6, 0x01, byte h.queue.toNat, byte h.cls.toNat] ++ leN h.tag.toNat 2 ++ leN op 2 ++ leN len 2 ++ leN h.launch.toNat 4 ++ leN h.epoch.toNat 2

theorem packetBytes_eq (h : Hdr) (op : Nat) (p : Bytes) :
    packetBytes h op p = headerBytes h op p.length ++ p ++ leN (crc32c (headerBytes h op p.length ++ p)).toNat 4 := rfl

section
variable {h : Hdr} {op : Nat} {p : Bytes}

theorem headerBytes_length (len : Nat) : (headerBytes h op len).length = 16 := by simp [headerBytes]

/-- A field of the header, in the packet. -/
theorem num_packet_header {off len : Nat} (hl : off + len ≤ 16) : num (packetBytes h op p) off len = num (headerBytes h op p.length) off len := by
  rw [packetBytes_eq, List.append_assoc, num_append_left (by rw [headerBytes_length]; exact hl)]

theorem header_fields (hop : op < 65536) {len : Nat} (hlen : len < 65536) :
    let b := headerBytes h op len
    num b 1 1 = 1 ∧ num b 2 1 = h.queue.toNat ∧ num b 3 1 = h.cls.toNat ∧ num b 4 2 = h.tag.toNat ∧ num b 6 2 = op ∧ num b 8 2 = len ∧ num b 10 4 = h.launch.toNat ∧ num b 14 2 = h.epoch.toNat := by
  have hq := h.queue.isLt
  have hc := h.cls.isLt
  have ht := h.tag.isLt
  have hl := h.launch.isLt
  have he := h.epoch.isLt
  simp only [headerBytes, num, leN, leNat, byte, List.cons_append, List.nil_append, List.drop_succ_cons, List.drop_zero, List.take_succ_cons, List.take_zero, BitVec.toNat_ofNat]
  refine ⟨rfl, ?_, ?_, ?_, ?_, ?_, ?_, ?_⟩ <;> omega

theorem packet_arrives {s : State} {ip port own : Nat} (hop : op < 65536) (hp : p.length ≤ 1024) :
    s.packet (packetBytes h op p) ip port own =
      s.arrive { queue := h.queue.toNat, cls := h.cls.toNat, tag := h.tag.toNat, opcode := op, launch := h.launch.toNat, epoch := h.epoch.toNat, payload := p, ip := ip, port := port, own := own } := by
  obtain ⟨hver, hqueue, hcls, htag, hopc, hlen, hlaunch, hepoch⟩ := header_fields (h := h) hop (len := p.length) (by omega)
  rw [← num_packet_header (p := p) (by omega)] at hver hqueue hcls htag hopc hlen hlaunch hepoch
  have hbytes := packetBytes_eq h op p
  have hbody : (headerBytes h op p.length ++ p).length = 16 + p.length := by rw [List.length_append, headerBytes_length]
  have htotal : (packetBytes h op p).length = 20 + p.length := by rw [hbytes, List.length_append, hbody, length_leN]; omega
  have hpay : ((packetBytes h op p).drop 16).take p.length = p := by
    rw [hbytes, List.append_assoc, List.drop_left' (headerBytes_length _), List.take_left' rfl]
  have hcrc : num (packetBytes h op p) ((packetBytes h op p).length - 4) 4 = (crc32c ((packetBytes h op p).take ((packetBytes h op p).length - 4))).toNat := by
    rw [htotal, hbytes, num_append_right (by omega), List.take_left' (by omega), show 20 + p.length - 4 - (headerBytes h op p.length ++ p).length = 0 by omega, num_leN]
    exact Nat.mod_eq_of_lt (crc32c _).isLt
  rw [packet_whole rfl (hlen ▸ hp) (by rw [htotal, hlen]), if_neg (Classical.not_not.2 hcrc), if_neg (Classical.not_not.2 hver), readPacket, hqueue, hcls, htag, hopc, hlen, hlaunch, hepoch, hpay]

end

/-! ### Arrival over either transport -/

section
variable {s : State}

theorem arrival_spi {b : Bytes} {rest : List Bytes} (hruns : s.fabRuns = true) (hspi : s.udp = false) (hbuf : s.fab.rxBufs = b :: rest) :
    s.arrival .spi = (({ s with fab := { s.fab with rxBufs := rest } } : State).packet b 0 0 0).settle := by
  simp only [State.arrival, hruns, hspi, hbuf, Bool.not_true, Bool.false_eq_true, if_false]

theorem arrival_other {ip : BitVec 32} {port : BitVec 16} {toIp : BitVec 32} {toPort : BitVec 16} {fragmented : Bool} {b : Bytes}
    (h : s.dev.ethRuns = false ∨ toPort.toNat ≠ s.dev.rn Reg.FAB_UDP_PORT ∨ s.dev.hears toIp.toNat = false) : s.arrival (.udp ip port toIp toPort fragmented b) = s := by
  have hnot : (!s.udp || !s.dev.ethRuns || decide (toPort.toNat ≠ s.dev.rn Reg.FAB_UDP_PORT) || !s.dev.hears toIp.toNat) = true := by
    rcases h with h | h | h <;> simp [h]
  simp only [State.arrival, hnot, if_true, ite_self]

section
variable {ip : BitVec 32} {port : BitVec 16} {toIp : BitVec 32} {toPort : BitVec 16} {fragmented : Bool} {b : Bytes}
variable (hruns : s.fabRuns = true) (hudp : s.udp = true) (heth : s.dev.ethRuns = true) (hport : toPort.toNat = s.dev.rn Reg.FAB_UDP_PORT) (hears : s.dev.hears toIp.toNat = true)
include hruns hudp heth hport hears

theorem arrival_counted (h : fragmented = true ∨ (s.dev.rn Reg.FAB_UDP_PEER ≠ 0 ∧ ip.toNat ≠ s.dev.rn Reg.FAB_UDP_PEER)) :
    s.arrival (.udp ip port toIp toPort fragmented b) = s.devStep fun d => d.inc Reg.FAB_RX_SYNC_ERR := by
  have hcount : (fragmented || (decide (s.dev.rn Reg.FAB_UDP_PEER ≠ 0) && decide (ip.toNat ≠ s.dev.rn Reg.FAB_UDP_PEER))) = true := by simpa using h
  simp only [State.arrival, hruns, hudp, heth, hport, hears, hcount, Bool.not_true, Bool.or_self, ne_eq, not_true_eq_false, decide_false, Bool.false_eq_true, if_false, if_true]

theorem arrival_udp (hpeer : s.dev.rn Reg.FAB_UDP_PEER = 0 ∨ ip.toNat = s.dev.rn Reg.FAB_UDP_PEER) :
    s.arrival (.udp ip port toIp toPort false b) = (s.packet b ip.toNat port.toNat toIp.toNat).settle := by
  have hcount : (false || (decide (s.dev.rn Reg.FAB_UDP_PEER ≠ 0) && decide (ip.toNat ≠ s.dev.rn Reg.FAB_UDP_PEER))) = false := by
    rcases hpeer with h | h <;> simp [h]
  simp only [State.arrival, hruns, hudp, heth, hport, hears, hcount, Bool.not_true, Bool.or_self, ne_eq, not_true_eq_false, decide_false, Bool.false_eq_true, if_false]

end

/-- A packet that the fabric hears goes on to the steps of R46. -/
theorem submit_heard {h : Hdr} {op : Nat} {p : Bytes} (hruns : s.fabRuns = true) (heth : (s.udp && !s.dev.ethRuns) = false)
    (hpeer : (s.udp && s.dev.rn Reg.FAB_UDP_PEER ≠ 0 && h.ip.toNat ≠ s.dev.rn Reg.FAB_UDP_PEER) = false) (hp : p.length ≤ 1024) : s.submit h op p = (s.arrive (packetOf s h op p)).settle := by
  unfold State.submit
  extract_lets q
  rw [if_neg (by rw [hruns, heth]; decide), if_neg (by rw [hpeer]; decide), if_neg (Nat.not_lt.2 hp)]
  rfl

theorem submit_spi {h : Hdr} {op : Nat} {p : Bytes} (hruns : s.fabRuns = true) (hspi : s.udp = false) (hp : p.length ≤ 1024) : s.submit h op p =
    (s.arrive { queue := h.queue.toNat, cls := h.cls.toNat, tag := h.tag.toNat, opcode := op, launch := h.launch.toNat, epoch := h.epoch.toNat, payload := p, ip := 0, port := 0, own := 0 }).settle := by
  rw [submit_heard hruns (by rw [hspi]; rfl) (by rw [hspi]; rfl) hp, packetOf]
  simp only [hspi, Bool.false_eq_true, if_false]

/-- One that comes from a source that it does not hear is counted (R81). -/
theorem submit_unheard {h : Hdr} {op : Nat} {p : Bytes} (hruns : s.fabRuns = true) (heth : (s.udp && !s.dev.ethRuns) = false)
    (hpeer : (s.udp && s.dev.rn Reg.FAB_UDP_PEER ≠ 0 && h.ip.toNat ≠ s.dev.rn Reg.FAB_UDP_PEER) = true) : s.submit h op p = s.devStep fun d => d.inc Reg.FAB_RX_SYNC_ERR := by
  unfold State.submit
  extract_lets q
  rw [if_neg (by rw [hruns, heth]; decide), if_pos hpeer]

end

/-- Settles O37: the bytes of a packet are read as its fields, and each transport passes them on. -/
theorem packetArrivesAsItsCommand : Obligations.PacketArrivesAsItsCommand := by
  intro s h op p hop hp hruns
  refine ⟨fun toIp toPort hudp heth hport hears hown => ?own, fun toIp toPort hudp heth hport hears hpeer => ?heard, fun toIp toPort b hudp heth hport hears => ?fragmented,
    fun toIp toPort _ hno => congrArg Host.Outcome.next (arrival_other hno), fun rest hspi hbuf => ?spi⟩
  case own =>
    have hexec : exec (.commandPacketArrival (.udp h.ip h.port toIp toPort false (packetBytes h op p))) s = .next (s.arrival (.udp h.ip h.port toIp toPort false (packetBytes h op p))) := rfl
    have heth' : (s.udp && !s.dev.ethRuns) = false := by simp [heth]
    rw [hexec]
    by_cases hpeer : s.dev.rn Reg.FAB_UDP_PEER = 0 ∨ h.ip.toNat = s.dev.rn Reg.FAB_UDP_PEER
    · rw [arrival_udp hruns hudp heth hport hears hpeer, packet_arrives hop hp, submit_heard hruns heth' (by rcases hpeer with hz | hz <;> simp [hz]) hp, packetOf]
      simp only [hudp, if_true, hown]
    · obtain ⟨hsome, hother⟩ := not_or.1 hpeer
      rw [arrival_counted hruns hudp heth hport hears (.inr ⟨hsome, hother⟩), submit_unheard hruns heth' (by simp [hudp, hsome, hother])]
  case heard =>
    have hexec : exec (.commandPacketArrival (.udp h.ip h.port toIp toPort false (packetBytes h op p))) s = .next (s.arrival (.udp h.ip h.port toIp toPort false (packetBytes h op p))) := rfl
    rw [hexec, arrival_udp hruns hudp heth hport hears hpeer, packet_arrives hop hp, packetOf]
    simp only [hudp, if_true]
  case fragmented => exact congrArg Host.Outcome.next (arrival_counted hruns hudp heth hport hears (.inl rfl))
  case spi =>
    have harrive := (arrival_spi hruns hspi hbuf).trans (congrArg State.settle (packet_arrives hop hp))
    have hruns' : (s.onFab fun f => { f with rxBufs := rest }).fabRuns = true := by unfold State.fabRuns at hruns ⊢; exact hruns
    have hspi' : (s.onFab fun f => { f with rxBufs := rest }).udp = false := by unfold State.udp at hspi ⊢; exact hspi
    have hsubmit := submit_spi (h := h) (op := op) hruns' hspi' hp
    exact congrArg Host.Outcome.next (harrive.trans hsubmit.symm)

/-- Settles O38: the bytes go to the steps of R46 over either transport, and each step answers as it finds them. -/
theorem badPacketsRefused : Obligations.BadPacketsRefused := by
  refine ⟨fun s t i b ip port own hruns hin => ?_, fun s from_ fromPort toIp toPort fragmented b hruns hudp heth hport hears hsome hother =>
    congrArg Host.Outcome.next (arrival_counted hruns hudp heth hport hears (.inr ⟨hsome, hother⟩))⟩
  have harrive : exec (.commandPacketArrival i) s = .next (t.packet b ip port own).settle := by
    rcases hin with ⟨rfl, hspi, hbuf, ht, rfl, rfl, rfl⟩ | ⟨from_, fromPort, toIp, toPort, rfl, rfl, hudp, heth, hport, hears, hpeer, rfl, rfl, rfl⟩
    · rw [ht]
      exact congrArg Host.Outcome.next (arrival_spi hruns hspi hbuf)
    · exact congrArg Host.Outcome.next (arrival_udp hruns hudp heth hport hears hpeer)
  intro p crcBad
  rw [harrive]
  refine ⟨fun h => by rw [packet_noSync h]; rfl, fun hsync h16 hlen => by rw [packet_badLength hsync h16 hlen]; rfl, fun hsync hmax hlen hcrc => ?_, fun hsync hmax hlen hcrc hver => ?_⟩
  · rw [packet_whole hsync hmax hlen, if_pos hcrc]; rfl
  · rw [packet_whole hsync hmax hlen, if_neg hcrc, if_pos hver]; rfl

end Sys2Proof.Proofs
end

section
/-!
What the host transports read and write (O39).
-/
namespace Sys2Proof.Proofs
open Sys2Proof.Machine Sys2Proof.Claims Sys2Proof.Laws

/-! ### The reply that is read next (R79) -/

/-- The delivered reply of a command, its address, and a fabric that the command determines. -/
def replyRead (after : Flight → Fab) (p : Option Flight) : Option (Reply × (Nat × Nat × Nat) × Fab) :=
  match p with
  | some x => match x.phase with
    | .delivered _ r => some (r, (x.cmd.ip, x.cmd.port, x.cmd.own), after x)
    | _ => none
  | none => none

theorem replyRead_reply (after after' : Flight → Fab) (p : Option Flight) : (replyRead after p).map (·.1) = (replyRead after' p).map (·.1) := by
  unfold replyRead
  rcases p with _ | x
  · rfl
  · rcases x with ⟨c, ph⟩
    cases ph <;> rfl

/-- What the host has clocked out does not change which reply is read next. -/
theorem next_spiOut (f : Fab) (o : Bytes) : (Fab.next { f with spiOut := o }).map (·.1) = f.next.map (·.1) := by
  rcases f with ⟨flights, late, answers, history, rxBufs, nextId, stale, faults, spiOut, udpOut⟩
  rcases answers with _ | ⟨a, rest⟩
  · exact replyRead_reply _ _ _
  · rfl

theorem padTo_of_le {b : Bytes} {n : Nat} (h : b.length ≤ n) : padTo n b = b ++ List.replicate (n - b.length) 0 := by
  rw [padTo, List.take_append, List.take_of_length_le h, List.take_replicate, Nat.min_eq_left (Nat.sub_le n b.length)]

theorem padTo_of_ge {b : Bytes} {n : Nat} (h : n ≤ b.length) : padTo n b = b.take n := by
  rw [padTo, List.take_append_of_le_length h]

/-! ### HOST_SPI (R77 to R79) -/

section
variable {s : State} (hruns : s.fabRuns = true) (hspi : s.udp = false)
include hruns hspi

theorem irq_eq : s.irq = !decide (s.fab.answers = [] ∧ (s.fab.flights.filter Flight.ready).length + s.fab.stale.length = 0) := by
  have hready : s.fab.flights.any Flight.ready = decide ((s.fab.flights.filter Flight.ready).length ≠ 0) := by
    rw [Bool.eq_iff_iff, List.any_eq_true, decide_eq_true_eq, ne_eq, List.length_eq_zero_iff, List.filter_eq_nil_iff]
    simp
  rw [State.irq, hruns, hspi, hready]
  by_cases ha : s.fab.answers = [] <;> by_cases hr : (s.fab.flights.filter Flight.ready).length = 0 <;> by_cases hs : s.fab.stale = [] <;> simp [ha, hr, hs]

theorem readStatus_eq : s.readStatus = { s with fab := { s.fab with spiOut := leN (statusWord s) 4 } } := by
  unfold State.readStatus
  extract_lets v
  have hfree : 65536 * b2n (decide (s.fab.rxBufs.length < 4)) = if s.fab.rxBufs.length < 4 then 65536 else 0 := by
    by_cases h : s.fab.rxBufs.length < 4 <;> simp [b2n, h]
  have hirq : ∀ p : Prop, [Decidable p] → 131072 * b2n (!decide p) = if p then 0 else 131072 := fun p _ => by
    by_cases h : p <;> simp [b2n, h]
  have hv : v = statusWord s := by rw [statusWord, ← hfree, ← hirq, ← irq_eq hruns hspi]
  rw [hspi, hruns, hv]
  rfl

theorem readReply_none {n : Nat} (h : s.fab.next = none) : s.readReply n = { s with fab := { s.fab with spiOut := List.replicate n 0 } } := by
  unfold State.readReply
  rw [hspi, hruns, if_neg (by decide), if_neg (by decide), h]
  rfl

theorem readReply_some {n : Nat} {r : Reply} {a : Nat × Nat × Nat} {f : Fab} (h : s.fab.next = some (r, a, f)) :
    s.readReply n = ({ s with fab := { (if r.bytes.length ≤ n then f else s.fab) with spiOut := padTo n r.bytes } } : State).settle := by
  unfold State.readReply
  rw [hspi, hruns, if_neg (by decide), if_neg (by decide), h]

end

/-! ### UDP (R82, R420) -/

theorem udpSend_some {s : State} {r : Reply} {ip port own : Nat} {f : Fab} (hruns : s.fabRuns = true) (hudp : s.udp = true) (heth : s.dev.ethRuns = true) (h : s.fab.next = some (r, (ip, port, own), f)) :
    s.udpSend = if s.dev.mayReply own then
        ({ s with dev := if r.opcode = 0x0B01 ∧ r.status ≠ St.accepted then s.dev.setTwin fun t => { t with lastReply := false } else s.dev,
                  fab := { f with udpOut := some { own := own, source := s.dev.rn Reg.FAB_UDP_PORT, ip := ip, port := port, bytes := r.bytes } } } : State).settle
      else ({ s with fab := f } : State).settle := by
  unfold State.udpSend
  rw [hruns, hudp, heth, if_neg (by decide), h]
  simp only [Bool.and_eq_true, decide_eq_true_eq]

/-- Settles O39: each instruction is one branch of its function. -/
theorem transportsComplete : Obligations.TransportsComplete := by
  refine ⟨fun s hruns hspi => ⟨fun b hroom => ?free, fun b hfull => ?full, congrArg Host.Outcome.next (readStatus_eq hruns hspi), fun n hnone => congrArg Host.Outcome.next (readReply_none hruns hspi hnone),
      fun n r a f hnext => ⟨fun hwhole => ?whole, fun hcut => ?cut⟩, ?unknown⟩,
    fun s hudp => ⟨fun b => ?writeUdp, ?arriveSpi, ?unknownUdp, ?statusUdp, fun n => ?replyUdp⟩,
    fun s hspi => ⟨fun ip port toIp toPort fragmented b => ?datagram, ?sendSpi⟩,
    fun s r ip port own f hruns hudp heth hnext => ⟨fun hmay => ?sent, fun hmay => ?dropped⟩⟩
  case free =>
    have hwrite : s.writePacket b = s.onFab fun f => { f with rxBufs := f.rxBufs ++ [b.take 1045] } := by
      unfold State.writePacket
      rw [hspi, hruns, if_neg (by decide), if_neg (Nat.not_le.2 hroom)]
    exact congrArg Host.Outcome.next hwrite
  case full =>
    have hwrite : s.writePacket b = s.devStep fun d => (d.inc Reg.FAB_RX_OVERRUN).raise Reg.FAB_EVENT FabEv.rxOverrun := by
      unfold State.writePacket
      rw [hspi, hruns, if_neg (by decide), if_pos hfull]
    exact congrArg Host.Outcome.next hwrite
  case whole =>
    have hread := readReply_some hruns hspi hnext (n := n)
    rw [if_pos hwhole, padTo_of_le hwhole] at hread
    exact congrArg Host.Outcome.next hread
  case cut =>
    have hread := readReply_some hruns hspi hnext (n := n)
    rw [if_neg (Nat.not_le.2 hcut), padTo_of_ge (Nat.le_of_lt hcut)] at hread
    exact ⟨congrArg Host.Outcome.next hread, by rw [next_spiOut, hnext]; rfl⟩
  case unknown =>
    have hcount : s.spiUnknown = s.devStep fun d => d.inc Reg.FAB_RX_SYNC_ERR := by
      unfold State.spiUnknown
      rw [hspi, hruns, if_neg (by decide)]
    exact congrArg Host.Outcome.next hcount
  case writeUdp =>
    have hwrite : s.writePacket b = s := by
      unfold State.writePacket
      rw [hudp, Bool.true_or, if_pos rfl]
    exact congrArg Host.Outcome.next hwrite
  case arriveSpi =>
    have harrive : s.arrival .spi = s := by
      simp only [State.arrival, hudp, if_true, ite_self]
    exact congrArg Host.Outcome.next harrive
  case unknownUdp =>
    have hcount : s.spiUnknown = s := by
      unfold State.spiUnknown
      rw [hudp, Bool.true_or, if_pos rfl]
    exact congrArg Host.Outcome.next hcount
  case statusUdp =>
    have hread : s.readStatus = s.onFab fun f => { f with spiOut := [] } := by
      unfold State.readStatus
      rw [hudp]
      rfl
    exact congrArg Host.Outcome.next hread
  case replyUdp =>
    have hread : s.readReply n = s.onFab fun f => { f with spiOut := [] } := by
      unfold State.readReply
      rw [hudp, if_pos rfl]
    exact congrArg Host.Outcome.next hread
  case datagram =>
    have harrive : s.arrival (.udp ip port toIp toPort fragmented b) = s := by
      simp only [State.arrival, hspi, Bool.not_false, Bool.true_or, if_true, ite_self]
    exact congrArg Host.Outcome.next harrive
  case sendSpi =>
    have hsend : s.udpSend = s := by
      unfold State.udpSend
      rw [hspi, Bool.not_false, Bool.true_or, Bool.true_or, if_pos rfl]
    exact congrArg Host.Outcome.next hsend
  case sent => exact congrArg Host.Outcome.next ((udpSend_some hruns hudp heth hnext).trans (if_pos hmay))
  case dropped => exact congrArg Host.Outcome.next ((udpSend_some hruns hudp heth hnext).trans (if_neg (by rw [hmay]; decide)))

end Sys2Proof.Proofs
end

section
/-!
Deadlines and quiet pips (O42).
-/
namespace Sys2Proof.Proofs
open Sys2Proof.Machine Sys2Proof.Claims Sys2Proof.Laws

/-- Withdrawing touches the FRAM's queue, the display's updates and the Kernel's queue alone. -/
theorem withdraw_pip (d : Dev) (id : Nat) : (d.withdraw id).pip = d.pip := by
  have hupd : ∀ (l : List Nat) (e : Dev), (l.foldl (fun (d : Dev) r => if (d.upd r).pending = some id then d.setUpd r { d.upd r with pending := none } else d) e).pip = e.pip :=
    foldl_same Dev.pip fun e r => by split <;> rfl
  unfold Dev.withdraw
  extract_lets e1 e2
  have hkern : ∀ (e : Dev) (k : Kernel), ({ e with kern := k } : Dev).pip = e.pip := fun _ _ => rfl
  rw [hkern, hupd, Dev.setTag_pip]

/-- The record of a missed deadline, with the pip in force before it. -/
theorem missed_eq {d : Dev} {c : Cmd} {started : Bool} {pip : Nat} (h : d.pip = pip) : d.missed c started =
    (((((d.inc (Reg.FAB_DL_MISS_D0 + 4 * c.cls)).inc (Reg.FAB_Q_DL_MISS c.queue)).wn Reg.FAB_LAST_MISS (c.tag * 65536 + c.queue * 256 + c.opcode % 256)).wn Reg.FAB_LAST_MISS_PIP pip).raise Reg.FAB_EVENT 1).log 79 0 ([byte c.queue] ++ leN c.tag 2 ++ leN c.opcode 2 ++ leN pip 6 ++ [byte (b2n started)]) := by
  subst h
  rfl

theorem missed_pip (d : Dev) (c : Cmd) (started : Bool) : (d.missed c started).pip = d.pip := by
  rw [missed_eq rfl, Dev.log]
  simp

/-! ### Missed deadlines (R62, R63) -/

/-- What DEADLINE_MISS does with one command. -/
theorem missOne_eq (s : State) (x : Flight) : missOne s x =
    ((s.onDev fun d => (if (x.missed s.dev).getD false then d else d.withdraw x.cmd.id).missed x.cmd ((x.missed s.dev).getD false)).onFab fun f => { f with
      late := if (x.missed s.dev).getD false then f.late ++ [{ cmd := x.cmd, ended := match x.phase with | .produced _ _ p => some p | _ => none }] else f.late,
      flights := f.flights.map fun (y : Flight) => if y.cmd.id = x.cmd.id then { cmd := { y.cmd with src := 79 }, phase := .produced St.deadlineMissed [byte (b2n ((x.missed s.dev).getD false)), 0, 0, 0] s.dev.pip } else y }) := by
  have hstarted : (x.missed s.dev == some true) = (x.missed s.dev).getD false := by
    rcases x.missed s.dev with _ | _ | _ <;> rfl
  unfold missOne
  rw [hstarted]
  generalize (x.missed s.dev).getD false = started
  have hpip : (if started = true then s.dev else s.dev.withdraw x.cmd.id).pip = s.dev.pip := by
    cases started
    · exact withdraw_pip s.dev x.cmd.id
    · rfl
  simp only [State.onDev, State.onFab, missed_eq hpip] <;> rfl

theorem deadlineMiss_eq (s : State) :
    let hits := s.fab.flights.filter fun x => (x.missed s.dev).isSome
    s.deadlineMiss = ((hits.foldl missOne s).deliver fun y => (hits.map (·.cmd.id)).contains y.cmd.id).settle := by
  have hstep : missOne = fun (s : State) (x : Flight) =>
      let started := (x.missed s.dev).getD false
      let ended := match x.phase with | .produced _ _ p => some p | _ => none
      let s := s.onDev fun d => (if started then d else d.withdraw x.cmd.id).missed x.cmd started
      s.onFab fun f => { f with late := if started then f.late ++ [{ cmd := x.cmd, ended := ended }] else f.late,
                                flights := f.flights.map fun (y : Flight) => if y.cmd.id = x.cmd.id then { cmd := { y.cmd with src := 79 }, phase := .produced St.deadlineMissed [byte (b2n started), 0, 0, 0] s.dev.pip } else y } := by
    funext s x
    have hpip : ((if (x.missed s.dev).getD false = true then s.dev else s.dev.withdraw x.cmd.id).missed x.cmd ((x.missed s.dev).getD false)).pip = s.dev.pip := by
      rw [missed_pip]
      split
      · rfl
      · exact withdraw_pip s.dev x.cmd.id
    rw [missOne_eq]
    simp only [State.onDev, State.onFab, hpip]
  rw [hstep]
  rfl

/-- A command that has missed alone. -/
theorem deadlineMiss_one {s : State} {x : Flight} (h : s.fab.flights.filter (fun x => (x.missed s.dev).isSome) = [x]) :
    s.deadlineMiss = ((missOne s x).deliver fun y => y.cmd.id == x.cmd.id).settle := by
  rw [deadlineMiss_eq, h]
  simp only [List.foldl_cons, List.foldl_nil, List.map_cons, List.map_nil, List.contains_cons, List.contains_nil, Bool.or_false]

/-- The phase in which a missed command stands. -/
theorem missOne_phase {s : State} {x : Flight} {started : Bool} (h : x.missed s.dev = some started) :
    ∀ y ∈ (missOne s x).fab.flights, y.cmd.id = x.cmd.id → y.phase = .produced 0x21 [byte (b2n started), 0, 0, 0] s.dev.pip := by
  intro y hy hid
  rw [missOne_eq, h] at hy
  obtain ⟨z, -, hz⟩ := List.mem_map.1 hy
  by_cases hzx : z.cmd.id = x.cmd.id
  · rw [if_pos hzx] at hz
    rw [← hz]
    rfl
  · rw [if_neg hzx] at hz
    exact absurd (hz ▸ hid) hzx

theorem missOne_late {s : State} {x : Flight} {started : Bool} (h : x.missed s.dev = some started) :
    (missOne s x).fab.late = if started then s.fab.late ++ [{ cmd := x.cmd, ended := match x.phase with | .produced _ _ p => some p | _ => none }] else s.fab.late := by
  rw [missOne_eq, h]
  rfl

/-! ### Windows that close without a quiet pip (R607) -/

theorem endQuiet_eq (f : Fab) (pip : Nat) : f.endQuiet pip = { f with flights := f.flights.map fun y => if windowOver pip y then { y with phase := .produced 0x11 [] pip } else y } := by
  unfold Fab.endQuiet
  congr 2
  funext x
  rcases x with ⟨c, ph⟩
  cases ph <;> simp [windowOver]

theorem quietExpiry_eq (s : State) : s.quietExpiry = (({ s with
      fab := { s.fab with flights := s.fab.flights.map fun y => if windowOver s.dev.pip y then { y with phase := .produced 0x11 [] s.dev.pip } else y } } : State).deliver
        fun y => ((s.fab.flights.filter (windowOver s.dev.pip)).map (·.cmd.id)).contains y.cmd.id).settle := by
  rw [← endQuiet_eq]
  rfl

/-- Settles O42: each event's function, with the parts of a missed command in the order of the statement. -/
theorem deadlineEventsComplete : Obligations.DeadlineEventsComplete := by
  refine ⟨fun s => congrArg Host.Outcome.next (deadlineMiss_eq s), fun s x hone hmiss => ⟨congrArg Host.Outcome.next (deadlineMiss_one hone), missOne_late hmiss, missOne_phase hmiss⟩,
    fun s x hone hmiss => ⟨congrArg Host.Outcome.next (deadlineMiss_one hone), ⟨_, missOne_late hmiss⟩, missOne_phase hmiss⟩, fun s => rfl,
    fun s => congrArg Host.Outcome.next (quietExpiry_eq s), fun s x hone _ => ⟨_, rfl, ?_⟩⟩
  rw [quietExpiry_eq, hone]
  simp only [List.map_cons, List.map_nil, List.contains_cons, List.contains_nil, Bool.or_false]

end Sys2Proof.Proofs
end

section
/-!
The pip boundary (O41), what reset leaves (O45), and the FRAM write that is served (O50).
-/
namespace Sys2Proof.Proofs
open Sys2Proof.Machine Sys2Proof.Claims Sys2Proof.Laws

/-! ### Stable sorting (R72) -/

section
variable {α : Type} {key : α → Nat}

theorem insertBy_perm (x : α) (l : List α) : (insertBy key x l).Perm (x :: l) := by
  induction l with
  | nil => exact .refl _
  | cons y l ih =>
    rw [insertBy]
    split
    · exact .refl _
    · exact (ih.cons y).trans (.swap x y l)

theorem insertBy_sorted (x : α) {l : List α} (h : l.Pairwise fun a b => key a ≤ key b) : (insertBy key x l).Pairwise fun a b => key a ≤ key b := by
  induction l with
  | nil => exact List.pairwise_singleton _ _
  | cons y l ih =>
    obtain ⟨hy, hl⟩ := List.pairwise_cons.1 h
    rw [insertBy]
    split
    · next hlt =>
      refine List.pairwise_cons.2 ⟨fun z hz => ?_, h⟩
      rcases List.mem_cons.1 hz with rfl | hz
      · exact Nat.le_of_lt hlt
      · exact Nat.le_trans (Nat.le_of_lt hlt) (hy z hz)
    · next hge =>
      refine List.pairwise_cons.2 ⟨fun z hz => ?_, ih hl⟩
      rcases List.mem_cons.1 ((insertBy_perm x l).subset hz) with rfl | hz
      · exact Nat.le_of_not_lt hge
      · exact hy z hz

/-- Among elements of one key the inserted one comes last. -/
theorem filter_insertBy (x : α) {l : List α} (h : l.Pairwise fun a b => key a ≤ key b) (k : Nat) :
    (insertBy key x l).filter (fun a => key a == k) = l.filter (fun a => key a == k) ++ [x].filter fun a => key a == k := by
  induction l with
  | nil => rfl
  | cons y l ih =>
    obtain ⟨hy, hl⟩ := List.pairwise_cons.1 h
    rw [insertBy]
    split
    · next hlt =>
      by_cases hx : key x = k
      · have hnone : (y :: l).filter (fun a => key a == k) = [] := List.filter_eq_nil_iff.2 fun z hz => by
          have : key y ≤ key z := by
            rcases List.mem_cons.1 hz with rfl | hz
            · exact Nat.le_refl _
            · exact hy z hz
          simp only [beq_iff_eq]
          omega
        rw [List.filter_cons_of_pos (by simpa using hx), hnone]
        simp [hx]
      · simp [List.filter_cons, hx]
    · rw [List.filter_cons, List.filter_cons, ih hl]
      split <;> rfl

theorem foldl_insertBy (l : List α) {acc : List α} (h : acc.Pairwise fun a b => key a ≤ key b) :
    (l.foldl (fun acc x => insertBy key x acc) acc).Pairwise (fun a b => key a ≤ key b) ∧
    ∀ k, (l.foldl (fun acc x => insertBy key x acc) acc).filter (fun a => key a == k) = acc.filter (fun a => key a == k) ++ l.filter fun a => key a == k := by
  induction l generalizing acc with
  | nil => exact ⟨h, fun k => by simp⟩
  | cons x l ih =>
    obtain ⟨hsorted, hfilter⟩ := ih (insertBy_sorted x h)
    refine ⟨hsorted, fun k => ?_⟩
    rw [List.foldl_cons, hfilter, filter_insertBy x h, List.append_assoc, ← List.filter_append, List.singleton_append]

theorem sortBy_sorted (l : List α) : (sortBy key l).Pairwise fun a b => key a ≤ key b := (foldl_insertBy l .nil).1

/-- Sorting keeps the order among elements of one key. -/
theorem filter_sortBy (l : List α) (k : Nat) : (sortBy key l).filter (fun a => key a == k) = l.filter fun a => key a == k := (foldl_insertBy l .nil).2 k

/-- Sorting commutes with a map that keeps the keys. -/
theorem sortBy_map {u : α → α} (hu : ∀ x, key (u x) = key x) (l : List α) : sortBy key (l.map u) = (sortBy key l).map u := by
  have hinsert : ∀ (x : α) (acc : List α), insertBy key (u x) (acc.map u) = (insertBy key x acc).map u := by
    intro x acc
    induction acc with
    | nil => rfl
    | cons y acc ih =>
      simp only [List.map_cons, insertBy, hu]
      split
      · rfl
      · rw [ih, List.map_cons]
  have hfold : ∀ (l acc : List α), (l.map u).foldl (fun acc x => insertBy key x acc) (acc.map u) = (l.foldl (fun acc x => insertBy key x acc) acc).map u := by
    intro l
    induction l with
    | nil => exact fun _ => rfl
    | cons x l ih =>
      intro acc
      rw [List.map_cons, List.foldl_cons, List.foldl_cons, hinsert, ih]
  exact hfold l []

theorem sortBy_pair (x y : α) : sortBy key [x, y] = if key y < key x then [y, x] else [x, y] := rfl

end

/-! ### Pending Live writes take effect (R10, R35, R85) -/

/-- A pending Live write takes effect. -/
def putLive (d : Dev) (p : LivePend) : Dev :=
  match p with
  | .set a v _ => d.livePut a v
  | .clear a bits => d.wr a (d.rd a &&& ~~~bits)

/-- The device whose pending writes have been taken. -/
def liveTaken (d : Dev) : Dev := { d with live := [], fresh := d.fresh + 1, twin := { d.twin with held := d.pendCmds.drop d.timely } }

/-- A pending write that is not one of a channel's commanded state. -/
def notChCmd : LivePend → Bool
  | .set a _ _ => !isChCmd a
  | .clear _ _ => true

theorem applyLive_eq (d : Dev) : d.applyLive =
    (((d.twin.held ++ d.pendCmds.take d.timely).map fun e => LivePend.set e.1 e.2 false) ++ d.live.filter notChCmd).foldl putLive (liveTaken d) := by
  have hput : (fun (d : Dev) (p : LivePend) => match p with | .set a v _ => d.livePut a v | .clear a bits => d.wr a (d.rd a &&& ~~~bits)) = putLive := by
    funext d p
    cases p <;> rfl
  have hnot : (fun (p : LivePend) => match p with | .set a _ _ => !isChCmd a | .clear _ _ => true) = notChCmd := by
    funext p
    cases p <;> rfl
  rw [← hput, ← hnot]
  rfl

theorem pendCmds_of_none {d : Dev} (h : ∀ p ∈ d.live, notChCmd p = true) : d.pendCmds = [] := by
  refine List.filterMap_eq_nil_iff.2 fun p hp => ?_
  have hno := h p hp
  rcases p with ⟨a, v, host⟩ | ⟨a, bits⟩
  · simp only [notChCmd, Bool.not_eq_true'] at hno
    simp only [hno, Bool.false_eq_true, if_false]
  · rfl

/-- Without changes of commanded state the pending writes take effect in their order. -/
theorem applyLive_of_none {d : Dev} (hheld : d.twin.held = []) (h : ∀ p ∈ d.live, notChCmd p = true) : d.applyLive = d.live.foldl putLive (liveTaken d) := by
  rw [applyLive_eq, hheld, pendCmds_of_none h, List.filter_eq_self.2 h, List.take_nil, List.append_nil, List.map_nil, List.nil_append]

theorem livePut_plain {d : Dev} {a : Nat} {v : Word} {host : Bool} (h : plainPend (.set a v host) = true) : d.livePut a v = d.wr a v := by
  simp only [plainPend, Bool.and_eq_true, Bool.not_eq_true', decide_eq_true_eq] at h
  obtain ⟨⟨⟨⟨⟨hguard, hdisp⟩, hmesh⟩, htag⟩, hstage⟩, -⟩ := h
  have hoff : a % 0x10000 % 0x40 = a % 0x40 := Nat.mod_mod_of_dvd a (by decide)
  unfold Dev.livePut
  extract_lets o old
  rw [if_neg (by simpa [o, hoff] using hguard), if_neg hdisp, if_neg hmesh, if_neg htag, if_neg (by simpa using hstage)]

theorem putLive_plain (d : Dev) {p : LivePend} (h : plainPend p = true) : ∃ w, putLive d p = d.wr (pendAddr p) w := by
  rcases p with ⟨a, v, host⟩ | ⟨a, bits⟩
  · exact ⟨v, livePut_plain h⟩
  · exact ⟨_, rfl⟩

theorem notChCmd_of_plain {p : LivePend} (h : plainPend p = true) : notChCmd p = true := by
  rcases p with ⟨a, v, host⟩ | ⟨a, bits⟩
  · simp only [plainPend, Bool.and_eq_true] at h
    exact h.2
  · rfl

/-- Plain writes of other registers leave a register, and none is pending after them. -/
theorem foldl_putLive_plain {l : List LivePend} (hl : ∀ p ∈ l, plainPend p = true) (d : Dev) :
    (l.foldl putLive d).live = d.live ∧ ∀ a, (∀ p ∈ l, pendAddr p ≠ a) → (l.foldl putLive d).rd a = d.rd a := by
  induction l generalizing d with
  | nil => exact ⟨rfl, fun _ _ => rfl⟩
  | cons p l ih =>
    obtain ⟨w, hw⟩ := putLive_plain d (hl p List.mem_cons_self)
    obtain ⟨hlive, hrd⟩ := ih (fun q hq => hl q (List.mem_cons_of_mem p hq)) (d.wr (pendAddr p) w)
    rw [List.foldl_cons, hw]
    refine ⟨hlive, fun a ha => ?_⟩
    rw [hrd a fun q hq => ha q (List.mem_cons_of_mem p hq), Dev.rd_wr_other d w (ha p List.mem_cons_self).symm]

theorem rd_liveTaken (d : Dev) (a : Nat) : (liveTaken d).rd a = d.rd a := rfl

/-- The last plain write of a register sets it. -/
theorem applyLive_set {d : Dev} {l1 l2 : List LivePend} {a : Nat} {v : Word} {host : Bool} (hheld : d.twin.held = []) (hlive : d.live = l1 ++ .set a v host :: l2)
    (hplain : ∀ p ∈ d.live, plainPend p = true) (hlast : ∀ p ∈ l2, pendAddr p ≠ a) : d.applyLive.rd a = v ∧ d.applyLive.live = [] := by
  rw [applyLive_of_none hheld fun p hp => notChCmd_of_plain (hplain p hp)]
  refine ⟨?_, (foldl_putLive_plain hplain _).1⟩
  rw [hlive] at hplain ⊢
  obtain ⟨-, hset, hl2⟩ : _ ∧ plainPend (.set a v host) = true ∧ ∀ p ∈ l2, plainPend p = true := by simpa only [List.forall_mem_append, List.forall_mem_cons] using hplain
  have hput : ∀ e : Dev, putLive e (.set a v host) = e.wr a v := fun e => livePut_plain hset
  rw [List.foldl_append, List.foldl_cons, (foldl_putLive_plain hl2 _).2 a hlast, hput, Dev.rd_wr_same]

/-- A W1C bit written is clear. -/
theorem applyLive_clear {d : Dev} {l1 l2 : List LivePend} {a : Nat} {bits : Word} (hheld : d.twin.held = []) (hlive : d.live = l1 ++ .clear a bits :: l2)
    (hplain : ∀ p ∈ d.live, plainPend p = true) (hother : ∀ p ∈ l1 ++ l2, pendAddr p ≠ a) : d.applyLive.rd a = d.rd a &&& ~~~bits := by
  rw [applyLive_of_none hheld fun p hp => notChCmd_of_plain (hplain p hp)]
  rw [hlive] at hplain ⊢
  obtain ⟨hl1, -, hl2⟩ : (∀ p ∈ l1, plainPend p = true) ∧ plainPend (.clear a bits) = true ∧ ∀ p ∈ l2, plainPend p = true := by simpa only [List.forall_mem_append, List.forall_mem_cons] using hplain
  obtain ⟨ho1, ho2⟩ := List.forall_mem_append.1 hother
  have hput : ∀ e : Dev, putLive e (.clear a bits) = e.wr a (e.rd a &&& ~~~bits) := fun e => rfl
  rw [List.foldl_append, List.foldl_cons, (foldl_putLive_plain hl2 _).2 a ho2, hput, Dev.rd_wr_same, (foldl_putLive_plain hl1 _).2 a ho1, rd_liveTaken]

/-! ### Registers whose write does more (R35, R290, R453) -/

theorem rd_dispCtrl (d : Dev) (v : Word) : (d.dispCtrl v).rd Reg.DISP_CTRL = v := by
  unfold Dev.dispCtrl Dev.dispRun
  extract_lets rise e ok
  rw [rd_setBit_other _ _ _ (by decide), rd_setBit_other _ _ _ (by decide)]
  split
  · rw [rd_setBit_other _ _ _ (by decide), Dev.rd_wr_same]
  · exact Dev.rd_wr_same _ _ _

theorem rd_setMesh_ctrl (d : Dev) (m : Mesh) : (d.setMesh m).rd Reg.MESH_CTRL = d.rd Reg.MESH_CTRL := by
  have hlink : ∀ n, Reg.MESH_CTRL ≠ Reg.MESH_NODE_LINK n := fun n => by rw [Reg.MESH_CTRL, Reg.MESH_NODE_LINK]; omega
  rw [Dev.setMesh, foldl_same (fun d : Dev => d.rd Reg.MESH_CTRL) fun d n => rd_wn_other d _ (hlink n)]
  iterate 8 rw [rd_wn_other _ _ (by decide)]
  rfl

theorem rd_meshEnable (d : Dev) : d.meshEnable.rd Reg.MESH_CTRL = d.rd Reg.MESH_CTRL := by
  rw [Dev.meshEnable]
  split <;> exact rd_setMesh_ctrl _ _

theorem rd_meshDisable (d : Dev) : d.meshDisable.rd Reg.MESH_CTRL = d.rd Reg.MESH_CTRL := by
  rw [Dev.meshDisable]
  split <;> exact rd_setMesh_ctrl _ _

theorem staging_block : ∀ a ∈ stagingAddrs, a / 0x10000 = 9 ∧ a ≠ Reg.SAFE_STATUS := by decide

/-- The registers whose write does more read the value written all the same. -/
theorem rd_livePut_special (d : Dev) {a : Nat} (v : Word) (h : a = Reg.DISP_CTRL ∨ a = Reg.MESH_CTRL ∨ a = Reg.TAG_CTRL ∨ a ∈ stagingAddrs) : (d.livePut a v).rd a = v := by
  unfold Dev.livePut
  extract_lets o old e
  rcases h with rfl | rfl | rfl | h
  · rw [if_neg (by decide), if_pos rfl, rd_dispCtrl]
  · rw [if_neg (by decide), if_neg (by decide), if_pos rfl]
    have hwr : e.rd Reg.MESH_CTRL = v := Dev.rd_wr_same _ _ _
    split
    · split
      · exact hwr
      · rw [rd_meshEnable, hwr]
    · split
      · rw [rd_meshDisable, hwr]
      · exact hwr
  · rw [if_neg (by decide), if_neg (by decide), if_neg (by decide), if_pos rfl, Dev.rdrShow, rd_wn_other _ _ (by decide), Dev.setFld, Dev.rd_wr_other _ _ (by decide), Dev.rd_wr_same]
  · obtain ⟨hblock, hstatus⟩ := staging_block a h
    have hne : ∀ b : Nat, b / 0x10000 ≠ 9 → a ≠ b := fun b hb hab => hb (hab ▸ hblock)
    rw [if_neg (by simp [hblock]), if_neg (hne _ (by decide)), if_neg (hne _ (by decide)), if_neg (hne _ (by decide)), if_pos (by simpa using h), Dev.cfgPending, rd_setBit_other _ _ _ hstatus, Dev.rd_wr_same]

theorem applyLive_special {d : Dev} {a : Nat} {v : Word} {host : Bool} (hheld : d.twin.held = []) (hlive : d.live = [.set a v host])
    (h : a = Reg.DISP_CTRL ∨ a = Reg.MESH_CTRL ∨ a = Reg.TAG_CTRL ∨ a ∈ stagingAddrs) : d.applyLive.rd a = v := by
  have hnot : isChCmd a = false := by
    rcases h with rfl | rfl | rfl | h
    · rfl
    · rfl
    · rfl
    · simp [isChCmd, (staging_block a h).1]
  have hall : ∀ p ∈ d.live, notChCmd p = true := by simp [hlive, notChCmd, hnot]
  rw [applyLive_of_none hheld hall, hlive]
  exact rd_livePut_special _ v h

/-- A change of a channel's commanded state made in time takes effect (R407). -/
theorem applyLive_lswCmd {d : Dev} {ch : Fin 80} {v : Word} {host : Bool} (hheld : d.twin.held = []) (hlive : d.live = [.set (Reg.LSW_CH_CMD ch.val) v host])
    (htime : d.twinState ≠ 4 ∨ d.inSync = false ∨ 1 ≤ d.twin.early) : d.applyLive.rd (Reg.LSW_CH_CMD ch.val) = v := by
  have hch := ch.isLt
  have haddr : Reg.LSW_CH_CMD ch.val = 0x80004 + 0x40 * ch.val := rfl
  have hcmd : isChCmd (Reg.LSW_CH_CMD ch.val) = true := by simp [isChCmd, haddr]; omega
  have hpend : d.pendCmds = [(Reg.LSW_CH_CMD ch.val, v)] := by simp [Dev.pendCmds, hlive, hcmd]
  have hall : 1 ≤ d.timely := by
    unfold Dev.timely
    rcases htime with ht | ht | ht
    · simp [ht, hpend]
    · simp [ht, hpend]
    · split
      · omega
      · simp [hpend]
  have hput : ∀ e : Dev, e.livePut (Reg.LSW_CH_CMD ch.val) v = e.wr (Reg.LSW_CH_CMD ch.val) v := by
    intro e
    have hne : ∀ b : Nat, b / 0x10000 ≠ 8 → Reg.LSW_CH_CMD ch.val ≠ b := by omega
    have hstage : stagingAddrs.contains (Reg.LSW_CH_CMD ch.val) = false := by
      have : Reg.LSW_CH_CMD ch.val ∉ stagingAddrs := fun hmem => by have := (staging_block _ hmem).1; omega
      simpa using this
    unfold Dev.livePut
    extract_lets o old
    rw [if_neg (by simp; omega), if_neg (hne _ (by decide)), if_neg (hne _ (by decide)), if_neg (hne _ (by decide)), hstage]
    rfl
  have hrest : d.live.filter notChCmd = [] := by simp [hlive, notChCmd, hcmd]
  rw [applyLive_eq, hheld, hpend, hrest, List.take_of_length_le hall]
  exact (congrArg (Dev.rd · _) (hput _)).trans (Dev.rd_wr_same _ _ _)

end Sys2Proof.Proofs
end

section
/-!
The commit point, scheduled firings and the collector opening of a pip (O41); what reset leaves (O45).
-/
namespace Sys2Proof.Proofs
open Sys2Proof.Machine Sys2Proof.Claims Sys2Proof.Laws

/-! ### The order of a pip's parts (R7) -/

section
variable {s0 : State} {i : PipIn}

/-- The state once a reset that is due has taken place (R497, R556). -/
def resetTaken (s0 : State) : State := if due s0.dev.sys.resetReq s0.dev.pip = true then ({ s0 with dev := s0.dev.resetDue } : State).settle else s0

/-- The device with the oscillator's step and REFCLK's state of the pip (R548). -/
def pipBegins (s : State) (i : PipIn) : Dev := ({ s.dev.pfailEnd with osc := s.dev.osc + 1 } : Dev).refTick i.refOk

theorem pipBoundary_hung (h : (pipBegins (resetTaken s0) i).domainRuns 4 = false) :
    s0.pipBoundary i = ({ (resetTaken s0) with dev := (pipBegins (resetTaken s0) i).lswTick (max i.feedA i.feedB) } : State).settle := by
  have hstop : (!(pipBegins (resetTaken s0) i).domainRuns 4) = true := by rw [h]; rfl
  exact if_pos hstop

theorem pipBoundary_runs (h : (pipBegins (resetTaken s0) i).domainRuns 4 = true) :
    let s := resetTaken s0
    let o := pipBegins s i
    let e := o.guardPips i.guards
    let n := ((e.nextPip.1.shiftCopied e.nextPip.2).applyLive).podSend e.pip s.fab.flights
    let n : Dev := { n with safe := { n.safe with forceOff := n.safe.forceOff ||| n.safe.forceNext, forceNext := 0 } }
    let t0 : State := { s with dev := n.lagTick.handoverEnd.tamperHand.boundaryCopy.keyDue.saveDue.sampleLatch, fab := (s.fab.shift e.nextPip.2).keepFaults }
    let s1 : State := { t0.commitPoint with dev := t0.commitPoint.dev.billPip }
    let s2 := ({ s1 with dev := s1.dev.standbyFire true } : State).fire
    let s3 := ({ s2 with dev := s2.dev.standbyFire false } : State).collector
    s0.pipBoundary i = ({ s3 with dev := (s3.dev.pipWork i).early } : State).settle := by
  have hgo : ¬ (!(pipBegins (resetTaken s0) i).domainRuns 4) = true := by rw [h]; decide
  exact if_neg hgo

end

/-! ### The commit point (R67, R68, R70) -/

theorem unaligned_eq (d : Dev) (c : Cmd) : d.unaligned c = launchNoted d c := by
  rw [Dev.unaligned, launchNoted]
  rcases c.launch <;> simp

theorem launchNoted_pip (d : Dev) (c : Cmd) : (launchNoted d c).pip = d.pip := by
  rw [launchNoted]
  split
  · rfl
  · rw [Dev.log]
    simp

/-- The note of a launch writes TIME registers and the event log alone. -/
theorem launchNoted_passive (d : Dev) (c : Cmd) : (launchNoted d c).passive = d.passive := by
  have hrd : (launchNoted d c).rd Reg.TWIN_STATUS = d.rd Reg.TWIN_STATUS := by
    rw [launchNoted]
    split
    · rfl
    · rw [Dev.log, rd_wn_other _ _ (by decide)]
      exact (Dev.rd_wr_other _ _ (by decide)).trans (rd_inc_other d (by decide))
  rw [Dev.passive, Dev.passive, Dev.twinState, Dev.twinState, Dev.fld, Dev.fld, hrd]

theorem commit_pip (d : Dev) (m : Nat) : (d.commit m).pip = d.pip := by
  have hmove : ∀ (l : Tab Word) (e : Dev), (l.foldl (fun (d : Dev) e => d.wr e.1 (d.rd e.1 ^^^ e.2)) e).pip = e.pip := foldl_same Dev.pip fun d e => d.wr_pip _ _
  have hmaster : ∀ e : Dev, e.masterChanged.pip = e.pip := fun e => by
    rw [Dev.masterChanged, Dev.alignShow, Dev.setBit_pip]
    split
    · exact e.raise_pip _ _
    · rw [masterGone_eq]
  rw [Dev.commit, Dev.commitSel]
  split
  · rw [hmaster, hmove]
  · split
    · rw [Dev.alignShow, Dev.setBit_pip, hmove]
    · rw [hmove]

/-- One FAB_COMMIT that is due acts. -/
def commitOne (s : State) (x : Flight) : State :=
  let s := s.onDev fun d => d.unaligned x.cmd
  match if s.dev.refusesNow x.cmd then some St.denied else if s.fab.faulted x.cmd then some St.memoryFault else commitRefuses x.cmd.payload with
  | some st => s.onFab fun f => (if st = St.memoryFault then f.dropFault x.cmd else f).setPhase x.cmd.id (.produced st [] s.dev.pip)
  | none => (s.onDev fun d => d.commit (num x.cmd.payload 0 4)).onFab fun f => f.setPhase x.cmd.id (.produced St.ok (leN s.dev.pip 8) s.dev.pip)

theorem commitPoint_eq (s : State) : s.commitPoint = (sortBy (fun x : Flight => x.cmd.queue) (s.fab.flights.filter fun x => x.commitDue s.dev.pip)).foldl commitOne s := rfl

section
variable {s : State} {x : Flight}

theorem refusesNow_active {d : Dev} (c : Cmd) (h : d.passive = false) : d.refusesNow c = false := by rw [Dev.refusesNow, h]; rfl

theorem commitOne_ok (h : commits s x) : commitOne s x = committed s x := by
  obtain ⟨hlen, hmask, hactive, hfault⟩ := h
  have hf : s.fab.faulted x.cmd = false := by simpa [Fab.faulted] using hfault
  have hno : commitRefuses x.cmd.payload = none := by simp [commitRefuses, hlen, hmask]
  have hrefuse : (launchNoted s.dev x.cmd).refusesNow x.cmd = false := refusesNow_active _ (by rw [launchNoted_passive, hactive])
  unfold commitOne committed
  simp only [State.onDev, State.onFab, unaligned_eq, hrefuse, hf, hno, Bool.false_eq_true, if_false, commit_pip]

theorem commitOne_fault (hactive : s.dev.passive = false) (hfault : (x.cmd.queue, x.cmd.tag) ∈ s.fab.faults) : commitOne s x =
    { s with dev := launchNoted s.dev x.cmd, fab := { s.fab.setPhase x.cmd.id (.produced 0x20 [] s.dev.pip) with faults := s.fab.faults.filter (· ≠ (x.cmd.queue, x.cmd.tag)) } } := by
  have hf : s.fab.faulted x.cmd = true := by simpa [Fab.faulted] using hfault
  have hrefuse : (launchNoted s.dev x.cmd).refusesNow x.cmd = false := refusesNow_active _ (by rw [launchNoted_passive, hactive])
  unfold commitOne
  simp only [State.onDev, State.onFab, unaligned_eq, hrefuse, hf, Bool.false_eq_true, if_false, if_true, launchNoted_pip]
  rfl

theorem commitPoint_one (h : s.fab.flights.filter (fun x => x.commitDue s.dev.pip) = [x]) : s.commitPoint = commitOne s x := by
  rw [commitPoint_eq, h]
  rfl

theorem commitPoint_two {y : Flight} (h : s.fab.flights.filter (fun x => x.commitDue s.dev.pip) = [x, y]) :
    s.commitPoint = if y.cmd.queue < x.cmd.queue then commitOne (commitOne s y) x else commitOne (commitOne s x) y := by
  rw [commitPoint_eq, h, sortBy_pair]
  split <;> rfl

end

/-! ### Scheduled firings (R59, R604, R607) -/

theorem firedDue_one (s : State) (x : Flight) : firedDue s [x] =
    if !s.fab.waits x.cmd.id then s
    else if s.dev.refusesNow x.cmd then s.onFab fun f => f.setPhase x.cmd.id (.produced St.denied [] s.dev.pip)
    else (s.onDev fun d => d.unaligned x.cmd).start x.cmd := rfl

/-- What an opcode's function leaves of a command in flight. -/
def afterRun (s : State) (c : Cmd) (r : Dev × Ans) : State :=
  { s with dev := r.1, fab := s.fab.setPhase c.id (match r.2 with | .done st pl => .produced st pl s.dev.pip | .running => .running) }

section
variable {s : State} {c : Cmd}

theorem start_runs {f : Dev → Cmd → Dev × Ans} (hwaits : s.fab.waits c.id = true) (hc : c.opcode ≠ 0x0104) (hn : c.opcode ≠ 0x0106 ∧ c.opcode ≠ 0x0107) (hq : c.needsQuiet = false)
    (hfault : (c.queue, c.tag) ∉ s.fab.faults) (hrun : (opSpec c.opcode).bind (·.run) = some f) : s.start c = afterRun s c (f s.dev c) := by
  rw [State.start, hwaits, Bool.not_true, if_neg (by decide), if_neg hc, runOp_dev hrun hn hfault, hq, afterRun]
  rcases f s.dev c with ⟨d, st | _⟩ <;> simp <;> rfl

theorem start_fault (hwaits : s.fab.waits c.id = true) (hc : c.opcode ≠ 0x0104) (hq : c.needsQuiet = false) (hfault : s.fab.faulted c = true) :
    s.start c = { s with fab := { s.fab.setPhase c.id (.produced 0x20 [] s.dev.pip) with faults := s.fab.faults.filter (· ≠ (c.queue, c.tag)) } } := by
  rw [State.start, hwaits, Bool.not_true, if_neg (by decide), if_neg hc, State.runOp, if_pos hfault, hq]
  rfl

end

/-- Without a command that waits for a quiet pip alone nothing more fires. -/
theorem firedQuiet_none {s : State} (h : ∀ x ∈ s.fab.flights, s.fab.flights = [x] → ∀ a b, x.phase ≠ .waitQuiet a b) : firedQuiet s = s := by
  unfold firedQuiet
  split
  · next x hx =>
    split
    · next a b hph => exact absurd hph (h x (by rw [hx]; exact List.mem_singleton_self x) hx a b)
    · rfl
  · rfl

/-- After a phase is set that is no wait, a single command in flight that was the one found does not wait for a quiet pip. -/
theorem setPhase_single {f : Fab} {x y : Flight} {p : Flight → Bool} {ph : Phase} (hp : f.flights.filter p = [x]) (hph : ∀ a b, ph ≠ .waitQuiet a b) (h : (f.setPhase x.cmd.id ph).flights = [y]) :
    ∀ a b, y.phase ≠ .waitQuiet a b := by
  have hlen : f.flights.length = 1 := by
    have := congrArg List.length h
    simpa [Fab.setPhase] using this
  have hsub : [x].Sublist f.flights := hp ▸ List.filter_sublist
  have hone : [x] = f.flights := hsub.eq_of_length (by rw [hlen]; rfl)
  rw [Fab.setPhase, ← hone] at h
  simp only [List.map_cons, List.map_nil, if_true, List.cons.injEq, and_true] at h
  rw [← h]
  exact hph

section
variable {s : State} {x : Flight} (hdue : s.fab.flights.filter (fun x => x.phase == .waitLaunch && x.cmd.launch.any (· ≤ s.dev.pip)) = [x])
include hdue

theorem due_waits : s.fab.waits x.cmd.id = true := by
  have hx : x ∈ s.fab.flights.filter (fun x => x.phase == .waitLaunch && x.cmd.launch.any (· ≤ s.dev.pip)) := by rw [hdue]; exact List.mem_singleton_self x
  obtain ⟨hmem, hp⟩ := List.mem_filter.1 hx
  obtain ⟨hph, -⟩ := Bool.and_eq_true_iff.1 hp
  exact List.any_eq_true.2 ⟨x, hmem, by simp [hph]⟩

theorem fire_due (hactive : s.dev.passive = false) : s.fire = firedQuiet ((s.onDev fun d => launchNoted d x.cmd).start x.cmd) := by
  rw [fire_eq, hdue]
  have hsort : sortBy (fun x : Flight => x.cmd.queue) [x] = [x] := rfl
  rw [hsort, firedDue_one, due_waits hdue, refusesNow_active _ hactive]
  simp only [unaligned_eq]
  rfl

theorem fire_runs {f : Dev → Cmd → Dev × Ans} (hc : x.cmd.opcode ≠ 0x0104) (hn : x.cmd.opcode ≠ 0x0106 ∧ x.cmd.opcode ≠ 0x0107) (hq : x.cmd.needsQuiet = false) (hactive : s.dev.passive = false)
    (hfault : (x.cmd.queue, x.cmd.tag) ∉ s.fab.faults) (hrun : (opSpec x.cmd.opcode).bind (·.run) = some f) : s.fire = afterRun s x.cmd (f (launchNoted s.dev x.cmd) x.cmd) := by
  have hwaits : (s.onDev fun d => launchNoted d x.cmd).fab.waits x.cmd.id = true := due_waits (s := s) hdue
  have hpip : (s.onDev fun d => launchNoted d x.cmd).dev.pip = s.dev.pip := launchNoted_pip _ _
  rw [fire_due hdue hactive, start_runs hwaits hc hn hq hfault hrun, firedQuiet_none]
  · simp only [afterRun, hpip]
    rfl
  · intro y _ hy
    refine setPhase_single hdue (fun a b => ?_) hy
    split <;> simp

theorem fire_fault (hc : x.cmd.opcode ≠ 0x0104) (hq : x.cmd.needsQuiet = false) (hactive : s.dev.passive = false) (hfault : (x.cmd.queue, x.cmd.tag) ∈ s.fab.faults) :
    s.fire = { s with dev := launchNoted s.dev x.cmd, fab := { s.fab.setPhase x.cmd.id (.produced 0x20 [] s.dev.pip) with faults := s.fab.faults.filter (· ≠ (x.cmd.queue, x.cmd.tag)) } } := by
  have hwaits : (s.onDev fun d => launchNoted d x.cmd).fab.waits x.cmd.id = true := due_waits (s := s) hdue
  have hf : (s.onDev fun d => launchNoted d x.cmd).fab.faulted x.cmd = true := by simpa [Fab.faulted, State.onDev] using hfault
  have hpip : (s.onDev fun d => launchNoted d x.cmd).dev.pip = s.dev.pip := launchNoted_pip _ _
  rw [fire_due hdue hactive, start_fault hwaits hc hq hf, firedQuiet_none, hpip]
  · rfl
  · exact fun y _ hy => setPhase_single hdue (fun a b => by simp) hy

end

/-- The one command in flight acts at its quiet pip (R607). -/
theorem fire_quiet {s : State} {x : Flight} {a b : Nat} {f : Dev → Cmd → Dev × Ans} (hone : s.fab.flights = [x]) (hph : x.phase = .waitQuiet a b) (ha : a ≤ s.dev.pip) (hb : s.dev.pip ≤ b)
    (hn : x.cmd.opcode ≠ 0x0106 ∧ x.cmd.opcode ≠ 0x0107) (hfault : (x.cmd.queue, x.cmd.tag) ∉ s.fab.faults) (hrun : (opSpec x.cmd.opcode).bind (·.run) = some f) :
    s.fire = afterRun s x.cmd (f s.dev x.cmd) := by
  have hnone : s.fab.flights.filter (fun x => x.phase == .waitLaunch && x.cmd.launch.any (· ≤ s.dev.pip)) = [] := by
    rw [hone, List.filter_eq_nil_iff]
    simp [hph]
  have hfire : s.fire = firedQuiet s := by rw [fire_eq, hnone]; rfl
  rw [hfire, firedQuiet, hone]
  simp only [hph, ha, hb, decide_true, Bool.and_self, if_true, runOp_dev hrun hn hfault, afterRun]
  rcases f s.dev x.cmd with ⟨d, st | _⟩ <;> rfl

/-! ### The collector opening (R61, R72, R75) -/

/-- The command whose window has closed has produced BUSY. -/
def windowEnded (pip : Nat) (x : Flight) : Flight := if windowOver pip x then { x with phase := .produced 0x11 [] pip } else x

/-- The reply of a produced result in time. -/
def producedReply (d : Dev) (x : Flight) : Option Reply :=
  match x.phase with
  | .produced st pl _ => if d.pip ≤ x.cmd.deadline then some (d.reply x.cmd st pl) else none
  | _ => none

theorem producedReply_windowEnded (d : Dev) (x : Flight) : producedReply d (windowEnded d.pip x) = collected d x := by
  rcases x with ⟨c, ph⟩
  cases ph with
  | waitQuiet a b =>
    by_cases hb : b ≤ d.pip
    · simp only [windowEnded, windowOver, hb, decide_true, if_true, producedReply, collected, Option.map_some]
      rfl
    · simp [windowEnded, windowOver, hb, producedReply, collected]
  | produced st pl p => rfl
  | waitLaunch => simp [windowEnded, windowOver, producedReply, collected]
  | waitCommit p => simp [windowEnded, windowOver, producedReply, collected]
  | running => simp [windowEnded, windowOver, producedReply, collected]
  | answered => simp [windowEnded, windowOver, producedReply, collected]
  | delivered p r => simp [windowEnded, windowOver, producedReply, collected]

theorem foldl_keep (rs : List Reply) (f : Fab) (h : f.history.length ≤ 256) : rs.foldl Fab.keep f = { f with history := (rs.reverse ++ f.history).take 256 } := by
  induction rs generalizing f with
  | nil => simp [List.take_of_length_le h]
  | cons r rs ih =>
    rw [List.foldl_cons, ih _ (List.length_take_le _ _)]
    have htake : ∀ n, n ≤ 256 → (r :: f.history.take 255).take n = (r :: f.history).take n := fun n hn => by
      rcases n with _ | n
      · rfl
      · rw [List.take_succ_cons, List.take_succ_cons, List.take_take, Nat.min_eq_left (by omega)]
    simp [Fab.keep, List.take_append, htake]

/-- What the collector opening delivers. -/
theorem deliver_inTime (s : State) :
    let f := ((sortBy (fun x : Flight => x.cmd.src * 32 + x.cmd.queue) (s.fab.flights.filter fun x => (producedReply s.dev x).isSome)).filterMap (producedReply s.dev)).foldl Fab.keep s.fab
    s.deliver (fun x => s.dev.pip ≤ x.cmd.deadline) = { s with fab := { f with flights := f.flights.map fun x => match producedReply s.dev x with
      | some r => { x with phase := .delivered s.dev.pip r }
      | none => x } } := by
  have hpick : producedReply s.dev = fun x : Flight => match x.phase with
      | .produced st pl _ => if decide (s.dev.pip ≤ x.cmd.deadline) = true then some (s.dev.reply x.cmd st pl) else none
      | _ => none := by
    funext x
    simp only [producedReply, decide_eq_true_eq]
  rw [hpick]
  rfl

/-- The collector delivers what has been produced, in the order of source and queue. -/
theorem collector_eq {s : State} (hstale : s.dev.twin.stale = []) (hout : s.dev.outbox = []) (hkept : s.fab.history.length ≤ 256) :
    let l := sortBy (fun x : Flight => x.cmd.src * 32 + x.cmd.queue) (s.fab.flights.filter fun x => (collected s.dev x).isSome)
    s.collector = { s with fab := { s.fab with
      history := ((l.filterMap (collected s.dev)).reverse ++ s.fab.history).take 256,
      flights := s.fab.flights.map fun x => match collected s.dev x with
        | some r => { x with phase := .delivered s.dev.pip r }
        | none => if windowOver s.dev.pip x then { x with phase := .produced 0x11 [] s.dev.pip } else x } } := by
  intro l
  have hkey : ∀ x : Flight, (windowEnded s.dev.pip x).cmd = x.cmd := fun x => by rw [windowEnded]; split <;> rfl
  have hend : s.fab.endQuiet s.dev.pip = { s.fab with flights := s.fab.flights.map (windowEnded s.dev.pip) } := endQuiet_eq _ _
  have hdrain : s.staleReplies.drain = s := by
    rw [State.staleReplies, hstale]
    rcases s with ⟨p, f, d⟩
    have hd : ({ d with outbox := [] } : Dev) = d := by rw [← show d.outbox = [] from hout]
    simp only [if_true, State.drain, hd]
    rw [show d.outbox = [] from hout]
    rfl
  have hnow : sortBy (fun x : Flight => x.cmd.src * 32 + x.cmd.queue) ((s.fab.flights.map (windowEnded s.dev.pip)).filter fun x => (producedReply s.dev x).isSome) = l.map (windowEnded s.dev.pip) := by
    rw [List.filter_map, sortBy_map (fun x => by rw [hkey])]
    simp only [Function.comp_def, producedReply_windowEnded]
    rfl
  have hreplies : (l.map (windowEnded s.dev.pip)).filterMap (producedReply s.dev) = l.filterMap (collected s.dev) := by
    rw [List.filterMap_map]
    exact congrFun (congrArg _ (funext fun x => producedReply_windowEnded s.dev x)) l
  have hdeliver := deliver_inTime (s.onFab fun f => f.endQuiet s.dev.pip)
  simp only [State.onFab, hend, hnow, hreplies, foldl_keep _ ({ s.fab with flights := s.fab.flights.map (windowEnded s.dev.pip) } : Fab) hkept] at hdeliver
  rw [State.collector, hdrain]
  rw [State.onFab, hend, hdeliver]
  simp only [List.map_map]
  congr 2
  refine List.map_congr_left fun x _ => ?_
  simp only [Function.comp_def, producedReply_windowEnded]
  rcases collected s.dev x with _ | r
  · rfl
  · simp only [windowEnded]
    split <;> rfl

/-! ### The whole boundary -/

/-- Settles O41: the order of the parts is the function's own, and each part is settled by its lemma. -/
theorem pipBoundaryComplete : Obligations.PipBoundaryComplete := by
  refine ⟨fun s0 i h => congrArg Host.Outcome.next (pipBoundary_runs h), fun s0 i h => congrArg Host.Outcome.next (pipBoundary_hung h),
    fun d l1 l2 a v host hheld hlive hplain hlast => applyLive_set hheld hlive hplain hlast, fun d l1 l2 a bits hheld hlive hplain hother => applyLive_clear hheld hlive hplain hother,
    fun d a v host hheld hlive h => applyLive_special hheld hlive h, fun d ch v host hheld hlive htime => applyLive_lswCmd hheld hlive htime,
    fun s x hdue h => by rw [commitPoint_one hdue, commitOne_ok h],
    fun s x y hdue => ⟨fun hq hx hy => by rw [commitPoint_two hdue, if_neg (Nat.not_lt.2 hq), commitOne_ok hx, commitOne_ok hy],
      fun hq hy hx => by rw [commitPoint_two hdue, if_pos hq, commitOne_ok hy, commitOne_ok hx]⟩,
    fun s x hdue hactive hfault => by rw [commitPoint_one hdue, commitOne_fault hactive hfault],
    fun s x f hdue hc h6 h7 hq hactive hfault hrun => ⟨fun st pl hans => ?produced, fun hans => ?running⟩,
    fun s x hdue hc hq hactive hfault => fire_fault hdue hc hq hactive hfault,
    fun s x a b f hone hph ha hb h6 h7 hfault hrun => ⟨fun st pl hans => ?quietProduced, fun hans => ?quietRunning⟩,
    fun s hstale hout hkept => ⟨_, sortBy_sorted _, fun k => ?sources, collector_eq hstale hout hkept⟩⟩
  case produced => rw [fire_runs hdue hc ⟨h6, h7⟩ hq hactive hfault hrun, afterRun, hans]
  case running => rw [fire_runs hdue hc ⟨h6, h7⟩ hq hactive hfault hrun, afterRun, hans]
  case quietProduced => rw [fire_quiet hone hph ha hb ⟨h6, h7⟩ hfault hrun, afterRun, hans]
  case quietRunning => rw [fire_quiet hone hph ha hb ⟨h6, h7⟩ hfault hrun, afterRun, hans]
  case sources => rw [filter_sortBy, List.filter_filter]; simp only [Bool.and_comm]

/-! ### What reset leaves -/

/-- Settles O45: no register of the reset state is held apart from its Reset column. -/
theorem resetMeetsInvariants : Obligations.ResetMeetsInvariants :=
  ⟨rfl, by decide, ⟨rfl, rfl, rfl, rfl, rfl⟩, ⟨rfl, rfl, rfl⟩, fun _ => BitVec.zero_xor, fun _ => BitVec.zero_xor.trans BitVec.zero_xor, rfl⟩

end Sys2Proof.Proofs
end

section
/-!
The tag unit and the display across the settling of a step, and the write of the FRAM (O50).
-/
namespace Sys2Proof.Proofs
open Sys2Proof.Machine Sys2Proof.Claims Sys2Proof.Laws

/-- The two units that hold the memories. -/
def stores (d : Dev) : TagU × DispU := (d.tag, d.disp)

@[simp] theorem stores_wn (d : Dev) (a v : Nat) : stores (d.wn a v) = stores d := rfl
@[simp] theorem stores_setO (d : Dev) (n : Nat) (f : Outlet → Outlet) : stores (d.setO n f) = stores d := rfl
@[simp] theorem stores_finish (d : Dev) (id st : Nat) (pl : Bytes) : stores (d.finish id st pl) = stores d := rfl

theorem stores_setMesh (d : Dev) (m : Mesh) : stores (d.setMesh m) = stores d := by
  rw [Dev.setMesh, foldl_same stores fun d _ => stores_wn d _ _]
  iterate 8 rw [stores_wn]
  rfl

theorem stores_meshForward (d : Dev) (rec : Bytes) : stores (d.meshForward rec) = stores d := by
  unfold Dev.meshForward
  extract_lets m
  split
  · rfl
  · split
    split
    · exact stores_setMesh d _
    · rfl

theorem stores_receiptReady (d : Dev) (n counter session : Nat) : stores (d.receiptReady n counter session) = stores d := stores_meshForward _ _

theorem stores_takeKernel (d : Dev) : stores d.takeKernel = stores d := by
  have hkern : ∀ (e : Dev) k, stores { e with kern := k } = stores e := fun _ _ => rfl
  have hstored : ∀ (l : List (Nat × Nat × Nat)) (e : Dev), stores (l.foldl (fun (d : Dev) r => d.receiptReady r.1 r.2.1 r.2.2) e) = stores e :=
    foldl_same stores fun d r => stores_receiptReady d r.1 r.2.1 r.2.2
  have hdone : ∀ (l : List (Nat × Nat × Bytes)) (e : Dev), stores (l.foldl (fun (d : Dev) r => d.finish r.1 r.2.1 r.2.2) e) = stores e :=
    foldl_same stores fun d r => stores_finish d r.1 r.2.1 r.2.2
  have hconf : ∀ (l : List Nat) (e : Dev), stores (l.foldl (fun (d : Dev) n => d.setO n fun o => { o with confK := true }) e) = stores e :=
    foldl_same stores fun d n => stores_setO d n _
  rw [Dev.takeKernel, hstored, hdone, hconf, hkern]

/-- Settling leaves the memories' units as they are. -/
theorem stores_settle (s : State) : stores s.settle.dev = stores s.dev := by
  have hdrain : ∀ t : State, stores t.drain.dev = stores t.dev := fun _ => rfl
  have hregs : ∀ (e : Dev) r, stores { e with regs := r } = stores e := fun _ _ => rfl
  have hshown : ∀ t : State, stores t.shown.dev = stores t.dev := fun t => (congrArg stores (show_eq t.fab t.dev)).trans (hregs _ _)
  have hreset : ∀ t : State, stores (if t.dev.sys.fabReset then { t with fab := { Fab.reset with nextId := t.fab.nextId }, dev := { t.dev with outbox := [], sys := { t.dev.sys with fabReset := false } } } else t).dev = stores t.dev := fun t => by
    split <;> rfl
  unfold State.settle
  extract_lets t f d sys u
  have hu : stores u.dev = stores t.dev := hreset t
  have ht : stores t.dev = stores (s.onDev Dev.takeKernel).dev := hdrain _
  rw [hshown, hu, ht]
  exact stores_takeKernel s.dev

theorem stores_devStep (s : State) (f : Dev → Dev) : stores (s.devStep f).dev = stores (f s.dev) := stores_settle _

theorem tag_devStep (s : State) (f : Dev → Dev) : (s.devStep f).dev.tag = (f s.dev).tag := by
  have h := stores_devStep s f
  simp only [stores, Prod.mk.injEq] at h
  exact h.1

/-- The write being served ends with its bytes stored; without a further access none is served. -/
theorem framDone_write {d : Dev} {id off : Nat} {data : Bytes} (hserve : d.tag.serving = true) (haccs : d.tag.accs = [.write id off data]) :
    d.framDone.tag = { d.tag with accs := [], serving := false, fram := framWrite d.tag.fram off data } := by
  have hidle : ∀ e : Dev, e.tag.serving = false → e.tag.accs = [] → e.framServe = e := fun e hs ha => by
    have hpick : e.tag.pick = none := by rw [TagU.pick, ha]; rfl
    rw [Dev.framServe, Dev.framNext, hs, hpick]
    rfl
  unfold Dev.framDone
  simp only [hserve, haccs, Bool.not_true, Bool.false_eq_true, if_false]
  rw [hidle _ (by simp) (by simp)]
  simp

/-- Settles O50. -/
theorem framWriteStoresItsBytes : Obligations.FramWriteStoresItsBytes := by
  intro s id off data hserve haccs
  have htag : (s.devStep fun d => d.framDone).dev.tag = s.dev.framDone.tag := tag_devStep s _
  refine ⟨_, rfl, ?_, fun a => ?_⟩
  · rw [htag, framDone_write hserve haccs]
  · rw [htag, framDone_write hserve haccs]
    exact tget_framWrite _ _ _ _

end Sys2Proof.Proofs
end

section
/-!
The events of the sessions (O18, O19, O20).
-/
namespace Sys2Proof.Proofs
open Sys2Proof.Machine Sys2Proof.Claims Sys2Proof.Laws

/-! ### Steps that need their unit to run -/

theorem when_true {d : Dev} {b : Bool} {f : Dev → Dev} (h : b = true) : d.when b f = f d := if_pos h

/-- A step of a task acts while the task runs. -/
theorem acts_when {i : Instr} {good : Dev → Prop} {runs : Dev → Bool} {eff f : Dev → Dev} (hm : ∀ s : State, exec i s = .next (s.devStep fun d => d.when (runs d) f))
    (hf : ∀ d, good d → runs d = true ∧ f d = eff d) : Acts i good eff :=
  acts_of hm fun d hd => by
    obtain ⟨hrun, heff⟩ := hf d hd
    rw [when_true hrun, heff]

/-! ### Outlets -/

theorem o_setO_same (d : Dev) (n : Nat) (f : Outlet → Outlet) : (d.setO n f).o n = f (d.o n) := tget_tset_same _ _ _ _

theorem rd_setO (d : Dev) (n a : Nat) (f : Outlet → Outlet) : (d.setO n f).rd a = d.rd a := rfl

theorem setO_congr {d : Dev} {n : Nat} {f g : Outlet → Outlet} (h : f (d.o n) = g (d.o n)) : d.setO n f = d.setO n g := by rw [Dev.setO, h, Dev.setO]

/-! ### The pilot (R120, R124, R126) -/

theorem ost_wn_other {d : Dev} {n a v : Nat} (ha : Reg.OUT_STATE n ≠ a) : (d.wn a v).ost n = d.ost n := by
  rw [Dev.ost, Dev.ost, Dev.fld, Dev.fld, rd_wn_other _ _ ha]

theorem state_ne_cpStatus (n : Nat) : Reg.OUT_STATE n ≠ Reg.OUT_CP_STATUS n := by
  unfold Reg.OUT_STATE Reg.OUT_CP_STATUS
  omega

section
variable {d : Dev} {n c : Nat}

/-- An accepted pilot state shows and does what its row says. -/
theorem pilotAccepted_eq (h : Sampled d n c) : d.pilotAccepted n = (d.wn (Reg.OUT_CP_STATUS n) c).pilotRow n (d.fld (Reg.OUT_CP_STATUS n) 3 0) c := by
  obtain ⟨-, hthree, rfl, hnew, hsteady⟩ := h
  exact if_pos (by simp [hthree, hnew.symm, hsteady])

theorem pilotRow_idle (old : Nat) (hst : d.ost n = .idle) (hc : 1 ≤ c ∧ c ≤ 3) (hplug : d.mayPlug n = true) : d.pilotRow n old c = d.plugIn n := by
  simp [Dev.pilotRow, hst, hc, hplug]

theorem pilotRow_plugged (old : Nat) (hst : d.ost n = .plugged) : d.pilotRow n old 0 = d.goto n .unplugged := by simp [Dev.pilotRow, hst]

theorem pilotRow_link (old : Nat) (hst : d.ost n = .linking ∨ d.ost n = .negotiating ∨ d.ost n = .authorising) : d.pilotRow n old 0 = (d.closeLink n).goto n .unplugged := by
  rcases hst with hst | hst | hst <;> simp [Dev.pilotRow, hst]

theorem pilotRow_energy (old : Nat) (hst : d.ost n = .energy) : d.pilotRow n old 0 = d.rampdown n 9 := by simp [Dev.pilotRow, hst]

theorem pilotRow_energy_bad (old : Nat) (hst : d.ost n = .energy) (hc : c = 4 ∨ c = 6) : d.pilotRow n old c = d.rampdown n 10 := by
  rcases hc with rfl | rfl <;> simp [Dev.pilotRow, hst]

end

/-- The third sample of state A after a probe ends the fault's session (R126). -/
theorem faultProbe_third {d : Dev} {n hi start : Nat} (hst : d.ost n = .fault) (hdue : d.pip < (d.o n).probeDue) (hfrom : (d.o n).probeFrom = some start) (hpip : d.pip = start + 12)
    (hnew : (d.o n).sampled ≠ some d.pip) (htwo : (d.o n).probeN = 2) (hband : pilotBand (d.cpScaled n hi) none = 0) (hreason : d.fld (Reg.OUT_STATE n) 31 24 ≠ 13) :
    d.faultProbe n (some hi) = (((d.setO n fun o => { o with sampled := some d.pip, probeN := 3 }).wn (Reg.OUT_CP_STATUS n) 0).setO n fun o => { o with probeN := 0 }).goto n .unplugged := by
  have hnotdue : ¬ (d.o n).probeDue ≤ d.pip := by omega
  have hprobe : d.faultProbe n (some hi) = d.probeSample n hi start := by
    simp [Dev.faultProbe, hst, hfrom, hnotdue]
  have hnow : ¬ (((d.pip - start) % 4 ≠ 0 || d.pip < start + 4 || start + 12 < d.pip || (d.o n).sampled = some d.pip) = true) := by
    simp [hnew]
    omega
  have hthree : (d.setO n fun o => { o with sampled := some d.pip, probeN := if pilotBand (d.cpScaled n hi) none = 0 then o.probeN + 1 else o.probeN }) = d.setO n fun o => { o with sampled := some d.pip, probeN := 3 } :=
    setO_congr (by rw [if_pos hband, htwo])
  have hshown : ((((d.setO n fun o => { o with sampled := some d.pip, probeN := 3 }).wn (Reg.OUT_CP_STATUS n) 0).setO n fun o => { o with probeN := 0 }).fld (Reg.OUT_STATE n) 31 24 ≠ 13) := by
    rw [Dev.fld, rd_setO, rd_wn_other _ _ (state_ne_cpStatus n)]
    exact hreason
  rw [hprobe, Dev.probeSample, if_neg hnow, hthree]
  simp only [o_setO_same, if_true, if_pos hshown]

/-- Settles O18. -/
theorem pilotEventsComplete : Obligations.PilotEventsComplete := by
  have hstate : ∀ (d : Dev) (n : Fin 32) (c : Nat), (d.wn (Reg.OUT_CP_STATUS n) c).ost n = d.ost n := fun d n c => ost_wn_other (state_ne_cpStatus n)
  refine fun n => ⟨fun c hlo hhi => acts_when (fun _ => rfl) fun d ⟨hs, hst, hplug⟩ => ⟨hs.1, ?_⟩, acts_when (fun _ => rfl) fun d ⟨hs, hst⟩ => ⟨hs.1, ?_⟩, acts_when (fun _ => rfl) fun d ⟨hs, hst⟩ => ⟨hs.1, ?_⟩,
    acts_when (fun _ => rfl) fun d ⟨hs, hst⟩ => ⟨hs.1, ?_⟩, fun c hc => acts_when (fun _ => rfl) fun d ⟨hs, hst⟩ => ⟨hs.1, ?_⟩,
    fun code => acts_when (fun _ => rfl) fun d ⟨hrun, hst, hdue, hpip⟩ => ⟨hrun, if_pos (by simp [hst, hdue, hpip])⟩,
    fun hi start => acts_when (fun _ => rfl) fun d ⟨hrun, hst, hdue, hfrom, hpip, hnew, htwo, hband, hreason⟩ => ⟨hrun, faultProbe_third hst hdue hfrom hpip hnew htwo hband hreason⟩,
    acts_when (fun _ => rfl) fun d ⟨hrun, hst, hsince⟩ => ⟨hrun, if_pos (by simp [hst, hsince])⟩⟩
  · rw [pilotAccepted_eq hs, pilotRow_idle _ ((hstate d n c).trans hst) ⟨hlo, hhi⟩ hplug]
  · rw [pilotAccepted_eq hs, pilotRow_plugged _ ((hstate d n 0).trans hst)]
  · rw [pilotAccepted_eq hs, pilotRow_link _ (by rwa [hstate])]
  · rw [pilotAccepted_eq hs, pilotRow_energy _ ((hstate d n 0).trans hst)]
  · rw [pilotAccepted_eq hs, pilotRow_energy_bad _ ((hstate d n c).trans hst) hc]

/-! ### Link, payment and authorisation (R123, R124, R129, R137) -/

/-- A link that comes up with no protocol in common, or with one that the module can carry out, is negotiated. -/
theorem linkIsUp_negotiates {d : Dev} {n : Nat} {offered : List Nat} (hst : d.ost n = .linking) (h : wanted d n offered = none ∨ (gotten d n offered).isSome = true) :
    d.linkIsUp n offered =
      let p := gotten d n offered
      let e := (tried d n offered).setFld (Reg.OUT_STATE n) 11 8 (p.getD 0)
      (e.setO n fun o => { o with linkUp := true, tls := if p = some 3 then e.tlsReady 0 else decide (p = some 4), linkDue := none }).goto n .negotiating := by
  have hgo : ¬ ((wanted d n offered).isSome && (gotten d n offered).isNone) = true := by
    rcases h with h | h
    · simp [h]
    · simp [Option.isNone_eq_false_iff.2 h]
  exact (if_pos hst).trans (if_neg hgo)

theorem linkIsUp_tries {d : Dev} {n : Nat} {offered : List Nat} (hst : d.ost n = .linking) (hw : (wanted d n offered).isSome = true) (hg : gotten d n offered = none) :
    d.linkIsUp n offered = tried d n offered := by
  have hstop : ((wanted d n offered).isSome && (gotten d n offered).isNone) = true := by rw [hw, hg]; rfl
  exact (if_pos hst).trans (if_pos hstop)

theorem preauthExpiry_eq (d : Dev) (n : Nat) : d.preauthExpiry n =
    if (d.o n).preauth.any (fun x => x.2 < d.pip) = true then (d.setO n fun o => { o with preauth := none }).outRecBy n 3 (d.ost n).code (d.ost n).code 0 4 (d.sessionId n) [] else d := by
  unfold Dev.preauthExpiry
  rcases (d.o n).preauth with _ | ⟨i, t⟩
  · rfl
  · simp only [Option.any_some, decide_eq_true_eq]

theorem paymentSelected_contract {d : Dev} {n : Nat} (hst : d.ost n = .negotiating) (emaid : Bytes) :
    d.paymentSelected n (some emaid) = if (d.startAuth n).fld (Reg.OUT_STATE n) 11 8 = 2 ∨ ((d.startAuth n).o n).tls = false then d.startAuth n
      else (d.startAuth n).present n { kind := 2, len := 10, bytes := (Config.sha256 emaid).take 10, acct := 0xFFFF } 2 := by
  simp [Dev.paymentSelected, hst]

/-- Settles O19. -/
theorem authorisationEventsComplete : Obligations.AuthorisationEventsComplete := by
  refine fun n => ⟨fun offered => acts_when (fun _ => rfl) fun d ⟨hrun, hst, h⟩ => ⟨hrun, linkIsUp_negotiates hst h⟩,
    fun offered => acts_when (fun _ => rfl) fun d ⟨hrun, hst, hw, hg⟩ => ⟨hrun, linkIsUp_tries hst hw hg⟩,
    acts_when (fun _ => rfl) fun d ⟨hrun, hst, hdue, hcfg⟩ => ⟨hrun, ?timerFault⟩,
    acts_when (fun _ => rfl) fun d ⟨hrun, hst, hdue, htype, hcfg⟩ => ⟨hrun, ?timerFallback⟩,
    acts_when (fun _ => rfl) fun d ⟨hrun, hst⟩ => ⟨hrun, if_pos hst⟩,
    fun emaid => acts_when (fun _ => rfl) fun d ⟨hrun, hst⟩ => ⟨hrun, paymentSelected_contract hst emaid⟩,
    acts_when (fun _ => rfl) fun d ⟨hrun, hst, hnone⟩ => ⟨hrun, if_pos (by simp [hst, hnone])⟩,
    acts_when (fun _ => rfl) fun d ⟨hrun, hst, hwait, hdue⟩ => ⟨hrun, if_pos (by simp [hst, hwait, hdue])⟩,
    acts_when (fun _ => rfl) fun d ⟨hrun, honline, hwatch⟩ => ⟨hrun, if_pos (by simp [Dev.hostOnline, honline, hwatch])⟩,
    acts_when (fun _ => rfl) fun d hrun => ⟨hrun, foldl_step_congr (fun d m => preauthExpiry_eq d m) _ _⟩,
    acts_when (fun _ => rfl) fun d ⟨hrun, hexpired⟩ => ⟨hrun, ?floating⟩,
    acts_when (fun _ => rfl) fun d ⟨hrun, hup, hproto⟩ => ⟨hrun, if_pos (by simp [hup, hproto])⟩⟩
  case timerFault =>
    rw [Dev.linkTimer, if_pos (by simp [hst, hdue]), if_neg]
    rcases hcfg with hcfg | hcfg <;> simp [hcfg]
  case timerFallback => rw [Dev.linkTimer, if_pos (by simp [hst, hdue]), if_pos (by simp [htype, hcfg])]
  case floating =>
    obtain ⟨⟨i, t⟩, hfloat⟩ : ∃ x, d.out.floating = some x := Option.isSome_iff_exists.1 (by cases hf : d.out.floating <;> simp [hf] at hexpired ⊢)
    rw [Dev.floatingExpiry, hfloat]
    exact if_pos (by simpa [hfloat] using hexpired)

/-! ### The power path (R124, R130, R131) -/

theorem rampdown_of_reason (d : Dev) (n : Nat) {r : Nat} (h : r ≠ 0) : d.rampdown n r = ((d.outReason n r).zeroAndRamp n).goto n .rampdown := by rw [Dev.rampdown, if_neg h]

/-- A reason given to an outlet is the reason it shows. -/
theorem fld_outReason (d : Dev) (n : Nat) {r : Nat} (hr : r < 256) : (d.outReason n r).fld (Reg.OUT_STATE n) 31 24 = r := by
  rw [Dev.fld, Dev.outReason, Dev.setFld, Dev.rd_wr_same, wfld, wput, wfld]
  have := (d.rd (Reg.OUT_STATE n)).isLt
  simp only [word, BitVec.toNat_ofNat]
  omega

/-- A choice within a choice, with one other branch. -/
theorem ite_ite_same {α : Type} (p q : Prop) [Decidable p] [Decidable q] (a b : α) : (if p then if q then a else b else b) = if p ∧ q then a else b := by
  by_cases hp : p
  · by_cases hq : q
    · rw [if_pos hp, if_pos hq, if_pos ⟨hp, hq⟩]
    · rw [if_pos hp, if_neg hq, if_neg fun h => hq h.2]
  · rw [if_neg hp, if_neg fun h => hp h.1]

theorem pmTimeout_eq (d : Dev) (t : Nat) : d.pmTimeout t =
    let n := d.fld (Reg.OUT_TPL_CFG t) 24 20
    if d.rbit (Reg.OUT_TPL_CFG t) 31 = true ∧ d.rbit (Reg.OUT_TPL_CFG t) 30 = true ∧ (tget Tpl.reset d.out.tpls t).last + d.fld (Reg.OUT_TPL_CFG t) 11 0 ≤ d.pip ∧
      (d.ost n = .energy ∨ d.ost n = .precharge ∨ d.ost n = .cableCheck) then d.rampdown n 7 else d := by
  simp only [Dev.pmTimeout, Dev.pmStop, Bool.and_eq_true, Bool.or_eq_true, decide_eq_true_eq, ← and_assoc, or_assoc]
  exact ite_ite_same _ _ _ _

/-- Settles O20. -/
theorem powerPathEventsComplete : Obligations.PowerPathEventsComplete := by
  refine fun n => ⟨acts_when (fun _ => rfl) fun d ⟨hrun, hst, hdue⟩ => ⟨hrun, (if_pos (by simp [hst, hdue])).trans (rampdown_of_reason _ _ (by decide))⟩,
    acts_when (fun _ => rfl) fun d ⟨hrun, hst, hdue⟩ => ⟨hrun, (if_pos (by simp [hst, hdue])).trans (rampdown_of_reason _ _ (by decide))⟩,
    fun bpt => acts_when (fun _ => rfl) fun d ⟨hrun, hst, hmet⟩ => ⟨hrun, if_pos (by simp [hst, hmet])⟩,
    acts_when (fun _ => rfl) fun d ⟨hrun, hst⟩ => ⟨hrun, if_pos hst⟩,
    acts_when (fun _ => rfl) fun d ⟨hrun, hst⟩ => ⟨hrun, by rw [Dev.protocolError, hst]⟩,
    acts_when (fun _ => rfl) fun d ⟨hrun, hst⟩ => ⟨hrun, by rw [Dev.protocolError, hst]; exact rampdown_of_reason _ _ (by decide)⟩,
    acts_when (fun _ => rfl) fun d ⟨hrun, hst, hdue⟩ => ⟨hrun, ?weld⟩,
    fun r => acts_when (fun _ => rfl) fun d hrun => ⟨hrun, rfl⟩,
    fun f => acts_when (fun _ => rfl) fun d hrun => ⟨hrun, ?frame⟩,
    fun t => acts_when (fun _ => rfl) fun d ⟨hrun, hon, hrx, hlast⟩ => ⟨hrun, if_pos (by simp [hon, hrx, hlast])⟩,
    acts_when (fun _ => rfl) fun d hrun => ⟨hrun, foldl_step_congr (fun d t => pmTimeout_eq d t) _ _⟩⟩
  case weld => rw [Dev.weldTimeout, if_pos (by simp [hst, hdue]), Dev.closeKernel, fld_outReason _ _ (by decide)]
  case frame => simp only [Dev.canRx, Bool.and_eq_true, decide_eq_true_eq, and_assoc]

end Sys2Proof.Proofs
end

section
/-!
The events of the Kernel (O21, O22, O23, O24).
-/
namespace Sys2Proof.Proofs
open Sys2Proof.Machine Sys2Proof.Claims Sys2Proof.Laws

theorem kernDo_congr {d : Dev} {f g : Kernel → Kernel} (h : f d.kern = g d.kern) : d.kernDo f = d.kernDo g := by rw [Dev.kernDo, h, Dev.kernDo]

/-- A step of the Kernel acts where its function does. -/
theorem acts_kern {i : Instr} {good : Dev → Prop} {f g : Dev → Kernel → Kernel} (hm : ∀ s : State, exec i s = .next (s.devStep fun d => d.kernDo (f d)))
    (hf : ∀ d, good d → f d d.kern = g d d.kern) : Acts i good fun d => d.kernDo (g d) :=
  acts_of hm fun d hd => kernDo_congr (hf d hd)

theorem latchStep_eq (s : State) (f : Dev → Dev) : s.latchStep f = latched s (f s.dev) := rfl

/-- A step of the Kernel at its latch. -/
theorem latchStep_kern {s : State} {f : Dev → Kernel → Kernel} {g : Kernel → Kernel} (h : f s.dev s.dev.kern = g s.dev.kern) : s.latchStep (fun d => d.kernDo (f d)) = latched s (s.dev.kernDo g) := by
  rw [latchStep_eq, kernDo_congr h]

/-! ### Measurement (R143 to R164, R539) -/

section
variable (k : Kernel)

theorem strobe_regular {l : Nat} (hlo : 249800 ≤ l) (hhi : l ≤ 250200) :
    k.strobe (some l) = { k with phase := wrapPhase (k.phase + (250000 - (l : Int)) / 10), strobeAge := 0, regular := k.regular + 1 } :=
  if_pos (by simp [hlo, hhi])

theorem strobe_irregular {l : Nat} (hl : l < 249800 ∨ 250200 < l) (hmode : k.mode ≠ 1) :
    k.strobe (some l) = { k with phase := wrapPhase (k.phase + (250000 - (l : Int)) / 10), strobeAge := 0, regular := 0, mode := 1, alignLost := (k.alignLost + 1) % 2 ^ 32 } := by
  rw [Kernel.strobe]
  simp only [if_neg hmode]
  exact if_neg (by simp; omega)

theorem strobe_missing (hmode : k.mode ≠ 1) : k.strobe none = { k with regular := 0, mode := 1, alignLost := (k.alignLost + 1) % 2 ^ 32 } := by
  rw [Kernel.strobe]
  simp only [if_neg hmode]

theorem noZc_eq (m pip : Nat) : k.noZc m pip =
    if (k.ch m).act.kind = 1 ∧ (k.ch m).zc.gap = false ∧ 400 ≤ (k.ch m).zc.since then
      (k.setCh m fun c => { c with noZcCnt := wrap32 (c.noZcCnt + 1), zc := { c.zc with noZc := true, gap := true, periods := [], goodRun := 0, last := none } }).audit 0x30 0 0 pip [byte m, 0, 0, 0]
    else k := by
  simp only [Kernel.noZc, Bool.and_eq_true, decide_eq_true_eq, Bool.not_eq_true', and_assoc]
  rfl

theorem streamRecovered_eq (i pip : Nat) : k.streamRecovered i pip =
    let x := if i % 2 = 0 then (k.ch (i / 2)).sv else (k.ch (i / 2)).si
    if x.stuck = true ∧ 88 < x.clean then
      (k.setCh (i / 2) fun c => if i % 2 = 0 then { c with sv := { c.sv with stuck := false, clean := 0 } } else { c with si := { c.si with stuck := false, clean := 0 } }).audit 0x32 0 0 pip [byte (i / 2), byte (i % 2), 0, 0]
    else k := by
  simp only [Kernel.streamRecovered, Bool.and_eq_true, decide_eq_true_eq]

theorem mclkFault_eq {n pip : Nat} {c : KMclk} (hc : k.mclks[n]? = some c) (hin : c.input = true) (hok : c.fault = false) :
    k.mclkFault n pip = ({ k with mclks := k.mclks.set n { c with fault := true } } : Kernel).audit 0x33 0 0 pip [byte n, 0, 0, 0] := by
  rw [Kernel.mclkFault, hc]
  exact if_pos (by simp [hin, hok])

theorem settlingEnd_eq (n : Nat) : k.settlingEnd n =
    if (k.mclks[n]?.any fun c => c.settle = 0) = true then (List.range 8).foldl (fun (k : Kernel) i => k.setCh (8 * n + i) fun c => { c with settling := false }) k else k := by
  unfold Kernel.settlingEnd
  rcases k.mclks[n]? with _ | c
  · rfl
  · simp only [Option.any_some, decide_eq_true_eq]

end

theorem kernelSample_acts (i : KSampleIn) (s : State) :
    let k := s.dev.kern
    let a := (k.advance i).timeWork (k.us / 1000000) s.dev.pip
    let found := if a.meters = true then (List.range 64).filter fun n => a.findsStuck i n else []
    let d := s.dev.kernDo fun _ => found.foldl (fun (k : Kernel) n => k.stuckAudit n s.dev.pip) (a.integrate i (k.window i.m))
    exec (.kernelSample i) s = .next (if k.nSince = 0 then latched s d else ({ s with dev := d } : State).settle) := by
  intro k a found d
  have hexec : exec (.kernelSample i) s = .next (s.latchIf (s.dev.kern.nSince = 0) fun d => d.kernDo fun k => k.sampled i d.pip) := rfl
  have hdo : s.dev.kernDo (fun k => k.sampled i s.dev.pip) = d := kernDo_congr rfl
  rw [hexec, State.latchIf, latchStep_eq, State.devStep, State.onDev, hdo]
  simp only [decide_eq_true_eq, k]

/-- Settles O21. -/
theorem measurementEventsComplete : Obligations.MeasurementEventsComplete := by
  refine ⟨kernelSample_acts, fun l hlo hhi => acts_kern (fun _ => rfl) fun d _ => strobe_regular _ hlo hhi, fun l hl => acts_kern (fun _ => rfl) fun d hmode => strobe_irregular _ hl hmode,
    acts_kern (fun _ => rfl) fun d hmode => strobe_missing _ hmode,
    acts_kern (fun _ => rfl) fun d ⟨hmode, hreg⟩ => if_pos (by simp [hmode, hreg]),
    acts_kern (fun _ => rfl) fun d ⟨hmode, hphase⟩ => if_pos (by simp [hmode, hphase]),
    acts_kern (fun _ => rfl) fun d _ => foldl_step_congr (fun k m => noZc_eq k m d.pip) _ _,
    acts_kern (fun _ => rfl) fun d _ => foldl_step_congr (fun k i => streamRecovered_eq k i d.pip) _ _,
    fun n c => acts_kern (fun _ => rfl) fun d ⟨hc, hin, hok⟩ => mclkFault_eq _ hc hin hok,
    acts_kern (fun _ => rfl) fun d _ => foldl_step_congr (fun k n => settlingEnd_eq k n) _ _,
    acts_kern (fun _ => rfl) fun d _ => rfl,
    acts_kern (fun _ => rfl) fun d ⟨hmode, hpip, hlast⟩ => if_pos (by simp [hmode, hpip, hlast]),
    acts_kern (fun _ => rfl) fun d hok => if_neg (by simp [hok])⟩

/-! ### The seal, the ledger and the power-on (R187, R194, R199, R206, R236, R538) -/

section
variable (k : Kernel)

theorem sealOpens_eq {pip : Nat} (hclosed : k.sealOpen = false) (hrun : 800 ≤ k.sealRun) : k.sealOpens pip =
    let a := { k with sealOpen := true, sealCount := min (k.sealCount + 1) 0xFFFFFFFF, sealLastPip := pip }.saveConf
    (((List.range 32).foldl (fun (k : Kernel) m => k.setCh m fun c => c.flag 0x80) a).audit 1 2 0 pip []).checkpoint pip :=
  if_pos (by simp [hclosed, hrun])

theorem sealCloses_eq {pip : Nat} (hopen : k.sealOpen = true) (hfour : 4 ≤ (k.sealWin.filter (!·)).length) : k.sealCloses pip =
    let a := ((({ k with sealOpen := false, sealRun := 0, sealLastPip := pip } : Kernel).audit 2 2 0 pip []).checkpoint pip)
    match a.fwLoad with
    | some l => ({ a with fwLoad := none } : Kernel).audit 0x40 1 0x19 pip (leN l.version 4 ++ leN l.len 4)
    | none => a :=
  if_pos (by simp [hopen, hfour])

/-- A record that fits its block and is neither a receipt nor a snapshot's last goes into the ring. -/
theorem program_fits {pip : Nat} {r : KRec} {rest : List KRec} (hbuf : k.buf = r :: rest) (hfits : k.blockUsed + r.bytes.length ≤ blockBytes) (htyp : r.typ ≠ 2) (hsnap : k.snapPend = none) :
    k.program pip = { k with buf := rest, ring := { r with block := k.blockNo } :: k.ring, blockUsed := k.blockUsed + r.bytes.length } := by
  rw [Kernel.program, hbuf]
  simp only [if_pos hfits, if_neg htyp, hsnap]

theorem checkpointDue_quarter {pip : Nat} (hpip : pip % 3600000 = 0) (hlast : k.lastCp ≠ some k.latches) : k.checkpointDue pip = { k.checkpoint pip with lastCp := some k.latches } := by
  simp [Kernel.checkpointDue, hpip, hlast]

theorem meterFault_eq {cause pip : Nat} (h : k.mfault ≠ 5) :
    k.meterFault cause pip = ({ k with signer := if k.signer = 2 then 2 else 1, mfault := cause } : Kernel).audit 0x50 0 0 pip [byte cause, 0, 0, 0] := by
  rw [Kernel.meterFault, if_neg h]

/-! The firmware slots stay as they are while records are written and channels change. -/

theorem slots_setCh (m : Nat) (f : KChan → KChan) : (k.setCh m f).slots = k.slots := rfl

theorem slots_putRec (typ chan session : Nat) (body : Bytes) (signed zero : Bool) : (k.putRec typ chan session body signed zero).slots = k.slots := rfl

theorem slots_checkpoint (pip : Nat) : (k.checkpoint pip).slots = k.slots := slots_putRec k _ _ _ _ _ _

theorem slots_addRec (typ chan session : Nat) (body : Bytes) (signed zero : Bool) : (k.addRec typ chan session body signed zero).slots = k.slots := by
  rw [Kernel.addRec]
  split
  · rw [slots_checkpoint, slots_putRec]
  · rw [slots_putRec]

theorem slots_audit (event origin result pip : Nat) (detail : Bytes) : (k.audit event origin result pip detail).slots = k.slots := slots_addRec k _ _ _ _ _ _

theorem slots_saveConf : k.saveConf.slots = k.slots := by
  rw [Kernel.saveConf]
  split <;> rfl

theorem slots_snapshots (kind : Nat) (us : Int) (pip flags : Nat) : (k.snapshots kind us pip flags).slots = k.slots := by
  refine foldl_same Kernel.slots (fun k m => ?_) _ _
  split
  · rfl
  · exact slots_addRec k _ _ _ _ _ _

theorem slots_setChs (f : Nat → KChan → KChan) (l : List Nat) : (l.foldl (fun (k : Kernel) m => k.setCh m (f m)) k).slots = k.slots :=
  foldl_same Kernel.slots (fun k m => slots_setCh k m (f m)) l k

theorem slots_billOccurrence (day : Int) (minute : Nat) (us : Int) (pip : Nat) : (k.billOccurrence day minute us pip).slots = k.slots := by
  rw [Kernel.billOccurrence]
  split
  · rw [slots_saveConf, slots_setChs]
    dsimp only
    rw [slots_snapshots]
  · rw [slots_audit]

theorem slots_openInterval (m : Nat) (us : Int) (pip flags : Nat) : (k.openInterval m us pip flags).slots = k.slots := by
  unfold Kernel.openInterval
  extract_lets c
  split
  · rfl
  · split
    rw [slots_setCh]

theorem slots_openAll (us : Int) (pip flags : Nat) : (k.openAll us pip flags).slots = k.slots := by
  rw [Kernel.openAll, foldl_same Kernel.slots fun k m => slots_openInterval k m us pip flags]

theorem slots_clear : k.clear.slots = k.slots := by
  have hdrop : k.dropBuf.slots = k.slots := by
    rw [Kernel.dropBuf]
    split <;> rfl
  exact hdrop

theorem slots_restored (pip : Nat) (us : Int) (kept : Bool) : (restored k pip us kept).slots = k.slots := by
  unfold restored
  extract_lets s now a b c e f h
  have hb : b.slots = a.slots := by
    simp only [b]
    exact foldl_same Kernel.slots (fun k m => slots_setCh k m _) _ _
  have hc : c.slots = b.slots := by
    have hfold : ∀ e : Kernel, (List.foldl (fun (k : Kernel) m => k.setCh m fun c => { c with balBase := c.net }) e (List.range 32)).slots = e.slots := foldl_same Kernel.slots (fun k m => slots_setCh k m _) _
    exact hfold b
  have he : e.slots = c.slots := by simp only [e, slots_checkpoint]
  have hf : f.slots = e.slots := by
    simp only [f]
    split
    · rfl
    · rw [slots_audit, foldl_same Kernel.slots (fun k o => slots_billOccurrence k _ _ _ _)]
      dsimp only
      rw [slots_addRec]
  have hh : h.slots = k.slots := hf.trans (he.trans (hc.trans hb))
  rw [slots_openAll]
  split
  · rw [slots_audit, ← hh]
  · exact hh

theorem restore_eq (pip : Nat) (us : Int) (kept : Bool) : k.restore pip (pip + 1) us kept = restored k pip us kept := by
  unfold Kernel.restore restored
  extract_lets s now complete out k1 k2 k3 k4 k5 k6 k7 k8 k9 a b c e f h
  have hunit : accUnit = 2 ^ 40 := rfl
  have ha : k2 = a := rfl
  have hb : k3 = b := by
    simp only [k3, b, ha, KChan.restore, hunit]
  have hc : k4 = c := by simp only [k4, c, hb]
  have he : k6 = e := by simp only [k6, k5, e, hc, hunit]
  have hf : k7 = f := by
    simp only [k7, f, he, out]
    rfl
  have hh : k8 = h := by simp only [k8, h, hf]
  simp only [k9, hh, Bool.and_eq_true, decide_eq_true_eq]

end

/-- Settles O22. -/
theorem ledgerEventsComplete : Obligations.LedgerEventsComplete := by
  refine ⟨acts_kern (fun _ => rfl) fun d ⟨hclosed, hrun⟩ => sealOpens_eq _ hclosed hrun, acts_kern (fun _ => rfl) fun d ⟨hopen, hfour⟩ => sealCloses_eq _ hopen hfour,
    fun r rest => acts_kern (fun _ => rfl) fun d ⟨hbuf, hfits, htyp, hsnap⟩ => program_fits _ hbuf hfits htyp hsnap,
    acts_kern (fun _ => rfl) fun d ⟨hpip, hlast⟩ => checkpointDue_quarter _ hpip hlast,
    fun c => acts_kern (fun _ => rfl) fun d hok => meterFault_eq _ hok,
    acts_kern (fun _ => rfl) fun d _ => rfl,
    fun us kept s0 s1 => acts_kern (fun _ => rfl) fun d _ => ?_⟩
  unfold Kernel.powerOn
  extract_lets ok want other boot run k1 k2 k3 ok' boot' a b
  have hb : k3 = b := restore_eq k2 d.pip us kept
  have hboot : boot' = boot := rfl
  have hslots : b.slots = d.kern.slots := (slots_restored a _ _ _).trans (slots_clear d.kern)
  rw [hb, hboot, hslots] <;> rfl

/-! ### Legal time and the queue (R184, R214, R225, R234) -/

section
variable {k : Kernel} {pip : Nat}

/-! Closing the intervals leaves the tariff as it is. -/

theorem tariff_setCh (m : Nat) (f : KChan → KChan) : (k.setCh m f).tariff = k.tariff := rfl

theorem tariff_putRec (typ chan session : Nat) (body : Bytes) (signed zero : Bool) : (k.putRec typ chan session body signed zero).tariff = k.tariff := rfl

theorem tariff_addRec (typ chan session : Nat) (body : Bytes) (signed zero : Bool) : (k.addRec typ chan session body signed zero).tariff = k.tariff := by
  rw [Kernel.addRec]
  split
  · rw [Kernel.checkpoint, tariff_putRec, tariff_putRec]
  · rw [tariff_putRec]

theorem tariff_closeInterval (m : Nat) (us : Int) (extra : Nat) : (k.closeInterval m us pip extra).tariff = k.tariff := by
  unfold Kernel.closeInterval
  split
  · rfl
  · split
    dsimp only
    rw [tariff_setCh]
    split
    · rw [tariff_addRec, tariff_addRec]
    · rw [tariff_addRec]

theorem tariff_closeAll (us : Int) (extra : Nat) : (k.closeAll us pip extra).tariff = k.tariff := by
  rw [Kernel.closeAll, foldl_same Kernel.tariff fun k m => tariff_closeInterval m us extra]

theorem intervalBoundary_passes (hon : k.pfail = false) (h : k.lastBoundary < k.tariff.boundaryAt k.utc) : k.intervalBoundary pip = boundaryPassed k (k.tariff.boundaryAt k.utc) pip := by
  have hgo : ¬ (k.tariff.boundaryAt k.utc ≤ k.lastBoundary || k.pfail) = true := by simp [hon, h]
  unfold Kernel.intervalBoundary
  extract_lets b us closed loc minute billed active opened
  rw [if_neg hgo]
  have hloc : loc = k.tariff.localSec b := by simp only [loc, closed, tariff_closeAll]
  simp only [opened, active, billed, minute, hloc]
  rfl

theorem intervalBoundary_eq (hon : k.pfail = false) : k.intervalBoundary pip = if k.lastBoundary < k.tariff.boundaryAt k.utc then boundaryPassed k (k.tariff.boundaryAt k.utc) pip else k := by
  by_cases h : k.lastBoundary < k.tariff.boundaryAt k.utc
  · rw [if_pos h, intervalBoundary_passes hon h]
  · rw [if_neg h]
    exact if_pos (by simp [Int.not_lt.1 h])

theorem offsetChange_eq (hon : k.pfail = false) (hchange : (k.tariff.changes.any fun c => c.1 = k.utc) = true) :
    k.offsetChange pip =
      let b := k.tariff.boundaryAt k.utc
      let a := if k.lastBoundary < b then boundaryPassed k b pip else k
      let t := a.tariff.tariffAt k.utc
      if t = a.tariffNow then a else a.setTariff t true := by
  rw [Kernel.offsetChange, if_pos (by simp [hon, hchange]), intervalBoundary_eq hon]
  rfl

theorem slewStep_forward (hslew : 0 < k.slew) (htick : k.slewTick + 8 ≤ k.sampleNo) : k.slewStep = { k with us := k.us + 1, slew := k.slew - 1, slewTick := k.sampleNo } := by
  rw [Kernel.slewStep, if_pos (by simp [htick]; omega)]
  simp only [if_pos hslew]

theorem slewStep_back (hslew : k.slew < 0) (htick : k.slewTick + 8 ≤ k.sampleNo) : k.slewStep = { k with us := k.us - 1, slew := k.slew + 1, slewTick := k.sampleNo } := by
  have hneg : ¬ 0 < k.slew := by omega
  rw [Kernel.slewStep, if_pos (by simp [htick]; omega)]
  simp only [if_neg hneg]
  rfl

theorem executeNext_host {op id t : Nat} {p : Bytes} {rest : List KCmd} (hq : k.inbox = .host op p id t :: rest) (ht : t < k.latches) :
    k.executeNext pip =
      let r := ({ k with inbox := rest } : Kernel).command op p pip
      { r.1 with done := r.1.done ++ [(id, r.2.1, r.2.2)] } := by
  rw [Kernel.executeNext, hq]
  exact if_pos ht

theorem executeNext_open {n id t : Nat} {rest : List KCmd} (hq : k.inbox = .sessOpen n id t :: rest) (ht : t < k.latches) : k.executeNext pip = ({ k with inbox := rest } : Kernel).sessionOpen n n id pip := by
  rw [Kernel.executeNext, hq]
  exact if_pos ht

theorem executeNext_close {n t : Nat} {forced : Bool} {rest : List KCmd} (hq : k.inbox = .sessClose n forced t :: rest) (ht : t < k.latches) :
    k.executeNext pip = ({ k with inbox := rest } : Kernel).sessionClose n pip (if forced then 0x200 else 0) k.now false := by
  rw [Kernel.executeNext, hq]
  exact if_pos ht

theorem executeNext_break {n v t : Nat} {rest : List KCmd} (hq : k.inbox = .iBreak n v t :: rest) (ht : t < k.latches) : k.executeNext pip = ({ k with inbox := rest } : Kernel).takeBreak n v := by
  rw [Kernel.executeNext, hq]
  exact if_pos ht

theorem sessionOpen_ok {m outlet id : Nat} (h : k.inSession m = false) : k.sessionOpen m outlet id pip =
    let o := k.outAcc m
    let fl := (if k.sealOpen = true then 0x80 else 0) ||| (if ((k.ch m).sv.stuck || (k.ch m).si.stuck || (k.ch m).settling) = true then 0x100 else 0)
    let x : KSession := { id := id, outlet := outlet, startUs := k.now, startOfs := k.ofs k.now, startPip := pip, imp0 := mwh o.1, exp0 := mwh o.2, impAcc := o.1, expAcc := o.2, tImp0 := (k.ch m).tImp, tExp0 := (k.ch m).tExp, tariff0 := k.tariffNow, switches := 0, flags := fl }
    let a := k.setCh m fun c => { c with session := some x }
    if a.gang m = true then (a.setCh (m + 1) fun c => { c with gangSession := id }).setCh (m + 2) fun c => { c with gangSession := id } else a :=
  if_neg (by simp [h])

theorem sessionOpen_refused {m outlet id : Nat} (h : k.inSession m = true) : k.sessionOpen m outlet id pip = { k with refusedCnt := wrap32 (k.refusedCnt + 1) } := if_pos h

theorem sessionClose_refused {m extra : Nat} {us : Int} {zero : Bool} (h : (k.ch m).session = none) : k.sessionClose m pip extra us zero = { k with refusedCnt := wrap32 (k.refusedCnt + 1) } := by
  rw [Kernel.sessionClose, h]

theorem sessionClose_ok {m extra : Nat} {us : Int} {zero : Bool} {x : KSession} (h : (k.ch m).session = some x) : k.sessionClose m pip extra us zero =
    let o := k.outAcc m
    let both := if 1000 * 2 ^ 40 ≤ o.1 - x.impAcc ∧ 1000 * 2 ^ 40 ≤ o.2 - x.expAcc then 4 else 0
    let body := elem 0x10 ((List.range 12).map Config.serial) ++ elem 0x11 [byte x.outlet, byte m, byte (if k.gang m = true then 3 else 1), byte (k.ch m).act.role]
      ++ elem 0x12 (leN x.id 8) ++ elem 0x13 (timeVal x.startUs x.startOfs) ++ elem 0x14 (timeVal us (k.ofs us)) ++ elem 0x15 (leN x.startPip 8) ++ elem 0x16 (leN pip 8)
      ++ elem 0x17 (leN x.imp0 8 ++ leN (mwh o.1) 8) ++ elem 0x18 (leN x.exp0 8 ++ leN (mwh o.2) 8) ++ k.tariffElem x.tariff0 x.switches
      ++ elem 0x1A (leN (x.flags ||| extra ||| both ||| k.signFlags) 4) ++ elem 0x1B (leN k.sealCount 4)
    let a := (k.addRec 2 m x.id body true zero).setCh m fun c => { c with session := none, lastReceipt := k.head + 1, closeImp := c.tImp, closeExp := c.tExp, closeReg := mwh o.1 }
    (a.setCh (m + 1) fun c => if c.gangSession = x.id then { c with gangSession := 0 } else c).setCh (m + 2) fun c => if c.gangSession = x.id then { c with gangSession := 0 } else c := by
  have hunit : accUnit = 2 ^ 40 := rfl
  rw [Kernel.sessionClose, h]
  simp only [hunit, Bool.and_eq_true, decide_eq_true_eq] <;> rfl

end

/-- Settles O23. -/
theorem legalTimeEventsComplete : Obligations.LegalTimeEventsComplete := by
  refine ⟨fun s hon hchange => ?_, acts_kern (fun _ => rfl) fun d ⟨hslew, htick⟩ => slewStep_forward hslew htick, acts_kern (fun _ => rfl) fun d ⟨hslew, htick⟩ => slewStep_back hslew htick,
    fun s hon hlast => ?_, fun s op p id t rest hq ht => ?_, fun s n id t rest hq ht hfree => ?_, fun s n id t rest hq ht hbusy => ?_, fun s n t forced rest hq ht hnone => ?_,
    fun s n t forced rest x hq ht hsome => ?_, fun s n v t rest hq ht => ?_⟩
  · exact congrArg Host.Outcome.next (latchStep_kern (offsetChange_eq hon hchange))
  · exact congrArg Host.Outcome.next (latchStep_kern ((intervalBoundary_eq hon).trans (if_pos hlast)))
  · exact congrArg Host.Outcome.next (latchStep_kern (executeNext_host hq ht))
  · exact congrArg Host.Outcome.next (latchStep_kern ((executeNext_open hq ht).trans (sessionOpen_ok hfree)))
  · exact congrArg Host.Outcome.next (latchStep_kern ((executeNext_open hq ht).trans (sessionOpen_refused hbusy)))
  · exact congrArg Host.Outcome.next (latchStep_kern ((executeNext_close hq ht).trans (sessionClose_refused hnone)))
  · exact congrArg Host.Outcome.next (latchStep_kern ((executeNext_close hq ht).trans (sessionClose_ok hsome)))
  · exact congrArg Host.Outcome.next (latchStep_kern (executeNext_break hq ht))

/-! ### The session task's commands to the Kernel (R175, R184) -/

/-- Settles O24. -/
theorem kernelSessionEventsComplete : Obligations.KernelSessionEventsComplete :=
  fun n => ⟨acts_of (fun _ => rfl) fun d ⟨hrun, hactive, hwant⟩ => if_pos (by simp [hrun, hactive, hwant]),
    acts_of (fun _ => rfl) fun d ⟨hrun, htwin, hwant⟩ => if_pos (by simp [hrun, htwin, hwant]),
    acts_of (fun _ => rfl) fun d ⟨hrun, hactive⟩ => if_neg (by simp [hrun, hactive])⟩

end Sys2Proof.Proofs
end

section
/-!
The events of the load switches (O25).
-/
namespace Sys2Proof.Proofs
open Sys2Proof.Machine Sys2Proof.Claims Sys2Proof.Laws

/-! ### The state field of a channel beside its flags -/

/-- A bit above the field [2:0] leaves the field. -/
theorem fld_setBit_low {d : Dev} {a i : Nat} (b : Bool) (hi : 3 ≤ i) : (d.setBit a i b).fld a 2 0 = d.fld a 2 0 := by
  have hbit : (1#32 <<< i).toNat % 2 ^ 3 = 0 := by
    have h8 : (8 : Nat) ∣ 2 ^ i := Nat.pow_dvd_pow 2 hi
    simp only [BitVec.toNat_shiftLeft, Nat.shiftLeft_eq, BitVec.toNat_ofNat]
    rw [Nat.mod_mod_of_dvd _ (by decide)]
    simpa using Nat.mod_eq_zero_of_dvd h8
  have hnot : (~~~(1#32 <<< i)).toNat % 2 ^ 3 = 7 := by
    have := (1#32 <<< i).isLt
    rw [BitVec.toNat_not]
    omega
  rw [Dev.fld, Dev.fld, Dev.setBit, Dev.rd_wr_same, wfld, wfld]
  cases b
  · have hlow := Nat.and_mod_two_pow (a := (d.rd a).toNat) (b := (~~~(1#32 <<< i)).toNat) (n := 3)
    rw [hnot] at hlow
    simp only [Bool.false_eq_true, if_false, BitVec.toNat_and, Nat.pow_zero, Nat.div_one]
    exact hlow.trans (by rw [show 7 = 2 ^ 3 - 1 from rfl, Nat.and_two_pow_sub_one_eq_mod, Nat.mod_mod])
  · have hlow := Nat.or_mod_two_pow (a := (d.rd a).toNat) (b := (1#32 <<< i).toNat) (n := 3)
    rw [hbit, Nat.or_zero] at hlow
    simpa only [if_true, BitVec.toNat_or, Nat.pow_zero, Nat.div_one] using hlow

theorem lst_setBit_latch (d : Dev) (ch : Nat) (b : Bool) : (d.setBit (Reg.LSW_CH_STATUS ch) 13 b).lst ch = d.lst ch := fld_setBit_low b (by decide)

theorem status_ne_event (ch : Nat) : Reg.LSW_CH_STATUS ch ≠ Reg.LSW_CH_EVENT ch := by
  unfold Reg.LSW_CH_STATUS Reg.LSW_CH_EVENT
  omega

theorem lst_raise_event (d : Dev) (ch m : Nat) : (d.raise (Reg.LSW_CH_EVENT ch) m).lst ch = d.lst ch := by
  rw [Dev.lst, Dev.lst, Dev.fld, Dev.fld, Dev.raise, Dev.rd_wr_other _ _ (status_ne_event ch)]

/-! ### The frame of the pip and its watchdog (R370, R385, R388) -/

section
variable {d : Dev} {f : DieIn} {meas : List (Fin 80 × Nat × Int)}

/-- The die takes frames. -/
theorem dieFrame_eq (hr : d.sys.inReset = false) (hboot : d.mode ≠ .boot) (hsprout : d.mode ≠ .sprout) (h0 : d.domainRuns 0 = true) (h4 : d.domainRuns 4 = true)
    (hpause : d.frameValid f = true → (d.switchFrame f meas).fwu.pauseFrom = none) :
    d.dieFrame f meas = (if (d.frameValid f && due (d.switchFrame f meas).sys.resetReq (d.switchFrame f meas).pip && decide ((d.switchFrame f meas).sys.resetCause = 6)) = true
      then (d.switchFrame f meas).armActHold else d.switchFrame f meas).resetDue := by
  have hgo : ¬ (d.sys.inReset || d.mode == .boot || d.mode == .sprout || !d.domainRuns 0 || !d.domainRuns 4) = true := by simp [hr, hboot, hsprout, h0, h4]
  unfold Dev.dieFrame
  rw [if_neg hgo]
  extract_lets good e took t
  have ht : t = e := by
    simp only [t]
    split
    · next p hp =>
      have hbad : good = false := by
        rw [← Bool.not_eq_true]
        intro hgood
        rw [hpause hgood] at hp
        cases hp
      rw [if_neg (by simp [hbad])]
    · rfl
  rw [ht]

/-- A frame that is not valid leaves its measurements and is counted. -/
theorem switchFrame_invalid (h : d.frameValid f = false) : d.switchFrame f meas =
    ((meas.foldl (fun (d : Dev) m => d.wn (Reg.LSW_CH_MEAS m.1.val) (ofSigned 16 m.2.2 * 65536 + min m.2.1 (d.currentLimit m.1.val) % 65536)) d).inc Reg.LSW_FRAME_ERR_CNT).raise Reg.LSW_EVENT 8 := by
  have hseq : ∀ (l : List (Fin 80 × Nat × Int)) (e : Dev), (l.foldl (fun (d : Dev) m => d.wn (Reg.LSW_CH_MEAS m.1.val) (ofSigned 16 m.2.2 * 65536 + min m.2.1 (d.currentLimit m.1.val) % 65536)) e).frameValid f = e.frameValid f :=
    foldl_same (fun d : Dev => d.frameValid f) fun _ _ => rfl
  exact if_pos (by rw [hseq, h]; rfl)

theorem failSafe_eq (d : Dev) : d.failSafe = (List.range 80).foldl (fun (d : Dev) ch =>
      let e := d.setBit (Reg.LSW_CH_STATUS ch) 14 true
      if e.fld (Reg.LSW_CH_CFG ch) 31 30 = 0 then e.lswTarget ch false false else if e.fld (Reg.LSW_CH_CFG ch) 31 30 = 1 then e.lswTarget ch true false else e)
      (((d.setBit Reg.LSW_STATUS 3 true).inc Reg.LSW_FAILSAFE_CNT).raise Reg.LSW_EVENT 4) := by
  refine foldl_step_congr (fun d ch => ?_) _ _
  generalize (d.setBit (Reg.LSW_CH_STATUS ch) 14 true) = e
  dsimp only
  rcases e.fld (Reg.LSW_CH_CFG ch) 31 30 with _ | _ | n <;> rfl

end

/-! ### The protection of a channel (R377 to R380, R383) -/

section
variable {d : Dev} {ch : Nat}

theorem thermalSet_off (hfree : d.latched ch = false) (hst : d.lst ch = 0 ∨ d.lst ch = 4) : d.thermalSet ch = ((d.setBit (Reg.LSW_CH_STATUS ch) 13 true).raise (Reg.LSW_CH_EVENT ch) 4).coilTrip ch := by
  have hlst : ((d.setBit (Reg.LSW_CH_STATUS ch) 13 true).raise (Reg.LSW_CH_EVENT ch) 4).lst ch = d.lst ch := by rw [lst_raise_event, lst_setBit_latch]
  rcases hst with hst | hst <;> simp [Dev.thermalSet, hfree, hlst, hst]

theorem thermalSet_on (hfree : d.latched ch = false) (hst : d.lst ch = 1) :
    d.thermalSet ch = ((((d.setBit (Reg.LSW_CH_STATUS ch) 13 true).raise (Reg.LSW_CH_EVENT ch) 4).turnOff ch 2).inc (Reg.LSW_CH_THERM_CNT ch)).coilTrip ch := by
  have hlst : ((d.setBit (Reg.LSW_CH_STATUS ch) 13 true).raise (Reg.LSW_CH_EVENT ch) 4).lst ch = d.lst ch := by rw [lst_raise_event, lst_setBit_latch]
  simp [Dev.thermalSet, hfree, hlst, hst]

theorem thermalSet_waiting {t : Nat} (hfree : d.latched ch = false) (hst : d.lst ch = 3) (hback : (d.l ch).backAt = some t) :
    d.thermalSet ch = ((((d.setBit (Reg.LSW_CH_STATUS ch) 13 true).raise (Reg.LSW_CH_EVENT ch) 4).inc (Reg.LSW_CH_THERM_CNT ch)).setL ch fun l => { l with back := l.back - (d.osc - t), backAt := none }).coilTrip ch := by
  have hlst : ((d.setBit (Reg.LSW_CH_STATUS ch) 13 true).raise (Reg.LSW_CH_EVENT ch) 4).lst ch = d.lst ch := by rw [lst_raise_event, lst_setBit_latch]
  have hl : (((d.setBit (Reg.LSW_CH_STATUS ch) 13 true).raise (Reg.LSW_CH_EVENT ch) 4).inc (Reg.LSW_CH_THERM_CNT ch)).l ch = d.l ch := rfl
  simp only [Dev.thermalSet, hfree, hlst, hst, Bool.false_eq_true, if_false]
  rw [Dev.setL, hl, hback, Dev.setL, hl]
  rfl

theorem thermalClear_waiting (hst : d.lst ch = 3) (hback : (d.l ch).backAt = none) :
    d.thermalClear ch = (d.setBit (Reg.LSW_CH_STATUS ch) 13 false).setL ch fun l => { l with backAt := some d.osc } := by
  have hl : (d.setBit (Reg.LSW_CH_STATUS ch) 13 false).l ch = d.l ch := rfl
  simp only [Dev.thermalClear, lst_setBit_latch, hst]
  rw [Dev.setL, hl, hback, Dev.setL, hl]
  rfl

theorem thermalClear_untargeted (hst : d.lst ch = 2) (htgt : (d.l ch).tgt = false) : d.thermalClear ch = (d.setBit (Reg.LSW_CH_STATUS ch) 13 false).setLst ch 0 := by
  have hl : (d.setBit (Reg.LSW_CH_STATUS ch) 13 false).l ch = d.l ch := rfl
  simp [Dev.thermalClear, lst_setBit_latch, hst, hl, htgt]

theorem thermalClear_targeted (hst : d.lst ch = 2) (htgt : (d.l ch).tgt = true) (hmay : (d.setBit (Reg.LSW_CH_STATUS ch) 13 false).mayTurnOn ch = true) (hpast : d.lsw.restart.all (ch < ·) = true) :
    d.thermalClear ch = (d.setBit (Reg.LSW_CH_STATUS ch) 13 false).turnOn ch := by
  have hl : (d.setBit (Reg.LSW_CH_STATUS ch) 13 false).l ch = d.l ch := rfl
  have hrestart : (d.setBit (Reg.LSW_CH_STATUS ch) 13 false).restartPast ch = true := hpast
  simp [Dev.thermalClear, lst_setBit_latch, hst, hl, htgt, hmay, hrestart]

theorem thermalClear_idle (hst : d.lst ch = 0 ∨ d.lst ch = 1 ∨ d.lst ch = 4) : d.thermalClear ch = d.setBit (Reg.LSW_CH_STATUS ch) 13 false := by
  rcases hst with hst | hst | hst <;> simp [Dev.thermalClear, lst_setBit_latch, hst]

theorem retry_due (hst : d.lst ch = 3) (hback : (d.l ch).backAt.any (fun t => t + (d.l ch).back ≤ d.osc) = true) (hmay : d.mayTurnOn ch = true) (hpast : d.lsw.restart.all (ch < ·) = true) : d.retry ch = d.retryNow ch :=
  if_pos (by
    rw [Dev.retryDue, hst, hback, hmay, Dev.restartPast, hpast]
    rfl)

theorem overcurrent_trips {l : ChanLoad} (h : d.overTrips l = true) : d.overcurrent l =
    let e := (d.inc (Reg.LSW_CH_TRIP_CNT l.ch.val)).raise (Reg.LSW_CH_EVENT l.ch.val) 2
    let r := if 0 < e.fld (Reg.LSW_CH_STATUS l.ch.val) 27 24 then (e.turnOff l.ch.val 3).setL l.ch.val fun x => { x with back := e.backoff l.ch.val, backAt := some e.osc }
      else (((e.turnOff l.ch.val 4).inc (Reg.LSW_CH_LOCKOUT_CNT l.ch.val)).raise (Reg.LSW_CH_EVENT l.ch.val) 8).raise Reg.LSW_EVENT 1
    r.coilTrip l.ch.val :=
  if_neg (by simp [h])

end

section
variable {d : Dev}

/-- From the end of an under-voltage on, eight channels a pip restart, from channel 0 up. -/
theorem uvRestore_begins (huv : d.lswUv = true) (hgood : d.lsw.uvGood.any (fun t => t + 80 ≤ d.osc) = true) (hpip : d.lsw.restartPip ≠ d.osc) :
    d.uvRestore =
      let e := ({ d with lsw := { d.lsw with restart := some 0 } } : Dev).setBit Reg.LSW_STATUS 2 false
      let next := ((List.range 80).filter fun ch => e.restarts ch).take 8
      next.foldl (fun (d : Dev) ch => if d.mayTurnOn ch = true then (if d.lst ch = 3 then d.retryNow ch else d.turnOn ch) else d)
        { e with lsw := { e.lsw with restartPip := e.osc, restart := if next.length < 8 then none else some (next.getLastD 0 + 1) } } := by
  unfold Dev.uvRestore
  rw [if_pos (by rw [huv, hgood]; rfl)]
  have hstart : (({ d with lsw := { d.lsw with restart := some 0 } } : Dev).setBit Reg.LSW_STATUS 2 false).lsw.restart = some 0 := rfl
  have hnew : ¬ (({ d with lsw := { d.lsw with restart := some 0 } } : Dev).setBit Reg.LSW_STATUS 2 false).lsw.restartPip = (({ d with lsw := { d.lsw with restart := some 0 } } : Dev).setBit Reg.LSW_STATUS 2 false).osc := hpip
  simp only [hstart, if_neg hnew, Nat.zero_le, decide_true, Bool.true_and]

theorem uvRestore_goes_on {a : Nat} (huv : d.lswUv = false) (hfrom : d.lsw.restart = some a) (hpip : d.lsw.restartPip ≠ d.osc) :
    d.uvRestore =
      let next := ((List.range 80).filter fun ch => a ≤ ch && d.restarts ch).take 8
      next.foldl (fun (d : Dev) ch => if d.mayTurnOn ch = true then (if d.lst ch = 3 then d.retryNow ch else d.turnOn ch) else d)
        { d with lsw := { d.lsw with restartPip := d.osc, restart := if next.length < 8 then none else some (next.getLastD 0 + 1) } } := by
  unfold Dev.uvRestore
  rw [if_neg (by simp [huv])]
  simp only [hfrom, if_neg hpip]

end

/-- Settles O25. -/
theorem switchEventsComplete : Obligations.SwitchEventsComplete := by
  refine ⟨fun f meas => acts_of (fun _ => rfl) fun d ⟨hbad, hr, hboot, hsprout, h0, h4⟩ => ?invalid,
    fun f meas => acts_of (fun _ => rfl) fun d ⟨hcrc, hseq, hr, hboot, hsprout, h0, h4, hpause, hdue⟩ => ?valid,
    fun f meas => acts_of (fun _ => rfl) fun d ⟨hcrc, hseq, hr, hboot, hsprout, h0, h4, hpause, hdue, hcause⟩ => ?reset,
    acts_of (fun _ => rfl) fun d ⟨hsafe, hcfg, hhold, hlast⟩ => (if_neg (by simp [hsafe, hcfg, hhold, hlast])).trans (failSafe_eq d),
    acts_of (fun _ => rfl) fun d ⟨hdue, hcfg⟩ => ?hold,
    fun ch ma us => ⟨acts_of (fun _ => rfl) fun d ⟨hst, htrip⟩ => overcurrent_trips ?trips,
      acts_of (fun _ => rfl) fun d ⟨hst, hend⟩ => if_pos (by simp [hst, Dev.inrushTill, hend]),
      acts_of (fun _ => rfl) fun d ⟨hfree, hst⟩ => thermalSet_off hfree hst,
      acts_of (fun _ => rfl) fun d ⟨hfree, hst⟩ => thermalSet_on hfree hst,
      fun t => acts_of (fun _ => rfl) fun d ⟨hfree, hst, hback⟩ => thermalSet_waiting hfree hst hback,
      acts_of (fun _ => rfl) fun d ⟨hst, hback⟩ => thermalClear_waiting hst hback,
      acts_of (fun _ => rfl) fun d ⟨hst, htgt⟩ => thermalClear_untargeted hst htgt,
      acts_of (fun _ => rfl) fun d ⟨hst, htgt, hmay, hpast⟩ => thermalClear_targeted hst htgt hmay hpast,
      acts_of (fun _ => rfl) fun d hst => thermalClear_idle hst,
      acts_of (fun _ => rfl) fun d ⟨hst, hback, hmay, hpast⟩ => retry_due hst hback hmay hpast,
      acts_of (fun _ => rfl) fun d ⟨hst, hlong⟩ => if_pos (by simp [hst, hlong]),
      acts_of (fun _ => rfl) fun d ⟨hst, hma, hus, hon, hcoil⟩ => if_pos ?openLoad,
      acts_of (fun _ => rfl) fun d ⟨hcl, hst, hmode, hon, hdrive⟩ => ?pullIn⟩,
    acts_of (fun _ => rfl) fun d huv => if_neg (by simp [huv]),
    acts_of (fun _ => rfl) fun d ⟨huv, hgood, hpip⟩ => uvRestore_begins huv hgood hpip,
    fun a => acts_of (fun _ => rfl) fun d ⟨huv, hfrom, hpip⟩ => uvRestore_goes_on huv hfrom hpip⟩
  case invalid =>
    have hvalid : d.frameValid f = false := by rcases hbad with hbad | hbad <;> simp [Dev.frameValid, hbad]
    rw [dieFrame_eq hr hboot hsprout h0 h4 (by simp [hvalid]), switchFrame_invalid hvalid, hvalid]
    rfl
  case valid =>
    rw [dieFrame_eq hr hboot hsprout h0 h4 fun _ => hpause, hdue]
    simp
  case reset =>
    have hvalid : d.frameValid f = true := by simp [Dev.frameValid, hcrc, hseq]
    rw [dieFrame_eq hr hboot hsprout h0 h4 fun _ => hpause, hdue, hcause, hvalid]
    rfl
  case hold => 
    have hoff : (({ d with lsw := { d.lsw with holdTill := none } } : Dev).setBit Reg.LSW_STATUS 4 false).rbit Reg.LSW_CFG 0 = true := by
      rw [Dev.rbit, Dev.setBit, Dev.rd_wr_other _ _ (by decide)]
      exact hcfg
    rw [Dev.actHoldExpiry, if_pos hdue, if_pos hoff]
  case trips => simpa [Dev.overTrips, hst, and_assoc] using htrip
  case openLoad =>
    rcases hcoil with hcoil | ⟨hbit, hcfg⟩
    · simp [hst, hma, hus, Dev.loadFrom, hon, hcoil]
    · by_cases hch : ch.val < 64
      · rw [if_pos hch] at hma hon
        simp [hst, hma, hus, Dev.loadFrom, hon, Dev.coilHolds, hbit, hcfg, hch]
      · simp [hst, hma, hus, Dev.loadFrom, hon, Nat.not_lt.1 hch]
  case pullIn =>
    have hhold : d.holdDrive ch = .current (d.fld (Reg.LSW_CH_HOLD ch) 9 0) := if_neg (by simp [hdrive])
    rw [Dev.pullInEnd, if_pos (by simp [hcl, hst, hmode, hon]), hhold]

end Sys2Proof.Proofs
end

section
/-!
The events of time (O26).
-/
namespace Sys2Proof.Proofs
open Sys2Proof.Machine Sys2Proof.Claims Sys2Proof.Laws

/-! ### A measurement and the servo (R99, R103, R609) -/

theorem ptpOffset_eq (d : Dev) (m : PtpMeas) : d.ptpOffset m = delayOffset d m := by
  rw [Dev.ptpOffset, delayOffset]
  by_cases h : d.rbit Reg.TIME_PTP_CFG 9 = true
  · simp only [if_pos h]
    rfl
  · simp only [if_neg h]
    rfl

/-- A measurement with its mean path delay and offset is taken in. -/
def taken (d : Dev) (m : PtpMeas) (x : Int × Int) : Dev :=
  let e := match m.utc with
    | some u => (d.draw 1).wn Reg.TIME_UTC_OFFSET (65536 + u % 65536)
    | none => (d.draw 1).wn Reg.TIME_UTC_OFFSET 0
  let e := e.setTime fun t => { t with shown := (x.2 :: t.shown).take 16, meas := if d.time.lastStep.all (· ≤ m.began) then (x.2 :: t.meas).take 16 else t.meas }
  ((e.wi Reg.TIME_OFFSET (satSigned 32 (filtered e.time.shown e.fresh))).wn Reg.TIME_MEAN_DELAY (shownDelay x.1)).draw 1

/-- What the servo does with a measurement that has been taken in. -/
def servoActs (d : Dev) (off : Int) (counts : Bool) : Dev :=
  let small : Bool := off.natAbs ≤ d.rn Reg.TIME_JUMP_THRESH
  match d.servo with
  | .locked => if small then d.slewTo else ((d.refuseJump off).wn Reg.TIME_HOLD_PIPS 0).servoTo .holdover
  | .holdover => if small then (d.slewTo.wn Reg.TIME_HOLD_PIPS 0).servoTo .locked else d.refuseJump off
  | .start => if counts then d.acquire off else d
  | .recovery => if counts then d.acquire off else d
  | .test => if counts then d.acquire off else d

/-- The filtered offset of a list that is not empty. -/
theorem filtered_cons (a : Int) (l : List Int) (n : Nat) : filtered (a :: l) n = divOpen (((a :: l).take 4).foldl (· + ·) 0) ((a :: l).take 4).length n := by
  rw [filtered, if_neg (by simp)]

theorem satSigned_32 (i : Int) : satSigned 32 i = max (-2147483648) (min i 2147483647) := rfl

section
variable {d : Dev} {m : PtpMeas}

theorem measured_eq (d : Dev) (m : PtpMeas) : measured d m = taken d m (delayOffset d m) := by
  unfold taken
  extract_lets e0 e
  have hshown : e.time.shown = (delayOffset d m).2 :: d.time.shown.take 15 := by
    simp only [e, e0]
    rcases m.utc with _ | u <;> rfl
  have hmean : filtered e.time.shown e.fresh = divOpen ((e.time.shown.take 4).foldl (· + ·) 0) (e.time.shown.take 4).length e.fresh := by rw [hshown, filtered_cons]
  rw [hmean, satSigned_32]
  unfold measured
  simp only [e, e0]
  rcases m.utc with _ | u <;> rfl

theorem ptpMeasured_eq (h : measures (heardPtp d m) m) :
    d.ptpMeasured m = (servoActs (measured (heardPtp d m) m) (delayOffset (heardPtp d m) m).2 (d.time.lastStep.all (· ≤ m.began))).alignShow := by
  obtain ⟨hruns, heth, hcfg, hself, hlost⟩ := h
  have hgo : ¬ (!(heardPtp d m).ptpRuns || !(heardPtp d m).ethRuns || !(heardPtp d m).rbit Reg.TIME_PTP_CFG 0 || (heardPtp d m).rbit Reg.TIME_STATUS 11 || (heardPtp d m).time.lost.contains ((heardPtp d m).ptpRequest m)) = true := by
    rw [hruns, heth, hcfg, hself, hlost]
    decide
  have hbody : d.ptpMeasured m = if (!(heardPtp d m).ptpRuns || !(heardPtp d m).ethRuns || !(heardPtp d m).rbit Reg.TIME_PTP_CFG 0 || (heardPtp d m).rbit Reg.TIME_STATUS 11 || (heardPtp d m).time.lost.contains ((heardPtp d m).ptpRequest m)) = true
      then heardPtp d m else (servoActs (taken (heardPtp d m) m ((heardPtp d m).ptpOffset m)) ((heardPtp d m).ptpOffset m).2 ((heardPtp d m).time.lastStep.all (· ≤ m.began))).alignShow := rfl
  rw [hbody, if_neg hgo, ptpOffset_eq, measured_eq]
  rfl

/-- The counting of event messages leaves every register but their counters. -/
theorem rd_heardPtp {a : Nat} (h0 : a ≠ Reg.TIME_ETH_RX_EVENT 0) (h1 : a ≠ Reg.TIME_ETH_RX_EVENT 1) : (heardPtp d m).rd a = d.rd a :=
  (Dev.rd_wr_other _ _ h1).trans (Dev.rd_wr_other _ _ h0)

theorem ptpMeasured_none (h : d.ptpRuns = false ∨ d.rbit Reg.TIME_PTP_CFG 0 = false ∨ d.time.lost.contains (d.ptpRequest m) = true) : d.ptpMeasured m = heardPtp d m := by
  have hclk : (heardPtp d m).rd Reg.SYS_CLK_STATUS = d.rd Reg.SYS_CLK_STATUS := rd_heardPtp (by decide) (by decide)
  have hcfg : (heardPtp d m).rd Reg.TIME_PTP_CFG = d.rd Reg.TIME_PTP_CFG := rd_heardPtp (by decide) (by decide)
  have hdomain : ∀ i, (heardPtp d m).domainRuns i = d.domainRuns i := fun i => by rw [Dev.domainRuns, Dev.rbit, hclk, Dev.domainRuns, Dev.rbit]
  have hruns : (heardPtp d m).ptpRuns = d.ptpRuns := by
    have hmode : (heardPtp d m).mode = d.mode := by rw [Dev.mode, Dev.fld, rd_heardPtp (by decide) (by decide), Dev.mode, Dev.fld]
    rw [Dev.ptpRuns, Dev.ptpRuns, Dev.shellRuns, Dev.shellRuns, hdomain, hdomain, hdomain, hmode]
    rfl
  have hbit : ∀ i, (heardPtp d m).rbit Reg.TIME_PTP_CFG i = d.rbit Reg.TIME_PTP_CFG i := fun i => by rw [Dev.rbit, hcfg, Dev.rbit]
  have hreq : (heardPtp d m).ptpRequest m = d.ptpRequest m := by rw [Dev.ptpRequest, Dev.ptpRequest, hbit, Dev.fld, hcfg, Dev.fld]
  have hlost : (heardPtp d m).time.lost = d.time.lost := rfl
  have hstop : (!(heardPtp d m).ptpRuns || !(heardPtp d m).ethRuns || !(heardPtp d m).rbit Reg.TIME_PTP_CFG 0 || (heardPtp d m).rbit Reg.TIME_STATUS 11 || (heardPtp d m).time.lost.contains ((heardPtp d m).ptpRequest m)) = true := by
    rw [hruns, hbit, hlost, hreq]
    rcases h with h | h | h <;> rw [h] <;> simp
  exact if_pos hstop

end

section
variable {d : Dev} {off : Int}

/-- While time is acquired, a measurement that counts goes to the agreement. -/
theorem servoActs_acquires {counts : Bool} (hst : d.servo = .start ∨ d.servo = .recovery ∨ d.servo = .test) : servoActs d off counts = if counts = true then d.acquire off else d := by
  rw [servoActs]
  rcases hst with hst | hst | hst <;> rw [hst]

theorem setTime_congr {f g : TimeU → TimeU} (h : f d.time = g d.time) : d.setTime f = d.setTime g := by rw [Dev.setTime, h, Dev.setTime]

theorem acquire_waits (h : d.time.pend.isSome = true) : d.acquire off = d := if_pos h

theorem acquire_counts (hpend : d.time.pend = none) (hstep : d.time.stepped = true) (htest : d.servo ≠ .test) :
    d.acquire off =
      let run := if off.natAbs ≤ 250 then d.time.good + 1 else 0
      let e := d.setTime fun t => { t with good := run }
      if 16 ≤ run then (((e.setTime fun t => { t with everAligned := true }).servoTo .locked).alignShow).timeLog 0xFF else e := by
  rw [Dev.acquire, if_neg (by simp [hpend]), if_pos (by simp [hstep, htest])]
  rfl

theorem acquire_agrees (hpend : d.time.pend = none) (h : d.time.stepped = false ∨ d.servo = .test) :
    d.acquire off = match d.time.meas.take 4 with
      | [a, b, c, x] => if max (max a b) (max c x) - min (min a b) (min c x) ≤ 1000 then (d.setTime fun t => { t with pend := some (.agreed ((d.pip / 4000 + 1) * 4000) (-(divOpen (0 + a + b + c + x) 4 d.fresh))) }).draw 1 else d
      | _ => d := by
  have hnot : ¬ (d.time.stepped && d.servo ≠ .test) = true := by rcases h with h | h <;> simp [h]
  rw [Dev.acquire, if_neg (by simp [hpend]), if_neg hnot]
  rcases hlist : d.time.meas.take 4 with _ | ⟨a, _ | ⟨b, _ | ⟨c, _ | ⟨x, _ | ⟨y, l⟩⟩⟩⟩⟩
  case cons.cons.cons.cons.nil =>
    have hmean : filtered d.time.meas d.fresh = divOpen (0 + a + b + c + x) 4 d.fresh := by
      rw [filtered, hlist]
      rfl
    have hset : (d.setTime fun t => { t with pend := some (.agreed (nextSecond d.pip) (-(filtered t.meas d.fresh))) }) =
        d.setTime fun t => { t with pend := some (.agreed ((d.pip / 4000 + 1) * 4000) (-(divOpen (0 + a + b + c + x) 4 d.fresh))) } := setTime_congr (by rw [hmean]; rfl)
    rw [agreeing, hlist, hset]
    simp only [decide_eq_true_eq]
  all_goals
    rw [agreeing, hlist]
    rfl

end

/-! ### Steps of the time base and time stamps (R100, R105) -/

section
variable {d : Dev}

theorem pip_ite_incBy (p : Prop) [Decidable p] (a n : Nat) : (if p then d.incBy a n else d).pip = d.pip := by
  split <;> rfl

theorem tb0Step_agreed {t : Nat} {delta : Int} (hpend : d.time.pend = some (.agreed t delta)) (hdue : t ≤ d.pip) (hpip : d.pip % 4000 = 0) :
    d.tb0Step =
      let tb0 := ((d.time.tb0 : Int) + delta).toNat
      let next := pipAt (nextTb0 tb0) (d.rn Reg.TIME_PIP_OFFSET)
      let k := next - (d.pip + 1)
      let e := if next ≤ d.pip then d.incBy Reg.TIME_PIP_OFFSET (d.pip + 1 - next) else d
      (((e.setTime fun t => { t with tb0 := tb0, skip := k, pend := none, meas := [], shown := [], good := 0, lastStep := some d.pip }).renumbered d.pip delta k 0).setTime fun t => { t with stepped := true }).atBound := by
  have hnow : ¬ (d.pip < t || d.pip % 4000 ≠ 0) = true := by simp [hdue, hpip]
  unfold Dev.tb0Step
  simp only [hpend, if_neg hnow, pip_ite_incBy] <;> rfl

theorem ptpSent_queued {x : TxStamp} (hruns : d.ptpRuns = true) (hmac : x.mac.val = 0) (hroom : d.time.txts0.length < 16) :
    d.ptpSent x =
      let m := (x.typ % 16, x.domain % 256, x.seq % 65536)
      (((d.setTime fun t => { t with lost := t.lost.filter (· ≠ m), sent := m :: t.sent.filter (· ≠ m) }).inc (Reg.TIME_ETH_TX_EVENT 0)).setTime fun t =>
        { t with txts0 := d.time.txts0 ++ [leN x.sec 6 ++ leN (x.ns / 8 * 8) 4 ++ [byte (x.typ % 16), byte x.domain] ++ leN x.seq 2 ++ [0, 0]] }).wn (Reg.TIME_ETH_TXTS_LEVEL 0) (d.time.txts0.length + 1) := by
  have hfull : ¬ 16 ≤ d.time.txts0.length := by omega
  unfold Dev.ptpSent
  simp only [hmac, hruns, hfull, if_true, if_false, decide_false, Bool.not_false, Bool.and_self, Bool.false_eq_true]
  exact if_neg hfull

end

theorem servo_setTime (d : Dev) (f : TimeU → TimeU) : (d.setTime f).servo = d.servo := rfl

theorem servo_setBit {d : Dev} {i : Nat} (b : Bool) (hi : 3 ≤ i) : (d.setBit Reg.TIME_STATUS i b).servo = d.servo := by rw [Dev.servo, fld_setBit_low b hi, Dev.servo]

/-- Settles O26. -/
theorem timeEventsComplete : Obligations.TimeEventsComplete := by
  refine ⟨fun m => ⟨acts_of (fun _ => rfl) fun d ⟨hgood, hst, hsmall⟩ => ?slew, acts_of (fun _ => rfl) fun d ⟨hgood, hst, hbig⟩ => ?jump, acts_of (fun _ => rfl) fun d ⟨hgood, hst, hsmall⟩ => ?relock,
      acts_of (fun _ => rfl) fun d ⟨hgood, hst, hbig⟩ => ?refuse, acts_of (fun _ => rfl) fun d ⟨hgood, hst, hwait⟩ => ?wait, acts_of (fun _ => rfl) fun d ⟨hgood, hst, hcounts, hpend, hstep, htest⟩ => ?count,
      acts_of (fun _ => rfl) fun d ⟨hgood, hst, hcounts, hpend, hno⟩ => ?agree⟩,
    fun m => acts_of (fun _ => rfl) fun d h => ptpMeasured_none h,
    acts_when (fun _ => rfl) fun d ⟨hrun, hcfg, hslave, hst⟩ => ⟨hrun, ?timeout⟩,
    fun i => acts_when (fun _ => rfl) fun d ⟨hrun, heth, hcfg⟩ => ⟨by rw [hrun, heth, hcfg]; rfl, rfl⟩,
    acts_when (fun _ => rfl) fun d ⟨hrun, hcfg, hmaster, hservice⟩ => ⟨by rw [hrun, hcfg]; rfl, ?self⟩,
    acts_when (fun _ => rfl) fun d ⟨hrun, hst, hlimit⟩ => ⟨hrun, if_pos (by simp [hst, hlimit])⟩,
    fun s t delta hrun hpend hdue hpip => ?step,
    fun x => acts_when (fun _ => rfl) fun d ⟨heth, hrun, hptp, hmac, hroom⟩ => ⟨by rw [heth, hrun]; rfl, ptpSent_queued hptp hmac hroom⟩⟩
  case slew =>
    rw [ptpMeasured_eq hgood, servoActs, hst]
    simp only [decide_eq_true_eq, if_pos hsmall] <;> rfl
  case jump =>
    rw [ptpMeasured_eq hgood, servoActs, hst]
    simp only [decide_eq_true_eq, if_neg hbig] <;> rfl
  case relock =>
    rw [ptpMeasured_eq hgood, servoActs, hst]
    simp only [decide_eq_true_eq, if_pos hsmall] <;> rfl
  case refuse =>
    rw [ptpMeasured_eq hgood, servoActs, hst]
    simp only [decide_eq_true_eq, if_neg hbig] <;> rfl
  case wait =>
    dsimp only at hst hwait
    have hacts : servoActs (measured (heardPtp d m) m) (delayOffset (heardPtp d m) m).2 (d.time.lastStep.all (· ≤ m.began)) = measured (heardPtp d m) m := by
      rw [servoActs_acquires hst]
      rcases hwait with hlate | hpend
      · rw [hlate]
        rfl
      · rw [acquire_waits hpend, ite_self]
    rw [ptpMeasured_eq hgood, hacts]
  case count => rw [ptpMeasured_eq hgood, servoActs_acquires hst, if_pos hcounts, acquire_counts hpend hstep htest]
  case agree => rw [ptpMeasured_eq hgood, servoActs_acquires hst, if_pos hcounts, acquire_agrees hpend hno] <;> rfl
  case timeout =>
    have hservo : ((d.setBit Reg.TIME_STATUS 10 false).setTime fun t => { t with ptp := { t.ptp with portState := 4 } }).servo = .locked := by rw [servo_setTime, servo_setBit _ (by decide), hst]
    rw [Dev.announceTimeout, if_neg (by simp [hcfg, hslave])]
    simp only [hservo]
  case self =>
    rw [Dev.selfMaster, if_neg (by simp [hmaster])]
    simp only [hservice, if_true]
  case step =>
    refine congrArg Host.Outcome.next ?_
    rw [latchStep_eq, when_true hrun, tb0Step_agreed hpend hdue hpip]

end Sys2Proof.Proofs
end

section
/-!
The events of billing and of the display (O27).
-/
namespace Sys2Proof.Proofs
open Sys2Proof.Machine Sys2Proof.Claims Sys2Proof.Laws

section
variable {d : Dev}

/-- A frame of an all-dark buffer without ageing changes no stress counter (R449, R458). -/
theorem dispFrame_dark {volt curr : Nat} (hrun : d.rbit Reg.DISP_STATUS 0 = true) (hage : d.disp.age.all (33 ≤ ·) = true) (hband : d.disp.bandNext = none) (hdark : d.disp.active = []) (hctrl : d.rbit Reg.DISP_CTRL 2 = false) :
    d.dispFrame volt curr = ((({ d with disp := { d.disp with age := some 0, grey0 := [] } } : Dev).inc Reg.DISP_FRAME_CNT).wn Reg.DISP_VPANEL_MEAS (min 65535 curr * 65536 + min 65535 volt)).setBit Reg.DISP_STATUS 3 false := by
  have hgo : ¬ (!d.rbit Reg.DISP_STATUS 0 || d.disp.age.any (· < 33)) = true := by
    rcases hd : d.disp.age with _ | a
    · simp [hrun]
    · rw [hd] at hage
      simp only [Option.all_some, decide_eq_true_eq] at hage
      simp [hrun, hage]
  unfold Dev.dispFrame
  rw [if_neg hgo]
  extract_lets u e1 e2 u2 e3 lit e4
  have h3 : e3 = e2 := by
    have hnone : e2.disp.bandNext = none := hband
    simp only [e3, hnone]
  have hlit : lit = [] := by
    have hempty : e2.disp.active = [] := hdark
    simp only [lit, h3, DispU.lit, hempty]
    rfl
  have hoff : e4.rbit Reg.DISP_CTRL 2 = false := by
    have hrd : e4.rd Reg.DISP_CTRL = d.rd Reg.DISP_CTRL := by
      simp only [e4, h3, e2, Dev.setBit]
      rw [Dev.rd_wr_other _ _ (by decide), rd_wn_other _ _ (by decide), rd_inc_other _ (by decide)]
      rfl
    rw [Dev.rbit, hrd]
    exact hctrl
  rw [if_neg (by rw [hoff]; decide)]
  simp only [e4, hlit, h3]
  rfl

theorem updEnd_last {r id : Nat} (hrun : (d.upd r).run = some id) (hlast : (d.region r).2.2.2 < (d.upd r).line) :
    d.updEnd r = (d.setUpd r RegionUpd.none).finish id St.ok (leN (d.upd r).copied 2 ++ [0, 0]) := by
  rw [Dev.updEnd, hrun]
  exact if_pos hlast

theorem dispDone_last {r id : Nat} (hrun : (d.upd r).run = some id) (hpend : (d.upd r).pending = none) (hrest : ((d.updRest r 64).upd r).run = some id) (hlast : ((d.updRest r 64).region r).2.2.2 < ((d.updRest r 64).upd r).line) :
    d.dispDone r = ((d.updRest r 64).setUpd r RegionUpd.none).finish id St.ok (leN ((d.updRest r 64).upd r).copied 2 ++ [0, 0]) := by
  rw [Dev.dispDone, hrun, hpend]
  exact updEnd_last hrest hlast

end

/-- Settles O27. -/
theorem billingAndDisplayEventsComplete : Obligations.BillingAndDisplayEventsComplete :=
  ⟨acts_of (fun _ => rfl) fun d _ => rfl,
    acts_when (fun _ => rfl) fun d ⟨hrun, hpip⟩ => ⟨by simp [hrun, hpip], rfl⟩,
    fun n => acts_when (fun _ => rfl) fun d ⟨hrun, hactive, hiv, hat⟩ => ⟨hrun, if_pos (by simp [hactive, hiv, hat])⟩,
    acts_when (fun _ => rfl) fun d ⟨hrun, hday⟩ => ⟨hrun, if_neg hday⟩,
    fun volt curr => acts_when (fun _ => rfl) fun d ⟨hdom, hrun, hage, hband, hdark, hctrl⟩ => ⟨hdom, dispFrame_dark hrun hage hband hdark hctrl⟩,
    fun r id => acts_when (fun _ => rfl) fun d ⟨hdom, hrun, hpend, hrest, hlast⟩ => ⟨hdom, dispDone_last hrun hpend hrest hlast⟩,
    acts_of (fun _ => rfl) fun d hon => if_pos hon,
    acts_when (fun _ => rfl) fun d ⟨hdom, hshell, hpip⟩ => ⟨by rw [hdom, hshell]; rfl, if_pos hpip⟩⟩

end Sys2Proof.Proofs
end

section
/-!
The events of the Stone and the safety pairs (O28).
-/
namespace Sys2Proof.Proofs
open Sys2Proof.Machine Sys2Proof.Claims Sys2Proof.Laws

/-! ### Forced breaks and the heartbeat (R132, R333, R354) -/

theorem ost_wr_other {d : Dev} {k a : Nat} (v : Word) (h : Reg.OUT_STATE k ≠ a) : (d.wr a v).ost k = d.ost k := by rw [Dev.ost, Dev.fld, Dev.rd_wr_other _ _ h, Dev.ost, Dev.fld]

theorem state_ne_of_low (k : Nat) {a : Nat} (h : a < 0x100004) : Reg.OUT_STATE k ≠ a := by
  unfold Reg.OUT_STATE
  omega

theorem state_ne_chStatus (k ch : Nat) : Reg.OUT_STATE k ≠ Reg.LSW_CH_STATUS ch := by
  unfold Reg.OUT_STATE Reg.LSW_CH_STATUS
  omega

/-- No register that shows the Stone's permits is an outlet's state. -/
theorem ost_slsShow (d : Dev) (n k : Nat) : (d.slsShow n).ost k = d.ost k := by
  unfold Dev.slsShow Dev.setBit
  rw [ost_wr_other _ (state_ne_chStatus k _), ost_wr_other _ (state_ne_chStatus k _)]
  iterate 4 rw [ost_wr_other _ (state_ne_of_low k (by decide))]

theorem safe_slsShow (d : Dev) (n : Nat) : (d.slsShow n).safe = d.safe := rfl

theorem sys_slsShow (d : Dev) (n : Nat) : (d.slsShow n).sys = d.sys := rfl

theorem outForced_of_ne {d : Dev} {n : Nat} (h : d.ost n ≠ .rampdown) : d.outForced n = d := if_neg h

section
variable {d : Dev}

theorem tForceExpiry_forces {n t : Nat} (hreq : d.rampReq n = some (t, true)) (hdue : t + tget 400 d.safe.tForce n ≤ d.osc) (hflag : d.flagBelow n = false) (hsls : d.sls n = true) (hhb : d.safe.hbLost = none) (hst : d.ost n ≠ .rampdown) :
    d.tForceExpiry n =
      let a := ({ d with safe := { d.safe with ramp := tset none d.safe.ramp n (some (t, false)) } } : Dev)
      let b := (a.setBit Reg.SAFE_SLS_MASK n false).inc Reg.SAFE_FORCED_CNT
      let c : Dev := { b with safe := { b.safe with forced := b.safe.forced ||| 2 ^ n, rose := b.safe.rose - b.safe.rose % 2 ^ (n + 1) / 2 ^ n * 2 ^ n } }
      (c.slsShow n).outForced n := by
  extract_lets u a b v c
  have hgo : ¬ (a.flagBelow n || !a.sls n) = true := by
    have hf : a.flagBelow n = false := hflag
    have hs : a.sls n = true := hsls
    rw [hf, hs]
    decide
  have hstate : (c.slsShow n).ost n ≠ .rampdown := by
    have hc : c.ost n = d.ost n := (ost_wr_other _ (state_ne_of_low n (by decide))).trans (ost_wr_other _ (state_ne_of_low n (by decide)))
    rw [ost_slsShow, hc]
    exact hst
  have hnone : (c.slsShow n).safe.hbLost = none := hhb
  rw [outForced_of_ne hstate]
  unfold Dev.tForceExpiry
  simp only [hreq, if_pos hdue]
  rw [if_neg hgo, outForced_of_ne hstate, hnone]

/-- A cut that the session does not take as a safety cut leaves the system's state. -/
theorem sys_stoneCut_nine (n : Nat) : (d.stoneCut n 9).sys = d.sys := by
  unfold Dev.stoneCut
  split
  · rfl
  · rw [if_neg (by decide), if_neg (by decide), sys_slsShow]
    simp

theorem sys_meteredLatch : d.meteredLatch.sys = d.sys := by
  rw [Dev.meteredLatch]
  split
  · refine foldl_same Dev.sys (fun d n => ?_) _ _
    split
    · exact sys_stoneCut_nine n
    · rfl
  · rfl

theorem sys_hubUpdate : d.hubUpdate.sys = d.sys := by
  unfold Dev.hubUpdate
  extract_lets c e out u f low
  have hf : f.sys = e.sys := by
    simp only [f]
    split <;> rfl
  exact hf

theorem heartbeatGone_eq (hok : d.hbOk = true) (hlast : d.safe.hbLast + 4 ≤ d.osc) (hforced : d.sys.safetyForced = false) :
    d.heartbeatGone = ((List.range 32).foldl (fun (d : Dev) n => d.slsShow n)
      (((({ d with safe := { d.safe with hbLost := some d.osc, hbRun := 0 } } : Dev).setBit Reg.SAFE_STATUS 4 false).inc Reg.SAFE_HB_LOSS_CNT).raise Reg.SAFE_EVENT 2).meteredLatch).hubUpdate := by
  have hlost : d.heartbeatLost = ((List.range 32).foldl (fun (d : Dev) n => d.slsShow n)
      (((({ d with safe := { d.safe with hbLost := some d.osc, hbRun := 0 } } : Dev).setBit Reg.SAFE_STATUS 4 false).inc Reg.SAFE_HB_LOSS_CNT).raise Reg.SAFE_EVENT 2).meteredLatch).hubUpdate :=
    if_pos (by simp [hok, hlast])
  have hsys : d.heartbeatLost.sys = d.sys := by
    rw [hlost, sys_hubUpdate, foldl_same Dev.sys fun d n => sys_slsShow d n, sys_meteredLatch]
    rfl
  rw [Dev.heartbeatGone, if_neg (by rw [hsys, hforced]; simp), hlost]

/-! ### The word of the safety pair (R333) -/

theorem pairWord_good (hrun : d.safetyRuns = true) (hnew : d.safe.hbRun = 0 ∨ d.safe.hbLast ≠ d.osc) : d.pairWord true =
    let e : Dev := { d with safe := { d.safe with forceNext := d.safe.forceNext ||| bitsMask ((List.range 32).filter fun n => d.safe.word.testBit n && !d.wordBit n) } }
    let bits := (List.range 32).filter e.wordBit
    let new := bitsMask bits
    let hub := (if e.safe.hubHost = true then 8 else 0) + (if (List.range 8).any (fun c => e.connRx c && wbit (e.connWord c 0) 27 && !e.connPermits c) = true then 32 else 0)
    let f : Dev := { e with safe := { e.safe with
      word := new, hubWord := hub, rose := bitsMask (bits.filter fun n => !e.safe.word.testBit n || e.safe.rose.testBit n),
      forced := bitsMask ((maskBits 32 e.safe.forced).filter fun n => (e.rampReq n).isSome || new.testBit n),
      hbRun := if e.safe.hbLast + 1 = e.osc then e.safe.hbRun + 1 else 1, hbLast := e.osc } }
    ((List.range 32).foldl (fun (d : Dev) n => (d.wordApply n (new.testBit n)).slsShow n) f).hubUpdate := by
  have hgo : ¬ (0 < d.cpuDecide.safe.hbRun && d.cpuDecide.safe.hbLast = d.cpuDecide.osc) = true := by
    have hr : d.cpuDecide.safe.hbRun = d.safe.hbRun := rfl
    have hl : d.cpuDecide.safe.hbLast = d.safe.hbLast := rfl
    have ho : d.cpuDecide.osc = d.osc := rfl
    rw [hr, hl, ho]
    rcases hnew with hnew | hnew <;> simp [hnew]
  exact (if_pos hrun).trans (if_neg hgo)

/-! ### Black-channel connections (R360 to R367) -/

theorem connRxFrame_next {c : Nat} {f : Bytes} (hrx : d.connRx c = true) (hcarried : d.connCarried c = true) (hlen : f.length = 18) (hver : num f 8 1 = 1) (hn : num f 9 1 = 4)
    (hcrc : (crcSafety (f.take 14)).toNat = num f 14 4) (hid : num f 0 4 = (d.connWord c 1).toNat) (hst : d.fld (Reg.SAFE_CONN_STATUS c) 1 0 = 2) (hseq : num f 4 2 = ((d.conn c).seq + 1) % 65536) (hlt : (d.conn c).seq < 65536) :
    d.connRxFrame c f = ((d.setConn c fun x => { x with
      data := num f 10 4, seq := num f 4 2, run := (d.conn c).run + 1, due := some (d.osc + min (num f 6 2) (wfld (d.connWord c 0) 15 0)) }).setFld (Reg.SAFE_CONN_STATUS c) 31 16 (num f 4 2)).setFld
      (Reg.SAFE_CONN_STATUS c) 1 0 2 := by
  have hahead : (num f 4 2 + 65536 - (d.conn c).seq) % 65536 = 1 := by omega
  unfold Dev.connRxFrame
  rw [if_neg (by simp [hrx, hcarried])]
  simp only [hlen, hver, hn, hcrc, hid, hst, hahead]
  simp

theorem connRxFrame_short {c : Nat} {f : Bytes} (hrx : d.connRx c = true) (hcarried : d.connCarried c = true) (hlen : f.length < 14) : d.connRxFrame c f = d.inc (Reg.SAFE_CONN_ERR_CNT c) := by
  have hbad : ¬ f.length = 14 + num f 9 1 := by omega
  unfold Dev.connRxFrame
  rw [if_neg (by simp [hrx, hcarried])]
  simp [hbad]

theorem stoneTx_first {c : Nat} (hon : wbit (d.connWord c 0) 31 = true) (htx : wbit (d.connWord c 0) 30 = true) (hmesh : wfld (d.connWord c 0) 29 28 ≠ 2) (hcarried : d.connCarried c = true) (hfirst : (d.conn c).lastTx = none) :
    d.stoneTx c =
      let seq := ((d.conn c).seq + 1) % 65536
      let f := stoneFrame (d.connWord c 1).toNat seq (wfld (d.connWord c 0) 15 0 + 4) d.permitData
      (d.setConn c fun x => { x with seq := seq, lastTx := some (d.permitData, d.osc), frame := f, dest := some (wfld (d.connWord c 0) 29 28, (d.connWord c 2).toNat, wfld (d.actWord 2) 15 0) }).setFld (Reg.SAFE_CONN_STATUS c) 31 16 seq := by
  unfold Dev.stoneTx
  simp only [hfirst]
  rw [if_neg (by simp [hon, htx, hcarried]), if_neg (by simp [hmesh])]

end

/-- Settles O28. -/
theorem safetyEventsComplete : Obligations.SafetyEventsComplete := by
  refine ⟨fun n t => acts_of (fun _ => rfl) fun d ⟨hreq, hdue, hflag, hsls, hhb, hst⟩ => tForceExpiry_forces hreq hdue hflag hsls hhb hst,
    fun i l => acts_of (fun _ => rfl) fun d ⟨hheld, hnew⟩ => ?input,
    fun p => acts_of (fun _ => rfl) fun d ⟨hfn, hhand, howner, hstart, hdisc, hfault⟩ => ?disc,
    fun p => acts_of (fun _ => rfl) fun d ⟨hfn, hfault, hdisc⟩ => if_pos (by simp [hfn, hfault, hdisc]),
    fun k low => acts_of (fun _ => rfl) fun d ⟨hvalid, hon, hdue⟩ => ?pulse,
    fun p t hlo hhi => acts_of (fun _ => rfl) fun d ⟨hpress, hfn, hfault, hreset⟩ => ?button,
    fun p cpu held => ⟨acts_of (fun _ => rfl) fun d ⟨hfn, hdiff, hlong⟩ => ?cross, acts_of (fun _ => rfl) fun d ⟨hfn, hdiff, hshort⟩ => ?differ, acts_of (fun _ => rfl) fun d ⟨hfn, hsame⟩ => ?same⟩,
    acts_of (fun _ => rfl) fun d _ => rfl,
    acts_of (fun _ => rfl) fun d ⟨hrun, hnew⟩ => ?word,
    acts_of (fun _ => rfl) fun d hrun => ?lost,
    fun good => acts_of (fun _ => rfl) fun d hrun => ?halted,
    acts_of (fun _ => rfl) fun d ⟨hok, hlast, hforced⟩ => ?gone,
    acts_of (fun _ => rfl) fun d ⟨hbad, hrun⟩ => if_pos (by simp [hbad, hrun]),
    acts_of (fun _ => rfl) fun d _ => rfl,
    fun c f => acts_when (fun _ => rfl) fun d ⟨hrun, hrx, hcarried, hlen, hver, hn, hcrc, hid, hst, hseq, hlt⟩ => ⟨hrun, ?frame⟩,
    fun c f => acts_when (fun _ => rfl) fun d ⟨hrun, hrx, hcarried, hlen⟩ => ⟨hrun, ?short⟩,
    fun c => acts_when (fun _ => rfl) fun d ⟨hrun, h1, h2, hon, htx, hmesh, hcarried, hfirst⟩ => ⟨by simp [hrun, h1, h2], ?tx⟩,
    acts_when (fun _ => rfl) fun d hrun => ⟨hrun, ?watch⟩⟩
  case input => exact if_neg (by simp [hheld, hnew])
  case disc => rw [Dev.discTimeout, if_pos (by simp [hfn, hhand, howner, hstart, hdisc]), if_neg (by simp [hfault])]
  case pulse =>
    rw [Dev.testPulse, if_neg (by simp [hvalid, hon, hdue])]
    simp only [Bool.or_eq_true, Bool.and_eq_true, decide_eq_true_eq, Bool.not_eq_true']
  case button =>
    rw [Dev.resetButton, hpress]
    simp only [Bool.or_eq_true, decide_eq_true_eq]
    exact if_pos (by simp [hfn, hfault, hreset, hlo, hhi])
  case cross => rw [Dev.crossFault, if_neg hfn, if_pos (by simp [hdiff, hlong])]
  case differ =>
    rw [Dev.crossFault, if_neg hfn, if_neg (by simp [hshort]), if_pos (by simp [hdiff])]
  case same =>
    rw [Dev.crossFault, if_neg hfn, if_neg (by simp [hsame]), if_neg (by simp [hsame])]
  case word => exact pairWord_good hrun hnew
  case lost => exact (if_pos hrun).trans (if_pos rfl)
  case halted => exact if_neg (by simp [hrun])
  case gone => exact heartbeatGone_eq hok hlast hforced
  case frame => exact connRxFrame_next hrx hcarried hlen hver hn hcrc hid hst hseq hlt
  case short => exact connRxFrame_short hrx hcarried hlen
  case tx => exact stoneTx_first hon htx hmesh hcarried hfirst
  case watch => 
    refine foldl_step_congr (fun d c => ?_) _ _
    simp only [Dev.connWatchdog, Bool.and_eq_true]

end Sys2Proof.Proofs
end

section
/-!
The events of the Guard (O29).
-/
namespace Sys2Proof.Proofs
open Sys2Proof.Machine Sys2Proof.Claims Sys2Proof.Laws

section
variable {d : Dev} {n : Nat}

theorem setG_congr {f g : GChan → GChan} (h : f (d.g n) = g (d.g n)) : d.setG n f = d.setG n g := by rw [Dev.setG, h, Dev.setG]

theorem rcmTrip_met {c p : Nat} (hst : d.gstate n = 2) (hmode : d.gmode n = 1) (htrip : d.rbit Reg.GUARD_TRIP_MASK n = false) (hmet : (d.g n).met = some (c, p)) (hlate : p < (d.g n).t) :
    d.rcmTrip n = (d.setG n fun g => { g with met := none }).guardTrip n c := by
  rw [Dev.rcmTrip, hmet]
  exact if_pos (by simp [hst, hmode, htrip, hlate])

theorem imdStart_active (hactive : d.passive = false) (hst : d.gstate n = 2) (hmode : d.gmode n = 2) (hnone : (d.g n).imd = none) (hpip : d.pip % 4000 = 500 * d.fld (Reg.GUARD_CH_IMD_CFG n) 30 28) :
    d.imdStart n = d.setG n fun g => { g with imd := some d.pip, imdT := g.t, sums := [0, 0, 0, 0], peaks := (0, 0), inj := 1 } := by
  rw [Dev.imdStart, if_pos (by simp [hst, hmode, hnone, hpip]), hactive]
  rfl

/-- A window whose result lies above both thresholds warns of nothing and trips nothing (R320, R322). -/
theorem imdEnd_sound {w : Nat} (hst : d.gstate n = 2) (hw : (d.g n).imd = some w) (hend : (d.g n).imdT + 4000 ≤ (d.g n).t) (htrip : d.fld (Reg.GUARD_CH_IMD_THRESH n) 15 0 < (d.imdResult n).1)
    (hwarn : d.fld (Reg.GUARD_CH_IMD_THRESH n) 31 16 ≤ (d.imdResult n).1) (hok : (d.imdResult n).2 = true) :
    d.imdEnd n = (((d.setG n fun g => { g with imd := none, inj := 0 }).wn (Reg.GUARD_CH_IMD_RESULT n) (2 ^ 31 + (d.imdResult n).1)).guardWarn n false).outInsulation n w true false := by
  have hne : ¬ (d.imdResult n).1 = d.fld (Reg.GUARD_CH_IMD_THRESH n) 15 0 := by omega
  have hlow : ¬ (d.imdResult n).1 < d.fld (Reg.GUARD_CH_IMD_THRESH n) 15 0 := by omega
  have hquiet : ¬ (d.imdResult n).1 < d.fld (Reg.GUARD_CH_IMD_THRESH n) 31 16 := by omega
  have hword : 2 ^ 31 + (d.imdResult n).1 = 1 * 2 ^ 31 + 0 * 2 ^ 29 + 0 * 2 ^ 28 + (d.imdResult n).1 := by omega
  rw [hword, Dev.imdEnd, hw]
  dsimp only
  rw [if_pos (by simp [hst, hend])]
  simp only [hok, hne, hlow, hquiet, htrip, decide_false, decide_true, Bool.false_and, Bool.and_false, Bool.not_true, Bool.or_self, Bool.false_eq_true, if_false, if_true, b2n]

theorem guardStream_fault (hoff : d.gstate n ≠ 0) (hfault : d.gstate n ≠ 4) :
    d.guardStream n =
      let e := d.setG n fun g => { g with clean := 0 }
      (if d.gstate n = 3 then e.setFld (Reg.GUARD_CH_STATUS n) 17 16 3 else e).guardFault n 7 := by
  have hst : ∀ f : GChan → GChan, (d.setG n f).gstate n = d.gstate n := fun _ => rfl
  rw [Dev.guardStream]
  simp only [hst]
  exact if_neg (by simp [hoff, hfault])

theorem guardTestEnd_due {t : Nat} (htest : (d.g n).test = some t) (hst : d.gstate n = 3) (hend : t + (if d.gmode n = 1 then 800 else 4000) ≤ (d.g n).t) :
    d.guardTestEnd n = if d.testPassed n = true then (d.guardRest n 1).setFld (Reg.GUARD_CH_STATUS n) 17 16 2 else (d.guardFault n 9).setFld (Reg.GUARD_CH_STATUS n) 17 16 3 := by
  rw [Dev.guardTestEnd, htest]
  exact if_pos (by simp [hst, hend])

end

/-- Settles O29. -/
theorem guardEventsComplete : Obligations.GuardEventsComplete :=
  fun n => ⟨fun c p => acts_when (fun _ => rfl) fun d ⟨hdom, hst, hmode, htrip, hmet, hlate⟩ => ⟨hdom, rcmTrip_met hst hmode htrip hmet hlate⟩,
    acts_when (fun _ => rfl) fun d ⟨hdom, hactive, hst, hmode, hnone, hpip⟩ => ⟨by rw [hdom, hactive]; rfl, imdStart_active hactive hst hmode hnone hpip⟩,
    fun w => acts_when (fun _ => rfl) fun d ⟨hdom, hst, hw, hend, htrip, hwarn, hok⟩ => ⟨hdom, imdEnd_sound hst hw hend htrip hwarn hok⟩,
    acts_when (fun _ => rfl) fun d ⟨hdom, hoff, hfault⟩ => ⟨hdom, guardStream_fault hoff hfault⟩,
    fun t => acts_when (fun _ => rfl) fun d ⟨hdom, htest, hst, hend, hpass⟩ => ⟨hdom, (guardTestEnd_due htest hst hend).trans (if_pos hpass)⟩,
    fun t => acts_when (fun _ => rfl) fun d ⟨hdom, htest, hst, hend, hfail⟩ => ⟨hdom, (guardTestEnd_due htest hst hend).trans (if_neg (by simp [hfail]))⟩⟩

end Sys2Proof.Proofs
end

section
/-!
The events of the Husk (O30).
-/
namespace Sys2Proof.Proofs
open Sys2Proof.Machine Sys2Proof.Claims Sys2Proof.Laws

/-! ### Frames (R259 to R267) -/

section
variable {d : Dev}

/-- The count of a frame control leaves the station address. -/
theorem destOk_inc (n dest : Nat) : (d.inc (Reg.LANE_FC_DETECT n)).destOk n dest = d.destOk n dest := by
  have hhi : (d.inc (Reg.LANE_FC_DETECT n)).rd (Reg.LANE_MAC_HI n) = d.rd (Reg.LANE_MAC_HI n) := rd_inc_other d (by unfold Reg.LANE_MAC_HI Reg.LANE_FC_DETECT; omega)
  have hlo : (d.inc (Reg.LANE_FC_DETECT n)).rd (Reg.LANE_MAC_LO n) = d.rd (Reg.LANE_MAC_LO n) := rd_inc_other d (by unfold Reg.LANE_MAC_LO Reg.LANE_FC_DETECT; omega)
  simp only [Dev.destOk, Dev.laneMac, Dev.fld, Dev.rn, hhi, hlo] <;> rfl

theorem fcDecode_filtered {f : FcIn} (hactive : d.laneActive f.lane.val = true)
    (h : d.sniOk f.lane.val f.sni = false ∨ d.destOk f.lane.val f.dest = false ∨ 1200 < f.us ∨ f.mode = 3 ∨ (f.lane.val < 32 ∧ (f.blocks ≠ 1 ∨ (f.octets ≠ 136 ∧ f.octets ≠ 520)))) :
    d.fcDecode f = (d.inc (Reg.LANE_FC_DETECT f.lane.val)).inc (Reg.LANE_FILTERED f.lane.val) := by
  have hsni : (d.inc (Reg.LANE_FC_DETECT f.lane.val)).sniOk f.lane.val f.sni = d.sniOk f.lane.val f.sni := rfl
  have hbad : (!fcSupported f || !(d.inc (Reg.LANE_FC_DETECT f.lane.val)).destOk f.lane.val f.dest || !(d.inc (Reg.LANE_FC_DETECT f.lane.val)).sniOk f.lane.val f.sni) = true := by
    rw [destOk_inc, hsni]
    rcases h with h | h | h | h | ⟨hl, h⟩
    · simp [h]
    · simp [h]
    · simp [fcSupported, Nat.not_le.2 h]
    · simp [fcSupported, h]
    · have hne : f.lane.val ≠ 32 := by omega
      rcases h with h | ⟨h1, h2⟩
      · simp [fcSupported, hne, h]
      · simp [fcSupported, hne, h1, h2]
  exact (if_neg (by simp [hactive])).trans (if_pos hbad)

theorem fcDecode_accepted {f : FcIn} (hus : f.us ≤ 1200) (hmode : f.mode ≠ 3) (hblocks : f.lane.val = 32 ∨ (f.blocks = 1 ∧ (f.octets = 136 ∨ f.octets = 520))) (hactive : d.laneActive f.lane.val = true)
    (hsni : (d.inc (Reg.LANE_FC_DETECT f.lane.val)).sniOk f.lane.val f.sni = true) (hdest : (d.inc (Reg.LANE_FC_DETECT f.lane.val)).destOk f.lane.val f.dest = true)
    (hroom : d.husk.ctxs.length < (d.inc (Reg.LANE_FC_DETECT f.lane.val)).ctxMax) (hring : (d.lane f.lane.val).ring + 1536 ≤ 16384) :
    d.fcDecode f = ((((d.inc (Reg.LANE_FC_DETECT f.lane.val)).inc (Reg.LANE_ACCEPTED f.lane.val)).setFld (Reg.LANE_STATUS f.lane.val) 1 0 f.mode.val).setLane f.lane.val fun l =>
      { l with ring := l.ring + rxReserve }).reserve f.lane.val true none := by
  have hok : fcSupported f = true := by simp [fcSupported, hus, hmode, hblocks]
  have hctx : ¬ (d.inc (Reg.LANE_FC_DETECT f.lane.val)).ctxMax ≤ (d.inc (Reg.LANE_FC_DETECT f.lane.val)).husk.ctxs.length := Nat.not_le.2 hroom
  have hbuf : ¬ rxRing < ((d.inc (Reg.LANE_FC_DETECT f.lane.val)).lane f.lane.val).ring + rxReserve := Nat.not_lt.2 hring
  unfold Dev.fcDecode
  dsimp only
  rw [if_neg (by simp [hactive]), if_neg (by rw [hok, hdest, hsni]; decide), if_neg hctx, if_neg hbuf]

theorem setLane_congr {n : Nat} {f g : HLane → HLane} (h : f (d.lane n) = g (d.lane n)) : d.setLane n f = d.setLane n g := by rw [Dev.setLane, h, Dev.setLane]

theorem frameDelivery_good {f : FrameIn} {c : HCtx} (hok : f.ok = true) (hkind : f.frame ≠ .other ∨ f.lane.val = 32) (hc : d.husk.oldestRx f.lane.val = some c) :
    d.frameDelivery f =
      let n := f.lane.val
      let e := d.setCtxs n (d.husk.ctxs.filter fun x => x.seq ≠ c.seq)
      let t := e.blankThresh n f.level
      let g := (e.incBy (Reg.LANE_ERASED_SYM n) (erasedSyms t f.symbols)).incBy (Reg.LANE_BLANK_SYM n) (blankedSyms t f.symbols)
      let m := g.setLane n fun l => { l with blank := l.blank || decide (0 < blankedSyms t f.symbols), sack := if g.passive = true ∨ g.laneActive n = false then none else some true }
      (((m.inc (Reg.LANE_DELIVERED n)).wn (Reg.LANE_SNR n) (f.snr % 65536)).setLane n fun l => { l with frames := l.frames ++ [(f.frame, c.late)], wr := ringNext l.wr }).txPump := by
  have hfilter : ¬ (f.frame = .other && f.lane.val < 32) = true := by
    rcases hkind with hkind | hkind <;> simp [hkind]
  unfold Dev.frameDelivery
  simp only [hc, hok, Bool.or_eq_true, Bool.not_eq_true', Bool.not_true, Bool.false_eq_true, if_false, if_neg hfilter]

theorem frameDelivery_bad {f : FrameIn} {c : HCtx} (hok : f.ok = false) (hc : d.husk.oldestRx f.lane.val = some c) :
    d.frameDelivery f =
      let n := f.lane.val
      let e := d.setCtxs n (d.husk.ctxs.filter fun x => x.seq ≠ c.seq)
      let t := e.blankThresh n f.level
      let g := (e.incBy (Reg.LANE_ERASED_SYM n) (erasedSyms t f.symbols)).incBy (Reg.LANE_BLANK_SYM n) (blankedSyms t f.symbols)
      let m := g.setLane n fun l => { l with blank := l.blank || decide (0 < blankedSyms t f.symbols), sack := if g.passive = true ∨ g.laneActive n = false then none else some false }
      ((m.inc (Reg.LANE_CRC_FAIL n)).setLane n fun l => { l with ring := l.ring - rxReserve }).txPump := by
  unfold Dev.frameDelivery
  simp only [hc, hok, Bool.or_eq_true, Bool.not_eq_true', Bool.not_false, if_true]

theorem frameLate_found {n : Nat} {c : HCtx} (hc : d.husk.ctxs.find? (fun c => c.rx && c.lane = n && !c.late && c.acc + 8 ≤ d.pip) = some c) :
    d.frameLate n =
      let e : Dev := { d with husk := { d.husk with ctxs := d.husk.ctxs.map fun (x : HCtx) => if x.seq = c.seq then { x with late := true } else x } }
      ((((((e.inc (Reg.LANE_LATE n)).inc Reg.HUSK_LATE_CNT).wn Reg.HUSK_LAST_LATE n).wn Reg.HUSK_LAST_LATE_PIP (c.acc + 8)).raise Reg.HUSK_EVENT 1).raise (Reg.LANE_EVENT n) 4).log
        66 0 (byte n :: leN (c.acc + 8) 6) := by
  unfold Dev.frameLate
  simp only [hc]

theorem huskSlice_empty {again : Bool} (hnone : d.husk.ctxs = []) : d.huskSlice [] [] again = { d with husk := { d.husk with sliceNo := d.husk.sliceNo + 1 } } := by
  unfold Dev.huskSlice
  simp [hnone, markLast, bestCtx]

theorem noiseWindow_quiet {n gain : Nat} {rms peak : Int} (hactive : d.laneActive n = true) :
    d.noiseWindow n rms gain peak false =
      let loud := (d.blankThresh n (d.sfld (Reg.LANE_NOISE n) 15 0)).any fun t => decide (t < peak)
      let e := d.setLane n fun l => { l with noise := (rms :: l.noise).take 16, blank := l.blank || loud }
      e.wn (Reg.LANE_NOISE n) (gain % 256 * 65536 + ofSigned 16 ((e.lane n).noise.foldl min rms)) :=
  if_neg (by simp [hactive])

theorem huskSlice_works {l idle : List (Fin 33)} {again : Bool} {b : HCtx} (hb : bestCtx ((markLast d.husk.ctxs (l.map (·.val))).filter (HCtx.works (idle.map (·.val)))) = some b) :
    d.huskSlice l idle again =
      let served := (markLast d.husk.ctxs (l.map (·.val))).map fun (c : HCtx) => if c.seq = b.seq then { c with served := d.husk.sliceNo + 1, sack := c.sack || (c.rx && c.lastSym) } else c
      let e : Dev := { d with husk := { d.husk with sliceNo := d.husk.sliceNo + 1, ctxs := served } }
      if b.rx = true then e else e.laneSent b again := by
  unfold Dev.huskSlice
  simp only [hb]

end

/-! ### SLAC (R268 to R274) -/

section
variable {d : Dev} {run : Bytes} {r : SlacRun}

theorem slacDecision_due (hdue : r.announced ≤ r.sounds ∨ r.start + 2000 ≤ d.pip) : ¬ (r.sounds < r.announced && d.pip < r.start + 2000) = true := by
  rcases hdue with hdue | hdue <;> simp <;> omega

theorem slacDecision_plain (hr : d.husk.runs.find? (fun r => r.run = run && r.st = .sounding) = some r) (hdue : r.announced ≤ r.sounds ∨ r.start + 2000 ≤ d.pip) (hcfg : d.rbit Reg.HUSK_SLAC_CFG 0 = false)
    (hnone : ∀ n ∈ List.range 32, (r.heard n && d.plainOpen n) = false) : d.slacDecision run = d.setRun run fun r => { r with st := .plain } := by
  have hempty : ((List.range 32).filter r.heard).filter d.plainOpen = [] := by
    rw [List.filter_filter, List.filter_eq_nil_iff]
    intro n hn
    rw [Bool.and_comm, hnone n hn]
    decide
  unfold Dev.slacDecision
  simp only [hr, if_neg (slacDecision_due hdue), hempty, List.foldl_nil, hcfg, Bool.not_false, if_true]

theorem slacDecision_crossLane (hr : d.husk.runs.find? (fun r => r.run = run && r.st = .sounding) = some r) (hdue : r.announced ≤ r.sounds ∨ r.start + 2000 ≤ d.pip) (hcfg : (plainAnswers d r).rbit Reg.HUSK_SLAC_CFG 0 = true) :
    d.slacDecision run =
      let e := plainAnswers d r
      let elig := (List.range 32).filter d.slacEligible
      let lanes := elig.filter fun n => !e.husk.taken.contains n
      let others := e.husk.runs.filter fun x => x.run ≠ run && x.st = .sounding && e.fld Reg.HUSK_SLAC_CFG 23 16 ≤ x.sounds
      match slacVerdict r others elig lanes (e.fld Reg.HUSK_SLAC_CFG 15 8) (e.fld Reg.HUSK_SLAC_CFG 31 24) e.fresh with
      | .lane pick =>
        let f := ((e.draw 1).setRun run fun r => { r with st := .decided pick }).inc Reg.HUSK_SLAC_DECIDED_CNT
        let g := match pick with
          | some n => ((f.setSlac n 3).slacAtten r n).slacRecord r n 0
          | none => f
        (((List.range 32).filter r.heard).filter fun n => elig.contains n && some n ≠ pick).foldl (fun (d : Dev) n =>
          let w := (d.inc Reg.HUSK_SLAC_WITHHELD_CNT).slacRecord r n 1
          if w.fld (Reg.LANE_STATUS n) 11 8 = 3 ∨ w.fld (Reg.LANE_STATUS n) 11 8 = 4 then w else w.setSlac n 5) g
      | .ambiguous =>
        let cands := r.candidates elig (e.fld Reg.HUSK_SLAC_CFG 15 8)
        let f := (((e.draw 1).setRun run fun r => { r with st := .ambiguous cands }).inc Reg.HUSK_SLAC_AMBIG_CNT).raise Reg.HUSK_EVENT 2
        cands.foldl (fun (d : Dev) n =>
          let w := (d.slacAtten r n).slacRecord r n 2
          if w.fld (Reg.LANE_STATUS n) 11 8 = 3 ∨ w.fld (Reg.LANE_STATUS n) 11 8 = 4 then w else w.setSlac n 6) f := by
  have hplain : (((List.range 32).filter r.heard).filter d.plainOpen).foldl (fun (d : Dev) n => d.slacAtten r n) d = plainAnswers d r := rfl
  unfold Dev.slacDecision
  simp only [hr, if_neg (slacDecision_due hdue), hplain, hcfg, Bool.not_true, Bool.false_eq_true, if_false, Bool.or_eq_true, decide_eq_true_eq] <;> rfl

theorem soundCapture_start {lane : Fin 32} {announced : Nat} (hactive : d.laneActive lane.val = true) (hnew : ∀ r ∈ d.husk.runs, r.run ≠ run) :
    d.soundCapture (.start lane run announced) =
      { d with husk := { d.husk with runs := d.husk.runs ++ [{ run := run, announced := announced, start := d.pip, sounds := 0, caps := [], st := .sounding }] } } :=
  if_neg (by simpa [hactive] using hnew)

theorem slacMatch_answers {n : Nat} (hactive : d.laneActive n = true) (hr : d.husk.runs.find? (fun r => r.run = run) = some r) (hst : d.ost n = .linking) (hnone : (d.lane n).matched = none) (hans : d.slacAnswers r n = true) :
    d.slacMatch n run = ((((d.setLane n fun l => { l with matched := some run }).setRun run fun r => { r with st := .decided (some n) }).setSlac n 4).setBit (Reg.LANE_STATUS n) 4 true).slacCnf n run := by
  unfold Dev.slacMatch
  rw [if_neg (by simp [hactive]), if_neg (by simp [hnone])]
  simp only [hr]
  rw [if_neg (by simp [hst, hnone]), if_pos hans]

end

/-- Too many runs or lanes are ambiguous (R271). -/
theorem slacVerdict_many {r : SlacRun} {others : List SlacRun} {elig lanes : List Nat} {span margin free : Nat} (h : 5 < others.length ∨ 6 < lanes.length) : slacVerdict r others elig lanes span margin free = .ambiguous :=
  if_pos (by rcases h with h | h <;> simp [h]; omega)

/-! ### The verdict on one run (R271, R273) -/

theorem foldl_min_le_start (a : Nat) (l : List Nat) : l.foldl min a ≤ a := by
  induction l generalizing a with
  | nil => exact Nat.le_refl a
  | cons b l ih => exact Nat.le_trans (ih (min a b)) (Nat.min_le_left a b)

theorem foldl_min_le {a x : Nat} {l : List Nat} (h : x ∈ a :: l) : l.foldl min a ≤ x := by
  induction l generalizing a with
  | nil => rw [List.mem_singleton.1 h]; exact Nat.le_refl a
  | cons b l ih =>
    rcases List.mem_cons.1 h with rfl | h
    · exact foldl_min_le_start x (b :: l)
    · rcases List.mem_cons.1 h with rfl | h
      · exact Nat.le_trans (foldl_min_le_start (min a x) l) (Nat.min_le_right a x)
      · exact ih (List.mem_cons_of_mem _ h)

/-- One vehicle has no lane, or one of its candidates. -/
theorem assignments_single (cost : Nat) (cs : List (Nat × Nat)) : assignments [(cost, cs)] [] = ([none], cost) :: cs.map fun c => ([some c.1], c.2) := by
  have hall : cs.filter (fun _ => true) = cs := List.filter_eq_self.2 fun _ _ => rfl
  simp [assignments, ← List.map_eq_flatMap, hall]

/-- The choice among assignments with their totals: the least total is `t`, and every other first lane must cost `gap` more (R271, R273). -/
def chosenLane (all : List (List (Option Nat) × Nat)) (t gap free : Nat) : SlacVerdict :=
  let firsts := ((all.filter fun a => a.2 = t).map fun a => a.1.headD none).eraseDups
  let pick := (firsts[Config.freeNat free % max 1 firsts.length]?).getD none
  match (all.filter fun a => a.1.headD none ≠ pick).map (·.2) with
  | [] => .lane pick
  | a :: l => if t + gap ≤ l.foldl min a then .lane pick else .ambiguous

/-- A lane is chosen from an assignment of the least total, and every assignment to another costs the gap more. -/
theorem chosenLane_some {all : List (List (Option Nat) × Nat)} {t gap free n : Nat} (h : chosenLane all t gap free = .lane (some n)) :
    (∃ a ∈ all, a.2 = t ∧ a.1.headD none = some n) ∧ ∀ a ∈ all, a.1.headD none ≠ some n → t + gap ≤ a.2 := by
  unfold chosenLane at h
  extract_lets firsts pick at h
  have hchoice : pick = some n ∧ ∀ x ∈ (all.filter fun a => a.1.headD none ≠ pick).map (·.2), t + gap ≤ x := by
    split at h
    next hnone => exact ⟨SlacVerdict.lane.inj h, by rw [hnone]; exact fun x hx => absurd hx List.not_mem_nil⟩
    next a l hal =>
      split at h
      next hgap => exact ⟨SlacVerdict.lane.inj h, by rw [hal]; exact fun x hx => Nat.le_trans hgap (foldl_min_le hx)⟩
      next => cases h
  obtain ⟨hpick, hgap⟩ := hchoice
  have hfirst : some n ∈ firsts := List.mem_of_getElem? (Option.getD_eq_iff.1 hpick |>.resolve_right fun h => nomatch h.2)
  obtain ⟨a, ha, hhead⟩ := List.mem_map.1 (List.mem_eraseDups.1 hfirst)
  obtain ⟨hmem, ht⟩ := List.mem_filter.1 ha
  refine ⟨⟨a, hmem, of_decide_eq_true ht, hhead⟩, fun b hb hne => hgap b.2 (List.mem_map_of_mem (List.mem_filter.2 ⟨hb, ?_⟩))⟩
  rw [hpick]
  exact decide_eq_true hne

/-- A vehicle's cost of no lane and its free candidates with theirs, over the common denominator `prod`. -/
def vehicleCosts (elig lanes : List Nat) (span prod : Nat) (x : SlacRun) : Nat × List (Nat × Nat) :=
  (90 * 58 * prod, ((x.candidates elig span).filter lanes.contains).map fun n => (n, if x.sounds = 0 then 90 * 58 * prod else x.figNum n * (prod / max 1 x.sounds)))

/-- Few enough vehicles and lanes: the choice among all the assignments. -/
theorem slacVerdict_few {r : SlacRun} {elig lanes : List Nat} {span margin free prod : Nat} (hprod : 1 * max 1 r.sounds = prod) (hlanes : lanes.length ≤ 6) :
    ∃ t, slacVerdict r [] elig lanes span margin free = chosenLane (assignments [vehicleCosts elig lanes span prod r] []) t (margin * 58 * prod) free := by
  subst hprod
  exact ⟨_, if_neg (by simp [hlanes])⟩

/-- One vehicle that sounded has no lane, or a free candidate at its figure. -/
theorem assignments_vehicle {r : SlacRun} {elig lanes : List Nat} {span : Nat} (hr : 0 < r.sounds) : assignments [vehicleCosts elig lanes span r.sounds r] [] =
    ([none], 90 * 58 * r.sounds) :: ((r.candidates elig span).filter lanes.contains).map fun n => ([some n], r.figNum n) := by
  have hmax : max 1 r.sounds = r.sounds := by omega
  simp only [vehicleCosts, assignments_single, hmax, Nat.div_self hr, Nat.mul_one, Nat.ne_of_gt hr, if_false, List.map_map, Function.comp_def]

theorem slacVerdict_single {r : SlacRun} {elig lanes : List Nat} {span margin free n : Nat} (hr : 0 < r.sounds) (h : slacVerdict r [] elig lanes span margin free = .lane (some n)) :
    n ∈ r.candidates elig span ∧ n ∈ lanes ∧ r.figNum n + margin * 58 * r.sounds ≤ 90 * 58 * r.sounds ∧
      ∀ k ∈ r.candidates elig span, k ∈ lanes → k ≠ n → r.figNum n + margin * 58 * r.sounds ≤ r.figNum k := by
  by_cases hlanes : lanes.length ≤ 6
  · obtain ⟨t, ht⟩ := slacVerdict_few (r := r) (elig := elig) (span := span) (margin := margin) (free := free) (prod := r.sounds) (by omega) hlanes
    rw [ht, assignments_vehicle hr] at h
    obtain ⟨⟨a, ha, rfl, hhead⟩, hgap⟩ := chosenLane_some h
    rcases List.mem_cons.1 ha with rfl | ha
    · cases hhead
    · obtain ⟨c, hc, rfl⟩ := List.mem_map.1 ha
      obtain rfl : c = n := Option.some.inj hhead
      obtain ⟨hcand, hlane⟩ := List.mem_filter.1 hc
      exact ⟨hcand, List.contains_iff_mem.1 hlane, hgap _ List.mem_cons_self (fun h => nomatch h),
        fun k hk hkl hne => hgap _ (List.mem_cons_of_mem _ (List.mem_map_of_mem (List.mem_filter.2 ⟨hk, List.contains_iff_mem.2 hkl⟩))) fun h => hne (Option.some.inj h)⟩
  · rw [slacVerdict_many (Or.inr (Nat.lt_of_not_le hlanes))] at h
    cases h

/-! ### 10BASE-T1S ports (R275 to R277) -/

section
variable {d : Dev} {t : Nat}

theorem t1sRx_used (h : d.t1sUsed t = true) (e : T1sIn) : d.t1sRx t e =
    match e with
    | .frame good node => (if good && node = 1 then (if good then d.inc (Reg.T1S_RX_FRAMES t) else d.inc (Reg.T1S_RX_ERR t)).hearNode1 t else if good then d.inc (Reg.T1S_RX_FRAMES t) else d.inc (Reg.T1S_RX_ERR t)).t1sLink t
    | .opportunity node => if d.plca t && 1 ≤ node && node = tget 0 d.husk.t1sNode t then ((if node = 1 then d.hearNode1 t else d).t1sLink t).t1sNext t else d
    | .own => if d.plca t && tget 0 d.husk.t1sNode t = 0 then
        (({ d with husk := { d.husk with t1sq := tset 0 d.husk.t1sq t (tget 0 d.husk.t1sq t - min (d.fld (Reg.T1S_CFG t) 15 12) (tget 0 d.husk.t1sq t)) } } : Dev).t1sTx t (min (d.fld (Reg.T1S_CFG t) 15 12) (tget 0 d.husk.t1sq t))).t1sNext t else d
    | .silent bits => if d.plca t && 1 ≤ tget 0 d.husk.t1sNode t && d.fld (Reg.T1S_CFG t) 23 16 * 16 ≤ bits then d.t1sNext t else d
    | .energy => (d.setBit (Reg.T1S_STATUS t) 1 true).t1sLink t :=
  (if_neg (by simp [h])).trans (by cases e <;> rfl)

theorem t1sRx_idle (h : d.t1sUsed t = false) (e : T1sIn) : d.t1sRx t e = d := if_pos (by rw [h]; rfl)

/-- Before the silence has lasted its time, and at the head's own turn, nothing moves on. -/
theorem t1sRx_silent_early {bits : Nat} (h : bits < d.fld (Reg.T1S_CFG t) 23 16 * 16 ∨ tget 0 d.husk.t1sNode t = 0) : d.t1sRx t (.silent bits) = d := by
  cases hused : d.t1sUsed t with
  | false => exact t1sRx_idle hused _
  | true => exact (t1sRx_used hused _).trans (if_neg (by rcases h with h | h <;> simp [h]))

theorem t1sRx_opportunity_other {node : Nat} (h : d.plca t = false ∨ node = 0 ∨ node ≠ tget 0 d.husk.t1sNode t) : d.t1sRx t (.opportunity node) = d := by
  cases hused : d.t1sUsed t with
  | false => exact t1sRx_idle hused _
  | true => exact (t1sRx_used hused _).trans (if_neg (by rcases h with h | h | h <;> simp [h]))

theorem t1sLoss_lost {energy : Bool} (h : d.t1sLost t energy = true) : d.t1sLoss t energy =
    let e := (d.setBit (Reg.T1S_STATUS t) 0 false).setBit (Reg.T1S_STATUS t) 1 energy
    if e.passive = true then e else e.linkLost (24 + t) := by
  have hpassive : ((d.setBit (Reg.T1S_STATUS t) 0 false).setBit (Reg.T1S_STATUS t) 1 energy).passive = d.passive := by
    have hne : Reg.TWIN_STATUS ≠ Reg.T1S_STATUS t := by unfold Reg.T1S_STATUS Reg.TWIN_STATUS; omega
    simp only [Dev.passive, Dev.twinState, Dev.fld, rd_setBit_other _ _ _ hne] <;> rfl
  rw [Dev.t1sLoss, if_pos h, Dev.when]
  dsimp only
  rw [hpassive]
  cases d.passive <;> rfl

end

/-! ### The obligation -/

/-- Settles O30. -/
theorem huskEventsComplete : Obligations.HuskEventsComplete :=
  ⟨fun f => acts_when (fun _ => rfl) fun d ⟨hrun, hactive, hbad⟩ => ⟨hrun, fcDecode_filtered hactive hbad⟩,
    fun f hus hmode hblocks => acts_when (fun _ => rfl) fun d ⟨hrun, hactive, hsni, hdest, hroom, hring⟩ => ⟨hrun, fcDecode_accepted hus hmode hblocks hactive hsni hdest hroom hring⟩,
    fun f c hok hkind => acts_when (fun _ => rfl) fun d ⟨hrun, hc⟩ => ⟨hrun, frameDelivery_good hok hkind hc⟩,
    fun f c hok => acts_when (fun _ => rfl) fun d ⟨hrun, hc⟩ => ⟨hrun, frameDelivery_bad hok hc⟩,
    fun n c => acts_when (fun _ => rfl) fun d ⟨hrun, hc⟩ => ⟨hrun, frameLate_found hc⟩,
    fun again => acts_when (fun _ => rfl) fun d ⟨hrun, hnone⟩ => ⟨hrun, huskSlice_empty hnone⟩,
    fun l idle again b => acts_when (fun _ => rfl) fun d ⟨hrun, hb⟩ => ⟨hrun, huskSlice_works hb⟩,
    fun n rms gain peak => acts_when (fun _ => rfl) fun d ⟨hrun, hactive⟩ => ⟨hrun, noiseWindow_quiet hactive⟩,
    fun n => acts_when (runs := fun d => d.huskRuns && d.taskRuns) (fun _ => rfl) fun d ⟨hrun, htask, hactive, helig⟩ => ⟨by rw [hrun, htask]; rfl, if_pos (by rw [hactive, helig]; rfl)⟩,
    fun lane run announced => acts_when (fun _ => rfl) fun d ⟨hrun, hactive, hnew⟩ => ⟨hrun, soundCapture_start hactive hnew⟩,
    fun run r => acts_when (runs := fun d => d.huskRuns && d.taskRuns) (fun _ => rfl) fun d ⟨hrun, htask, hr, hdue, hcfg, hnone⟩ => ⟨by rw [hrun, htask]; rfl, slacDecision_plain hr hdue hcfg hnone⟩,
    fun run r => acts_when (runs := fun d => d.huskRuns && d.taskRuns) (fun _ => rfl) fun d ⟨hrun, htask, hr, hdue, hcfg⟩ => ⟨by rw [hrun, htask]; rfl, slacDecision_crossLane hr hdue hcfg⟩,
    fun r others elig lanes span margin free h => slacVerdict_many h,
    fun r elig lanes span margin free n hr h => slacVerdict_single hr h,
    fun n run r => acts_when (runs := fun d => d.huskRuns && d.taskRuns) (fun _ => rfl) fun d ⟨hrun, htask, hactive, hr, hst, hnone, hans⟩ => ⟨by rw [hrun, htask]; rfl, slacMatch_answers hactive hr hst hnone hans⟩,
    fun t node => acts_when (fun _ => rfl) fun d ⟨hrun, hused⟩ => ⟨hrun, (t1sRx_used hused _).trans (by simp)⟩,
    fun t node => acts_when (fun _ => rfl) fun d ⟨hrun, hused⟩ => ⟨hrun, (t1sRx_used hused _).trans (by simp)⟩,
    fun t bits => acts_when (fun _ => rfl) fun d ⟨hrun, hused, hplca, hnode, hbits, hmore⟩ => ⟨hrun, (t1sRx_used hused _).trans ((if_pos (by simp [hplca, hnode, hbits])).trans (if_pos hmore))⟩,
    fun t bits => acts_when (fun _ => rfl) fun d ⟨hrun, hused, hplca, hnode, hbits, hend⟩ => ⟨hrun, (t1sRx_used hused _).trans ((if_pos (by simp [hplca, hnode, hbits])).trans (if_neg (Nat.not_lt.2 hend)))⟩,
    fun t bits => acts_when (fun _ => rfl) fun d ⟨hrun, hearly⟩ => ⟨hrun, t1sRx_silent_early hearly⟩,
    fun t => acts_when (fun _ => rfl) fun d ⟨hrun, hused⟩ => ⟨hrun, t1sRx_used hused _⟩,
    fun t => acts_when (fun _ => rfl) fun d ⟨hrun, hused, hplca, hnode⟩ => ⟨hrun, (t1sRx_used hused _).trans (if_pos (by simp [hplca, hnode]))⟩,
    fun t node => acts_when (fun _ => rfl) fun d ⟨hrun, hused, hplca, hnode, hown⟩ => ⟨hrun, (t1sRx_used hused _).trans (if_pos (by simp [hplca, hnode, ← hown]))⟩,
    fun t node => acts_when (fun _ => rfl) fun d ⟨hrun, hother⟩ => ⟨hrun, t1sRx_opportunity_other hother⟩,
    fun t x => acts_when (fun _ => rfl) fun d ⟨hrun, hunused⟩ => ⟨hrun, t1sRx_idle hunused x⟩,
    fun t energy => acts_when (fun _ => rfl) fun d ⟨hrun, hlost⟩ => ⟨hrun, t1sLoss_lost hlost⟩,
    acts_when (runs := fun d => !d.sys.inReset && d.domainRuns 2) (fun _ => rfl) fun d ⟨hrun, hdom⟩ => ⟨by rw [hrun, hdom]; rfl, rfl⟩⟩

end Sys2Proof.Proofs
end

section
/-!
The events of the mesh (O31).
-/
namespace Sys2Proof.Proofs
open Sys2Proof.Machine Sys2Proof.Claims Sys2Proof.Laws

/-! ### The mesh that a device holds -/

@[simp] theorem mesh_setMesh (d : Dev) (m : Mesh) : (d.setMesh m).mesh = m := by
  rw [Dev.setMesh, foldl_same Dev.mesh fun e n => e.wn_mesh _ _]
  rfl

@[simp] theorem note_st (m : Mesh) (h : Bytes) (snr : Nat) : (m.note h snr).st = m.st := by
  rw [Mesh.note]; split <;> rfl

@[simp] theorem note_hold (m : Mesh) (h : Bytes) (snr : Nat) : (m.note h snr).hold = m.hold := by
  rw [Mesh.note]; split <;> rfl

@[simp] theorem note_epoch (m : Mesh) (h : Bytes) (snr : Nat) : (m.note h snr).epoch = m.epoch := by
  rw [Mesh.note]; split <;> rfl

/-- A mesh without leavers is as the start of a period leaves it. -/
theorem no_leavers {m : Mesh} (h : m.leavers = []) :
    { m with map := if m.leavers = [] then m.map else (m.leavers.foldl (fun (x : MeshMap) n => x.setParent n 0xFF) m.map).bump, leavers := [], idents := m.idents.filter fun x => !m.leavers.contains x.2 } = m := by
  cases m
  cases h
  simp

section
variable {d : Dev} {b : Bytes} {snr : Nat}

/-! ### Periods (R285, R286, R306) -/

theorem meshPeriodStart_coordinator (hst : d.mesh.st = .coordinator) (hdue : d.mesh.periodAt + 200 ≤ d.osc) (hleave : d.mesh.leavers = []) :
    d.meshPeriodStart =
      let m := { d.mesh with period := (d.mesh.period + 1) % 2 ^ 32, count := d.mesh.count + 1, periodAt := d.osc, slotsSent := [], ended := false }
      if (d.setMesh m).meshCan = true then ((d.setMesh m).setMesh { m with lastFrame := (d.setMesh m).meshBeacon }).laneSend 32 .mesh else d.setMesh m := by
  have hat : (if d.mesh.st = .coordinator || d.mesh.count = 0 then d.osc else d.mesh.periodAt + 200) = d.osc := if_pos (by simp [hst])
  unfold Dev.meshPeriodStart
  extract_lets m at_ m1 map m2 d1 m3
  have hm2 : m2 = m3 := (no_leavers (m := m1) hleave).trans (by unfold m1 at_ m3; rw [hat])
  unfold d1
  rw [if_neg (by rw [hst]; decide), if_neg (by simp [m, Nat.not_lt.2 hdue]), if_pos hst, hm2]

theorem meshPeriodStart_member (hst : d.mesh.st = .member) (hscan : d.mesh.rescan = false) (hcount : d.mesh.count ≠ 0) (hdue : d.mesh.periodAt + 200 ≤ d.osc) :
    d.meshPeriodStart = d.setMesh { d.mesh with period := (d.mesh.period + 1) % 2 ^ 32, count := d.mesh.count + 1, periodAt := d.mesh.periodAt + 200, slotsSent := [], ended := false } := by
  unfold Dev.meshPeriodStart
  dsimp only
  rw [if_neg (by rw [hst]; decide), if_neg (by simp [Nat.not_lt.2 hdue]), if_neg (by rw [hst]; decide), if_neg (by simp [hscan]), if_neg (by simp [hst, hcount])]

theorem meshEndWork_rescan (hst : d.mesh.st = .member) (hage : d.mesh.refAge = none) (hmissed : 2 ≤ d.mesh.missed) :
    d.meshEndWork = (((d.inc Reg.MESH_BEACON_MISS_CNT).setMesh ({ d.mesh with missed := d.mesh.missed + 1, refAge := none } : Mesh).scan).inc Reg.MESH_RESCAN_CNT).raise Reg.MESH_EVENT 4 := by
  unfold Dev.meshEndWork
  simp only [hst, hage, Option.isNone_none, if_true, ne_eq, not_true, if_false]
  rw [if_pos (by omega)]

theorem meshPeriodEnd_rescan (hst : d.mesh.st = .member) (hend : d.mesh.ended = false) (hdue : d.mesh.periodAt + 199 ≤ d.osc) (hage : d.mesh.refAge = none) (hmissed : 2 ≤ d.mesh.missed) :
    d.meshPeriodEnd =
      let e := d.inc Reg.MESH_BEACON_MISS_CNT
      ((e.setMesh ({ d.mesh with ended := true, missed := d.mesh.missed + 1, refAge := none } : Mesh).scan).inc Reg.MESH_RESCAN_CNT).raise Reg.MESH_EVENT 4 :=
  (if_neg (by simp [hend, hdue])).trans (meshEndWork_rescan hst hage hmissed)

/-! ### Frames (R288, R300 to R303) -/

theorem meshBeaconRx_stale (hlen : b.length = 172) (hst : d.mesh.st ≠ .off) (hnet : num b 16 4 = d.rn Reg.MESH_NETWORK_ID) (hkey : d.meshKeyOk = true) (hactive : d.laneActive 32 = true) (hepoch : num b 0 4 < d.mesh.epoch) :
    d.meshBeaconRx b snr = (d.inc Reg.MESH_STALE_CNT).raise Reg.MESH_EVENT 1 :=
  (if_neg (by simp [hlen, hst, hnet, hkey, hactive])).trans (if_pos hepoch)

theorem meshBeaconRx_taken (hlen : b.length = 172) (hst : d.mesh.st ≠ .off) (hnet : num b 16 4 = d.rn Reg.MESH_NETWORK_ID) (hkey : d.meshKeyOk = true) (hactive : d.laneActive 32 = true) (hepoch : d.mesh.epoch ≤ num b 0 4)
    (hsome : (d.meshHeader b snr (some ((b.drop 20).take 6))).isSome = true) :
    d.meshBeaconRx b snr = (((d.meshHeader b snr (some ((b.drop 20).take 6))).getD d).meshTakeMap (meshMapOf (b.drop 36) (num b 8 2) ((b.drop 20).take 6)) (num b 0 4)).meshRefer b := by
  obtain ⟨e, he⟩ := Option.isSome_iff_exists.1 hsome
  unfold Dev.meshBeaconRx
  dsimp only
  rw [if_neg (by simp [hlen, hst, hnet, hkey, hactive]), if_neg (Nat.not_lt.2 hepoch)]
  simp only [he, Option.getD_some]

/-- A frame of the own epoch, at a node that does not scan and waits for no map, is noted and no more. -/
theorem meshHeader_own (hoff : d.mesh.st ≠ .off) (hscan : d.mesh.st ≠ .scanning) (hepoch : d.mesh.epoch = num b 0 4) : d.meshHeader b snr none = some (d.setMesh (d.mesh.note b snr)) := by
  have hlt : ¬ d.mesh.epoch < num b 0 4 := by omega
  have hgt : ¬ num b 0 4 < d.mesh.epoch := by omega
  unfold Dev.meshHeader
  simp only [hoff, hgt, note_st, hscan, note_epoch, hlt, if_false, decide_false, Bool.or_false, Bool.and_false, Bool.false_eq_true]

/-- A node that neither leads nor waits for a map of a higher epoch. -/
def follows (d : Dev) : Prop := d.mesh.st ≠ .coordinator ∧ d.mesh.hold = none

theorem follows_setMesh {m : Mesh} (hst : m.st ≠ .coordinator) (hhold : m.hold = none) : follows (d.setMesh m) := by
  rw [follows, mesh_setMesh]
  exact ⟨hst, hhold⟩

theorem follows_meshEndWork (h : follows d) : follows d.meshEndWork := by
  obtain ⟨hst, hhold⟩ := h
  unfold Dev.meshEndWork
  extract_lets m missed d1 m1 d2 m2 removed
  split
  · exact ⟨hst, hhold⟩
  · split
    · rw [follows, Dev.raise_mesh, Dev.inc_mesh, mesh_setMesh]
      exact ⟨MeshSt.noConfusion, rfl⟩
    · split
      · split
        · exact follows_setMesh hst hhold
        · exact follows_setMesh hst hhold
      · exact follows_setMesh hst hhold

theorem aged_st (m : Mesh) (h : Bytes) : (m.aged h).st = m.st := by
  rw [Mesh.aged]; split <;> rfl

theorem aged_hold (m : Mesh) (h : Bytes) : (m.aged h).hold = m.hold := by
  rw [Mesh.aged]; split <;> rfl

theorem follows_meshRefer (h : follows d) : follows (d.meshRefer b) := by
  unfold Dev.meshRefer
  extract_lets m d1
  split
  · exact h
  · split
    · have hd1 : follows d1 := by
        unfold d1
        split
        · exact h
        · exact follows_meshEndWork h
      obtain ⟨hst, hhold⟩ := hd1
      exact follows_setMesh (by rw [aged_st]; exact hst) (by rw [aged_hold]; exact hhold)
    · obtain ⟨hst, hhold⟩ := h
      exact follows_setMesh (by rw [aged_st]; exact hst) (by rw [aged_hold]; exact hhold)

/-- The frames of others do not date a coordinator's period. -/
theorem meshRefer_coordinator (hst : d.mesh.st = .coordinator) : d.meshRefer b = d :=
  if_pos (by simp [Mesh.fromRef, hst])

theorem meshSlotRx_failed (hlen : 16 ≤ b.length) (hst : d.mesh.st ≠ .off) (hkey : d.meshKeyOk = true) (hactive : d.laneActive 32 = true) :
    d.meshSlotRx Dev.meshSafeFrame b snr false = { d with mesh := { d.mesh with lastSack := some false } } :=
  if_neg (by simp [hlen, hst, hkey, hactive])

theorem meshSlotRx_stale (hlen : 16 ≤ b.length) (hst : d.mesh.st ≠ .off) (hkey : d.meshKeyOk = true) (hactive : d.laneActive 32 = true) (hepoch : num b 0 4 < d.mesh.epoch) :
    d.meshSlotRx Dev.meshSafeFrame b snr true = (d.inc Reg.MESH_STALE_CNT).raise Reg.MESH_EVENT 1 :=
  (if_neg (by simp [hlen, hst, hkey, hactive])).trans ((if_neg (by decide)).trans (if_pos hepoch))

section
variable (hlen : 16 ≤ b.length) (hslot : num b 11 1 ≠ 0xFE) (hkey : d.meshKeyOk = true) (hactive : d.laneActive 32 = true) (hepoch : d.mesh.epoch = num b 0 4) (hhold : d.mesh.hold = none)
include hlen hslot hkey hactive hepoch hhold

theorem meshSlotRx_member (hst : d.mesh.st = .member) :
    d.meshSlotRx Dev.meshSafeFrame b snr true =
      let e := (d.setMesh (d.mesh.note b snr)).meshRefer b
      (meshMsgs (num b 0 4) 64 (b.drop 16)).foldl (fun (d : Dev) x => d.meshMessage Dev.meshSafeFrame (num b 10 1) (num b 8 2) x)
        (e.setMesh { e.mesh with lastSack := some true }) := by
  have hhead : d.meshHeader b snr none = some (d.setMesh (d.mesh.note b snr)) := meshHeader_own (by rw [hst]; decide) (by rw [hst]; decide) hepoch
  obtain ⟨hfollow, hnohold⟩ : follows ((d.setMesh (d.mesh.note b snr)).meshRefer b) :=
    follows_meshRefer (follows_setMesh (by rw [note_st, hst]; decide) (by rw [note_hold, hhold]))
  unfold Dev.meshSlotRx
  rw [if_neg (by simp [hlen, hst, hkey, hactive]), if_neg (by decide), if_neg (by omega)]
  simp only [hhead, hfollow, decide_false, Bool.false_and, Bool.false_eq_true, if_false, mesh_setMesh, hnohold, Option.isSome_none, hslot]

theorem meshSlotRx_leaving (hleave : (num b 15 1).testBit 1 = true) (hst : d.mesh.st = .coordinator) :
    d.meshSlotRx Dev.meshSafeFrame b snr true =
      let e := (d.setMesh (d.mesh.note b snr)).meshRefer b
      (meshMsgs (num b 0 4) 64 (b.drop 16)).foldl (fun (d : Dev) x => d.meshMessage Dev.meshSafeFrame (num b 10 1) (num b 8 2) x)
        (e.setMesh { e.mesh with lastSack := some true, leavers := e.mesh.leavers ++ [num b 10 1] }) := by
  have hhead : d.meshHeader b snr none = some (d.setMesh (d.mesh.note b snr)) := meshHeader_own (by rw [hst]; decide) (by rw [hst]; decide) hepoch
  have hrefer : (d.setMesh (d.mesh.note b snr)).meshRefer b = d.setMesh (d.mesh.note b snr) := meshRefer_coordinator (by rw [mesh_setMesh, note_st, hst])
  unfold Dev.meshSlotRx
  rw [if_neg (by simp [hlen, hst, hkey, hactive]), if_neg (by decide), if_neg (by omega)]
  simp only [hhead, hrefer, mesh_setMesh, note_st, hst, hleave, decide_true, Bool.and_self, if_true, note_hold, hhold, Option.isSome_none, Bool.false_and, Bool.false_eq_true, if_false, hslot]

end

/-! ### Acknowledgements (R300) -/

theorem meshSack_positive (h : d.mesh.flight.isSome = true) : d.meshSack true = d.setMesh { d.mesh with flight := none } := by
  obtain ⟨f, hf⟩ := Option.isSome_iff_exists.1 h
  unfold Dev.meshSack
  simp only [hf, if_true]

theorem meshSack_negative {f : MeshFlight} (h : d.mesh.flight = some f) : d.meshSack false =
    if f.tries < d.fld Reg.MESH_CFG 18 16 then d.setMesh { d.mesh with flight := some { f with tries := f.tries + 1 } }
    else (d.setMesh { d.mesh with flight := none }).incBy Reg.MESH_DROP_RETRY_CNT f.msgs.length := by
  unfold Dev.meshSack
  simp only [h, Bool.false_eq_true, if_false]

/-! ### Scanning, joining and leading (R290, R293, R307) -/

theorem meshScanEnd_leads (hst : d.mesh.st = .scanning) (hcount : d.mesh.scanFrom + d.fld Reg.MESH_JOIN_CFG 5 0 ≤ d.mesh.count) (hwait : d.mesh.waitTill ≤ d.mesh.count) (hkey : d.meshKeyOk = true) (hrole : d.meshRole = 1)
    (hheard : d.mesh.heardNet = false) : d.meshScanEnd = d.setMesh (d.mesh.lead 0 (d.mesh.storedEpoch + 1) d.meshIdent MeshMap.empty) :=
  (if_neg (by simp [hst, hcount, hwait, hkey, hrole, hheard])).trans ((if_pos hrole).trans (if_neg (by simp [hheard])))

theorem meshJoinReq_new {ident : Bytes} {parent n : Nat} (hst : d.mesh.st = .coordinator) (hkey : d.meshKeyOk = true) (hnew : ∀ x ∈ d.mesh.idents, x.1 ≠ ident) (hn : (List.range 64).find? (fun n => !d.mesh.map.used n) = some n)
    (hparent : d.mesh.map.parentOf n ≠ parent) (hused : d.mesh.map.used parent = true) (hshallow : (d.mesh.map.setParent n parent).shallow = true) :
    d.meshJoinReq ident parent =
      let m := { d.mesh with idents := (ident, n) :: d.mesh.idents.filter (fun x => x.2 ≠ n), map := (d.mesh.map.setParent n parent).bump,
                             nbrs := tset MeshNbr.none d.mesh.nbrs n { d.mesh.nbr n with heard := d.mesh.count } }
      d.setMesh (m.originate 9 0 0xFF (padTo 6 ident ++ [byte n, 0] ++ leN m.epoch 4)).1 := by
  have hnone : d.mesh.idents.find? (fun x => x.1 = ident) = none := List.find?_eq_none.2 fun x hx => by simpa using hnew x hx
  have hid : d.mesh.idFor ident = some n := by
    rw [Mesh.idFor, hnone]
    exact hn
  unfold Dev.meshJoinReq
  simp only [hid, hst, hkey, hused, hshallow, hparent, Option.all_some, Option.getD_some, Bool.and_self, Bool.not_true, ne_eq, not_true, decide_false, Bool.or_self, Bool.false_eq_true, if_false]

theorem meshJoinAck_own {ident : Bytes} {id epoch : Nat} (hid : id < 64) (hst : d.mesh.st = .joining) (hkey : d.meshKeyOk = true) (hident : padTo 6 ident = padTo 6 d.meshIdent) :
    d.meshJoinAck ident id epoch =
      let m := (d.mesh.setEpoch epoch).renumber id
      d.setMesh { m with st := .member, parent := m.joinParent, pathCost := m.costVia m.joinParent, missed := 0, lastChange := m.count } :=
  (if_neg (by simp [hst, hkey, hident])).trans (if_neg (Nat.not_le.2 hid))

theorem meshJoinTimeout_over (hst : d.mesh.st = .joining) (hdue : (if d.mesh.joinSent = 0 then d.mesh.joinAt else d.mesh.joinSent) + 16 ≤ d.mesh.count) (htries : 4 < d.mesh.joinTries + b2n (d.mesh.joinSent = 0)) :
    d.meshJoinTimeout = d.setMesh d.mesh.scan := by
  unfold Dev.meshJoinTimeout
  extract_lets m unsent tries
  rw [if_pos (by simpa [m, unsent, hst] using hdue), if_neg (Nat.not_le.2 htries)]

theorem meshNodeTimeout_silent {n : Nat} (hst : d.mesh.st = .coordinator) (hused : d.mesh.map.used n = true) (hne : n ≠ d.mesh.node) (hdue : (d.mesh.nbr n).heard + d.fld Reg.MESH_NODE_TIMEOUT 7 0 ≤ d.mesh.count) :
    d.meshNodeTimeout n = d.meshRemove n :=
  if_pos (by simp [hst, hused, hne, hdue])

theorem meshPromote_due {c : Nat} (hst : d.mesh.st = .scanning) (hrole : d.meshRole = 2) (hkey : d.meshKeyOk = true) (hquiet : d.mesh.quietFrom + d.fld Reg.MESH_JOIN_CFG 5 0 + 4 * d.meshRank ≤ d.mesh.count)
    (hcoord : d.mesh.map.coord = some c) (hnode : d.mesh.node < 64) :
    d.meshPromote = ((d.setMesh (d.mesh.lead d.mesh.node (d.mesh.epoch + 1) d.meshIdent ({ d.mesh.map with reassigned := 2 ^ c }.setParent c 0xFF))).inc Reg.MESH_PROMOTE_CNT).raise Reg.MESH_EVENT 24 := by
  unfold Dev.meshPromote
  rw [if_pos (by simp [hst, hrole, hkey, hquiet])]
  simp only [hcoord, hnode, if_true]

/-! ### Actions and slots (R292, R305) -/

theorem meshExecute_one {a : MeshAct} (hacts : d.mesh.actions = [a]) (hready : a.ready d.mesh d.osc = true) : d.meshExecute = ({ d with mesh := { d.mesh with actions := [] } } : Dev).meshAct a := by
  unfold Dev.meshExecute
  simp only [hacts, List.filter_cons, hready, Bool.not_true, Bool.false_eq_true, if_true, if_false, List.filter_nil, List.foldl_cons, List.foldl_nil]

theorem meshSlot_leaving {i : Nat} (hopen : d.slotOpen i = true) (hleave : d.mesh.leaving = true) :
    d.meshSlot i = ((d.setMesh { d.mesh.stop with lastFrame := d.mesh.header i 2 }).inc Reg.MESH_TX_FRAMES).laneSend 32 .mesh :=
  (if_neg (by simp [hopen])).trans (if_pos hleave)

theorem meshContention_due (hst : d.mesh.st = .joining) (hat : d.mesh.joinAt = d.mesh.count) (hsent : d.mesh.joinSent ≠ d.mesh.count) (hhold : d.mesh.hold = none) (hosc : d.mesh.periodAt ≤ d.osc) (hlo : 198 ≤ d.meshOffset)
    (hhi : d.meshOffset ≤ 199) (hcan : d.meshCan = true) :
    d.meshContention =
      let req := d.mesh.header 0xFE 0 ++ (d.meshIdent ++ [byte d.mesh.joinParent, byte (d.fld Reg.MESH_CFG 1 0)])
      (d.setMesh { d.mesh with joinSent := d.mesh.count, joinTries := d.mesh.joinTries + 1, lastFrame := req }).laneSend 32 .mesh :=
  if_pos (by simp [hst, hat, hsent, hhold, hosc, hlo, hhi, hcan])

end

/-! ### The obligation -/

/-- Settles O31. -/
theorem meshEventsComplete : Obligations.MeshEventsComplete :=
  ⟨acts_when (fun _ => rfl) fun d ⟨hrun, hst, hdue, hleave⟩ => ⟨hrun, meshPeriodStart_coordinator hst hdue hleave⟩,
    acts_when (fun _ => rfl) fun d ⟨hrun, hst, hscan, hcount, hdue⟩ => ⟨hrun, meshPeriodStart_member hst hscan hcount hdue⟩,
    fun b snr hlen => acts_when (fun _ => rfl) fun d ⟨hrun, hst, hnet, hkey, hactive, hepoch⟩ => ⟨hrun, meshBeaconRx_stale hlen hst hnet hkey hactive hepoch⟩,
    fun b snr hlen => acts_when (fun _ => rfl) fun d ⟨hrun, hst, hnet, hkey, hactive, hepoch, hsome⟩ => ⟨hrun, meshBeaconRx_taken hlen hst hnet hkey hactive hepoch hsome⟩,
    fun b snr hlen => acts_when (fun _ => rfl) fun d ⟨hrun, hst, hkey, hactive⟩ => ⟨hrun, meshSlotRx_failed hlen hst hkey hactive⟩,
    fun b snr hlen => acts_when (fun _ => rfl) fun d ⟨hrun, hst, hkey, hactive, hepoch⟩ => ⟨hrun, meshSlotRx_stale hlen hst hkey hactive hepoch⟩,
    fun b snr hlen hslot => acts_when (fun _ => rfl) fun d ⟨hrun, hst, hkey, hactive, hepoch, hhold⟩ => ⟨hrun, meshSlotRx_member hlen hslot hkey hactive hepoch hhold hst⟩,
    fun b snr hlen hslot hleave => acts_when (fun _ => rfl) fun d ⟨hrun, hst, hkey, hactive, hepoch, hhold⟩ => ⟨hrun, meshSlotRx_leaving hlen hslot hkey hactive hepoch hhold hleave hst⟩,
    acts_when (fun _ => rfl) fun d ⟨hrun, hflight⟩ => ⟨hrun, meshSack_positive hflight⟩,
    fun f => acts_when (fun _ => rfl) fun d ⟨hrun, hflight, htries⟩ => ⟨hrun, (meshSack_negative hflight).trans (if_pos htries)⟩,
    fun f => acts_when (fun _ => rfl) fun d ⟨hrun, hflight, htries⟩ => ⟨hrun, (meshSack_negative hflight).trans (if_neg (Nat.not_lt.2 htries))⟩,
    acts_when (fun _ => rfl) fun d ⟨hrun, hst, hend, hdue, hage, hmissed⟩ => ⟨hrun, meshPeriodEnd_rescan hst hend hdue hage hmissed⟩,
    acts_when (fun _ => rfl) fun d ⟨hrun, hst, hcount, hwait, hkey, hrole, hheard⟩ => ⟨hrun, meshScanEnd_leads hst hcount hwait hkey hrole hheard⟩,
    fun ident parent n => acts_when (fun _ => rfl) fun d ⟨hrun, hst, hkey, hnew, hn, hparent, hused, hshallow⟩ => ⟨hrun, meshJoinReq_new hst hkey hnew hn hparent hused hshallow⟩,
    fun ident id epoch hid => acts_when (fun _ => rfl) fun d ⟨hrun, hst, hkey, hident⟩ => ⟨hrun, meshJoinAck_own hid hst hkey hident⟩,
    acts_when (fun _ => rfl) fun d ⟨hrun, hst, hsent, hdue, htries⟩ => ⟨hrun, meshJoinTimeout_over hst (by rw [if_neg hsent]; exact hdue) (by omega)⟩,
    acts_when (fun _ => rfl) fun d ⟨hrun, hst, hsent, hdue, htries⟩ => ⟨hrun, meshJoinTimeout_over hst (by rw [if_pos hsent]; exact hdue) (by simp [hsent, b2n]; omega)⟩,
    fun n => acts_when (fun _ => rfl) fun d ⟨hrun, hst, hused, hne, hdue⟩ => ⟨hrun, meshNodeTimeout_silent hst hused hne hdue⟩,
    fun c => acts_when (fun _ => rfl) fun d ⟨hrun, hst, hrole, hkey, hquiet, hcoord, hnode⟩ => ⟨hrun, meshPromote_due hst hrole hkey hquiet hcoord hnode⟩,
    fun a => acts_when (runs := fun d => d.huskRuns && d.taskRuns) (fun _ => rfl) fun d ⟨hrun, htask, hacts, hready⟩ => ⟨by rw [hrun, htask]; rfl, meshExecute_one hacts hready⟩,
    fun i => acts_when (fun _ => rfl) fun d ⟨hrun, hopen, hthen, hleave⟩ => ⟨hrun, (congrArg (fun e : Dev => e.meshSlot i) (when_true hopen)).trans (meshSlot_leaving hthen hleave)⟩,
    acts_when (fun _ => rfl) fun d ⟨hrun, hst, hat, hsent, hhold, hosc, hlo, hhi, hcan⟩ => ⟨hrun, meshContention_due hst hat hsent hhold hosc hlo hhi hcan⟩⟩

end Sys2Proof.Proofs
end

section
/-!
The events of the twin (O32).
-/
namespace Sys2Proof.Proofs
open Sys2Proof.Machine Sys2Proof.Claims Sys2Proof.Laws

section
variable {d : Dev}

/-! ### The twin's state, which other bits and registers leave -/

theorem twinState_setBit_status {i : Nat} (b : Bool) (hi : 3 ≤ i) : (d.setBit Reg.TWIN_STATUS i b).twinState = d.twinState := fld_setBit_low b hi

theorem twinState_wn_other {a n : Nat} (h : Reg.TWIN_STATUS ≠ a) : (d.wn a n).twinState = d.twinState := by
  simp only [Dev.twinState, Dev.fld, rd_wn_other d n h]

theorem twinState_setFld_other {a hi lo v : Nat} (h : Reg.TWIN_STATUS ≠ a) : (d.setFld a hi lo v).twinState = d.twinState := by
  simp only [Dev.twinState, Dev.fld, Dev.setFld, Dev.rd_wr_other _ _ h]

/-! ### The Pod link (R397, R398) -/

theorem podTrain_lane {n : Fin 2} (hen : d.twinEn = true) : d.podTrain (.lane n) =
    let e := d.setBit Reg.TWIN_POD_STATUS n true
    if d.fld Reg.TWIN_POD_STATUS 1 0 ≠ 3 ∧ e.fld Reg.TWIN_POD_STATUS 1 0 = 3 then e.setTwin fun t => { t with trainAt := d.pip } else e := by
  unfold Dev.podTrain
  rw [if_neg (by simp [hen])]
  simp only [Bool.and_eq_true, Bool.not_eq_true', decide_eq_false_iff_not, decide_eq_true_eq, ne_eq]
  rfl

theorem podTrain_deskew (hen : d.twinEn = true) (hboth : d.fld Reg.TWIN_POD_STATUS 1 0 = 3) : d.podTrain .deskew = d.setTwin fun t => { t with deskew := true, exchOut := some d.ownPeer } :=
  (if_neg (by simp [hen])).trans (if_pos hboth)

theorem podTrain_exchange_early {p : Peer} (h : d.fld Reg.TWIN_POD_STATUS 1 0 ≠ 3 ∨ d.twin.deskew = false) : d.podTrain (.exchange p) = d := by
  unfold Dev.podTrain
  dsimp only
  split
  · rfl
  · exact if_neg (by rcases h with h | h <;> simp [h])

theorem podTrain_exchange_syncing {p : Peer} (hen : d.twinEn = true) (hst : d.twinState = 2) (hboth : d.fld Reg.TWIN_POD_STATUS 1 0 = 3) (hdeskew : d.twin.deskew = true) :
    d.podTrain (.exchange p) =
      let e := ((d.setTwin fun t => { t with peer := some p, peerState := p.state, podHeard := true, podSilent := 0 }).wn Reg.TWIN_PEER_EPOCH p.epoch).setFld Reg.TWIN_POD_STATUS 2 0 7
      e.twinCause (e.syncCause p) := by
  have hkeep : (((d.setTwin fun t => { t with peer := some p, peerState := p.state, podHeard := true, podSilent := 0 }).wn Reg.TWIN_PEER_EPOCH p.epoch).setFld Reg.TWIN_POD_STATUS 2 0 7).twinState = 2 := by
    rw [twinState_setFld_other (by decide), twinState_wn_other (by decide)]
    exact hst
  unfold Dev.podTrain
  dsimp only
  rw [if_neg (by simp [hen]), if_pos (by simp [hboth, hdeskew])]
  unfold Dev.podTrained
  rw [if_neg (by simp [hen])]
  simp only [hkeep]

theorem podLost_locked {lane : Fin 2} (hen : d.twinEn = true) (hlock : d.rbit Reg.TWIN_POD_STATUS lane = true) :
    d.podLost lane = (d.setTwin fun t => { t with deskew := false, trainAt := d.pip }).wn Reg.TWIN_POD_STATUS (min 255 (d.fld Reg.TWIN_POD_STATUS 15 8 + 1) * 256) :=
  if_pos (by simp [hen, Nat.mod_eq_of_lt lane.isLt, hlock])

theorem podFrame_damaged {f : PodOut} {crc : Nat} (hcrc : podCrc f ≠ crc) (hen : d.twinEn = true) (htrained : d.rbit Reg.TWIN_POD_STATUS 2 = true) :
    d.podFrame { body := f, crc := crc } = d.inc Reg.TWIN_POD_CRC_ERR_CNT :=
  (if_neg (by simp [hen, htrained])).trans (if_pos hcrc)

theorem podFrame_stale {f : PodOut} (hen : d.twinEn = true) (htrained : d.rbit Reg.TWIN_POD_STATUS 2 = true) (hepoch : f.epoch < d.rn Reg.TWIN_EPOCH) :
    d.podFrame { body := f, crc := podCrc f } = (d.inc Reg.TWIN_STALE_CNT).raise Reg.TWIN_EVENT 64 :=
  (if_neg (by simp [hen, htrained])).trans ((if_neg (by simp)).trans (if_pos hepoch))

theorem podFrame_syncing {f : PodOut} (hen : d.twinEn = true) (htrained : d.rbit Reg.TWIN_POD_STATUS 2 = true) (hepoch : d.rn Reg.TWIN_EPOCH ≤ f.epoch) (hst : d.twinState = 2) :
    d.podFrame { body := f, crc := podCrc f } =
      let e := d.setTwin fun t => { t with podHeard := true, peerState := f.state, peer := t.peer.map fun p => { p with aligned := f.aligned, state := f.state, epoch := f.epoch } }
      (((((e.partnerHere).setBit Reg.TWIN_STATUS 7 true).wn Reg.TWIN_PEER_EPOCH f.epoch).wn Reg.TWIN_EPOCH f.epoch).takeCopy (if f.short = true then none else f.copy)).syncShow := by
  have hkeep : ((((d.setTwin fun t => { t with podHeard := true, peerState := f.state, peer := t.peer.map fun p => { p with aligned := f.aligned, state := f.state, epoch := f.epoch } }).partnerHere).setBit Reg.TWIN_STATUS 7 true).wn
      Reg.TWIN_PEER_EPOCH f.epoch).twinState = 2 := by
    rw [twinState_wn_other (by decide), twinState_setBit_status _ (by decide), Dev.partnerHere, twinState_setBit_status _ (by decide)]
    exact hst
  unfold Dev.podFrame
  dsimp only
  rw [if_neg (by simp [hen, htrained]), if_neg (by simp), if_neg (Nat.not_lt.2 hepoch)]
  simp only [hkeep, PodOut.whole]

/-! ### Comparison of Kernels (R417) -/

theorem kcmpSet_eq (m : Nat) : d.kcmpSet m =
    if d.fld Reg.TWIN_KCMP_CFG 31 20 ≤ (tget (0, 0) d.twin.runs m).1 ∧ d.rbit Reg.TWIN_KCMP_MASK m = false then ((d.setBit Reg.TWIN_KCMP_MASK m true).raise Reg.TWIN_EVENT 128).log 72 7 [byte m] else d := by
  unfold Dev.kcmpSet
  simp only [Bool.and_eq_true, decide_eq_true_eq, Bool.not_eq_true']

/-! ### Silence and promotion (R399, R402, R418, R419) -/

theorem liveToggle_runs (hen : d.twinEn = true) (hmode : d.mode ≠ .boot) (hreset : d.sys.inReset = false) (hdom : d.domainRuns 0 = true) : d.liveToggle = d.setTwin fun t => { t with liveOut := !t.liveOut } :=
  if_pos (by simp [hen, hmode, hreset, hdom])

theorem silence_both (hpod : 3 ≤ d.twin.podSilent) (hlive : 3 ≤ d.twin.liveSilent) : d.silence = true := by
  simp [Dev.silence, hpod, hlive]

theorem silencePromote_standby (hpod : 3 ≤ d.twin.podSilent) (hlive : 3 ≤ d.twin.liveSilent) (hst : d.twinState = 3) :
    d.silencePromote = (((d.setBit Reg.TWIN_STATUS 6 false).setTwin fun t => { t with peerState := 0 }).twinActivate (d.rn Reg.TWIN_EPOCH + 1)).emptyRings.setTwin fun t =>
      { t with promotedAt := some d.pip, arpAt := some d.pip, stale := t.inflight.map (·.cmd), inflight := [] } := by
  unfold Dev.silencePromote
  rw [if_neg (by simp [silence_both hpod hlive])]
  simp only [hst]

theorem promotedHub_low {p : Nat} (hp : d.twin.promotedAt = some p) (hpip : d.pip ≤ p + 40) (hstop : d.rbit Reg.SAFE_STATUS 3 = true) (hhub : d.rbit Reg.SAFE_STATUS 2 = false) :
    d.promotedHub = (List.range 32).foldl (fun (d : Dev) n => if d.ost n = .cableCheck ∨ d.ost n = .precharge ∨ d.ost n = .energy then d.rampdown n 14 else d) (d.setTwin fun t => { t with promotedAt := none }) := by
  unfold Dev.promotedHub
  rw [if_pos (by simp [hp, hpip, hstop, hhub])]
  simp only [Bool.or_eq_true, decide_eq_true_eq, or_assoc]

theorem podFault_standby (hen : d.twinEn = true) (hpod : 3 ≤ d.twin.podSilent) (hlive : d.twin.liveSilent = 0) (hst : d.twinState = 3) :
    d.podFault = ((((d.inc Reg.TWIN_POD_FAULT_CNT).raise Reg.TWIN_EVENT 4).degrade 5).twinCause 5).twinSyncing :=
  (if_neg (by simp [hen, hpod, hlive])).trans (if_pos hst)

theorem partnerSilent_active (hst : d.twinState = 4) (hpod : 3 ≤ d.twin.podSilent) (hlive : 3 ≤ d.twin.liveSilent) :
    d.partnerSilent = ((d.setBit Reg.TWIN_STATUS 6 false).setBit Reg.TWIN_STATUS 5 false).setTwin fun t => { t with peerState := 0 } :=
  if_pos (by simp [hst, silence_both hpod hlive])

theorem copyLag_due (hst : d.twinState = 3) (hlag : 8 ≤ d.twin.lag) : d.copyLag = (d.twinCause 6).twinSyncing := if_pos (by simp [hst, hlag])

/-! ### Copies (R405, R413) -/

theorem copyApply_plain {c : CopyImage} (hhand : c.handover = false) (hc : d.twin.copy = some c) (hat : d.twin.copyAt + 1 = d.pip) (hst : d.twinState = 2 ∨ d.twinState = 3) :
    d.copyApply =
      let lanes := (List.range 33).foldl (fun (t : Tab HLane) n => tset HLane.reset t n (d.laneCopy n (tget LaneCopy.reset c.lanes n))) d.husk.lanes
      let conns := (List.range 8).foldl (fun (t : Tab SConn) i => if wbit (d.connWord i 0) 30 = true then tset SConn.reset t i { tget SConn.reset t i with seq := tget 0 c.seqs i } else t) d.safe.conns
      let e : Dev := { d with regs := mergeCopied d.regs c.regs, shadow := mergeCopied d.shadow c.shadow, out := c.out, bill := c.bill, mesh := { c.mesh with periodAt := d.osc - (c.osc - c.mesh.periodAt) }, husk := { d.husk with lanes := lanes },
                              disp := { d.disp with active := tnorm 0 c.active, staging := tnorm 0 c.staging }, tag := { d.tag with fram := tnorm 0 c.fram }, safe := { d.safe with conns := conns } }
      let f := (List.range 32).foldl (fun (x : Dev) n => x.guardCopied d n) e
      let g := c.kern.foldl (fun (d : Dev) k => d.copyBreak k.2) f
      (if g.twinState = 2 then (List.range 32).foldl (fun (d : Dev) n => d.wn (Reg.OUT_CP_DUTY n) 0) g else { g with sys := { g.sys with pilots := true } }).setTwin fun t =>
        { t with copy := none, run := if c.pip = t.copyAt then t.run + 1 else 0, bulk := t.bulk || c.bulk, lag := 0, inflight := c.flights } := by
  have hbody : ¬ ((d.twinState ≠ 2 && d.twinState ≠ 3) || d.pip ≤ d.twin.copyAt) = true := by
    rcases hst with hst | hst <;> simp [hst] <;> omega
  unfold Dev.copyApply
  simp only [hc]
  rw [if_neg hbody, if_neg (by simp [hhand])]
  rfl

theorem syncComplete_ready {p : Peer} (hp : d.twin.peer = some p) (hst : d.twinState = 2) (hcause : d.syncCause p = 0) (hbulk : d.twin.bulk = true) (hrun : 400 ≤ d.twin.run) (htrained : d.rbit Reg.TWIN_POD_STATUS 2 = true) :
    d.syncComplete = ((((d.twinCause 0).twinTo 3).undegrade 5).raise Reg.TWIN_EVENT 8).joinKernel := by
  unfold Dev.syncComplete
  simp only [hp]
  rw [if_pos (by simp [hst, hcause, hbulk, hrun, htrained])]

/-! ### Searching and notices (R400 to R402) -/

theorem searchTimeout_due (hst : d.twinState = 1) (hdue : d.twin.searchAt + (if d.roleB = true then 2 else 1) * d.fld Reg.TWIN_CFG 15 0 ≤ d.pip) (huntrained : d.rbit Reg.TWIN_POD_STATUS 2 = false) (hnotice : d.twin.notice = none)
    (hedge : d.twin.lastEdge = none) : d.searchTimeout = (d.twinActivate (d.twin.stored + 1)).coldOutlets := by
  have hwait : (if d.roleB = true then 2 * d.fld Reg.TWIN_CFG 15 0 else d.fld Reg.TWIN_CFG 15 0) = (if d.roleB = true then 2 else 1) * d.fld Reg.TWIN_CFG 15 0 := by
    split <;> omega
  rw [← hwait] at hdue
  exact if_pos (by simp [hst, hdue, huntrained, hnotice, hedge])

theorem noticeTx_due (hen : d.twinEn = true) (hcfg : d.rbit Reg.TWIN_CFG 17 = true) (hdue : d.twin.noticeAt + 40 ≤ d.pip) :
    d.noticeTx = d.setTwin fun t => { t with noticeAt := d.pip, noticeOut := d.notice, noticeTo := some (d.rn Reg.TWIN_PEER_IP, d.fld Reg.TWIN_UDP_PORT 15 0) } :=
  if_pos (by simp [hen, hcfg, hdue])

theorem noticeRx_taken {ip : Nat} {b : Bytes} (hlen : b.length = 16) (hmark : b.take 4 = [0x4B, 0x42, 0x54, 0x4E]) (hcrc : num b 12 4 = (crc32c (b.take 12)).toNat) (hen : d.twinEn = true) (hcfg : d.rbit Reg.TWIN_CFG 17 = true)
    (hip : ip = d.rn Reg.TWIN_PEER_IP) (hepoch : d.rn Reg.TWIN_EPOCH ≤ num b 4 4) (hst : d.twinState ≠ 4) :
    d.noticeRx ip b = ((d.setTwin fun t => { t with notice := some (d.pip, num b 8 1), noticeEpoch := max t.noticeEpoch (num b 4 4) }).wn Reg.TWIN_PEER_EPOCH (num b 4 4)).setBit Reg.TWIN_STATUS 9 true := by
  have hkeep : (((d.setTwin fun t => { t with notice := some (d.pip, num b 8 1), noticeEpoch := max t.noticeEpoch (num b 4 4) }).wn Reg.TWIN_PEER_EPOCH (num b 4 4)).setBit Reg.TWIN_STATUS 9 true).twinState = d.twinState := by
    rw [twinState_setBit_status _ (by decide), twinState_wn_other (by decide)]
    rfl
  unfold Dev.noticeRx
  dsimp only
  rw [if_neg (by simp [hen, hcfg, hip, hlen, hmark, hcrc]), if_neg (Nat.not_lt.2 hepoch), hkeep, if_neg (by simp [hst])]

theorem liveEdge_enabled (hen : d.twinEn = true) : d.liveEdge = ((d.setTwin fun t => { t with liveHeard := true, lastEdge := some d.pip }).setBit Reg.TWIN_STATUS 8 true).partnerHere :=
  if_neg (by simp [hen])

end

/-! ### The obligation -/

/-- Settles O32. -/
theorem twinEventsComplete : Obligations.TwinEventsComplete :=
  ⟨fun n => acts_when (fun _ => rfl) fun d ⟨hrun, hen⟩ => ⟨hrun, podTrain_lane hen⟩,
    acts_when (fun _ => rfl) fun d ⟨hrun, hen, hboth⟩ => ⟨hrun, podTrain_deskew hen hboth⟩,
    fun p => acts_when (fun _ => rfl) fun d ⟨hrun, hearly⟩ => ⟨hrun, podTrain_exchange_early hearly⟩,
    fun p => acts_when (fun _ => rfl) fun d ⟨hrun, hen, hst, hboth, hdeskew⟩ => ⟨hrun, podTrain_exchange_syncing hen hst hboth hdeskew⟩,
    fun lane => acts_when (fun _ => rfl) fun d ⟨hrun, hen, hlock⟩ => ⟨hrun, podLost_locked hen hlock⟩,
    fun f crc hcrc => acts_when (fun _ => rfl) fun d ⟨hrun, hen, htrained⟩ => ⟨hrun, podFrame_damaged hcrc hen htrained⟩,
    fun f => acts_when (fun _ => rfl) fun d ⟨hrun, hen, htrained, hepoch⟩ => ⟨hrun, podFrame_stale hen htrained hepoch⟩,
    fun f => acts_when (fun _ => rfl) fun d ⟨hrun, hen, htrained, hepoch, hst⟩ => ⟨hrun, podFrame_syncing hen htrained hepoch hst⟩,
    acts_when (fun _ => rfl) fun d hrun => ⟨hrun, foldl_step_congr (fun e m => kcmpSet_eq m) _ _⟩,
    acts_of (fun _ => rfl) fun d ⟨hen, hmode, hreset, hdom⟩ => liveToggle_runs hen hmode hreset hdom,
    fun s hrun hpod hlive hst => by
      have hdev : (s.dev.when s.dev.shellRuns fun d => d.silencePromote) = _ := (when_true hrun).trans (silencePromote_standby hpod hlive hst)
      exact congrArg (fun e => Host.Outcome.next ({ s with dev := e } : State).staleReplies.settle) hdev,
    fun p => acts_when (fun _ => rfl) fun d ⟨hrun, hp, hpip, hstop, hhub⟩ => ⟨hrun, promotedHub_low hp hpip hstop hhub⟩,
    acts_when (fun _ => rfl) fun d ⟨hrun, hen, hpod, hlive, hst⟩ => ⟨hrun, podFault_standby hen hpod hlive hst⟩,
    acts_when (fun _ => rfl) fun d ⟨hrun, hst, hpod, hlive⟩ => ⟨hrun, partnerSilent_active hst hpod hlive⟩,
    acts_when (fun _ => rfl) fun d ⟨hrun, hst, hlag⟩ => ⟨hrun, copyLag_due hst hlag⟩,
    fun c hhand => acts_when (runs := fun d => d.shellRuns && d.twin.copyAt + 1 = d.pip && d.lsw.lastFrame ≠ d.osc) (fun _ => rfl) fun d ⟨hrun, hc, hat, hframe, hst⟩ =>
      ⟨by simp [hrun, hat, hframe], copyApply_plain hhand hc hat hst⟩,
    fun p => acts_when (fun _ => rfl) fun d ⟨hrun, hp, hst, hcause, hbulk, hcount, htrained⟩ => ⟨hrun, syncComplete_ready hp hst hcause hbulk hcount htrained⟩,
    acts_when (fun _ => rfl) fun d ⟨hrun, hst, hdue, huntrained, hnotice, hedge⟩ => ⟨hrun, searchTimeout_due hst hdue huntrained hnotice hedge⟩,
    acts_when (runs := fun d => d.shellRuns && d.ethRuns) (fun _ => rfl) fun d ⟨hrun, heth, hen, hcfg, hdue⟩ => ⟨by rw [hrun, heth]; rfl, noticeTx_due hen hcfg hdue⟩,
    fun ip b hlen hmark hcrc => acts_when (runs := fun d => d.shellRuns && d.ethRuns) (fun _ => rfl) fun d ⟨hrun, heth, hen, hcfg, hip, hepoch, hst⟩ => ⟨by rw [hrun, heth]; rfl, noticeRx_taken hlen hmark hcrc hen hcfg hip hepoch hst⟩,
    acts_when (fun _ => rfl) fun d ⟨hrun, hen⟩ => ⟨hrun, liveEdge_enabled hen⟩⟩

end Sys2Proof.Proofs
end

section
/-!
The events of tag, FRAM and keypad (O33).

An APDU of another class is answered through two updates of the tag port's front end (`Dev.tagIBlock`: `selected`, then the answer), each of which shows TAG_STATUS and TAG_EMU_UID again, while the
statement names one update. On registers in canonical form (`twf 0 d.regs`) the two agree. The statement asks it of every state, and on a table whose keys do not rise the second showing places an
entry elsewhere: equal values at every address, unequal data. The counterexample is such a state.
-/
namespace Sys2Proof.Proofs
open Sys2Proof.Machine Sys2Proof.Claims Sys2Proof.Laws

/-- The tag unit after reset, with an antenna, a field and a session of frames of 64 bytes. -/
def sessionTag : TagU := { State.reset.dev.tag with fe := { TagFe.reset with ant := true, field := true, session := true, uid := 8, fsd := 64 } }

/-- A state with that tag unit whose register table is not in canonical form: the entry of TAG_EMU_UID stands before that of TAG_CTRL, whose address is smaller. -/
def unsortedState : State := { State.reset with dev := { State.reset.dev with regs := [(Reg.TAG_EMU_UID, 1#32), (Reg.TAG_CTRL, 1#32)], tag := sessionTag } }

/-- The first address that a state's register table lists. -/
def firstListed (s : State) : Option Nat := (s.dev.regs.map (·.1)).head?

/-- After the command TAG_CTRL stands first. -/
theorem firstListed_answered : firstListed (unsortedState.devStep fun d => d.tagApdu (.apdu false false [1])) = some Reg.TAG_CTRL := by rfl

/-- After the one update that the statement names TAG_STATUS stands first. -/
theorem firstListed_named : firstListed (({ unsortedState with dev := unsortedState.dev.setFe fun f => { f with out := tagBlocks f.fsd [0x6E, 0x00] } } : State).settle) = some Reg.TAG_STATUS := by rfl

/-- Refutes O33: on registers that are not in canonical form, the answer to an APDU of another class leaves the table in another order than the update named. -/
theorem not_tagEventsComplete : ¬ Obligations.TagEventsComplete := by
  unfold Obligations.TagEventsComplete
  rintro ⟨-, -, -, -, -, -, -, hclass, -⟩
  have hnext := hclass [1] (by decide) unsortedState ⟨rfl, rfl, rfl, rfl, rfl⟩
  have hstates : (unsortedState.devStep fun d => d.tagApdu (.apdu false false [1])) = ({ unsortedState with dev := unsortedState.dev.setFe fun f => { f with out := tagBlocks f.fsd [0x6E, 0x00] } } : State).settle :=
    Host.Outcome.next.inj hnext
  have hfirst := congrArg firstListed hstates
  rw [firstListed_answered, firstListed_named] at hfirst
  exact absurd hfirst (by decide)

end Sys2Proof.Proofs
end

section
/-!
The events of keys, updates, memories and flash (O34).
-/
namespace Sys2Proof.Proofs
open Sys2Proof.Machine Sys2Proof.Claims Sys2Proof.Laws

section
variable {d : Dev}

/-! ### Tamper and updates (R486, R495) -/

theorem tamper_eq (k : Kernel) (pip : Nat) : k.tamper pip =
    if k.mfault ≠ 5 ∧ k.pfail = false then ({ k.cutSigning with signer := 2 } : Kernel).audit 0x51 4 0 pip [] else { k with signer := 2, tamperDue := true } := by
  simp only [Kernel.tamper, Kernel.meters, Bool.and_eq_true, Bool.not_eq_true', decide_eq_true_eq]

theorem burrFire_armed {b : BurrIn} (h : b.tripped.toNat &&& d.fld Reg.KEY_TAMPER_ARMED 4 0 ≠ 0) :
    d.burrFire b =
      let e := if d.twinState = 4 ∧ d.inSync = true then d.setTwin fun u => { u with tamper := 1 } else d
      (e.burr (b.tripped.toNat &&& d.fld Reg.KEY_TAMPER_ARMED 4 0) ((e.kern.now + if e.rbit Reg.SYS_POWER_STATUS 5 = true ∧ e.kern.pfail = true then b.away else 0) / 1000000)).kernDo fun k =>
        if k.mfault ≠ 5 ∧ k.pfail = false then ({ k.cutSigning with signer := 2 } : Kernel).audit 0x51 4 0 d.pip [] else { k with signer := 2, tamperDue := true } := by
  unfold Dev.burrFire
  dsimp only
  rw [if_neg h]
  simp only [Dev.vbatLegal, tamper_eq, Bool.and_eq_true, decide_eq_true_eq]
  split <;> rfl

theorem trialExpiry_due {t : Nat} (htrial : d.trial = true) (hat : d.fwu.trialAt = some t) (hdue : t + d.fld Reg.FWU_CFG 23 0 ≤ d.pip) (hreq : d.sys.resetReq = none) : d.trialExpiry = d.fwuActivate d.fwu.prev true 3 :=
  if_pos (by simp [htrial, hat, hdue, hreq])

/-! ### Memory tests (R512 to R521) -/

/-- The period and the pip by which the next row is dated. -/
def rowClock (d : Dev) : Word × Nat := (d.rd Reg.MEM_MBIST_CFG, d.pip)

theorem rowClock_wr {a : Nat} (v : Word) (h : Reg.MEM_MBIST_CFG ≠ a) : rowClock (d.wr a v) = rowClock d := Prod.ext (d.rd_wr_other v h) rfl

/-- The counters and addresses of a memory's errors are other registers than the test's period. -/
theorem rowClock_sramCe (m a : Nat) : rowClock (d.sramCe m a) = rowClock d := by
  have hcnt : Reg.MEM_MBIST_CFG ≠ Reg.MEM_RAM_CE_CNT m := by unfold Reg.MEM_MBIST_CFG Reg.MEM_RAM_CE_CNT; omega
  have haddr : Reg.MEM_MBIST_CFG ≠ Reg.MEM_RAM_LAST_CE_ADDR m := by unfold Reg.MEM_MBIST_CFG Reg.MEM_RAM_LAST_CE_ADDR; omega
  exact (rowClock_wr _ haddr).trans (rowClock_wr _ hcnt)

theorem rowClock_sramUe (m a : Nat) : rowClock (d.sramUe m a) = rowClock d := by
  have hcnt : Reg.MEM_MBIST_CFG ≠ Reg.MEM_RAM_UE_CNT m := by unfold Reg.MEM_MBIST_CFG Reg.MEM_RAM_UE_CNT; omega
  have haddr : Reg.MEM_MBIST_CFG ≠ Reg.MEM_RAM_LAST_UE_ADDR m := by unfold Reg.MEM_MBIST_CFG Reg.MEM_RAM_LAST_UE_ADDR; omega
  exact (rowClock_wr _ (by decide)).trans ((rowClock_wr _ haddr).trans (rowClock_wr _ hcnt))

theorem rowClock_windowRead (m a : Nat) : rowClock (d.windowRead m a) = rowClock d := by
  rw [windowRead_eq]
  extract_lets r
  split
  · rfl
  · split
    · exact rowClock_sramCe m a
    · exact rowClock_sramUe m a

theorem rowClock_scrubRow (m row : Nat) : rowClock (d.scrubRow m row) = rowClock d := by
  rw [Dev.scrubRow]
  refine foldl_same rowClock (fun e i => ?_) _ _
  split
  · exact rowClock_windowRead _ _
  · rfl

theorem mbistRow_due {fail : Option (Fin 16 × Fin 72)} (hen : d.rbit Reg.MEM_CTRL 1 = true) (hdue : d.mem.rowAt ≤ d.pip) :
    d.mbistRow fail =
      let m := d.fld Reg.MEM_MBIST_POS 29 28
      let row := d.fld Reg.MEM_MBIST_POS 16 0
      let next := if row + 1 < memRows m then m * 2 ^ 28 + row + 1 else (m + 1) % 3 * 2 ^ 28
      let e := ((d.scrubRow m row).wn Reg.MEM_MBIST_POS next).setMem fun u => { u with rowAt := ((d.scrubRow m row).wn Reg.MEM_MBIST_POS next).pip + ((d.scrubRow m row).wn Reg.MEM_MBIST_POS next).fld Reg.MEM_MBIST_CFG 7 0 }
      match fail with
      | some (w, b) => e.rowFail { spare := false, mem := m, row := row, word := w.val, bit := b.val }
      | none => e := by
  have hclock : ∀ m row n, rowClock ((d.scrubRow m row).wn Reg.MEM_MBIST_POS n) = rowClock d := fun m row n => (rowClock_wr _ (by decide)).trans (rowClock_scrubRow m row)
  have hcfg : ∀ m row n, ((d.scrubRow m row).wn Reg.MEM_MBIST_POS n).fld Reg.MEM_MBIST_CFG 7 0 = d.fld Reg.MEM_MBIST_CFG 7 0 := fun m row n => congrArg (fun x : Word × Nat => wfld x.1 7 0) (hclock m row n)
  have hpip : ∀ m row n, ((d.scrubRow m row).wn Reg.MEM_MBIST_POS n).pip = d.pip := fun m row n => congrArg Prod.snd (hclock m row n)
  simp only [hcfg, hpip]
  exact if_neg (by simp [hen, hdue])

theorem lbistTest_failed {sig : Word} {bit : Nat} (hen : d.rbit Reg.MEM_CTRL 0 = true) (hwait : d.mem.waits = true) (hslice : d.mem.slice ≠ some d.pip) (hchain : d.fld Reg.MEM_LBIST_POS 11 0 < 2399)
    (hsig : sig ≠ Config.lbistSignature (d.fld Reg.MEM_LBIST_POS 11 0)) :
    d.lbistTest true sig bit =
      let c := d.fld Reg.MEM_LBIST_POS 11 0
      let e := (d.wn Reg.MEM_LBIST_POS (c + 1)).setMem fun u => { u with waits := false, slice := some (d.wn Reg.MEM_LBIST_POS (c + 1)).pip }
      ((e.wn Reg.MEM_LBIST_FAIL (c * 65536 + bit % 2048)).wr Reg.MEM_LBIST_SIG sig).setMem fun u =>
        { u with retest := u.retest.filter (· ≠ c) ++ [c], bad := u.bad.map fun (x : Nat × Bool) => if x.1 = c then (c, false) else x } := by
  have hnext : (d.fld Reg.MEM_LBIST_POS 11 0 + 1) % chains = d.fld Reg.MEM_LBIST_POS 11 0 + 1 := Nat.mod_eq_of_lt (by unfold chains; omega)
  have hlast : d.fld Reg.MEM_LBIST_POS 11 0 + 1 ≠ chains := by unfold chains; omega
  unfold Dev.lbistTest
  dsimp only
  rw [if_neg (by simp [hen, hwait, hslice]), if_neg (by decide), if_neg hlast, if_neg hsig, hnext]
  rfl

theorem lbistTest_deferred {sig : Word} {bit : Nat} (hen : d.rbit Reg.MEM_CTRL 0 = true) (hwait : d.mem.waits = false) (hslice : d.mem.slice ≠ some d.pip) (hdue : d.pip % max 1 (d.fld Reg.MEM_LBIST_CFG 15 0) = 0) :
    d.lbistTest false sig bit = (d.inc Reg.MEM_LBIST_DEFER_CNT).setMem fun u => { u with waits := true } :=
  (if_neg (by simp [hen, hslice, hdue])).trans ((if_pos rfl).trans (if_neg (by simp [hwait])))

theorem lbistRetest_next {x : LbistSig} {c : Nat} {rest : List Nat} (h : d.mem.retest = c :: rest) :
    d.lbistRetest x =
      let g := (d.inc Reg.MEM_LBIST_FAIL_CNT).setMem fun u => { u with retest := rest }
      if x.sig = Config.lbistSignature c then g.log 77 0xFF (g.regBytes [Reg.MEM_LBIST_FAIL, Reg.MEM_LBIST_SIG])
      else
        let e := (g.wn Reg.MEM_LBIST_FAIL (c * 65536 + x.bit % 2048)).wr Reg.MEM_LBIST_SIG x.sig
        (((e.setMem fun u => { u with bad := u.bad.filter (fun y => y.1 ≠ c) ++ [(c, false)] }).setBit Reg.MEM_STATUS 0 true).raise Reg.MEM_EVENT 4).degrade 7 := by
  unfold Dev.lbistRetest
  simp only [h]

theorem flashRefresh_eq (d : Dev) : d.flashRefresh = if d.fld Reg.MEM_FLASH_CFG 5 0 < d.flashBits then (d.inc Reg.MEM_FLASH_REFRESH_CNT).draw 1 else d.draw 1 :=
  apply_ite (fun e : Dev => e.draw 1) _ _ _

/-! ### Work that ends (R478, R503, R544) -/

theorem keyComplete_plain {n i : Nat} {o : KeyOp} (hblob : o.blob = none) (hforget : o.forget = false) (hload : o.load = true) (h : d.key.ops.find? (fun x => x.1 = n) = some (i, o)) :
    d.keyComplete n =
      let e : Dev := { d with key := { d.key with ops := d.key.ops.filter (fun x => x.1 ≠ n) } }
      (((e.setSlot n o.key).inc Reg.KEY_LOAD_CNT).keyShow n).finish o.id St.ok o.reply := by
  unfold Dev.keyComplete
  simp only [h, hblob, hforget, hload, Bool.false_eq_true, if_false, if_true]

theorem cfgSaved_waiting {id : Nat} {l : List SavedBlock} (h : d.sys.save = some (id, l)) :
    d.cfgSaved = (d.setSys fun s => { s with save := none, saved := l ++ s.saved.filter fun x => !(l.any fun y => y.block = x.block) }).finish id St.ok [] := by
  unfold Dev.cfgSaved
  simp only [h]

theorem fwuDone_busy {id st : Nat} {pl : Bytes} (h : d.fwu.busy = some (id, st, pl)) : d.fwuDone = (d.setFwu fun f => { f with busy := none }).finish id st pl := by
  unfold Dev.fwuDone
  simp only [h]

end

/-! ### Errors that cannot be corrected (R509, R510) -/

section
variable {s : State} {q : Fin 32} {g : BitVec 16}

theorem sramUncorrectable_none (s : State) (m a : Nat) : s.sramUncorrectable m a .none = s.devStep fun d => d.sramUe m a :=
  congrArg State.settle (if_neg (by decide))

theorem sramUncorrectable_core (s : State) (m a : Nat) : s.sramUncorrectable m a .core = s.devStep fun d => (d.sramUe m a).shellReset 4 := by
  unfold State.sramUncorrectable State.memoryFault State.devStep State.onDev
  dsimp only
  rw [if_neg (by decide)]

theorem sramUncorrectable_host (s : State) (m a : Nat) (q : Fin 32) (g : BitVec 16) : s.sramUncorrectable m a (.host q g) = ((s.onDev fun d => d.sramUe m a).memoryFault (.host q g)).settle :=
  congrArg State.settle (if_neg fun h => nomatch h)

/-- The error of a command that waits, or of none, waits for the command. -/
theorem memoryFault_waits (h : ∀ x ∈ s.fab.flights, x.cmd.queue = q.val → x.cmd.tag = g.toNat → x.phase.waits = true) :
    s.memoryFault (.host q g) = { s with fab := { s.fab with faults := (q.val, g.toNat) :: s.fab.faults.filter (· ≠ (q.val, g.toNat)) } } := by
  unfold State.memoryFault
  dsimp only
  split
  next x hx =>
    have hmem := List.mem_of_find?_eq_some hx
    have hkey := List.find?_some hx
    simp only [Bool.and_eq_true, decide_eq_true_eq] at hkey
    have hwaits := h x hmem hkey.1 hkey.2
    cases hphase : x.phase <;> simp_all [Phase.waits, State.onFab]
  next => rfl

theorem memoryFault_running {x : Flight} (hx : s.fab.flights.find? (fun x => x.cmd.queue = q.val && x.cmd.tag = g.toNat) = some x) (hrun : x.phase = .running) :
    s.memoryFault (.host q g) = s.onDev fun d => (d.dropAll x.cmd.id).finish x.cmd.id 0x20 [] := by
  unfold State.memoryFault
  simp only [hx, hrun]

end

/-- Settles O34. -/
theorem maintenanceEventsComplete : Obligations.MaintenanceEventsComplete :=
  ⟨fun _ _ => acts_of (fun _ => rfl) fun _ harmed => burrFire_armed harmed,
    fun _ => acts_when (fun _ => rfl) fun _ ⟨hrun, htrial, hat, hdue, hreq⟩ => ⟨hrun, trialExpiry_due htrial hat hdue hreq⟩,
    acts_when (fun _ => rfl) fun _ ⟨hrun, hen, hdue⟩ => ⟨hrun, mbistRow_due hen hdue⟩,
    fun _ _ => acts_when (fun _ => rfl) fun _ ⟨hrun, hen, hdue⟩ => ⟨hrun, mbistRow_due hen hdue⟩,
    fun _ _ => acts_when (fun _ => rfl) fun _ ⟨hrun, hen, hwait, hslice, hchain, hsig⟩ => ⟨hrun, lbistTest_failed hen hwait hslice hchain hsig⟩,
    fun _ _ => acts_when (fun _ => rfl) fun _ ⟨hrun, hen, hwait, hslice, hdue⟩ => ⟨hrun, lbistTest_deferred hen hwait hslice hdue⟩,
    fun _ _ _ hsig => acts_when (fun _ => rfl) fun _ ⟨hrun, hretest⟩ => ⟨hrun, (lbistRetest_next hretest).trans (if_neg hsig)⟩,
    fun _ _ _ hsig => acts_when (fun _ => rfl) fun _ ⟨hrun, hretest⟩ => ⟨hrun, (lbistRetest_next hretest).trans (if_pos hsig)⟩,
    fun _ _ => acts_of (fun _ => rfl) fun _ _ => rfl,
    fun m a => acts_of (fun s => congrArg Host.Outcome.next (sramUncorrectable_none s m a)) fun _ _ => rfl,
    fun s m a q g hwaits => congrArg Host.Outcome.next ((sramUncorrectable_host s m a q g).trans (congrArg State.settle (memoryFault_waits (s := s.onDev fun d => d.sramUe m a) hwaits))),
    fun s m a q g _ hx hrun => congrArg Host.Outcome.next ((sramUncorrectable_host s m a q g).trans (congrArg State.settle (memoryFault_running (s := s.onDev fun d => d.sramUe m a) hx hrun))),
    fun m a => acts_of (fun s => congrArg Host.Outcome.next (sramUncorrectable_core s m a)) fun _ _ => rfl,
    acts_of (fun _ => rfl) fun d _ => flashRefresh_eq d,
    fun b => acts_of (f := fun d => d.flashUe b) (fun _ => rfl) fun _ _ => rfl,
    fun _ _ _ hblob hforget hload => acts_when (fun _ => rfl) fun _ ⟨hrun, hop⟩ => ⟨hrun, keyComplete_plain hblob hforget hload hop⟩,
    fun _ _ => acts_of (fun _ => rfl) fun _ hsave => cfgSaved_waiting hsave,
    fun _ _ _ => acts_of (fun _ => rfl) fun _ hbusy => fwuDone_busy hbusy⟩

end Sys2Proof.Proofs
end

section
/-!
The events of power, resets and clocks (O35).
-/
namespace Sys2Proof.Proofs
open Sys2Proof.Machine Sys2Proof.Claims Sys2Proof.Laws

section
variable {d : Dev}

/-! ### Boot (R536 to R541) -/

theorem boot_bank {i : BootIn} (hmode : d.mode = .boot) (hreset : d.sys.inReset = false) (hcold : d.sys.coldClk = false) (hsome : ((d.bootClocks i).bootChoice i).1.isSome = true) :
    d.boot i =
      let e := d.bootClocks i
      (e.bootBank i ((e.bootChoice i).1.getD false) (e.bootChoice i).2.1 (e.bootChoice i).2.2.1 (e.bootChoice i).2.2.2).bootUp i := by
  unfold Dev.boot
  rw [if_neg (by simp [hmode, hreset])]
  simp only [hcold, Bool.false_eq_true, if_false]
  obtain ⟨k, hk⟩ := Option.isSome_iff_exists.1 hsome
  generalize hchoice : (d.bootClocks i).bootChoice i = c at hk ⊢
  obtain ⟨bank, reason, chkA, chkB⟩ := c
  cases hk
  rfl

/-! ### Feeds (R528, R529) -/

theorem wbit_ofBits {w : Word} {i j : Nat} (b : Bool) (hij : i ≠ j) (hj : j < 32) : wbit (if b then w ||| (1#32 <<< i) else w &&& ~~~(1#32 <<< i)) j = wbit w j := by
  have hother : (1#32 <<< i).getLsbD j = false := by
    rw [BitVec.getLsbD_shiftLeft, BitVec.getLsbD_one]
    rcases Nat.lt_or_ge j i with hlt | hge
    · simp [hlt]
    · have hne : ¬ j - i = 0 := by omega
      simp [hne]
  cases b
  · simp only [Bool.false_eq_true, if_false, wbit, BitVec.getLsbD_and, BitVec.getLsbD_not, hother, hj, decide_true, Bool.not_false, Bool.and_true]
  · simp only [if_true, wbit, BitVec.getLsbD_or, hother, Bool.or_false]

theorem rbit_setBit_other {a i j : Nat} (b : Bool) (hij : i ≠ j) (hj : j < 32) : (d.setBit a i b).rbit a j = d.rbit a j := by
  rw [Dev.rbit, Dev.setBit, Dev.rd_wr_same, wbit_ofBits b hij hj, Dev.rbit]

theorem rbit_setSys (d : Dev) (g : Sys → Sys) (a i : Nat) : (d.setSys g).rbit a i = d.rbit a i := rfl

theorem feedBit_not (f : Bool) : feedBit f ≠ feedBit (!f) := by cases f <;> decide

theorem feedBit_lt (f : Bool) : feedBit f < 32 := by cases f <;> decide

theorem feedGood_first {f : Bool} (h : d.rbit Reg.SYS_POWER_STATUS (feedBit (!f)) = false) : d.feedGood f = d.setBit Reg.SYS_POWER_STATUS (feedBit f) true := by
  have hother : (d.setBit Reg.SYS_POWER_STATUS (feedBit f) true).rbit Reg.SYS_POWER_STATUS (feedBit (!f)) = false := by
    rw [rbit_setBit_other true (feedBit_not f) (feedBit_lt _), h]
  exact if_neg (by cases f <;> simp_all [feedBit])

theorem feedLost_other {f : Bool} (hlost : d.rbit Reg.SYS_POWER_STATUS (feedBit f) = true) (hother : d.rbit Reg.SYS_POWER_STATUS (feedBit (!f)) = true) (hfit0 : d.rbit Reg.SYS_FEED_CFG 0 = true) (hfit1 : d.rbit Reg.SYS_FEED_CFG 1 = true) :
    d.feedLost f = ((((d.setBit Reg.SYS_POWER_STATUS (feedBit f) false).setSys fun s => { s with bothGoodSince := none }).degrade 0).raise Reg.SYS_EVENT (if f then 2 else 1)).inc Reg.SYS_FEED_LOSS_CNT := by
  have hstays : ((d.setBit Reg.SYS_POWER_STATUS (feedBit f) false).setSys fun s => { s with bothGoodSince := none }).rbit Reg.SYS_POWER_STATUS (feedBit (!f)) = true :=
    (rbit_setSys _ _ _ _).trans ((rbit_setBit_other false (feedBit_not f) (feedBit_lt _)).trans hother)
  have hcfg : (d.setBit Reg.SYS_POWER_STATUS (feedBit f) false).rd Reg.SYS_FEED_CFG = d.rd Reg.SYS_FEED_CFG := rd_setBit_other d _ _ (by decide)
  have hfit : ∀ g : Bool, ((d.setBit Reg.SYS_POWER_STATUS (feedBit f) false).setSys fun s => { s with bothGoodSince := none }).fitted g = true := fun g => by
    rw [Dev.fitted, rbit_setSys, Dev.rbit, hcfg]
    cases g
    · exact hfit0
    · exact hfit1
  unfold Dev.feedLost
  dsimp only
  rw [if_neg (by simp [hlost]), if_pos (by rw [hfit, hfit, hstays]; rfl)]

theorem feedLossClear_due (hcause : d.rbit Reg.SYS_DEGRADE_CAUSE 0 = true) (hgood : d.sys.bothGoodSince.any (fun t => t + 4000 ≤ d.pip) = true) : d.feedLossClear = d.undegrade 0 :=
  if_pos (by rw [hcause, hgood]; rfl)

/-! ### Power fail (R530 to R535) -/

theorem powerFail_first {lines : Nat} (h : d.rbit Reg.SYS_POWER_STATUS 5 = false) :
    d.powerFail lines =
      let e := ((d.setBit Reg.SYS_POWER_STATUS 5 true).inc Reg.SYS_PFAIL_CNT).setSys fun s => { s with pfailPip := some d.pip }
      (e.billSave.dispRun.dispSave.framCut lines).passportNow :=
  if_neg (by simp [h])

theorem collapse_eq (k : Kernel) (pip : Nat) : k.collapse pip =
    let last := ((k.ring.head?).map (·.ctr)).getD 0
    let run := k.ring.takeWhile fun r => r.typ ≠ 2 && r.typ ≠ 4
    let a := if k.buf = [] then k
      else { k with buf := [], head := last, headHash := ((k.ring.head?).map fun r => Config.sha256 r.bytes).getD [], snapPend := none, archived := min k.archived last, unsignedRun := run.length, firstUnsigned := (run.getLast?).map (·.ctr) }
    { a with snapPend := none, pfail := true, commitOk := false, outage := some (k.outage.getD (k.now, pip)),
             chans := k.chans.map fun x => (x.1,
               let c := if x.2.session.isSome = true then { x.2 with closeImp := x.2.tImp, closeExp := x.2.tExp, closeReg := mwh (k.outAcc x.1).1 } else x.2
               { c with session := none, gangSession := 0, open_ := none }) } := rfl

theorem holdupCollapse_unready (hfail : d.rbit Reg.SYS_POWER_STATUS 5 = true) (hready : d.kern.pfail = false ∨ d.kern.commitOk = false) : d.holdupCollapse = d.kernDo fun k => k.collapse d.pip :=
  if_pos (by rcases hready with h | h <;> simp [hfail, h])

theorem powerFailReset_due (hfail : d.rbit Reg.SYS_POWER_STATUS 5 = true) (hk : d.kern.pfail = true) (hok : d.kern.commitOk = true) (hnode : d.sys.node175Since.any (fun t => t + 80 ≤ d.pip) = true) :
    d.powerFailReset = (d.fullReset 1).setSys fun s => { s with inReset := true, pfReset := true } :=
  if_pos (by rw [hfail, hk, hok, hnode]; rfl)

/-! ### Resets (R537, R543) -/

theorem resetPin_low (h : d.sys.pfReset = false) : d.resetPin true = ((d.setSys fun s => { s with resetLow := true }).shellReset 2).setSys fun s => { s with inReset := true } :=
  (if_neg (by simp [Dev.setSys, h])).trans (if_pos rfl)

theorem resetPin_unpowered {low : Bool} (h : d.sys.pfReset = true) : d.resetPin low = d.setSys fun s => { s with resetLow := low } := if_pos h

theorem resetPin_released (hpf : d.sys.pfReset = false) (hreset : d.sys.inReset = true) : d.resetPin false =
    ((d.setSys fun s => { s with resetLow := false }).wn Reg.SYS_STRAPS (b2n d.straps.hostsel * 4 + b2n d.straps.sprout * 2 + b2n (d.rbit Reg.SYS_STRAPS 0))).setSys fun s => { s with inReset := false, resetPip := d.pip, wdtAt := d.osc } :=
  (if_neg (by simp [Dev.setSys, hpf])).trans ((if_neg (by decide)).trans (if_pos hreset))

theorem watchdog_due (hreset : d.sys.inReset = false) (hdue : d.sys.wdtAt + (if d.mode = .boot then 8000 else d.fld Reg.SYS_WDT_CFG 11 0) ≤ d.osc) : d.watchdog = ((d.coreReset 3).safetyReset).huskFullReset := by
  have hlimit : d.wdtLimit = if d.mode = .boot then 8000 else d.fld Reg.SYS_WDT_CFG 11 0 := by simp only [Dev.wdtLimit, beq_iff_eq]
  exact if_neg (by simp [hreset, hlimit, hdue])

/-! ### Clocks (R547 to R556) -/

theorem refclkFail_first (hcoast : d.rbit Reg.SYS_CLK_STATUS 28 = false) (hcold : d.sys.coldClk = false) :
    d.refclkFail = ((((((d.setSys fun s => { s with refBad := true, refValid := 0 }).setBit Reg.SYS_CLK_STATUS 30 false).setBit Reg.SYS_CLK_STATUS 29 false).coastShow true).raise Reg.SYS_EVENT 8 |>.degrade 1).inc Reg.SYS_COAST_CNT).setSys
      fun s => { s with refValid := 0 } := by
  have hsame : (d.setSys fun s => { s with refBad := true, refValid := 0 }).rbit Reg.SYS_CLK_STATUS 28 = d.rbit Reg.SYS_CLK_STATUS 28 := rfl
  have hkeep : (d.setSys fun s => { s with refBad := true, refValid := 0 }).sys.coldClk = d.sys.coldClk := rfl
  unfold Dev.refclkFail
  dsimp only
  rw [hkeep, hsame, hcold, hcoast]
  rfl

theorem refclkFail_coasting (hcoast : d.rbit Reg.SYS_CLK_STATUS 28 = true) (hcold : d.sys.coldClk = false) :
    d.refclkFail = (d.setSys fun s => { s with refBad := true, refValid := 0 }).setBit Reg.SYS_CLK_STATUS 30 false :=
  (if_neg (by simp [Dev.setSys, hcold])).trans (if_pos hcoast)

theorem refclkFail_cold (hcold : d.sys.coldClk = true) : d.refclkFail = d.setSys fun s => { s with refBad := true, refValid := 0 } := if_pos hcold

theorem pllRelock_due (hcoast : d.rbit Reg.SYS_CLK_STATUS 28 = true) (hvalid : 4000 ≤ d.sys.refValid) :
    d.pllRelock = (((d.setBit Reg.SYS_CLK_STATUS 30 true).setBit Reg.SYS_CLK_STATUS 29 true).coastShow false).undegrade 1 :=
  if_neg (by simp [hcoast, hvalid])

end

/-- Settles O35. -/
theorem powerEventsComplete : Obligations.PowerEventsComplete :=
  ⟨fun _ _ _ => acts_of (fun _ => rfl) fun _ _ => rfl,
    fun _ => acts_of (fun _ => rfl) fun _ ⟨hmode, hreset, hcold, hsome⟩ => boot_bank hmode hreset hcold hsome,
    fun _ => acts_of (fun _ => rfl) fun _ hother => feedGood_first hother,
    fun _ => acts_of (fun _ => rfl) fun _ ⟨hlost, hother, hfit0, hfit1⟩ => feedLost_other hlost hother hfit0 hfit1,
    acts_of (fun _ => rfl) fun _ ⟨hcause, hgood⟩ => feedLossClear_due hcause hgood,
    fun _ => acts_of (fun _ => rfl) fun _ hfail => powerFail_first hfail,
    acts_of (fun _ => rfl) fun d ⟨hfail, hready⟩ => (holdupCollapse_unready hfail hready).trans (kernDo_congr (collapse_eq d.kern d.pip)),
    acts_of (fun _ => rfl) fun _ ⟨hfail, hk, hok, hnode⟩ => powerFailReset_due hfail hk hok hnode,
    acts_of (fun _ => rfl) fun _ hpf => resetPin_low hpf,
    fun _ => acts_of (fun _ => rfl) fun _ hpf => resetPin_unpowered hpf,
    acts_of (fun _ => rfl) fun _ ⟨hpf, hreset⟩ => resetPin_released hpf hreset,
    acts_of (fun _ => rfl) fun _ ⟨hreset, hdue⟩ => watchdog_due hreset hdue,
    acts_of (fun _ => rfl) fun _ ⟨hcoast, hcold⟩ => refclkFail_first hcoast hcold,
    acts_of (fun _ => rfl) fun _ ⟨hcoast, hcold⟩ => refclkFail_coasting hcoast hcold,
    acts_of (fun _ => rfl) fun _ hcold => refclkFail_cold hcold,
    acts_of (fun _ => rfl) fun _ ⟨hcoast, hvalid⟩ => pllRelock_due hcoast hvalid,
    fun _ => acts_of (fun _ => rfl) fun _ _ => rfl⟩

end Sys2Proof.Proofs
end

section
/-!
The addressed memories of the device (O48): the FRAM and the two display buffers.
-/
namespace Sys2Proof.Proofs
open Sys2Proof.Machine Sys2Proof.Claims Sys2Proof.Laws

/-- What the FRAM and the display's two buffers hold. -/
def cells (d : Dev) : Tab Byte × Tab Byte × Tab Byte := (d.tag.fram, d.disp.active, d.disp.staging)

theorem cells_mk (pip osc fresh regs shadow live outbox straps sys time out kern mirror bill husk mesh key guard safe lsw disp tag fwu mem twin) :
    cells ⟨pip, osc, fresh, regs, shadow, live, outbox, straps, sys, time, out, kern, mirror, bill, husk, mesh, key, guard, safe, lsw, disp, tag, fwu, mem, twin⟩ = (tag.fram, disp.active, disp.staging) := rfl

theorem cells_fold (d : Dev) : (d.tag.fram, d.disp.active, d.disp.staging) = cells d := rfl

theorem cells_foldl {α : Type} {u : Dev → α → Dev} (hu : ∀ d a, cells (u d a) = cells d) (l : List α) (d : Dev) : cells (l.foldl u d) = cells d :=
  foldl_same cells hu l d

end Sys2Proof.Proofs
end

section
/-!
What leaves the FRAM and the display buffers alone (O48): the state, the Husk, the keys, the Mesh and billing. One lemma per function of the model that does not write them.
-/
namespace Sys2Proof.Proofs
open Sys2Proof.Machine Sys2Proof.Claims Sys2Proof.Laws

/-! ### The operations of the state -/

/-- A check answers with the device as it is, or goes on. -/
theorem cells_check {d : Dev} {l : List (Bool × Nat)} {k : Dev × Ans} (h : cells k.1 = cells d) : cells (check d l k).1 = cells d := by
  unfold check
  split
  · rfl
  · exact h
theorem cells_when {d : Dev} {b : Bool} {f : Dev → Dev} (h : cells (f d) = cells d) : cells (d.when b f) = cells d := by
  unfold Dev.when
  split
  · exact h
  · rfl
theorem cells_wr (d : Dev) (a : Nat) (v : Word) : cells (Dev.wr d a v) = cells d := by simp only [Dev.wr, ↓cells_mk, cells_fold]
theorem cells_wn (d : Dev) (a n : Nat) : cells (Dev.wn d a n) = cells d := by simp only [Dev.wn, cells_wr]
theorem cells_wi (d : Dev) (a : Nat) (i : Int) : cells (Dev.wi d a i) = cells d := by simp only [Dev.wi, cells_wr]
theorem cells_setFld (d : Dev) (a hi lo v : Nat) : cells (Dev.setFld d a hi lo v) = cells d := by simp only [Dev.setFld, cells_wr]
theorem cells_setBit (d : Dev) (a i : Nat) (b : Bool) : cells (Dev.setBit d a i b) = cells d := by simp only [Dev.setBit, cells_wr]
theorem cells_inc (d : Dev) (a : Nat) : cells (Dev.inc d a) = cells d := by simp only [Dev.inc, cells_wr]
theorem cells_incBy (d : Dev) (a n : Nat) : cells (Dev.incBy d a n) = cells d := by simp only [Dev.incBy, cells_wr]
theorem cells_raise (d : Dev) (a mask : Nat) : cells (Dev.raise d a mask) = cells d := by simp only [Dev.raise, cells_wr]
theorem cells_setShadow (d : Dev) (a : Nat) (v : Word) : cells (Dev.setShadow d a v) = cells d := by simp only [Dev.setShadow, ↓cells_mk, cells_fold]
theorem cells_draw (d : Dev) (n : Nat) : cells (Dev.draw d n) = cells d := by simp only [Dev.draw, ↓cells_mk, cells_fold]
theorem cells_pendAs (d : Dev) (a : Nat) (v : Word) (host : Bool) : cells (Dev.pendAs d a v host) = cells d := by
  simp only [Dev.pendAs, ↓cells_mk, cells_fold]
theorem cells_pendSet (d : Dev) (a : Nat) (v : Word) : cells (Dev.pendSet d a v) = cells d := by simp only [Dev.pendSet, cells_pendAs]
theorem cells_dropPend (d : Dev) (f : Nat → Bool) : cells (Dev.dropPend d f) = cells d := by simp only [Dev.dropPend, ↓cells_mk, cells_fold]
theorem cells_setMode (d : Dev) (m : Mode) : cells (Dev.setMode d m) = cells d := by simp only [Dev.setMode, cells_wn]
theorem cells_degrade (d : Dev) (cause : Nat) : cells (Dev.degrade d cause) = cells d := by
  simp only [Dev.degrade, cells_setBit, cells_setMode, apply_ite cells, ite_self]
theorem cells_undegrade (d : Dev) (cause : Nat) : cells (Dev.undegrade d cause) = cells d := by
  simp only [Dev.undegrade, cells_setBit, cells_setMode, apply_ite cells, ite_self]
theorem cells_log (d : Dev) (source kind : Nat) (data : Bytes) : cells (Dev.log d source kind data) = cells d := by
  simp only [Dev.log, cells_wn, ↓cells_mk, cells_fold]
theorem cells_finish (d : Dev) (id st : Nat) (pl : Bytes) : cells (Dev.finish d id st pl) = cells d := by
  simp only [Dev.finish, ↓cells_mk, cells_fold]
theorem cells_logRead (d : Dev) (head : Nat) (oldest first count : Nat) (gone : Nat) (bytesOf : Nat → Bytes) : cells (logRead d head oldest first count gone bytesOf).1 = cells d := by
  simp only [logRead, apply_ite Prod.fst, ite_self]
theorem cells_setO (d : Dev) (n : Nat) (f : Outlet → Outlet) : cells (Dev.setO d n f) = cells d := by simp only [Dev.setO, ↓cells_mk, cells_fold]

/-! ### The Husk -/

theorem cells_setLane (d : Dev) (n : Nat) (f : HLane → HLane) : cells (Dev.setLane d n f) = cells d := by
  simp only [Dev.setLane, ↓cells_mk, cells_fold]
theorem cells_setCtxs (d : Dev) (lane : Nat) (l : List HCtx) : cells (Dev.setCtxs d lane l) = cells d := by
  simp only [Dev.setCtxs, cells_wn, cells_setBit, ↓cells_mk, cells_fold]
theorem cells_reserve (d : Dev) (lane : Nat) (rx : Bool) (msg : Option LaneMsg) : cells (Dev.reserve d lane rx msg) = cells d := by
  simp only [Dev.reserve, cells_setCtxs, ↓cells_mk, cells_fold]
theorem cells_txPump (d : Dev) : cells (Dev.txPump d) = cells d := by
  simp only [Dev.txPump, cells_reserve, ↓cells_mk, cells_fold, cells_foldl, apply_ite cells, ite_self, implies_true]
theorem cells_laneSend (d : Dev) (n : Nat) (msg : LaneMsg) : cells (Dev.laneSend d n msg) = cells d := by
  simp only [Dev.laneSend, cells_txPump, ↓cells_mk, cells_fold, apply_ite cells, ite_self]
theorem cells_laneSent (d : Dev) (c : HCtx) (again : Bool) : cells (Dev.laneSent d c again) = cells d := by
  unfold Dev.laneSent
  repeat' split
  all_goals simp only [cells_inc, cells_setLane, cells_setCtxs, cells_txPump, ↓cells_mk, cells_fold, apply_ite cells, ite_self]
theorem cells_fcDecode (d : Dev) (f : FcIn) : cells (Dev.fcDecode d f) = cells d := by
  simp only [Dev.fcDecode, cells_setFld, cells_inc, cells_raise, cells_setLane, cells_reserve, apply_ite cells, ite_self]
theorem cells_frameDelivery (d : Dev) (f : FrameIn) : cells (Dev.frameDelivery d f) = cells d := by
  simp only [Dev.frameDelivery]
  split <;> simp only [cells_wn, cells_inc, cells_incBy, cells_setLane, cells_setCtxs, cells_txPump, apply_ite cells, ite_self]
theorem cells_frameLate (d : Dev) (n : Nat) : cells (Dev.frameLate d n) = cells d := by
  unfold Dev.frameLate
  split <;> simp only [cells_wn, cells_inc, cells_raise, cells_log, ↓cells_mk, cells_fold]
theorem cells_huskSlice (d : Dev) (arrived idle : List (Fin 33)) (again : Bool) : cells (Dev.huskSlice d arrived idle again) = cells d := by
  simp only [Dev.huskSlice]
  split <;> simp only [cells_laneSent, ↓cells_mk, cells_fold, apply_ite cells, ite_self]
theorem cells_noiseWindow (d : Dev) (n : Nat) (rms : Int) (gain : Nat) (peak : Int) (preamble : Bool) : cells (Dev.noiseWindow d n rms gain peak preamble) = cells d := by
  simp only [Dev.noiseWindow, cells_wn, cells_setLane, apply_ite cells, ite_self]
theorem cells_t1sLink (d : Dev) (t : Nat) : cells (Dev.t1sLink d t) = cells d := by simp only [Dev.t1sLink, cells_setBit, apply_ite cells, ite_self]
theorem cells_hearNode1 (d : Dev) (t : Nat) : cells (Dev.hearNode1 d t) = cells d := by simp only [Dev.hearNode1, ↓cells_mk, cells_fold]
theorem cells_t1sTx (d : Dev) (t n : Nat) : cells (Dev.t1sTx d t n) = cells d := by simp only [Dev.t1sTx, cells_incBy, apply_ite cells, ite_self]
theorem cells_t1sSend (d : Dev) (t : Nat) : cells (Dev.t1sSend d t) = cells d := by
  simp only [Dev.t1sSend, cells_t1sTx, ↓cells_mk, cells_fold, apply_ite cells, ite_self]
theorem cells_t1sNext (d : Dev) (t : Nat) : cells (Dev.t1sNext d t) = cells d := by
  simp only [Dev.t1sNext, cells_inc, ↓cells_mk, cells_fold, apply_ite cells, ite_self]
theorem cells_t1sRx (d : Dev) (t : Nat) (e : T1sIn) : cells (Dev.t1sRx d t e) = cells d := by
  unfold Dev.t1sRx
  repeat' split
  all_goals simp only [cells_setBit, cells_inc, cells_t1sLink, cells_hearNode1, cells_t1sTx, cells_t1sNext, ↓cells_mk, cells_fold]
theorem cells_t1sTick (d : Dev) (t : Nat) : cells (Dev.t1sTick d t) = cells d := by
  simp only [Dev.t1sTick, cells_wn, cells_setBit, ↓cells_mk, cells_fold, apply_ite cells, ite_self]
theorem cells_answerVehicle (d : Dev) (n : Nat) : cells (Dev.answerVehicle d n) = cells d := by
  simp only [Dev.answerVehicle, cells_laneSend, cells_t1sSend, apply_ite cells, ite_self]
theorem cells_clearLane (d : Dev) (n : Nat) : cells (Dev.clearLane d n) = cells d := by simp only [Dev.clearLane, cells_wn, cells_foldl, implies_true]
theorem cells_loseLane (d : Dev) (n : Nat) : cells (Dev.loseLane d n) = cells d := by
  simp only [Dev.loseLane, cells_incBy, cells_setLane, cells_setCtxs]
theorem cells_huskReset (d : Dev) : cells (Dev.huskReset d) = cells d := by
  have hclear : ∀ (l : List Nat) (e : Dev), cells (l.foldl (fun (d : Dev) n => (d.clearLane n).loseLane n) e) = cells e := cells_foldl fun e n => by rw [cells_loseLane, cells_clearLane]
  have hhusk : ∀ (e : Dev) (x : Husk), cells { e with husk := x } = cells e := fun _ _ => rfl
  rw [Dev.huskReset, hhusk]
  simp only [cells_wn, hclear]
theorem cells_loadNet (d : Dev) (n : Nat) : cells (Dev.loadNet d n) = cells d := by simp only [Dev.loadNet, cells_setLane, apply_ite cells, ite_self]
theorem cells_frontEndsRun (d : Dev) : cells (Dev.frontEndsRun d) = cells d := by
  simp only [Dev.frontEndsRun, cells_finish, cells_setLane, cells_loadNet, ↓cells_mk, cells_fold, cells_foldl, apply_ite cells, ite_self, implies_true]
theorem cells_txTestTick (d : Dev) (t : TxTest) : cells (Dev.txTestTick d t) = cells d := by
  simp only [Dev.txTestTick, cells_finish, cells_laneSend, ↓cells_mk, cells_fold, apply_ite cells, ite_self]
theorem cells_takeFrame (d : Dev) (n : Nat) (f : PlcFrame) : cells (Dev.takeFrame d n f) = cells d := by
  unfold Dev.takeFrame
  repeat' split
  all_goals simp only [cells_laneSend]
theorem cells_emptyRings (d : Dev) : cells (Dev.emptyRings d) = cells d := by
  simp only [Dev.emptyRings, cells_setLane, cells_takeFrame, cells_foldl, implies_true]
theorem cells_huskTick (d : Dev) : cells (Dev.huskTick d) = cells d := by
  simp only [Dev.huskTick, cells_setBit, cells_inc, cells_raise, cells_setLane, cells_txTestTick, cells_emptyRings, ↓cells_mk, cells_fold, cells_foldl, apply_ite cells, ite_self, implies_true]
theorem cells_opHuskStatus (d : Dev) (c : Cmd) : cells (opHuskStatus d c).1 = cells d := by simp only [opHuskStatus, cells_check]
theorem cells_opLaneStats (d : Dev) (c : Cmd) : cells (opLaneStats d c).1 = cells d := by simp only [opLaneStats, cells_check]
theorem cells_opLaneReset (d : Dev) (c : Cmd) : cells (opLaneReset d c).1 = cells d := by
  simp only [opLaneReset, cells_setFld, cells_check, cells_setLane, cells_clearLane, cells_loseLane, ↓cells_mk, cells_fold]
theorem cells_opT1sStatus (d : Dev) (c : Cmd) : cells (opT1sStatus d c).1 = cells d := by simp only [opT1sStatus, cells_check]
theorem cells_opLaneTxTest (d : Dev) (c : Cmd) : cells (opLaneTxTest d c).1 = cells d := cells_check rfl

/-! ### The keys -/

theorem cells_keyShow (d : Dev) (n : Nat) : cells (Dev.keyShow d n) = cells d := by simp only [Dev.keyShow, cells_wn]
theorem cells_setSlot (d : Dev) (n : Nat) (k : KeySlot) : cells (Dev.setSlot d n k) = cells d := by simp only [Dev.setSlot, ↓cells_mk, cells_fold]
theorem cells_keyStart (d : Dev) (n : Nat) (op : KeyOp) : cells (Dev.keyStart d n op) = cells d := by
  simp only [Dev.keyStart, cells_keyShow, ↓cells_mk, cells_fold]
theorem cells_keyComplete (d : Dev) (n : Nat) : cells (Dev.keyComplete d n) = cells d := by
  unfold Dev.keyComplete
  split <;> simp only [cells_inc, cells_finish, cells_keyShow, cells_setSlot, ↓cells_mk, cells_fold, apply_ite cells, ite_self]
theorem cells_keyDue (d : Dev) : cells (Dev.keyDue d) = cells d := by simp only [Dev.keyDue, cells_keyComplete, cells_foldl, implies_true]
theorem cells_useDenied (d : Dev) : cells (Dev.useDenied d) = cells d := by simp only [Dev.useDenied, cells_inc]
theorem cells_useKey (d : Dev) (n : Nat) : cells (Dev.useKey d n) = cells d := by simp only [Dev.useKey, cells_inc]
theorem cells_opKeyStatus (d : Dev) (c : Cmd) : cells (opKeyStatus d c).1 = cells d := by simp only [opKeyStatus, cells_check]
theorem cells_opKeyLoad (d : Dev) (c : Cmd) : cells (opKeyLoad d c).1 = cells d := by
  refine cells_check ?_
  split <;> simp only [cells_inc, cells_keyStart]
theorem cells_opKeyClear (d : Dev) (c : Cmd) : cells (opKeyClear d c).1 = cells d := by simp only [opKeyClear, cells_check, cells_keyStart]
theorem cells_opKeyGenerate (d : Dev) (c : Cmd) : cells (opKeyGenerate d c).1 = cells d := by
  simp only [opKeyGenerate, cells_check, cells_keyStart, ↓cells_mk, cells_fold]
theorem cells_opKeyImport (d : Dev) (c : Cmd) : cells (opKeyImport d c).1 = cells d := by
  refine cells_check ?_
  dsimp only
  repeat' split
  all_goals rfl
theorem cells_opKeyPubkey (d : Dev) (c : Cmd) : cells (opKeyPubkey d c).1 = cells d := by
  simp only [opKeyPubkey, cells_check, cells_useDenied, apply_ite cells, apply_ite Prod.fst, ite_self]
theorem cells_opKeyCsr (d : Dev) (c : Cmd) : cells (opKeyCsr d c).1 = cells d := by
  simp only [opKeyCsr, cells_check, cells_useDenied, cells_useKey, ↓cells_mk, cells_fold, apply_ite cells, apply_ite Prod.fst, ite_self]
theorem cells_opKeyAead (d : Dev) (c : Cmd) : cells (opKeyAead d c).1 = cells d := by
  refine cells_check ?_
  dsimp only
  repeat' split
  all_goals rfl
theorem cells_opTamperArm (d : Dev) (c : Cmd) : cells (opTamperArm d c).1 = cells d := by simp only [opTamperArm, cells_raise, cells_check]
theorem cells_tlsTry (d : Dev) (set : Nat) : cells (Dev.tlsTry d set) = cells d := by
  simp only [Dev.tlsTry, cells_raise, cells_useKey, apply_ite cells, ite_self]
theorem cells_opChainWrite (d : Dev) (c : Cmd) : cells (opChainWrite d c).1 = cells d := by
  simp only [opChainWrite, cells_raise, cells_check, ↓cells_mk, cells_fold, apply_ite cells, apply_ite Prod.fst, ite_self]
theorem cells_burr (d : Dev) (tripped : Nat) (legal : Int) : cells (Dev.burr d tripped legal) = cells d := by
  simp only [Dev.burr, cells_wr, cells_wn, cells_raise, cells_degrade, cells_finish, cells_keyShow, ↓cells_mk, cells_fold, cells_foldl, implies_true]
theorem cells_keyBoot (d : Dev) : cells (Dev.keyBoot d) = cells d :=
  cells_foldl (fun e x => by split <;> simp only [cells_inc, cells_raise, cells_setSlot, cells_keyShow]) _ _
theorem cells_keyReset (d : Dev) : cells (Dev.keyReset d) = cells d := by simp only [Dev.keyReset, ↓cells_mk, cells_fold]

/-! ### The Mesh -/

theorem cells_setMesh (d : Dev) (m : Mesh) : cells (Dev.setMesh d m) = cells d := by
  simp only [Dev.setMesh, cells_wn, ↓cells_mk, cells_fold, cells_foldl, implies_true]
theorem cells_meshEnable (d : Dev) : cells (Dev.meshEnable d) = cells d := by simp only [Dev.meshEnable, cells_setMesh, apply_ite cells, ite_self]
theorem cells_meshDisable (d : Dev) : cells (Dev.meshDisable d) = cells d := by simp only [Dev.meshDisable, cells_setMesh, apply_ite cells, ite_self]
theorem cells_meshRemove (d : Dev) (n : Nat) : cells (Dev.meshRemove d n) = cells d := by simp only [Dev.meshRemove, cells_raise, cells_setMesh]
theorem cells_meshForward (d : Dev) (rec : Bytes) : cells (Dev.meshForward d rec) = cells d := by
  simp only [Dev.meshForward, cells_inc, cells_setMesh, apply_ite cells, ite_self]
theorem cells_meshSlot (d : Dev) (s : Nat) : cells (Dev.meshSlot d s) = cells d := by
  simp only [Dev.meshSlot, cells_inc, cells_laneSend, cells_setMesh, apply_ite cells]
  repeat' split
  all_goals simp only [cells_inc, cells_laneSend, cells_setMesh]
theorem cells_meshContention (d : Dev) : cells (Dev.meshContention d) = cells d := by
  simp only [Dev.meshContention, cells_laneSend, cells_setMesh, apply_ite cells, ite_self]
theorem cells_meshSack (d : Dev) (positive : Bool) : cells (Dev.meshSack d positive) = cells d := by
  simp only [Dev.meshSack]
  split <;> simp only [cells_incBy, cells_setMesh, apply_ite cells, ite_self]
theorem cells_meshPeriodStart (d : Dev) : cells (Dev.meshPeriodStart d) = cells d := by
  simp only [Dev.meshPeriodStart, cells_laneSend, cells_setMesh, apply_ite cells, ite_self]
theorem cells_meshChoose (d : Dev) : cells (Dev.meshChoose d) = cells d := by
  unfold Dev.meshChoose
  split <;> simp only [cells_draw, cells_setMesh]
theorem cells_meshScanEnd (d : Dev) : cells (Dev.meshScanEnd d) = cells d := by
  simp only [Dev.meshScanEnd, cells_setMesh, cells_meshChoose, ↓cells_mk, cells_fold, apply_ite cells, ite_self]
theorem cells_meshPromote (d : Dev) : cells (Dev.meshPromote d) = cells d := by
  simp only [Dev.meshPromote, cells_inc, cells_raise, cells_setMesh, apply_ite cells, ite_self]
theorem cells_meshJoinReq (d : Dev) (ident : Bytes) (parent : Nat) : cells (Dev.meshJoinReq d ident parent) = cells d := by
  simp only [Dev.meshJoinReq, cells_setMesh, apply_ite cells, ite_self]
theorem cells_meshJoinAck (d : Dev) (ident : Bytes) (id epoch : Nat) : cells (Dev.meshJoinAck d ident id epoch) = cells d := by
  simp only [Dev.meshJoinAck, cells_setMesh, apply_ite cells, ite_self]
theorem cells_meshJoinTimeout (d : Dev) : cells (Dev.meshJoinTimeout d) = cells d := by
  simp only [Dev.meshJoinTimeout, cells_draw, cells_setMesh, apply_ite cells, ite_self]
theorem cells_meshNodeTimeout (d : Dev) (n : Nat) : cells (Dev.meshNodeTimeout d n) = cells d := by
  simp only [Dev.meshNodeTimeout, cells_meshRemove, apply_ite cells, ite_self]
theorem cells_meshEndWork (d : Dev) : cells (Dev.meshEndWork d) = cells d := by
  simp only [Dev.meshEndWork, cells_inc, cells_raise, cells_setMesh, apply_ite cells, ite_self]
  repeat' split
  all_goals simp only [cells_inc, cells_setMesh, ↓cells_mk, cells_fold]
theorem cells_meshPeriodEnd (d : Dev) : cells (Dev.meshPeriodEnd d) = cells d := by
  simp only [Dev.meshPeriodEnd, cells_meshEndWork, ↓cells_mk, cells_fold, apply_ite cells, ite_self]
theorem cells_meshReparent (d : Dev) : cells (Dev.meshReparent d) = cells d := by
  unfold Dev.meshReparent
  split <;> simp only [cells_setMesh, apply_ite cells, ite_self]
theorem cells_meshHeader {d e : Dev} {h : Bytes} {snr : Nat} {ident : Option Bytes} (he : d.meshHeader h snr ident = some e) : cells e = cells d := by
  unfold Dev.meshHeader at he
  extract_lets at he
  repeat' split at he
  all_goals cases he
  all_goals exact cells_setMesh _ _
theorem cells_meshRefer (d : Dev) (h : Bytes) : cells (Dev.meshRefer d h) = cells d := by
  simp only [Dev.meshRefer, cells_setMesh, cells_meshEndWork, apply_ite cells, ite_self]
theorem cells_meshTakeMap (d : Dev) (map : MeshMap) (epoch : Nat) : cells (Dev.meshTakeMap d map epoch) = cells d := by
  simp only [Dev.meshTakeMap]
  split <;> simp only [cells_setMesh, cells_meshReparent, apply_ite cells, ite_self]
theorem cells_meshBeaconRx (d : Dev) (b : Bytes) (snr : Nat) : cells (Dev.meshBeaconRx d b snr) = cells d := by
  unfold Dev.meshBeaconRx
  split
  · rfl
  · split
    · simp only [cells_inc, cells_raise]
    · dsimp only
      split
      · rfl
      next e he => simp only [cells_meshRefer, cells_meshTakeMap, cells_meshHeader he]
theorem cells_meshPlace (d : Dev) (x : MeshMsg) : cells (Dev.meshPlace d x) = cells d := by
  simp only [Dev.meshPlace, cells_inc, cells_raise, cells_setMesh, apply_ite cells, ite_self]
theorem cells_meshResult (d : Dev) (dst seq st : Nat) : cells (Dev.meshResult d dst seq st) = cells d := by simp only [Dev.meshResult, cells_setMesh]
theorem cells_meshAction (d : Dev) (x : MeshMsg) : cells (Dev.meshAction d x) = cells d := by
  simp only [Dev.meshAction, cells_meshResult, ↓cells_mk, cells_fold, apply_ite cells, ite_self]
theorem cells_meshDeliver {d : Dev} {safe : Dev → Bytes → Dev} {x : MeshMsg} (hs : ∀ e b, cells (safe e b) = cells e) : cells (d.meshDeliver safe x) = cells d := by
  unfold Dev.meshDeliver
  split <;> simp only [cells_meshPlace, cells_meshAction, cells_meshJoinReq, cells_meshJoinAck, hs]
theorem cells_meshLocal {d : Dev} {safe : Dev → Bytes → Dev} (hs : ∀ e b, cells (safe e b) = cells e) : cells (d.meshLocal safe) = cells d :=
  (cells_foldl (fun _ _ => cells_meshDeliver hs) _ _).trans (cells_setMesh _ _)
theorem cells_meshRelay (d : Dev) (x : MeshMsg) : cells (Dev.meshRelay d x) = cells d := by
  simp only [Dev.meshRelay, cells_inc, cells_setMesh, apply_ite cells, ite_self]
theorem cells_meshMessage {d : Dev} {safe : Dev → Bytes → Dev} {sender version : Nat} {x : MeshMsg} (hs : ∀ e b, cells (safe e b) = cells e) : cells (d.meshMessage safe sender version x) = cells d := by
  have hdeliver : ∀ e y, cells (Dev.meshDeliver e safe y) = cells e := fun _ _ => cells_meshDeliver hs
  simp only [Dev.meshMessage, cells_inc, cells_meshTakeMap, hdeliver, cells_meshRelay, ↓cells_mk, cells_fold, apply_ite cells, ite_self]
theorem cells_meshJoinFrame (d : Dev) (req : Bytes) : cells (Dev.meshJoinFrame d req) = cells d := by
  unfold Dev.meshJoinFrame
  repeat' split
  all_goals simp only [cells_setMesh, cells_meshJoinReq]
theorem cells_meshSlotRx {d : Dev} {safe : Dev → Bytes → Dev} {b : Bytes} {snr : Nat} {ok : Bool} (hs : ∀ e b, cells (safe e b) = cells e) : cells (d.meshSlotRx safe b snr ok) = cells d := by
  have hmessages : ∀ (l : List MeshMsg) (e : Dev), cells (l.foldl (fun (d : Dev) x => d.meshMessage safe (num b 10 1) (num b 8 2) x) e) = cells e := cells_foldl fun _ _ => cells_meshMessage hs
  unfold Dev.meshSlotRx
  split
  · rfl
  · split
    · rfl
    · split
      · simp only [cells_inc, cells_raise]
      · split
        · rfl
        next e he => simp only [apply_ite cells, hmessages, cells_meshJoinFrame, cells_setMesh, cells_meshRefer, ite_self, cells_meshHeader he]
theorem cells_opMeshStatus (d : Dev) (c : Cmd) : cells (opMeshStatus d c).1 = cells d := by simp only [opMeshStatus, cells_check]
theorem cells_opMeshTable (d : Dev) (c : Cmd) : cells (opMeshTable d c).1 = cells d := by simp only [opMeshTable, cells_check]
theorem cells_opMeshSend (d : Dev) (c : Cmd) : cells (opMeshSend d c).1 = cells d := by
  simp only [opMeshSend, cells_check, cells_setMesh, apply_ite cells, apply_ite Prod.fst, ite_self]
theorem cells_opMeshRxRead (d : Dev) (c : Cmd) : cells (opMeshRxRead d c).1 = cells d := by simp only [opMeshRxRead, cells_check, cells_setMesh]
theorem cells_opMeshRescan (d : Dev) (c : Cmd) : cells (opMeshRescan d c).1 = cells d := cells_check rfl
theorem cells_opMeshEvict (d : Dev) (c : Cmd) : cells (opMeshEvict d c).1 = cells d := by simp only [opMeshEvict, cells_check, cells_meshRemove]

/-! ### Billing -/

theorem cells_setBo (d : Dev) (n : Nat) (f : BillOut → BillOut) : cells (Dev.setBo d n f) = cells d := by simp only [Dev.setBo, ↓cells_mk, cells_fold]
theorem cells_creditBind (d : Dev) (n a : Nat) : cells (Dev.creditBind d n a) = cells d := by simp only [Dev.creditBind, cells_wn, cells_setBo]
theorem cells_txnPut (d : Dev) (r : TxnRec) : cells (Dev.txnPut d r) = cells d := by
  simp only [Dev.txnPut, cells_wn, cells_meshForward, ↓cells_mk, cells_fold]
theorem cells_txn (d : Dev) (n event reason ref : Nat) : cells (Dev.txn d n event reason ref) = cells d := by
  simp only [Dev.txn, cells_txnPut, apply_ite Prod.fst]
theorem cells_acctApply (d : Dev) (c : AcctChange) : cells (Dev.acctApply d c) = cells d := by
  simp only [Dev.acctApply, cells_wn, cells_txnPut, ↓cells_mk, cells_fold]
theorem cells_acctLatch (d : Dev) : cells (Dev.acctLatch d) = cells d := by
  simp only [Dev.acctLatch, cells_acctApply, ↓cells_mk, cells_fold, cells_foldl, implies_true]
theorem cells_billShow (d : Dev) (n : Nat) : cells (Dev.billShow d n) = cells d := by simp only [Dev.billShow, cells_wn, cells_wi]
theorem cells_debitAcct (d : Dev) (a : Nat) (c : Int) : cells (Dev.debitAcct d a c) = cells d := by
  unfold Dev.debitAcct
  split <;> simp only [cells_raise, ↓cells_mk, cells_fold, apply_ite cells, ite_self]
theorem cells_billCharge (d : Dev) (n : Nat) (ti tx : Tab Nat) (imp : Nat) : cells (Dev.billCharge d n ti tx imp) = cells d := by
  simp only [Dev.billCharge, cells_setBo, cells_billShow, cells_debitAcct, apply_ite cells, ite_self]
theorem cells_billOutLatch (d : Dev) (n : Nat) : cells (Dev.billOutLatch d n) = cells d := by simp only [Dev.billOutLatch, cells_billCharge]
theorem cells_billOpen (d : Dev) (n : Nat) (x : KSession) : cells (Dev.billOpen d n x) = cells d := by
  simp only [Dev.billOpen, cells_setBo, cells_txn, cells_billShow]
theorem cells_billClose (d : Dev) (n : Nat) : cells (Dev.billClose d n) = cells d := by
  simp only [Dev.billClose, cells_wn, cells_setBo, cells_txn, cells_billShow, cells_billCharge, apply_ite cells, ite_self]
theorem cells_billSync (d : Dev) (n : Nat) : cells (Dev.billSync d n) = cells d := by
  simp only [Dev.billSync]
  split <;> simp only [cells_billOpen, cells_billClose, apply_ite cells, ite_self]
theorem cells_billDrop (d : Dev) (n : Nat) : cells (Dev.billDrop d n) = cells d := by
  simp only [Dev.billDrop, cells_wn, cells_setBo, cells_billShow, apply_ite cells, ite_self]
theorem cells_billMeter (d : Dev) (n : Nat) : cells (Dev.billMeter d n) = cells d := by
  simp only [Dev.billMeter, cells_setBo, cells_txn, apply_ite cells, ite_self]
theorem cells_billSave (d : Dev) : cells (Dev.billSave d) = cells d := by simp only [Dev.billSave, ↓cells_mk, cells_fold]
theorem cells_billBoot (d : Dev) : cells (Dev.billBoot d) = cells d := by
  have houts : ∀ (l : List Nat) (e : Dev), cells (l.foldl (fun (d : Dev) n =>
      let s := (d.mirror.ch n).session
      if (d.bo n).active then
        if s.any (fun x => x.id = (d.bo n).session) then (d.wn (Reg.BILL_OUT_CLASS n) (d.bo n).acct).billShow n else d.billClose n
      else match s with
        | some x => ((d.setBo n fun _ => d.startBill x).wn (Reg.BILL_OUT_CLASS n) (d.startBill x).acct).billShow n
        | none => d.setBo n fun _ => BillOut.none) e) = cells e :=
    cells_foldl fun e n => by
      dsimp only
      split
      · simp only [apply_ite cells, cells_wn, cells_billShow, cells_billClose, ite_self]
      · split <;> simp only [cells_wn, cells_setBo, cells_billShow]
  exact (houts _ _).trans (by simp only [cells_wn, ↓cells_mk, cells_fold])
theorem cells_tokenPurge (d : Dev) : cells (Dev.tokenPurge d) = cells d := by
  simp only [Dev.tokenPurge, cells_wn, ↓cells_mk, cells_fold, apply_ite cells, ite_self]
theorem cells_opAccountSet (d : Dev) (c : Cmd) : cells (opAccountSet d c).1 = cells d := cells_check rfl
theorem cells_opAccountAdjust (d : Dev) (c : Cmd) : cells (opAccountAdjust d c).1 = cells d := by
  refine cells_check ?_
  split <;> simp only [↓cells_mk, cells_fold, apply_ite cells, apply_ite Prod.fst, ite_self]
theorem cells_opAccountGet (d : Dev) (c : Cmd) : cells (opAccountGet d c).1 = cells d := by
  refine cells_check ?_
  split <;> rfl
theorem cells_opTxnRead (d : Dev) (c : Cmd) : cells (opTxnRead d c).1 = cells d := by simp only [opTxnRead, cells_check, cells_logRead]
theorem cells_opTokenList (d : Dev) (c : Cmd) : cells (opTokenList d c).1 = cells d := by simp only [opTokenList, cells_check]

/-! ### SLAC -/

theorem cells_setSlac (d : Dev) (n v : Nat) : cells (Dev.setSlac d n v) = cells d := by simp only [Dev.setSlac, cells_setFld]
theorem cells_slacParm (d : Dev) (n : Nat) : cells (Dev.slacParm d n) = cells d := by
  simp only [Dev.slacParm, cells_laneSend, cells_setSlac, apply_ite cells, ite_self]
theorem cells_setRun (d : Dev) (run : Bytes) (f : SlacRun → SlacRun) : cells (Dev.setRun d run f) = cells d := by
  simp only [Dev.setRun, ↓cells_mk, cells_fold]
theorem cells_takeSound (d : Dev) (mine : List Capture) (s : Bytes × Nat) : cells (Dev.takeSound d mine s) = cells d := by
  simp only [Dev.takeSound, cells_setSlac, cells_setRun, cells_foldl, apply_ite cells, ite_self, implies_true]
theorem cells_soundCapture (d : Dev) (s : SoundIn) : cells (Dev.soundCapture d s) = cells d := by
  unfold Dev.soundCapture
  split <;> simp only [cells_takeSound, ↓cells_mk, cells_fold, cells_foldl, apply_ite cells, ite_self, implies_true]
theorem cells_slacAtten (d : Dev) (r : SlacRun) (n : Nat) : cells (Dev.slacAtten d r n) = cells d := by
  simp only [Dev.slacAtten, cells_draw, cells_laneSend]
theorem cells_slacRecord (d : Dev) (r : SlacRun) (n code : Nat) : cells (Dev.slacRecord d r n code) = cells d := by
  simp only [Dev.slacRecord, cells_wn, cells_draw, cells_setLane]
theorem cells_slacDecision (d : Dev) (run : Bytes) : cells (Dev.slacDecision d run) = cells d := by
  simp only [Dev.slacDecision]
  repeat' split
  all_goals simp only [cells_inc, cells_raise, cells_draw, cells_setSlac, cells_setRun, cells_slacAtten, cells_slacRecord, cells_foldl, apply_ite cells, ite_self, implies_true]
theorem cells_slacCnf (d : Dev) (n : Nat) (run : Bytes) : cells (Dev.slacCnf d n run) = cells d := by simp only [Dev.slacCnf, cells_laneSend]
theorem cells_slacMatch (d : Dev) (n : Nat) (run : Bytes) : cells (Dev.slacMatch d n run) = cells d := by
  unfold Dev.slacMatch
  repeat' split
  all_goals simp only [cells_setBit, cells_inc, cells_setLane, cells_setSlac, cells_setRun, cells_slacCnf]
theorem cells_huskUnmatch (d : Dev) (n : Nat) : cells (Dev.huskUnmatch d n) = cells d := by
  simp only [Dev.huskUnmatch, cells_setBit, cells_setLane, cells_setSlac, ↓cells_mk, cells_fold, apply_ite cells, ite_self]
theorem cells_huskPlug (d : Dev) (n : Nat) : cells (Dev.huskPlug d n) = cells d := by simp only [Dev.huskPlug, cells_setLane]
theorem cells_opSlacProfile (d : Dev) (c : Cmd) : cells (opSlacProfile d c).1 = cells d := by
  refine cells_check ?_
  split <;> rfl

/-! ### Effects across units -/

theorem cells_setPair (d : Dev) (p : Nat) (f : SPair → SPair) : cells (Dev.setPair d p f) = cells d := by
  simp only [Dev.setPair, ↓cells_mk, cells_fold]
theorem cells_setConn (d : Dev) (c : Nat) (f : SConn → SConn) : cells (Dev.setConn d c f) = cells d := by
  simp only [Dev.setConn, ↓cells_mk, cells_fold]
theorem cells_slsShow (d : Dev) (n : Nat) : cells (Dev.slsShow d n) = cells d := by simp only [Dev.slsShow, cells_setBit]
theorem cells_hubUpdate (d : Dev) : cells (Dev.hubUpdate d) = cells d := by
  simp only [Dev.hubUpdate, cells_wn, cells_setBit, ↓cells_mk, cells_fold, apply_ite cells, ite_self]
theorem cells_rampRaise (d : Dev) (n : Nat) : cells (Dev.rampRaise d n) = cells d := by
  simp only [Dev.rampRaise, cells_slsShow, ↓cells_mk, cells_fold, apply_ite cells, ite_self]
theorem cells_rampLower (d : Dev) (n : Nat) : cells (Dev.rampLower d n) = cells d := by
  simp only [Dev.rampLower, cells_slsShow, ↓cells_mk, cells_fold]
theorem cells_sessCoils (d : Dev) (n : Nat) (on : Bool) : cells (Dev.sessCoils d n on) = cells d := by simp only [Dev.sessCoils, cells_pendAs]
theorem cells_setG (d : Dev) (n : Nat) (f : GChan → GChan) : cells (Dev.setG d n f) = cells d := by simp only [Dev.setG, ↓cells_mk, cells_fold]
theorem cells_guardWarn (d : Dev) (n : Nat) (w : Bool) : cells (Dev.guardWarn d n w) = cells d := by
  simp only [Dev.guardWarn, cells_setBit, cells_raise, apply_ite cells, ite_self]
theorem cells_guardRest (d : Dev) (n st : Nat) : cells (Dev.guardRest d n st) = cells d := by
  simp only [Dev.guardRest, cells_setFld, cells_setBit, cells_slsShow, cells_hubUpdate, cells_setG, cells_guardWarn]
theorem cells_guardSession (d : Dev) (n st : Nat) : cells (Dev.guardSession d n st) = cells d := by
  simp only [Dev.guardSession, cells_guardRest, apply_ite cells, ite_self]
theorem cells_guardArm (d : Dev) (n : Nat) (on : Bool) : cells (Dev.guardArm d n on) = cells d := by simp only [Dev.guardArm, cells_setBit]

end Sys2Proof.Proofs
end

section
/-!
What leaves the FRAM and the display buffers alone (O48): the outlets, the safety units and the load switches. One lemma per function of the model that does not write them.
-/
namespace Sys2Proof.Proofs
open Sys2Proof.Machine Sys2Proof.Claims Sys2Proof.Laws

/-! ### The outlets -/

theorem cells_outRecBy (d : Dev) (n code before after reason src session : Nat) (extra : Bytes) : cells (Dev.outRecBy d n code before after reason src session extra) = cells d := by
  simp only [Dev.outRecBy, cells_wn, cells_meshForward, ↓cells_mk, cells_fold]
theorem cells_outRec (d : Dev) (n code before after : Nat) (extra : Bytes) : cells (Dev.outRec d n code before after extra) = cells d := by
  simp only [Dev.outRec, cells_outRecBy]
theorem cells_outReason (d : Dev) (n r : Nat) : cells (Dev.outReason d n r) = cells d := by simp only [Dev.outReason, cells_setFld]
theorem cells_closeLink (d : Dev) (n : Nat) : cells (Dev.closeLink d n) = cells d := by simp only [Dev.closeLink, cells_setO, cells_huskUnmatch]
theorem cells_zeroAndRamp (d : Dev) (n : Nat) : cells (Dev.zeroAndRamp d n) = cells d := by simp only [Dev.zeroAndRamp, cells_wn, cells_rampRaise]
theorem cells_enterFault (d : Dev) (n : Nat) : cells (Dev.enterFault d n) = cells d := by
  simp only [Dev.enterFault, cells_wn, cells_setBit, cells_inc, cells_raise, cells_setO, apply_ite cells, ite_self]
theorem cells_enterUnplugged (d : Dev) (n : Nat) : cells (Dev.enterUnplugged d n) = cells d := by
  simp only [Dev.enterUnplugged, cells_setFld, cells_setO, cells_billDrop, cells_guardSession, cells_guardArm, cells_outReason, cells_closeLink]
theorem cells_goto1 (d : Dev) (n : Nat) (s : OState) : cells (Dev.goto1 d n s) = cells d := by
  simp only [Dev.goto1]
  split <;> simp only [cells_setFld, cells_setBit, cells_setO, cells_outRec, cells_enterFault, cells_enterUnplugged]
theorem cells_goto (d : Dev) (n : Nat) (s : OState) : cells (Dev.goto d n s) = cells d := by
  simp only [Dev.goto, cells_wn, cells_goto1, apply_ite cells, ite_self]
theorem cells_outFault (d : Dev) (n r : Nat) : cells (Dev.outFault d n r) = cells d := by simp only [Dev.outFault, cells_outReason, cells_goto]
theorem cells_rampdown (d : Dev) (n r : Nat) : cells (Dev.rampdown d n r) = cells d := by
  simp only [Dev.rampdown, cells_outReason, cells_zeroAndRamp, cells_goto, apply_ite cells, ite_self]
theorem cells_releaseToWeld (d : Dev) (n : Nat) : cells (Dev.releaseToWeld d n) = cells d := by
  simp only [Dev.releaseToWeld, cells_setO, cells_rampLower, cells_sessCoils, cells_goto]
theorem cells_closeCoils (d : Dev) (n : Nat) : cells (Dev.closeCoils d n) = cells d := by
  simp only [Dev.closeCoils, cells_inc, cells_setO, cells_sessCoils]
theorem cells_applyGrant (d : Dev) (n : Nat) (i : Ident) (src : Nat) : cells (Dev.applyGrant d n i src) = cells d := by
  simp only [Dev.applyGrant, cells_setFld, cells_setO, cells_guardArm, cells_outRec, cells_goto, cells_outFault, cells_closeCoils, apply_ite cells, ite_self]
theorem cells_deny (d : Dev) (n : Nat) : cells (Dev.deny d n) = cells d := by
  simp only [Dev.deny, cells_setFld, cells_setO, cells_outRec, cells_closeLink, cells_goto]
theorem cells_grant (d : Dev) (n : Nat) (i : Ident) (src : Nat) : cells (Dev.grant d n i src) = cells d := by
  simp only [Dev.grant, cells_setO, cells_creditBind, cells_applyGrant, cells_deny, apply_ite cells, ite_self]
theorem cells_consultList (d : Dev) (n : Nat) (i : Ident) (src : Nat) : cells (Dev.consultList d n i src) = cells d := by
  unfold Dev.consultList
  split <;> simp only [cells_setO, cells_deny, cells_grant, apply_ite cells, ite_self]
theorem cells_askHost (d : Dev) (n : Nat) (i : Ident) (src : Nat) : cells (Dev.askHost d n i src) = cells d := by
  simp only [Dev.askHost, cells_setO, cells_outRec, cells_consultList, apply_ite cells, ite_self]
theorem cells_present (d : Dev) (n : Nat) (i : Ident) (src : Nat) : cells (Dev.present d n i src) = cells d := by
  simp only [Dev.present, apply_ite cells]
  repeat' split
  all_goals simp only [cells_setO, cells_deny, cells_grant, cells_askHost]
theorem cells_startAuth (d : Dev) (n : Nat) : cells (Dev.startAuth d n) = cells d := by
  simp only [Dev.startAuth]
  split <;> simp only [cells_setO, cells_goto, cells_grant, ↓cells_mk, cells_fold, apply_ite cells, ite_self]
theorem cells_presentCard (d : Dev) (i : Ident) (src : Nat) : cells (Dev.presentCard d i src) = cells d := by
  unfold Dev.presentCard
  split <;> simp only [cells_outRecBy, cells_present]
theorem cells_proxSample (d : Dev) (n ohm : Nat) : cells (Dev.proxSample d n ohm) = cells d := by simp only [Dev.proxSample, cells_wn]
theorem cells_probeSample (d : Dev) (n hi : Nat) (start : Nat) : cells (Dev.probeSample d n hi start) = cells d := by
  simp only [Dev.probeSample, cells_wn, cells_setO, cells_goto, apply_ite cells, ite_self]
theorem cells_pilotSample (d : Dev) (p : PilotSample) : cells (Dev.pilotSample d p) = cells d := by
  simp only [Dev.pilotSample, cells_proxSample, apply_ite cells]
  repeat' split
  all_goals simp only [cells_wn, cells_draw, cells_setO, cells_proxSample, cells_probeSample]
theorem cells_plugIn (d : Dev) (n : Nat) : cells (Dev.plugIn d n) = cells d := by
  simp only [Dev.plugIn, cells_wn, cells_setFld, cells_setO, cells_huskPlug, cells_outReason, cells_goto]
theorem cells_pilotRow (d : Dev) (n old code : Nat) : cells (Dev.pilotRow d n old code) = cells d := by
  unfold Dev.pilotRow
  split <;> simp only [cells_closeLink, cells_goto, cells_outFault, cells_rampdown, cells_closeCoils, cells_plugIn, apply_ite cells, ite_self]
theorem cells_pilotAccepted (d : Dev) (n : Nat) : cells (Dev.pilotAccepted d n) = cells d := by
  simp only [Dev.pilotAccepted, cells_wn, cells_pilotRow, apply_ite cells, ite_self]
theorem cells_faultProbe (d : Dev) (n : Nat) (code : Option Nat) : cells (Dev.faultProbe d n code) = cells d := by
  unfold Dev.faultProbe
  repeat' split
  all_goals simp only [cells_wn, cells_setO, cells_probeSample]
theorem cells_pluggedEntry (d : Dev) (n : Nat) : cells (Dev.pluggedEntry d n) = cells d := by
  simp only [Dev.pluggedEntry, cells_setFld, cells_setO, cells_goto, cells_startAuth, apply_ite cells, ite_self]
theorem cells_linkIsUp (d : Dev) (n : Nat) (offered : List Nat) : cells (Dev.linkIsUp d n offered) = cells d := by
  simp only [Dev.linkIsUp, cells_setFld, cells_setO, cells_tlsTry, cells_goto, apply_ite cells, ite_self]
theorem cells_linkTimer (d : Dev) (n : Nat) : cells (Dev.linkTimer d n) = cells d := by
  simp only [Dev.linkTimer, cells_setFld, cells_setO, cells_outFault, cells_startAuth, apply_ite cells, ite_self]
theorem cells_paymentSelected (d : Dev) (n : Nat) (contract : Option Bytes) : cells (Dev.paymentSelected d n contract) = cells d := by
  unfold Dev.paymentSelected
  repeat' split
  all_goals simp only [cells_present, cells_startAuth, apply_ite cells, ite_self]
theorem cells_protocolError (d : Dev) (n : Nat) : cells (Dev.protocolError d n) = cells d := by
  unfold Dev.protocolError
  split <;> simp only [cells_closeLink, cells_outFault, cells_rampdown]
theorem cells_authTimer (d : Dev) (n : Nat) : cells (Dev.authTimer d n) = cells d := by
  simp only [Dev.authTimer, cells_deny, apply_ite cells, ite_self]
theorem cells_hostWait (d : Dev) (n : Nat) : cells (Dev.hostWait d n) = cells d := by
  simp only [Dev.hostWait, cells_setO, cells_consultList, apply_ite cells, ite_self]
theorem cells_hostGone (d : Dev) : cells (Dev.hostGone d) = cells d := by simp only [Dev.hostGone, cells_setBit, apply_ite cells, ite_self]
theorem cells_preauthExpiry (d : Dev) (n : Nat) : cells (Dev.preauthExpiry d n) = cells d := by
  unfold Dev.preauthExpiry
  split <;> simp only [cells_setO, cells_outRecBy, apply_ite cells, ite_self]
theorem cells_floatingExpiry (d : Dev) : cells (Dev.floatingExpiry d) = cells d := by
  unfold Dev.floatingExpiry
  split <;> simp only [cells_outRecBy, ↓cells_mk, cells_fold, apply_ite cells, ite_self]
theorem cells_cableTimer (d : Dev) (n : Nat) : cells (Dev.cableTimer d n) = cells d := by
  simp only [Dev.cableTimer, cells_rampdown, apply_ite cells, ite_self]
theorem cells_powerDelivery (d : Dev) (n : Nat) (bpt : Bool) : cells (Dev.powerDelivery d n bpt) = cells d := by
  simp only [Dev.powerDelivery, cells_setO, cells_goto, apply_ite cells, ite_self]
theorem cells_prechTimer (d : Dev) (n : Nat) : cells (Dev.prechTimer d n) = cells d := by
  simp only [Dev.prechTimer, cells_rampdown, apply_ite cells, ite_self]
theorem cells_vehicleStop (d : Dev) (n : Nat) : cells (Dev.vehicleStop d n) = cells d := by
  simp only [Dev.vehicleStop, cells_rampdown, apply_ite cells, ite_self]
theorem cells_creditStop (d : Dev) (n : Nat) : cells (Dev.creditStop d n) = cells d := by
  simp only [Dev.creditStop, cells_rampdown, apply_ite cells, ite_self]
theorem cells_pmStop (d : Dev) (n r : Nat) : cells (Dev.pmStop d n r) = cells d := by
  simp only [Dev.pmStop, cells_rampdown, apply_ite cells, ite_self]
theorem cells_outCut (d : Dev) (n r : Nat) : cells (Dev.outCut d n r) = cells d := by
  simp only [Dev.outCut, cells_outReason, cells_releaseToWeld, ↓cells_mk, cells_fold, apply_ite cells, ite_self]
theorem cells_outSafetyCut (d : Dev) (n r : Nat) : cells (Dev.outSafetyCut d n r) = cells d := by simp only [Dev.outSafetyCut, cells_outCut]
theorem cells_outForced (d : Dev) (n : Nat) : cells (Dev.outForced d n) = cells d := by
  simp only [Dev.outForced, cells_setFld, cells_inc, cells_raise, cells_setO, cells_outRec, cells_releaseToWeld, apply_ite cells, ite_self]
theorem cells_outInsulation (d : Dev) (n windowStart : Nat) (aboveTrip warn : Bool) : cells (Dev.outInsulation d n windowStart aboveTrip warn) = cells d := by
  unfold Dev.outInsulation
  repeat' split
  all_goals simp only [cells_setO, cells_guardArm, cells_goto, cells_rampdown]
theorem cells_outCoilTrip (d : Dev) (n : Nat) : cells (Dev.outCoilTrip d n) = cells d := by simp only [Dev.outCoilTrip, cells_outCut]
theorem cells_closeKernel (d : Dev) (n : Nat) : cells (Dev.closeKernel d n) = cells d := by simp only [Dev.closeKernel, cells_setO]
theorem cells_outLatch (d : Dev) (n : Nat) (below v60 settled met : Bool) : cells (Dev.outLatch d n below v60 settled met) = cells d := by
  unfold Dev.outLatch
  split <;> simp only [cells_setFld, cells_setO, cells_goto, cells_releaseToWeld, cells_closeKernel, apply_ite cells, ite_self]
theorem cells_weldTimeout (d : Dev) (n : Nat) : cells (Dev.weldTimeout d n) = cells d := by
  simp only [Dev.weldTimeout, cells_outReason, cells_goto, cells_closeKernel, apply_ite cells, ite_self]
theorem cells_toIdle (d : Dev) (n : Nat) : cells (Dev.toIdle d n) = cells d := by
  simp only [Dev.toIdle, cells_setBit, cells_goto, apply_ite cells, ite_self]
theorem cells_stopRow {d e : Dev} {n : Nat} (he : d.stopRow n = some e) : cells e = cells d := by
  unfold Dev.stopRow at he
  repeat' split at he
  all_goals cases he
  all_goals simp only [cells_setFld, cells_closeLink, cells_goto, cells_rampdown]
theorem cells_controllerReset (d : Dev) (n sid : Nat) : cells (Dev.controllerReset d n sid) = cells d := by
  simp only [Dev.controllerReset, cells_wn, cells_setO, cells_outFault]
theorem cells_mailbox (d : Dev) (n : Nat) : cells (Dev.mailbox d n) = cells d := by
  simp only [Dev.mailbox, cells_wn, cells_wi, apply_ite cells, ite_self]
theorem cells_vehicleRequest (d : Dev) (n : Nat) (r : EvRequest) : cells (Dev.vehicleRequest d n r) = cells d := by
  simp only [Dev.vehicleRequest, cells_wn, cells_wi, cells_setO, cells_mailbox]
theorem cells_tplArm (d : Dev) (t : Nat) : cells (Dev.tplArm d t) = cells d := by simp only [Dev.tplArm, ↓cells_mk, cells_fold]
theorem cells_canTx (d : Dev) (t : Nat) : cells (Dev.canTx d t) = cells d := by
  simp only [Dev.canTx, cells_inc, ↓cells_mk, cells_fold, apply_ite cells, ite_self]
theorem cells_tplStore (d : Dev) (n src : Nat) (v : Int) : cells (Dev.tplStore d n src v) = cells d := by
  unfold Dev.tplStore
  split <;> simp only [cells_wn, cells_wi, cells_setBit]
theorem cells_tplReceive (d : Dev) (t : Nat) (f : CanFrame) : cells (Dev.tplReceive d t f) = cells d := by
  simp only [Dev.tplReceive, cells_setFld, cells_inc, cells_pmStop, cells_tplStore, ↓cells_mk, cells_fold, cells_foldl, apply_ite cells, ite_self, implies_true]
theorem cells_canRx (d : Dev) (f : CanFrame) : cells (Dev.canRx d f) = cells d := by
  simp only [Dev.canRx, cells_tplReceive, cells_foldl, apply_ite cells, ite_self, implies_true]
theorem cells_pmTimeout (d : Dev) (t : Nat) : cells (Dev.pmTimeout d t) = cells d := by
  simp only [Dev.pmTimeout, cells_pmStop, apply_ite cells, ite_self]
theorem cells_pmAges (d : Dev) : cells (Dev.pmAges d) = cells d := by
  simp only [Dev.pmAges, cells_setFld, cells_foldl, apply_ite cells, ite_self, implies_true]
theorem cells_dutyTick (d : Dev) : cells (Dev.dutyTick d) = cells d := by
  simp only [Dev.dutyTick, cells_wn, cells_draw, cells_setO, ↓cells_mk, cells_fold, cells_foldl, apply_ite cells, ite_self, implies_true]
theorem cells_idleEntry (d : Dev) (n : Nat) : cells (Dev.idleEntry d n) = cells d := by
  simp only [Dev.idleEntry, cells_plugIn, apply_ite cells, ite_self]
theorem cells_pmFault (d : Dev) (n : Nat) : cells (Dev.pmFault d n) = cells d := by simp only [Dev.pmFault, cells_pmStop, apply_ite cells, ite_self]
theorem cells_outTick (d : Dev) (samples : List PilotSample) : cells (Dev.outTick d samples) = cells d := by
  simp only [Dev.outTick, cells_pilotSample, cells_pluggedEntry, cells_mailbox, cells_pmAges, cells_dutyTick, cells_idleEntry, cells_pmFault, cells_foldl, apply_ite cells, ite_self, implies_true]
theorem cells_receiptReady (d : Dev) (n counter session : Nat) : cells (Dev.receiptReady d n counter session) = cells d := by
  simp only [Dev.receiptReady, cells_outRecBy]
theorem cells_certRequest (d : Dev) (n : Nat) : cells (Dev.certRequest d n) = cells d := by
  simp only [Dev.certRequest, cells_setO, cells_outRec, apply_ite cells, ite_self]
theorem cells_opOutStatusGet (d : Dev) (c : Cmd) : cells (opOutStatusGet d c).1 = cells d := by simp only [opOutStatusGet, cells_check]
theorem cells_opOutAuthorise (d : Dev) (c : Cmd) : cells (opOutAuthorise d c).1 = cells d := by
  simp only [opOutAuthorise, cells_check, cells_deny, cells_grant, apply_ite cells, ite_self]
theorem cells_opOutStartRemote (d : Dev) (c : Cmd) : cells (opOutStartRemote d c).1 = cells d := by
  refine cells_check ?_
  split
  · rfl
  · refine cells_check ?_
    split <;> simp only [cells_setO, cells_grant]
theorem cells_opOutStop (d : Dev) (c : Cmd) : cells (opOutStop d c).1 = cells d := by
  refine cells_check ?_
  split
  · exact cells_stopRow ‹_›
  · rfl
theorem cells_opOutSetAvailable (d : Dev) (c : Cmd) : cells (opOutSetAvailable d c).1 = cells d := by
  simp only [opOutSetAvailable, cells_setBit, cells_check, cells_setO, apply_ite cells, ite_self]
theorem cells_opOutClearFault (d : Dev) (c : Cmd) : cells (opOutClearFault d c).1 = cells d := by simp only [opOutClearFault, cells_check, cells_goto]
theorem cells_opOutSessionInfo (d : Dev) (c : Cmd) : cells (opOutSessionInfo d c).1 = cells d := by simp only [opOutSessionInfo, cells_check]
theorem cells_opOutEventRead (d : Dev) (c : Cmd) : cells (opOutEventRead d c).1 = cells d := by simp only [opOutEventRead, cells_check, cells_logRead]
theorem cells_setList (d : Dev) (l : List ListEntry) (v : Nat) : cells (Dev.setList d l v) = cells d := by
  simp only [Dev.setList, cells_wn, cells_setBit, ↓cells_mk, cells_fold]
theorem cells_opListUpdate (d : Dev) (c : Cmd) : cells (opListUpdate d c).1 = cells d := by
  refine cells_check ?_
  split <;> simp only [cells_setList, ↓cells_mk, cells_fold, apply_ite cells, apply_ite Prod.fst, ite_self]
theorem cells_opListQuery (d : Dev) (c : Cmd) : cells (opListQuery d c).1 = cells d := by
  refine cells_check ?_
  split <;> rfl
theorem cells_opOutCertResponse (d : Dev) (c : Cmd) : cells (opOutCertResponse d c).1 = cells d := by
  simp only [opOutCertResponse, cells_check, cells_setO]

/-! ### The Stone -/

theorem cells_stoneCut (d : Dev) (n cause : Nat) : cells (Dev.stoneCut d n cause) = cells d := by
  simp only [Dev.stoneCut, cells_wn, cells_setBit, cells_inc, cells_raise, cells_slsShow, cells_outSafetyCut, ↓cells_mk, cells_fold, apply_ite cells, ite_self]
theorem cells_stoneEval (d : Dev) (cause : Nat) : cells (Dev.stoneEval d cause) = cells d := by
  simp only [Dev.stoneEval, cells_slsShow, cells_hubUpdate, cells_stoneCut, cells_foldl, apply_ite cells, ite_self, implies_true]
theorem cells_pairShow (d : Dev) (p : Nat) : cells (Dev.pairShow d p) = cells d := by simp only [Dev.pairShow, cells_wn]
theorem cells_pairJudge (d : Dev) (p : Nat) : cells (Dev.pairJudge d p) = cells d := by
  simp only [Dev.pairJudge, cells_inc, cells_setPair, cells_pairShow, apply_ite cells, ite_self]
theorem cells_pairFault (d : Dev) (p cause : Nat) : cells (Dev.pairFault d p cause) = cells d := by
  simp only [Dev.pairFault, cells_inc, cells_raise, cells_setPair, cells_stoneEval, cells_pairJudge]
theorem cells_pairLevel (d : Dev) (i : Nat) (level : Bool) : cells (Dev.pairLevel d i level) = cells d := by
  simp only [Dev.pairLevel, cells_setPair, cells_pairShow, apply_ite cells, ite_self]
theorem cells_discTimeout (d : Dev) (p : Nat) : cells (Dev.discTimeout d p) = cells d := by
  simp only [Dev.discTimeout, cells_setPair, cells_pairFault, apply_ite cells, ite_self]
theorem cells_antivalence (d : Dev) (p : Nat) : cells (Dev.antivalence d p) = cells d := by
  simp only [Dev.antivalence, cells_pairFault, apply_ite cells, ite_self]
theorem cells_testPulse (d : Dev) (k : Nat) (low : List Nat) : cells (Dev.testPulse d k low) = cells d := by
  simp only [Dev.testPulse, cells_pairFault, ↓cells_mk, cells_fold, cells_foldl, apply_ite cells, ite_self, implies_true]
theorem cells_safetyInput (d : Dev) (i : Nat) (level : Bool) (held : Nat) : cells (Dev.safetyInput d i level held) = cells d := by
  simp only [Dev.safetyInput, cells_stoneEval, cells_pairJudge, cells_pairLevel, apply_ite cells, ite_self]
theorem cells_pairReset (d : Dev) (p : Nat) : cells (Dev.pairReset d p) = cells d := by
  simp only [Dev.pairReset, cells_setPair, cells_stoneEval, cells_pairJudge, apply_ite cells, ite_self]
theorem cells_resetButton (d : Dev) (p : Nat) : cells (Dev.resetButton d p) = cells d := by
  unfold Dev.resetButton
  split <;> simp only [cells_setPair, cells_pairReset, cells_foldl, apply_ite cells, ite_self, implies_true]
theorem cells_crossFault (d : Dev) (i : CrossIn) : cells (Dev.crossFault d i) = cells d := by
  simp only [Dev.crossFault, cells_setPair, cells_pairShow, cells_pairFault, apply_ite cells, ite_self]
theorem cells_stoneSelfFault (d : Dev) : cells (Dev.stoneSelfFault d) = cells d := by
  simp only [Dev.stoneSelfFault, cells_setBit, cells_raise, cells_degrade, cells_stoneEval]
theorem cells_cpuDecide (d : Dev) : cells (Dev.cpuDecide d) = cells d := by simp only [Dev.cpuDecide, ↓cells_mk, cells_fold]
theorem cells_wordApply (d : Dev) (n : Nat) (new : Bool) : cells (Dev.wordApply d n new) = cells d := by
  simp only [Dev.wordApply, cells_setBit, cells_stoneCut, apply_ite cells, ite_self]
theorem cells_permitWord (d : Dev) (good : Bool) : cells (Dev.permitWord d good) = cells d := by
  simp only [Dev.permitWord, cells_slsShow, cells_hubUpdate, cells_wordApply, ↓cells_mk, cells_fold, cells_foldl, apply_ite cells, ite_self, implies_true]
theorem cells_heartbeatValid (d : Dev) : cells (Dev.heartbeatValid d) = cells d := by
  simp only [Dev.heartbeatValid, cells_setBit, cells_slsShow, cells_hubUpdate, cells_wordApply, ↓cells_mk, cells_fold, cells_foldl, apply_ite cells, ite_self, implies_true]
theorem cells_meteredLatch (d : Dev) : cells (Dev.meteredLatch d) = cells d := by
  simp only [Dev.meteredLatch, cells_stoneCut, cells_foldl, apply_ite cells, ite_self, implies_true]
theorem cells_heartbeatLost (d : Dev) : cells (Dev.heartbeatLost d) = cells d := by
  simp only [Dev.heartbeatLost, cells_setBit, cells_inc, cells_raise, cells_slsShow, cells_hubUpdate, cells_meteredLatch, ↓cells_mk, cells_fold, cells_foldl, apply_ite cells, ite_self, implies_true]
theorem cells_tForceExpiry (d : Dev) (n : Nat) : cells (Dev.tForceExpiry d n) = cells d := by
  simp only [Dev.tForceExpiry]
  repeat' split
  all_goals simp only [cells_setBit, cells_inc, cells_slsShow, cells_outForced, cells_stoneCut, ↓cells_mk, cells_fold]
theorem cells_hubHoldEnd (d : Dev) : cells (Dev.hubHoldEnd d) = cells d := by simp only [Dev.hubHoldEnd, cells_hubUpdate]
theorem cells_setStaging (d : Dev) (l : List Word) : cells (Dev.setStaging d l) = cells d := by
  simp only [Dev.setStaging, cells_wr, cells_foldl, implies_true]
theorem cells_cfgPending (d : Dev) : cells (Dev.cfgPending d) = cells d := by simp only [Dev.cfgPending, cells_setBit]
theorem cells_safeRestart (d : Dev) (image : List Word) : cells (Dev.safeRestart d image) = cells d := by
  simp only [Dev.safeRestart, cells_setFld, cells_setPair, cells_setConn, cells_stoneEval, cells_pairJudge, cells_cfgPending, ↓cells_mk, cells_fold, cells_foldl, apply_ite cells, ite_self, implies_true]
theorem cells_safeBoot (d : Dev) : cells (Dev.safeBoot d) = cells d := by
  unfold Dev.safeBoot
  split <;> simp only [cells_wr, cells_setBit, cells_degrade, cells_setStaging, cells_safeRestart, apply_ite cells, ite_self]
theorem cells_connSafe (d : Dev) (c : Nat) : cells (Dev.connSafe d c) = cells d := by
  simp only [Dev.connSafe, cells_setFld, cells_raise, cells_setConn]
theorem cells_connRxFrame (d : Dev) (c : Nat) (f : Bytes) : cells (Dev.connRxFrame d c f) = cells d := by
  simp only [Dev.connRxFrame, cells_setFld, cells_inc, cells_setConn, cells_connSafe, apply_ite cells, ite_self]
theorem cells_connReset (d : Dev) (c : Nat) : cells (Dev.connReset d c) = cells d := by
  simp only [Dev.connReset, cells_setFld, cells_setConn, apply_ite cells, ite_self]
theorem cells_pairReboot (d : Dev) : cells (Dev.pairReboot d) = cells d := by
  simp only [Dev.pairReboot, cells_connReset, ↓cells_mk, cells_fold, cells_foldl, implies_true]
theorem cells_meshSafeFrame (d : Dev) (f : Bytes) : cells (Dev.meshSafeFrame d f) = cells d := by
  simp only [Dev.meshSafeFrame]
  repeat' split
  all_goals simp only [cells_connRxFrame]
theorem cells_stoneTx (d : Dev) (c : Nat) : cells (Dev.stoneTx d c) = cells d := by
  simp only [Dev.stoneTx, cells_setFld, cells_setMesh, cells_setConn, apply_ite cells, ite_self]
theorem cells_connWatchdog (d : Dev) (c : Nat) : cells (Dev.connWatchdog d c) = cells d := by
  simp only [Dev.connWatchdog, cells_inc, cells_connSafe, apply_ite cells, ite_self]
theorem cells_opSafeStatus (d : Dev) (c : Cmd) : cells (opSafeStatus d c).1 = cells d := by simp only [opSafeStatus, cells_check]
theorem cells_opSafeReset (d : Dev) (c : Cmd) : cells (opSafeReset d c).1 = cells d := by
  simp only [opSafeReset, cells_setFld, cells_check, cells_setConn, cells_pairReset, cells_foldl, implies_true]
theorem cells_opSafeCheck (d : Dev) (c : Cmd) : cells (opSafeCheck d c).1 = cells d := by simp only [opSafeCheck, cells_wr, cells_check]
theorem cells_opSafeActivate (d : Dev) (c : Cmd) : cells (opSafeActivate d c).1 = cells d := by
  simp only [opSafeActivate, cells_wr, cells_setBit, cells_undegrade, cells_check, cells_safeRestart, ↓cells_mk, cells_fold]
theorem cells_opSafeDiscard (d : Dev) (c : Cmd) : cells (opSafeDiscard d c).1 = cells d := by
  simp only [opSafeDiscard, cells_dropPend, cells_check, cells_setStaging, cells_cfgPending]
theorem cells_opSafeHubStop (d : Dev) (c : Cmd) : cells (opSafeHubStop d c).1 = cells d := cells_check rfl

/-! ### The Guard -/

theorem cells_guardTrip (d : Dev) (n cause : Nat) : cells (Dev.guardTrip d n cause) = cells d := by
  simp only [Dev.guardTrip, cells_wn, cells_setFld, cells_setBit, cells_inc, cells_raise, cells_stoneEval, apply_ite cells, ite_self]
theorem cells_guardFault (d : Dev) (n cause : Nat) : cells (Dev.guardFault d n cause) = cells d := by
  simp only [Dev.guardFault, cells_setFld, cells_setBit, cells_raise, cells_setG, cells_guardWarn, cells_guardTrip]
theorem cells_guardActive (d : Dev) (n : Nat) : cells (Dev.guardActive d n) = cells d := by
  simp only [Dev.guardActive, cells_setFld, cells_setG, cells_guardFault, apply_ite cells, ite_self]
theorem cells_rcmEval (d : Dev) (n : Nat) : cells (Dev.rcmEval d n) = cells d := by
  simp only [Dev.rcmEval, cells_wn, cells_draw, cells_setG, cells_guardWarn, apply_ite cells, ite_self]
theorem cells_guardStream (d : Dev) (n : Nat) : cells (Dev.guardStream d n) = cells d := by
  simp only [Dev.guardStream, cells_setFld, cells_setG, cells_guardFault, apply_ite cells, ite_self]
theorem cells_guardPip (d : Dev) (n : Nat) (a b : List Bool) : cells (Dev.guardPip d n a b) = cells d := by
  simp only [Dev.guardPip, cells_setG, cells_rcmEval, cells_guardStream, apply_ite cells, ite_self]
theorem cells_guardPips (d : Dev) (l : List (Fin 32 × List Bool × List Bool)) : cells (Dev.guardPips d l) = cells d := by
  simp only [Dev.guardPips, cells_guardPip, cells_foldl, apply_ite cells, ite_self, implies_true]
theorem cells_rcmTrip (d : Dev) (n : Nat) : cells (Dev.rcmTrip d n) = cells d := by
  unfold Dev.rcmTrip
  split <;> simp only [cells_setG, cells_guardTrip, apply_ite cells, ite_self]
theorem cells_imdStart (d : Dev) (n : Nat) : cells (Dev.imdStart d n) = cells d := by simp only [Dev.imdStart, cells_setG, apply_ite cells, ite_self]
theorem cells_imdEnd (d : Dev) (n : Nat) : cells (Dev.imdEnd d n) = cells d := by
  unfold Dev.imdEnd
  split <;> simp only [cells_wn, cells_setFld, cells_setG, cells_guardWarn, cells_outInsulation, cells_guardTrip, apply_ite cells, ite_self]
theorem cells_guardTestEnd (d : Dev) (n : Nat) : cells (Dev.guardTestEnd d n) = cells d := by
  unfold Dev.guardTestEnd
  split <;> simp only [cells_setFld, cells_guardRest, cells_guardFault, apply_ite cells, ite_self]
theorem cells_guardApply (d : Dev) (n : Nat) (v : Word) : cells (Dev.guardApply d n v) = cells d := by
  simp only [Dev.guardApply, cells_setBit, cells_setG, cells_guardRest, cells_guardActive, apply_ite cells, ite_self]
theorem cells_guardTask (d : Dev) (n : Nat) : cells (Dev.guardTask d n) = cells d := by
  simp only [Dev.guardTask, cells_guardSession, apply_ite cells, ite_self]
theorem cells_guardCopied (d was : Dev) (n : Nat) : cells (Dev.guardCopied d was n) = cells d := by
  unfold Dev.guardCopied
  repeat' split
  all_goals simp only [cells_guardSession, cells_guardArm, cells_guardTask]
theorem cells_guardMode (d : Dev) (n : Nat) : cells (Dev.guardMode d n) = cells d := by
  simp only [Dev.guardMode, cells_guardRest, cells_guardTask, apply_ite cells, ite_self]
theorem cells_opGuardStatus (d : Dev) (c : Cmd) : cells (opGuardStatus d c).1 = cells d := by simp only [opGuardStatus, cells_check]
theorem cells_opGuardTest (d : Dev) (c : Cmd) : cells (opGuardTest d c).1 = cells d := by
  simp only [opGuardTest, cells_setFld, cells_check, cells_setG]
theorem cells_opGuardClear (d : Dev) (c : Cmd) : cells (opGuardClear d c).1 = cells d := by simp only [opGuardClear, cells_check, cells_guardRest]

/-! ### The load switches -/

theorem cells_setL (d : Dev) (ch : Nat) (f : LChan → LChan) : cells (Dev.setL d ch f) = cells d := by simp only [Dev.setL, ↓cells_mk, cells_fold]
theorem cells_coilShow (d : Dev) (n : Nat) : cells (Dev.coilShow d n) = cells d := by simp only [Dev.coilShow, cells_setBit]
theorem cells_setLst (d : Dev) (ch st : Nat) : cells (Dev.setLst d ch st) = cells d := by
  simp only [Dev.setLst, cells_setFld, cells_setBit, cells_coilShow, apply_ite cells, ite_self]
theorem cells_auxDrive (d : Dev) (ch : Nat) : cells (Dev.auxDrive d ch) = cells d := by
  simp only [Dev.auxDrive]
  split <;> simp only [cells_setBit, cells_setL]
theorem cells_turnOn (d : Dev) (ch : Nat) : cells (Dev.turnOn d ch) = cells d := by
  simp only [Dev.turnOn, cells_setBit, cells_setL, cells_setLst, cells_auxDrive, apply_ite cells, ite_self]
theorem cells_turnOff (d : Dev) (ch st : Nat) : cells (Dev.turnOff d ch st) = cells d := by
  simp only [Dev.turnOff, cells_wr, cells_setL, cells_setLst]
theorem cells_safetyHold (d : Dev) (ch : Nat) : cells (Dev.safetyHold d ch) = cells d := by
  simp only [Dev.safetyHold, cells_setBit, cells_inc, cells_raise, cells_setL]
theorem cells_lswTarget (d : Dev) (ch : Nat) (on cmd : Bool) : cells (Dev.lswTarget d ch on cmd) = cells d := by
  simp only [Dev.lswTarget]
  split <;> simp only [cells_setL, cells_setLst, cells_turnOn, cells_turnOff, cells_safetyHold, apply_ite cells, ite_self]
theorem cells_frameCh (d : Dev) (force ch : Nat) : cells (Dev.frameCh d force ch) = cells d := by
  simp only [Dev.frameCh, cells_setBit, cells_setL, cells_lswTarget, apply_ite cells, ite_self]
theorem cells_frameGuard (d : Dev) (before : List Bool) (n : Nat) : cells (Dev.frameGuard d before n) = cells d := by
  simp only [Dev.frameGuard, cells_guardArm, cells_guardActive, apply_ite cells, ite_self]
theorem cells_switchFrame (d : Dev) (f : DieIn) (meas : List (Fin 80 × Nat × Int)) : cells (Dev.switchFrame d f meas) = cells d := by
  simp only [Dev.switchFrame, cells_wn, cells_setBit, cells_inc, cells_raise, cells_frameCh, cells_frameGuard, ↓cells_mk, cells_fold, cells_foldl, apply_ite cells, ite_self, implies_true]
theorem cells_failSafe (d : Dev) : cells (Dev.failSafe d) = cells d := by
  refine (cells_foldl (fun e ch => ?_) _ _).trans (by simp only [cells_setBit, cells_inc, cells_raise])
  dsimp only
  split <;> simp only [cells_setBit, cells_lswTarget]
theorem cells_lswWatchdog (d : Dev) : cells (Dev.lswWatchdog d) = cells d := by simp only [Dev.lswWatchdog, cells_failSafe, apply_ite cells, ite_self]
theorem cells_actHoldExpiry (d : Dev) : cells (Dev.actHoldExpiry d) = cells d := by
  simp only [Dev.actHoldExpiry, cells_setBit, cells_failSafe, ↓cells_mk, cells_fold, apply_ite cells, ite_self]
theorem cells_armActHold (d : Dev) : cells (Dev.armActHold d) = cells d := by simp only [Dev.armActHold, cells_setBit, ↓cells_mk, cells_fold]
theorem cells_retryReload (d : Dev) (ch : Nat) : cells (Dev.retryReload d ch) = cells d := by simp only [Dev.retryReload, cells_setFld, cells_setL]
theorem cells_coilTrip (d : Dev) (ch : Nat) : cells (Dev.coilTrip d ch) = cells d := by
  simp only [Dev.coilTrip, cells_outCoilTrip, apply_ite cells, ite_self]
theorem cells_overcurrent (d : Dev) (l : ChanLoad) : cells (Dev.overcurrent d l) = cells d := by
  simp only [Dev.overcurrent, cells_inc, cells_raise, cells_setL, cells_turnOff, cells_coilTrip, apply_ite cells, ite_self]
theorem cells_thermalSet (d : Dev) (ch : Nat) : cells (Dev.thermalSet d ch) = cells d := by
  simp only [Dev.thermalSet, apply_ite cells]
  repeat' split
  all_goals simp only [cells_setBit, cells_inc, cells_raise, cells_setL, cells_turnOff, cells_coilTrip]
theorem cells_thermalClear (d : Dev) (ch : Nat) : cells (Dev.thermalClear d ch) = cells d := by
  simp only [Dev.thermalClear]
  split <;> simp only [cells_setBit, cells_setL, cells_setLst, cells_turnOn, apply_ite cells, ite_self]
theorem cells_retryNow (d : Dev) (ch : Nat) : cells (Dev.retryNow d ch) = cells d := by
  simp only [Dev.retryNow, cells_setFld, cells_inc, cells_setL, cells_turnOn]
theorem cells_retry (d : Dev) (ch : Nat) : cells (Dev.retry d ch) = cells d := by simp only [Dev.retry, cells_retryNow, apply_ite cells, ite_self]
theorem cells_reloadAfterOn (d : Dev) (ch : Nat) : cells (Dev.reloadAfterOn d ch) = cells d := by
  simp only [Dev.reloadAfterOn, cells_retryReload, apply_ite cells, ite_self]
theorem cells_inrushEnd (d : Dev) (ch : Nat) : cells (Dev.inrushEnd d ch) = cells d := by
  simp only [Dev.inrushEnd, cells_setBit, apply_ite cells, ite_self]
theorem cells_openLoad (d : Dev) (l : ChanLoad) : cells (Dev.openLoad d l) = cells d := by
  simp only [Dev.openLoad, cells_setBit, cells_raise, apply_ite cells, ite_self]
theorem cells_pullInEnd (d : Dev) (ch : Nat) : cells (Dev.pullInEnd d ch) = cells d := by
  simp only [Dev.pullInEnd, cells_setBit, cells_setL, apply_ite cells, ite_self]
theorem cells_underVoltage (d : Dev) : cells (Dev.underVoltage d) = cells d := by
  simp only [Dev.underVoltage, cells_setBit, cells_inc, cells_raise, cells_turnOff, ↓cells_mk, cells_fold, cells_foldl, apply_ite cells, ite_self, implies_true]
theorem cells_uvRestore (d : Dev) : cells (Dev.uvRestore d) = cells d := by
  simp only [Dev.uvRestore]
  split <;> simp only [cells_setBit, cells_turnOn, cells_retryNow, ↓cells_mk, cells_fold, cells_foldl, apply_ite cells, ite_self, implies_true]
theorem cells_lswShow (d : Dev) : cells (Dev.lswShow d) = cells d := by simp only [Dev.lswShow, cells_setFld]
theorem cells_permitBack (d : Dev) (ch : Nat) : cells (Dev.permitBack d ch) = cells d := by
  unfold Dev.permitBack
  split <;> simp only [cells_turnOn, cells_retryNow, apply_ite cells, ite_self]
theorem cells_lswTick (d : Dev) (feed : Nat) : cells (Dev.lswTick d feed) = cells d := by
  simp only [Dev.lswTick, cells_wn, cells_setL, cells_auxDrive, cells_lswShow, cells_permitBack, ↓cells_mk, cells_fold, cells_foldl, apply_ite cells, ite_self, implies_true]
theorem cells_lswBoot (d : Dev) : cells (Dev.lswBoot d) = cells d := by
  simp only [Dev.lswBoot, cells_setBit, cells_coilShow, cells_foldl, implies_true]
theorem cells_lswCommand (d : Dev) (c : Cmd) (ch : Nat) (v : Word) : cells (Dev.lswCommand d c ch v) = cells d := by
  simp only [Dev.lswCommand, cells_wr, cells_pendAs, cells_dropPend, ↓cells_mk, cells_fold, apply_ite cells, ite_self]
theorem cells_opLswStatus (d : Dev) (c : Cmd) : cells (opLswStatus d c).1 = cells d := by simp only [opLswStatus, cells_check]
theorem cells_opLswSet (d : Dev) (c : Cmd) : cells (opLswSet d c).1 = cells d := by simp only [opLswSet, cells_check, cells_lswCommand]
theorem cells_opLswSetAx (d : Dev) (c : Cmd) : cells (opLswSetAx d c).1 = cells d := by
  simp only [opLswSetAx, cells_check, cells_lswCommand, cells_foldl, implies_true]
theorem cells_opLswClear (d : Dev) (c : Cmd) : cells (opLswClear d c).1 = cells d := by
  simp only [opLswClear, cells_check, cells_setLst, cells_retryReload, apply_ite cells, ite_self]

/-! ### Credit -/

theorem cells_tokenUsed (d : Dev) (t : TokenFields) : cells (Dev.tokenUsed d t) = cells d := by
  unfold Dev.tokenUsed
  repeat' split
  all_goals simp only [cells_wn, ↓cells_mk, cells_fold]
theorem cells_tokenRefuse (d : Dev) (n reason id : Nat) : cells (Dev.tokenRefuse d n reason id).1 = cells d := by
  simp only [Dev.tokenRefuse, cells_inc, cells_raise, cells_txn]
theorem cells_tokenAccept (d : Dev) (n : Nat) (t : TokenFields) : cells (Dev.tokenAccept d n t).1 = cells d := by
  simp only [Dev.tokenAccept, cells_wn, cells_inc, cells_setBo, cells_txn, cells_billShow, cells_applyGrant, cells_tokenUsed, apply_ite cells, ite_self]
theorem cells_tokenDecide (d : Dev) (n : Nat) (digits : List Nat) : cells (Dev.tokenDecide d n digits).1 = cells d := by
  simp only [Dev.tokenDecide]
  repeat' split
  all_goals simp only [cells_useKey, cells_tokenRefuse, cells_tokenAccept, ↓cells_mk, cells_fold]
theorem cells_creditLatch (d : Dev) : cells (Dev.creditLatch d) = cells d := by
  simp only [Dev.creditLatch, cells_inc, cells_raise, cells_setBo, cells_txn, cells_creditStop, cells_foldl, implies_true]
theorem cells_billLatch (d : Dev) : cells (Dev.billLatch d) = cells d := by
  simp only [Dev.billLatch, cells_acctLatch, cells_billOutLatch, cells_billSync, cells_creditLatch, cells_foldl, implies_true]
theorem cells_opTokenSubmit (d : Dev) (c : Cmd) : cells (opTokenSubmit d c).1 = cells d := by
  simp only [opTokenSubmit, cells_check, cells_tokenDecide]

end Sys2Proof.Proofs
end

section
/-!
What leaves the FRAM and the display buffers alone (O48): the Kernel's commands, the display, the tag, the twin and time. One lemma per function of the model that does not write them.
-/
namespace Sys2Proof.Proofs
open Sys2Proof.Machine Sys2Proof.Claims Sys2Proof.Laws

/-! ### The Kernel's commands -/

theorem cells_toKernel (d : Dev) (c : Cmd) : cells (Dev.toKernel d c).1 = cells d := by simp only [Dev.toKernel, ↓cells_mk, cells_fold]
theorem cells_kernOp (len : Nat) (d : Dev) (c : Cmd) : cells (kernOp len d c).1 = cells d := by simp only [kernOp, cells_check, cells_toKernel]
theorem cells_kernChunk (d : Dev) (c : Cmd) : cells (kernChunk d c).1 = cells d := by simp only [kernChunk, cells_check, cells_toKernel]
theorem cells_opKernStatus (d : Dev) (c : Cmd) : cells (opKernStatus d c).1 = cells d := by simp only [opKernStatus, cells_check]
theorem cells_opKernCertRead (d : Dev) (c : Cmd) : cells (opKernCertRead d c).1 = cells d := by simp only [opKernCertRead, cells_check]
theorem cells_opKernPubkeyRead (d : Dev) (c : Cmd) : cells (opKernPubkeyRead d c).1 = cells d := by simp only [opKernPubkeyRead, cells_check]
theorem cells_opKernLedgerRead (d : Dev) (c : Cmd) : cells (opKernLedgerRead d c).1 = cells d := by simp only [opKernLedgerRead, cells_kernOp]
theorem cells_opKernIntervalWait (d : Dev) (c : Cmd) : cells (opKernIntervalWait d c).1 = cells d := cells_check rfl
theorem cells_opKernReceiptGet (d : Dev) (c : Cmd) : cells (opKernReceiptGet d c).1 = cells d := by simp only [opKernReceiptGet, cells_kernOp]
theorem cells_opKernSetChannel (d : Dev) (c : Cmd) : cells (opKernSetChannel d c).1 = cells d := by simp only [opKernSetChannel, cells_kernOp]
theorem cells_opKernSetCal (d : Dev) (c : Cmd) : cells (opKernSetCal d c).1 = cells d := by simp only [opKernSetCal, cells_kernOp]
theorem cells_opKernSetMclk (d : Dev) (c : Cmd) : cells (opKernSetMclk d c).1 = cells d := by simp only [opKernSetMclk, cells_kernOp]
theorem cells_opKernSetPulse (d : Dev) (c : Cmd) : cells (opKernSetPulse d c).1 = cells d := by simp only [opKernSetPulse, cells_kernOp]
theorem cells_opKernSetBalance (d : Dev) (c : Cmd) : cells (opKernSetBalance d c).1 = cells d := by simp only [opKernSetBalance, cells_kernOp]
theorem cells_opKernSetLimits (d : Dev) (c : Cmd) : cells (opKernSetLimits d c).1 = cells d := by simp only [opKernSetLimits, cells_kernOp]
theorem cells_opKernFwBegin (d : Dev) (c : Cmd) : cells (opKernFwBegin d c).1 = cells d := by simp only [opKernFwBegin, cells_kernOp]
theorem cells_opKernFwChunk (d : Dev) (c : Cmd) : cells (opKernFwChunk d c).1 = cells d := by simp only [opKernFwChunk, cells_kernChunk]
theorem cells_opKernFwEnd (d : Dev) (c : Cmd) : cells (opKernFwEnd d c).1 = cells d := by simp only [opKernFwEnd, cells_kernOp]
theorem cells_opKernFwActivate (d : Dev) (c : Cmd) : cells (opKernFwActivate d c).1 = cells d := by simp only [opKernFwActivate, cells_kernOp]
theorem cells_opKernArchiveAck (d : Dev) (c : Cmd) : cells (opKernArchiveAck d c).1 = cells d := by simp only [opKernArchiveAck, cells_kernOp]
theorem cells_opKernCheckpoint (d : Dev) (c : Cmd) : cells (opKernCheckpoint d c).1 = cells d := by simp only [opKernCheckpoint, cells_kernOp]
theorem cells_opTariffBegin (d : Dev) (c : Cmd) : cells (opTariffBegin d c).1 = cells d := by simp only [opTariffBegin, cells_kernOp]
theorem cells_opTariffChunk (d : Dev) (c : Cmd) : cells (opTariffChunk d c).1 = cells d := by simp only [opTariffChunk, cells_kernChunk]
theorem cells_opTariffEnd (d : Dev) (c : Cmd) : cells (opTariffEnd d c).1 = cells d := by simp only [opTariffEnd, cells_kernOp]
theorem cells_opTariffAbort (d : Dev) (c : Cmd) : cells (opTariffAbort d c).1 = cells d := by simp only [opTariffAbort, cells_kernOp]
theorem cells_opTariffRead (d : Dev) (c : Cmd) : cells (opTariffRead d c).1 = cells d := by simp only [opTariffRead, cells_kernOp]
theorem cells_opLegalTimeAdjust (d : Dev) (c : Cmd) : cells (opLegalTimeAdjust d c).1 = cells d := by simp only [opLegalTimeAdjust, cells_kernOp]
theorem cells_opLegalTimeGet (d : Dev) (c : Cmd) : cells (opLegalTimeGet d c).1 = cells d := by simp only [opLegalTimeGet, cells_check]
theorem cells_takeKernel (d : Dev) : cells (Dev.takeKernel d) = cells d := by
  simp only [Dev.takeKernel, cells_finish, cells_setO, cells_receiptReady, ↓cells_mk, cells_fold, cells_foldl, implies_true]
theorem cells_kernDo (d : Dev) (f : Kernel → Kernel) : cells (Dev.kernDo d f) = cells d := by
  simp only [Dev.kernDo, cells_takeKernel, ↓cells_mk, cells_fold]

/-! ### The display -/

theorem cells_setUpd (d : Dev) (r : Nat) (u : RegionUpd) : cells (Dev.setUpd d r u) = cells d := by
  simp only [Dev.setUpd, cells_wn, ↓cells_mk, cells_fold]
theorem cells_superseded (d : Dev) (id : Nat) : cells (Dev.superseded d id) = cells d := by
  simp only [Dev.superseded, cells_inc, cells_raise, cells_finish]
theorem cells_updEnd (d : Dev) (r : Nat) : cells (Dev.updEnd d r) = cells d := by
  unfold Dev.updEnd
  split <;> simp only [cells_finish, cells_setUpd, apply_ite cells, ite_self]
theorem cells_updDrop (d : Dev) : cells (Dev.updDrop d) = cells d := by simp only [Dev.updDrop, cells_setUpd, cells_foldl, implies_true]
theorem cells_scanUe (d : Dev) (addr : Nat) : cells (Dev.scanUe d addr) = cells d := by
  simp only [Dev.scanUe, ↓cells_mk, cells_fold, apply_ite cells, ite_self]
theorem cells_dispRun (d : Dev) : cells (Dev.dispRun d) = cells d := by simp only [Dev.dispRun, cells_setBit]
theorem cells_dispCtrl (d : Dev) (v : Word) : cells (Dev.dispCtrl d v) = cells d := by
  simp only [Dev.dispCtrl, cells_wr, cells_setBit, cells_dispRun, apply_ite cells, ite_self]
theorem cells_dispFault (d : Dev) : cells (Dev.dispFault d) = cells d := by
  simp only [Dev.dispFault, cells_setBit, cells_inc, cells_raise, cells_dispRun, apply_ite cells, ite_self]
theorem cells_lineDriven (d : Dev) (y : Nat) : cells (Dev.lineDriven d y) = cells d := by
  unfold Dev.lineDriven
  refine cells_foldl ?_ _ _
  intro e x
  rfl
theorem cells_slotBegin (d : Dev) (k : Nat) : cells (Dev.slotBegin d k) = cells d := by
  have hlatch : (d.disp.latchLine k).active = d.disp.active ∧ (d.disp.latchLine k).staging = d.disp.staging := ⟨rfl, rfl⟩
  rw [Dev.slotBegin, cells_lineDriven, cells_mk, hlatch.1, hlatch.2, cells_fold]
theorem cells_dispScan (d : Dev) : cells (Dev.dispScan d) = cells d := by
  unfold Dev.dispScan
  split <;> simp only [cells_slotBegin, ↓cells_mk, cells_fold, cells_foldl, apply_ite cells, ite_self, implies_true]
theorem cells_dispFrame (d : Dev) (volt curr : Nat) : cells (Dev.dispFrame d volt curr) = cells d := by
  have hband : ∀ e : Dev, cells (match e.disp.bandNext with
      | some b => (({ e with disp := { e.disp with bandNext := none } } : Dev).setFld Reg.DISP_STATUS 10 8 b).raise Reg.DISP_EVENT 4
      | none => e) = cells e := fun e => by split <;> rfl
  have hactive : ∀ (w : Nat × Nat → Nat) (l : List (Nat × Nat)) (u : DispU), (l.foldl (fun (u : DispU) p => u.stressAdd p.1 (w p)) u).active = u.active :=
    fun w => foldl_same DispU.active fun u p => by unfold DispU.stressAdd; dsimp only; split <;> rfl
  have hstaging : ∀ (w : Nat × Nat → Nat) (l : List (Nat × Nat)) (u : DispU), (l.foldl (fun (u : DispU) p => u.stressAdd p.1 (w p)) u).staging = u.staging :=
    fun w => foldl_same DispU.staging fun u p => by unfold DispU.stressAdd; dsimp only; split <;> rfl
  unfold Dev.dispFrame
  split
  · rfl
  · extract_lets u d1 d2 v d3 lit d4
    have hd2 : cells d2 = cells d1 := (cells_wn _ _ _).trans (cells_inc _ _)
    have hd4 : cells d4 = cells d := (cells_setBit _ _ _ _).trans ((hband d2).trans hd2)
    split
    · rw [cells_mk, hactive, hstaging, cells_fold, hd4]
    · exact hd4
theorem cells_dispTemp (d : Dev) (die : Int) : cells (Dev.dispTemp d die) = cells d := by
  simp only [Dev.dispTemp, cells_setFld, ↓cells_mk, cells_fold, apply_ite cells, ite_self]
theorem cells_dispSave (d : Dev) : cells (Dev.dispSave d) = cells d := by simp only [Dev.dispSave, ↓cells_mk, cells_fold]
theorem cells_dispHourly (d : Dev) : cells (Dev.dispHourly d) = cells d := by simp only [Dev.dispHourly, cells_dispSave, apply_ite cells, ite_self]
theorem cells_opDispStatus (d : Dev) (c : Cmd) : cells (opDispStatus d c).1 = cells d := by simp only [opDispStatus, cells_check]
theorem cells_opDispUpdate (d : Dev) (c : Cmd) : cells (opDispUpdate d c).1 = cells d := by
  refine cells_check ?_
  dsimp only
  repeat' split
  all_goals rfl
theorem cells_opDispStressRead (d : Dev) (c : Cmd) : cells (opDispStressRead d c).1 = cells d := by simp only [opDispStressRead, cells_check]
theorem cells_opDispStressReset (d : Dev) (c : Cmd) : cells (opDispStressReset d c).1 = cells d := cells_check rfl

/-! ### The tag -/

theorem cells_setTag {d : Dev} {f : TagU → TagU} (h : (f d.tag).fram = d.tag.fram) : cells (d.setTag f) = cells d := by
  rw [Dev.setTag, cells_mk, h, cells_fold]
theorem cells_setFe (d : Dev) (f : TagFe → TagFe) : cells (Dev.setFe d f) = cells d := by simp only [Dev.setFe, cells_wn, cells_setBit, cells_setTag]
theorem cells_tagReply (d : Dev) (b : Bytes) : cells (Dev.tagReply d b) = cells d := by simp only [Dev.tagReply, cells_setFe]
theorem cells_tagWtx (d : Dev) : cells (Dev.tagWtx d) = cells d := by simp only [Dev.tagWtx, cells_inc, cells_setFe]
theorem cells_readBinary (d : Dev) (a : Bytes) : cells (Dev.readBinary d a) = cells d := by simp only [Dev.readBinary, cells_tagReply]
theorem cells_framShow (d : Dev) : cells (Dev.framShow d) = cells d := by simp only [Dev.framShow, cells_wn, cells_setBit]
theorem cells_tagLeave (d : Dev) : cells (Dev.tagLeave d) = cells d := by simp only [Dev.tagLeave, cells_setTag, cells_setFe]
theorem cells_tagActivate (d : Dev) (r : Nat) : cells (Dev.tagActivate d r) = cells d := by
  simp only [Dev.tagActivate, cells_inc, cells_setFe, cells_tagLeave, apply_ite cells, ite_self]
theorem cells_tagDrop (d : Dev) : cells (Dev.tagDrop d) = cells d := by simp only [Dev.tagDrop, cells_setFe, cells_tagLeave]
theorem cells_stop (d : Dev) (a : FramAcc) : cells (FramAcc.stop d a) = cells d := by
  unfold FramAcc.stop
  split <;> simp only [cells_finish]
theorem cells_kpShow (d : Dev) : cells (Dev.kpShow d) = cells d := by simp only [Dev.kpShow, cells_setFld]
theorem cells_entryDone (d : Dev) (kind : Nat) (ds : List Nat) : cells (Dev.entryDone d kind ds) = cells d := by
  unfold Dev.entryDone
  repeat' split
  all_goals simp only [cells_setFld, cells_presentCard, cells_tokenRefuse, cells_tokenDecide, cells_setTag, apply_ite cells, ite_self]
theorem cells_actFwd (d : Dev) (f : Fwd) : cells (Dev.actFwd d f) = cells d := by
  unfold Dev.actFwd
  split <;> simp only [cells_inc, cells_presentCard, cells_setTag, cells_entryDone, apply_ite cells, ite_self]
theorem cells_emit (d : Dev) (f : Fwd) : cells (Dev.emit d f) = cells d := by
  simp only [Dev.emit, cells_actFwd, ↓cells_mk, cells_fold, apply_ite cells, ite_self]
theorem cells_rdrShow (d : Dev) : cells (Dev.rdrShow d) = cells d := by simp only [Dev.rdrShow, cells_wn, cells_setFld]
theorem cells_rdrPip (d : Dev) : cells (Dev.rdrPip d) = cells d := by simp only [Dev.rdrPip, cells_setTag, cells_rdrShow, apply_ite cells, ite_self]
theorem cells_pollCycle (d : Dev) (start : Nat) (cards : List CardSeen) : cells (Dev.pollCycle d start cards) = cells d := by
  simp only [Dev.pollCycle]
  split <;> simp only [cells_inc, cells_incBy, cells_raise, cells_setTag, cells_emit, cells_rdrShow, apply_ite cells, ite_self]
theorem cells_readerPoll (d : Dev) (cards : List CardSeen) : cells (Dev.readerPoll d cards) = cells d := by
  unfold Dev.readerPoll
  split <;> simp only [cells_pollCycle, apply_ite cells, ite_self]
theorem cells_exchEnd (d : Dev) (e : CardExch) (st : Nat) (pl : Bytes) : cells (Dev.exchEnd d e st pl) = cells d := by
  simp only [Dev.exchEnd, cells_finish, cells_setTag, cells_rdrShow]
theorem cells_exchTimeout (d : Dev) (e : CardExch) : cells (Dev.exchTimeout d e) = cells d := by
  simp only [Dev.exchTimeout, cells_inc, cells_raise, cells_exchEnd]
theorem cells_rdrSend (d : Dev) (e : CardExch) (b : RdrBlk) : cells (Dev.rdrSend d e b) = cells d := by simp only [Dev.rdrSend, cells_setTag]
theorem cells_rdrNext (d : Dev) (e : CardExch) : cells (Dev.rdrNext d e) = cells d := by simp only [Dev.rdrNext, cells_rdrSend]
theorem cells_waitEnd (d : Dev) (e : CardExch) : cells (Dev.waitEnd d e) = cells d := by
  unfold Dev.waitEnd
  repeat' split
  all_goals simp only [cells_exchEnd, cells_exchTimeout, cells_rdrSend]
theorem cells_cardBlock (d : Dev) (e : CardExch) (a : CardIn) : cells (Dev.cardBlock d e a) = cells d := by
  unfold Dev.cardBlock
  split <;> simp only [cells_setTag, cells_exchEnd, cells_rdrSend, cells_rdrNext, apply_ite cells, ite_self]
theorem cells_cardAnswer (d : Dev) (a : CardIn) : cells (Dev.cardAnswer d a) = cells d := by
  unfold Dev.cardAnswer
  split <;> simp only [cells_waitEnd, cells_cardBlock, apply_ite cells, ite_self]
theorem cells_cardWait (d : Dev) : cells (Dev.cardWait d) = cells d := by
  unfold Dev.cardWait
  split <;> simp only [cells_waitEnd, apply_ite cells, ite_self]
theorem cells_kpTimeout (d : Dev) : cells (Dev.kpTimeout d) = cells d := by
  simp only [Dev.kpTimeout, cells_setTag, cells_kpShow, apply_ite cells, ite_self]
theorem cells_kpKey (d : Dev) (k : Nat) : cells (Dev.kpKey d k) = cells d := by
  simp only [Dev.kpKey, cells_setTag, cells_kpShow, cells_emit, cells_kpTimeout, apply_ite cells, ite_self]
theorem cells_kpEvent (d : Dev) (i : Nat) (press : Bool) : cells (Dev.kpEvent d i press) = cells d := by
  simp only [Dev.kpEvent, cells_inc, cells_emit, cells_kpKey, apply_ite cells, ite_self]
theorem cells_kpPip (d : Dev) : cells (Dev.kpPip d) = cells d := by simp only [Dev.kpPip, cells_setTag]
theorem cells_kpScan (d : Dev) (keys : List Nat) : cells (Dev.kpScan d keys) = cells d := by
  simp only [Dev.kpScan, cells_inc, cells_setTag, apply_ite cells]
  repeat' split
  all_goals simp only [cells_setTag, cells_kpEvent]
theorem cells_selExpiry (d : Dev) : cells (Dev.selExpiry d) = cells d := by simp only [Dev.selExpiry, cells_setFld, apply_ite cells, ite_self]
theorem cells_opTagStatus (d : Dev) (c : Cmd) : cells (opTagStatus d c).1 = cells d := by simp only [opTagStatus, cells_check]
theorem cells_opRdrList (d : Dev) (c : Cmd) : cells (opRdrList d c).1 = cells d := by simp only [opRdrList, cells_check]
theorem cells_rdrStart (d : Dev) (c : Cmd) (i : Nat) : cells (Dev.rdrStart d c i) = cells d := by
  simp only [Dev.rdrStart, cells_setTag, cells_rdrShow, cells_rdrSend]
theorem cells_opRdrApdu (d : Dev) (c : Cmd) : cells (opRdrApdu d c).1 = cells d := by simp only [opRdrApdu, cells_check, cells_rdrStart]
theorem cells_opFramHold (d : Dev) (c : Cmd) : cells (opFramHold d c).1 = cells d := by
  simp only [opFramHold, cells_check, cells_setTag, cells_tagWtx, cells_framShow, apply_ite cells, ite_self]
theorem cells_opKpRead (d : Dev) (c : Cmd) : cells (opKpRead d c).1 = cells d := by simp only [opKpRead, cells_check, cells_setTag]

/-! ### The twin -/

theorem cells_setTwin (d : Dev) (f : TwinU → TwinU) : cells (Dev.setTwin d f) = cells d := by simp only [Dev.setTwin, ↓cells_mk, cells_fold]
theorem cells_imdFloat (d : Dev) : cells (Dev.imdFloat d) = cells d := by
  simp only [Dev.imdFloat, cells_setG, cells_foldl, apply_ite cells, ite_self, implies_true]
theorem cells_twinTo (d : Dev) (s : Nat) : cells (Dev.twinTo d s) = cells d := by
  simp only [Dev.twinTo, cells_wn, cells_setFld, cells_setBit, cells_inc, cells_raise, cells_imdFloat, apply_ite cells, ite_self]
theorem cells_twinCause (d : Dev) (c : Nat) : cells (Dev.twinCause d c) = cells d := by simp only [Dev.twinCause, cells_setFld]
theorem cells_twinActivate (d : Dev) (epoch : Nat) : cells (Dev.twinActivate d epoch) = cells d := by
  simp only [Dev.twinActivate, cells_wn, cells_inc, cells_raise, cells_setTwin, cells_twinTo, cells_twinCause]
theorem cells_twinSyncing (d : Dev) : cells (Dev.twinSyncing d) = cells d := by simp only [Dev.twinSyncing, cells_setTwin, cells_twinTo]
theorem cells_syncShow (d : Dev) : cells (Dev.syncShow d) = cells d := by
  unfold Dev.syncShow
  split <;> simp only [cells_twinCause, apply_ite cells, ite_self]
theorem cells_pilotsLow (d : Dev) : cells (Dev.pilotsLow d) = cells d := by simp only [Dev.pilotsLow, cells_wn, cells_foldl, implies_true]
theorem cells_demote (d : Dev) (epoch : Nat) : cells (Dev.demote d epoch) = cells d := by
  simp only [Dev.demote, cells_wn, cells_inc, cells_raise, cells_setTwin, cells_twinSyncing, cells_syncShow, cells_pilotsLow]
theorem cells_kernSend (d : Dev) (c : KCmd) : cells (Dev.kernSend d c) = cells d := by simp only [Dev.kernSend, ↓cells_mk, cells_fold]
theorem cells_joinKernel (d : Dev) : cells (Dev.joinKernel d) = cells d := by
  simp only [Dev.joinKernel, cells_kernSend, cells_foldl, apply_ite cells, ite_self, implies_true]
theorem cells_mirrorCmd (d : Dev) (c : KCmd) : cells (Dev.mirrorCmd d c) = cells d := by
  unfold Dev.mirrorCmd
  split <;> simp only [cells_kernSend]
theorem cells_mirrorCmds (d : Dev) (l : List (Nat × KCmd)) : cells (Dev.mirrorCmds d l) = cells d := by
  simp only [Dev.mirrorCmds, cells_setTwin, cells_mirrorCmd, cells_foldl, implies_true]
theorem cells_coldOutlets (d : Dev) : cells (Dev.coldOutlets d) = cells d :=
  cells_foldl (fun e n => by split <;> simp only [apply_ite cells, cells_controllerReset, ite_self]) _ _
theorem cells_podTrained (d : Dev) (p : Peer) : cells (Dev.podTrained d p) = cells d := by
  simp only [Dev.podTrained, apply_ite cells]
  repeat' split
  all_goals simp only [cells_wn, cells_setFld, cells_setTwin, cells_twinCause, cells_twinActivate, cells_twinSyncing, cells_demote, cells_coldOutlets]
theorem cells_podTrain (d : Dev) (t : TrainIn) : cells (Dev.podTrain d t) = cells d := by
  simp only [Dev.podTrain, apply_ite cells]
  repeat' split
  all_goals simp only [cells_setBit, cells_setTwin, cells_podTrained]
theorem cells_podRestart (d : Dev) : cells (Dev.podRestart d) = cells d := by simp only [Dev.podRestart, cells_wn, cells_setTwin]
theorem cells_podLost (d : Dev) (lane : Nat) : cells (Dev.podLost d lane) = cells d := by
  simp only [Dev.podLost, cells_podRestart, apply_ite cells, ite_self]
theorem cells_compareOne (d : Dev) (m : Nat) (p : Nat × Nat) : cells (Dev.compareOne d m p) = cells d := by
  simp only [Dev.compareOne, cells_wn, cells_setBit, cells_setTwin, apply_ite cells, ite_self]
theorem cells_compareKernels (d : Dev) (l : List (Nat × Nat)) : cells (Dev.compareKernels d l) = cells d := by
  simp only [Dev.compareKernels, cells_setTwin, cells_compareOne, cells_foldl, implies_true]
theorem cells_kcmpSet (d : Dev) (m : Nat) : cells (Dev.kcmpSet d m) = cells d := by
  simp only [Dev.kcmpSet, cells_setBit, cells_raise, cells_log, apply_ite cells, ite_self]
theorem cells_staleTwin (d : Dev) : cells (Dev.staleTwin d) = cells d := by simp only [Dev.staleTwin, cells_inc, cells_raise]
theorem cells_partnerHere (d : Dev) : cells (Dev.partnerHere d) = cells d := by simp only [Dev.partnerHere, cells_setBit]
theorem cells_takeCopy (d : Dev) (c : Option CopyImage) : cells (Dev.takeCopy d c) = cells d := by
  simp only [Dev.takeCopy, cells_setTwin, apply_ite cells, ite_self]
theorem cells_copyAcked (d : Dev) (ack : Bool) (before : Nat) : cells (Dev.copyAcked d ack before) = cells d := by
  simp only [Dev.copyAcked]
  split <;> simp only [cells_setTwin, apply_ite cells, ite_self]
theorem cells_podFrame (d : Dev) (g : PodFrame) : cells (Dev.podFrame d g) = cells d := by
  simp only [Dev.podFrame, cells_inc, cells_staleTwin, apply_ite cells]
  repeat' split
  all_goals simp only [cells_wn, cells_setBit, cells_undegrade, cells_setTwin, cells_twinSyncing, cells_syncShow, cells_demote, cells_mirrorCmds, cells_compareKernels, cells_partnerHere, cells_takeCopy, cells_copyAcked]
theorem cells_copyBreak (d : Dev) (c : KCmd) : cells (Dev.copyBreak d c) = cells d := by
  unfold Dev.copyBreak
  split <;> simp only [↓cells_mk, cells_fold]
theorem cells_lagTick (d : Dev) : cells (Dev.lagTick d) = cells d := by simp only [Dev.lagTick, cells_setTwin, apply_ite cells, ite_self]
theorem cells_syncComplete (d : Dev) : cells (Dev.syncComplete d) = cells d := by
  unfold Dev.syncComplete
  split <;> simp only [cells_raise, cells_undegrade, cells_twinTo, cells_twinCause, cells_joinKernel, apply_ite cells, ite_self]
theorem cells_copyLag (d : Dev) : cells (Dev.copyLag d) = cells d := by
  simp only [Dev.copyLag, cells_twinCause, cells_twinSyncing, apply_ite cells, ite_self]
theorem cells_silencePromote (d : Dev) : cells (Dev.silencePromote d) = cells d := by
  unfold Dev.silencePromote
  repeat' split
  all_goals simp only [cells_setBit, cells_emptyRings, cells_setTwin, cells_twinActivate, cells_coldOutlets]
theorem cells_promotedHub (d : Dev) : cells (Dev.promotedHub d) = cells d := by
  simp only [Dev.promotedHub, cells_rampdown, cells_setTwin, cells_foldl, apply_ite cells, ite_self, implies_true]
theorem cells_podFault (d : Dev) : cells (Dev.podFault d) = cells d := by
  simp only [Dev.podFault, cells_setBit, cells_inc, cells_raise, cells_degrade, cells_twinCause, cells_twinSyncing, apply_ite cells, ite_self]
theorem cells_partnerSilent (d : Dev) : cells (Dev.partnerSilent d) = cells d := by
  simp only [Dev.partnerSilent, cells_setBit, cells_setTwin, apply_ite cells, ite_self]
theorem cells_liveEdge (d : Dev) : cells (Dev.liveEdge d) = cells d := by
  simp only [Dev.liveEdge, cells_setBit, cells_setTwin, cells_partnerHere, apply_ite cells, ite_self]
theorem cells_liveToggle (d : Dev) : cells (Dev.liveToggle d) = cells d := by simp only [Dev.liveToggle, cells_setTwin, apply_ite cells, ite_self]
theorem cells_searchTimeout (d : Dev) : cells (Dev.searchTimeout d) = cells d := by
  simp only [Dev.searchTimeout, cells_twinActivate, cells_coldOutlets, apply_ite cells, ite_self]
theorem cells_noticeTx (d : Dev) : cells (Dev.noticeTx d) = cells d := by simp only [Dev.noticeTx, cells_setTwin, apply_ite cells, ite_self]
theorem cells_noticeRx (d : Dev) (ip : Nat) (b : Bytes) : cells (Dev.noticeRx d ip b) = cells d := by
  simp only [Dev.noticeRx, cells_wn, cells_setBit, cells_setTwin, cells_demote, cells_staleTwin, apply_ite cells, ite_self]
theorem cells_twinStart (d : Dev) : cells (Dev.twinStart d) = cells d := by
  simp only [Dev.twinStart, cells_wn, cells_setTwin, cells_twinTo, cells_podRestart]
theorem cells_twinStop (d : Dev) : cells (Dev.twinStop d) = cells d := by simp only [Dev.twinStop, cells_wr, cells_wn, cells_setTwin, cells_twinTo]
theorem cells_twinCfg (d : Dev) (v : Word) : cells (Dev.twinCfg d v) = cells d := by
  simp only [Dev.twinCfg, cells_wr, cells_twinStart, cells_twinStop, apply_ite cells, ite_self]
theorem cells_podSend (d : Dev) (pip : Nat) (flights : List Flight) : cells (Dev.podSend d pip flights) = cells d := by
  simp only [Dev.podSend, cells_wn, cells_inc, cells_draw, cells_setTwin, apply_ite cells, ite_self]
theorem cells_twinPip (d : Dev) : cells (Dev.twinPip d) = cells d := by
  simp only [Dev.twinPip, cells_setBit, cells_actFwd, cells_setTwin, cells_syncShow, cells_podRestart, cells_foldl, apply_ite cells, ite_self, implies_true]
theorem cells_handoverEnd (d : Dev) : cells (Dev.handoverEnd d) = cells d := by
  unfold Dev.handoverEnd
  split <;> simp only [cells_wn, cells_inc, cells_raise, cells_finish, cells_setTwin, cells_twinTo, apply_ite cells, ite_self]
theorem cells_tamperHand (d : Dev) : cells (Dev.tamperHand d) = cells d := by
  simp only [Dev.tamperHand, cells_wn, cells_inc, cells_raise, cells_setTwin, cells_twinTo, cells_twinCause, cells_twinSyncing, apply_ite cells, ite_self]
theorem cells_opTwinStatus (d : Dev) (c : Cmd) : cells (opTwinStatus d c).1 = cells d := by simp only [opTwinStatus, cells_check]
theorem cells_opTwinSwitchover (d : Dev) (c : Cmd) : cells (opTwinSwitchover d c).1 = cells d := by
  simp only [opTwinSwitchover, cells_check, cells_setTwin]
theorem cells_opTwinResync (d : Dev) (c : Cmd) : cells (opTwinResync d c).1 = cells d := by
  simp only [opTwinResync, cells_check, cells_twinSyncing, apply_ite cells, ite_self]
theorem cells_opTwinKcmp (d : Dev) (c : Cmd) : cells (opTwinKcmp d c).1 = cells d := by simp only [opTwinKcmp, cells_check]

/-! ### Time -/

theorem cells_setTime (d : Dev) (f : TimeU → TimeU) : cells (Dev.setTime d f) = cells d := by simp only [Dev.setTime, ↓cells_mk, cells_fold]
theorem cells_servoTo (d : Dev) (s : Servo) : cells (Dev.servoTo d s) = cells d := by simp only [Dev.servoTo, cells_setFld]
theorem cells_alignShow (d : Dev) : cells (Dev.alignShow d) = cells d := by simp only [Dev.alignShow, cells_setBit]
theorem cells_timeLog (d : Dev) (kind : Nat) : cells (Dev.timeLog d kind) = cells d := by simp only [Dev.timeLog, cells_log]
theorem cells_acquire (d : Dev) (off : Int) : cells (Dev.acquire d off) = cells d := by
  simp only [Dev.acquire, cells_draw, cells_setTime, cells_servoTo, cells_alignShow, cells_timeLog, apply_ite cells, ite_self]
theorem cells_slewTo (d : Dev) : cells (Dev.slewTo d) = cells d := by simp only [Dev.slewTo, cells_wi, cells_draw]
theorem cells_refuseJump (d : Dev) (off : Int) : cells (Dev.refuseJump d off) = cells d := by
  simp only [Dev.refuseJump, cells_wi, cells_inc, cells_raise]
theorem cells_ptpReceived (d : Dev) (m : PtpMeas) : cells (Dev.ptpReceived d m) = cells d := by simp only [Dev.ptpReceived, cells_incBy]
theorem cells_ptpMeasured (d : Dev) (m : PtpMeas) : cells (Dev.ptpMeasured d m) = cells d := by
  simp only [Dev.ptpMeasured, cells_alignShow, cells_ptpReceived, apply_ite cells]
  repeat' split
  all_goals simp only [cells_wn, cells_wi, cells_draw, cells_setTime, cells_servoTo, cells_acquire, cells_slewTo, cells_refuseJump, cells_ptpReceived]
theorem cells_dropStep (d : Dev) : cells (Dev.dropStep d) = cells d := by simp only [Dev.dropStep, cells_setTime]
theorem cells_discardCount (d : Dev) : cells (Dev.discardCount d) = cells d := by simp only [Dev.discardCount, cells_setTime, cells_dropStep]
theorem cells_enterRecovery (d : Dev) : cells (Dev.enterRecovery d) = cells d := by
  simp only [Dev.enterRecovery, cells_setTime, cells_servoTo, cells_discardCount]
theorem cells_masterGone (d : Dev) : cells (Dev.masterGone d) = cells d := by
  simp only [Dev.masterGone, cells_dropStep, cells_discardCount, apply_ite cells, ite_self]
theorem cells_masterChanged (d : Dev) : cells (Dev.masterChanged d) = cells d := by
  simp only [Dev.masterChanged, cells_raise, cells_alignShow, cells_masterGone, apply_ite cells, ite_self]
theorem cells_setGm (d : Dev) (i : PtpInfo) : cells (Dev.setGm d i) = cells d := by simp only [Dev.setGm, cells_wn, cells_setTime]
theorem cells_otherMaster (d : Dev) (i : PtpInfo) : cells (Dev.otherMaster d i) = cells d := by
  simp only [Dev.otherMaster, cells_setBit, cells_setTime, cells_masterChanged, cells_setGm]
theorem cells_announceTimeout (d : Dev) : cells (Dev.announceTimeout d) = cells d := by
  simp only [Dev.announceTimeout, cells_alignShow, apply_ite cells]
  repeat' split
  all_goals simp only [cells_wn, cells_setBit, cells_raise, cells_setTime, cells_servoTo, cells_masterGone]
theorem cells_selfMaster (d : Dev) : cells (Dev.selfMaster d) = cells d := by
  simp only [Dev.selfMaster, cells_wn, cells_setBit, cells_raise, cells_setTime, cells_servoTo, cells_alignShow, cells_masterGone, cells_setGm, apply_ite cells, ite_self]
theorem cells_holdoverLimit (d : Dev) : cells (Dev.holdoverLimit d) = cells d := by
  simp only [Dev.holdoverLimit, cells_setBit, cells_raise, cells_timeLog, apply_ite cells, ite_self]
theorem cells_renumbered (d : Dev) (l : Nat) (delta : Int) (k latch : Nat) : cells (Dev.renumbered d l delta k latch) = cells d := by
  simp only [Dev.renumbered, cells_wn, cells_inc, cells_raise, cells_log, ↓cells_mk, cells_fold]
theorem cells_atBound (d : Dev) : cells (Dev.atBound d) = cells d := by simp only [Dev.atBound, cells_setTime]
theorem cells_tb0Step (d : Dev) : cells (Dev.tb0Step d) = cells d := by
  unfold Dev.tb0Step
  split <;> simp only [cells_incBy, cells_finish, cells_setTime, cells_servoTo, cells_alignShow, cells_renumbered, cells_atBound, apply_ite cells, ite_self]
theorem cells_servoReq (d : Dev) : cells (Dev.servoReq d) = cells d := by
  unfold Dev.servoReq
  split <;> simp only [cells_wn, cells_setTime, cells_servoTo, cells_dropStep, cells_enterRecovery, apply_ite cells, ite_self]
theorem cells_nextPip (d : Dev) : cells (Dev.nextPip d).1 = cells d := by
  simp only [Dev.nextPip, cells_wn, cells_inc, cells_incBy, cells_setTime, cells_alignShow, cells_renumbered, cells_atBound, cells_servoReq, ↓cells_mk, cells_fold, apply_ite cells, ite_self]
theorem cells_ptpSent (d : Dev) (s : TxStamp) : cells (Dev.ptpSent d s) = cells d := by
  simp only [Dev.ptpSent, cells_wn, cells_inc, cells_raise, cells_setTime, apply_ite cells, ite_self]
theorem cells_opTimeGet (d : Dev) (c : Cmd) : cells (opTimeGet d c).1 = cells d := by simp only [opTimeGet, cells_check]
theorem cells_opTimeSetState (d : Dev) (c : Cmd) : cells (opTimeSetState d c).1 = cells d := by simp only [opTimeSetState, cells_check, cells_setTime]
theorem cells_opTimeSetTb0 (d : Dev) (c : Cmd) : cells (opTimeSetTb0 d c).1 = cells d := by simp only [opTimeSetTb0, cells_check, cells_setTime]
theorem cells_opTimePtpStatus (d : Dev) (c : Cmd) : cells (opTimePtpStatus d c).1 = cells d := by simp only [opTimePtpStatus, cells_check]

end Sys2Proof.Proofs
end

section
/-!
What leaves the FRAM and the display buffers alone (O48): firmware, memory integrity, power, and the pip boundary. One lemma per function of the model that does not write them.
-/
namespace Sys2Proof.Proofs
open Sys2Proof.Machine Sys2Proof.Claims Sys2Proof.Laws

/-! ### Firmware -/

theorem cells_setFwu (d : Dev) (f : FwuU → FwuU) : cells (Dev.setFwu d f) = cells d := by simp only [Dev.setFwu, ↓cells_mk, cells_fold]
theorem cells_setBank (d : Dev) (b : Bool) (k : Option FwuBank) : cells (Dev.setBank d b k) = cells d := by simp only [Dev.setBank, cells_setFwu]
theorem cells_fwuShow (d : Dev) : cells (Dev.fwuShow d) = cells d := by simp only [Dev.fwuShow, cells_wn, cells_setFld]
theorem cells_opFwuStatus (d : Dev) (c : Cmd) : cells (opFwuStatus d c).1 = cells d := by simp only [opFwuStatus, cells_check]
theorem cells_fwuBusy (d : Dev) (c : Cmd) (st : Nat) (pl : Bytes) : cells (Dev.fwuBusy d c st pl).1 = cells d := by
  simp only [Dev.fwuBusy, cells_setFwu, cells_fwuShow]
theorem cells_opFwuBegin (d : Dev) (c : Cmd) : cells (opFwuBegin d c).1 = cells d := by
  simp only [opFwuBegin, cells_check, cells_setFwu, cells_setBank, cells_fwuBusy]
theorem cells_opFwuChunk (d : Dev) (c : Cmd) : cells (opFwuChunk d c).1 = cells d := by
  refine cells_check ?_
  split
  · rfl
  · exact cells_check rfl
theorem cells_opFwuEnd (d : Dev) (c : Cmd) : cells (opFwuEnd d c).1 = cells d := by
  refine cells_check ?_
  split <;> simp only [cells_setFwu, cells_setBank, cells_fwuBusy, apply_ite cells, apply_ite Prod.fst, ite_self]
theorem cells_fwuDone (d : Dev) : cells (Dev.fwuDone d) = cells d := by
  unfold Dev.fwuDone
  split <;> simp only [cells_finish, cells_setFwu]
theorem cells_fwuActivate (d : Dev) (b carry : Bool) (reason : Nat) : cells (Dev.fwuActivate d b carry reason) = cells d := by
  simp only [Dev.fwuActivate, cells_inc, cells_raise, cells_setFwu, cells_fwuShow, ↓cells_mk, cells_fold]
theorem cells_opFwuActivate (d : Dev) (c : Cmd) : cells (opFwuActivate d c).1 = cells d := by
  simp only [opFwuActivate, cells_inc, cells_check, cells_setFwu, cells_fwuShow, cells_fwuActivate, ↓cells_mk, cells_fold, apply_ite cells, apply_ite Prod.fst, ite_self]
theorem cells_confirm (d : Dev) : cells (Dev.confirm d) = cells d := by simp only [Dev.confirm, cells_wn, cells_setBit, cells_setFwu]
theorem cells_opFwuConfirm (d : Dev) (c : Cmd) : cells (opFwuConfirm d c).1 = cells d := by
  simp only [opFwuConfirm, cells_check, cells_confirm, apply_ite cells, ite_self]
theorem cells_opFwuAbort (d : Dev) (c : Cmd) : cells (opFwuAbort d c).1 = cells d := by
  simp only [opFwuAbort, cells_check, cells_setFwu, cells_setBank, cells_fwuShow, apply_ite cells, apply_ite Prod.fst, ite_self]
theorem cells_trialExpiry (d : Dev) : cells (Dev.trialExpiry d) = cells d := by
  simp only [Dev.trialExpiry, cells_fwuActivate, apply_ite cells, ite_self]

/-! ### Memory integrity -/

theorem cells_setMem (d : Dev) (f : MemU → MemU) : cells (Dev.setMem d f) = cells d := by simp only [Dev.setMem, ↓cells_mk, cells_fold]
theorem cells_rowFail (d : Dev) (x : RowDefect) : cells (Dev.rowFail d x) = cells d := by
  simp only [Dev.rowFail, cells_wn, cells_setBit, cells_inc, cells_raise, cells_draw, cells_degrade, cells_log, cells_setMem, apply_ite cells, ite_self]
theorem cells_setWindow (d : Dev) (m addr : Nat) (w : BitVec 64) (cb : Byte) : cells (Dev.setWindow d m addr w cb) = cells d := by
  simp only [Dev.setWindow, cells_setMem]
theorem cells_sramCe (d : Dev) (m addr : Nat) : cells (Dev.sramCe d m addr) = cells d := by simp only [Dev.sramCe, cells_wn, cells_inc]
theorem cells_sramUe (d : Dev) (m addr : Nat) : cells (Dev.sramUe d m addr) = cells d := by simp only [Dev.sramUe, cells_wn, cells_inc, cells_raise]
theorem cells_windowRead (d : Dev) (m addr : Nat) : cells (Dev.windowRead d m addr) = cells d := by
  unfold Dev.windowRead
  split <;> simp only [cells_setWindow, cells_sramCe, cells_sramUe, apply_ite cells, ite_self]
theorem cells_scrubRow (d : Dev) (m row : Nat) : cells (Dev.scrubRow d m row) = cells d := by
  simp only [Dev.scrubRow, cells_windowRead, cells_foldl, apply_ite cells, ite_self, implies_true]
theorem cells_mbistRow (d : Dev) (fail : Option (Fin 16 × Fin 72)) : cells (Dev.mbistRow d fail) = cells d := by
  unfold Dev.mbistRow
  repeat' split
  all_goals simp only [cells_wn, cells_setMem, cells_rowFail, cells_scrubRow]
theorem cells_lbistTest (d : Dev) (free : Bool) (sig : Word) (bit : Nat) : cells (Dev.lbistTest d free sig bit) = cells d := by
  simp only [Dev.lbistTest, cells_wr, cells_wn, cells_setBit, cells_inc, cells_undegrade, cells_setMem, apply_ite cells, ite_self]
theorem cells_lbistRetest (d : Dev) (x : LbistSig) : cells (Dev.lbistRetest d x) = cells d := by
  unfold Dev.lbistRetest
  split <;> simp only [cells_wr, cells_wn, cells_setBit, cells_inc, cells_raise, cells_degrade, cells_log, cells_setMem, apply_ite cells, ite_self]
theorem cells_lbistReset (d : Dev) (lo hi : Nat) : cells (Dev.lbistReset d lo hi) = cells d := by simp only [Dev.lbistReset, cells_setMem]
theorem cells_flashRefresh (d : Dev) : cells (Dev.flashRefresh d) = cells d := by
  simp only [Dev.flashRefresh, cells_inc, cells_draw, apply_ite cells, ite_self]
theorem cells_flashUe (d : Dev) (block : Nat) : cells (Dev.flashUe d block) = cells d := by simp only [Dev.flashUe, cells_wn, cells_inc, cells_raise]
theorem cells_repairBoot (d : Dev) (spareFails : List RowDefect) : cells (Dev.repairBoot d spareFails) = cells d := by
  simp only [Dev.repairBoot, cells_wn, cells_setBit, cells_undegrade, cells_setMem, cells_rowFail, cells_foldl, apply_ite cells, ite_self, implies_true]
theorem cells_opMemStatus (d : Dev) (c : Cmd) : cells (opMemStatus d c).1 = cells d := by simp only [opMemStatus, cells_check]
theorem cells_opEccWrite (d : Dev) (c : Cmd) : cells (opEccWrite d c).1 = cells d := by simp only [opEccWrite, cells_check, cells_setWindow]
theorem cells_opEccRead (d : Dev) (c : Cmd) : cells (opEccRead d c).1 = cells d := by simp only [opEccRead, cells_check, cells_windowRead]
theorem cells_mbistGiven (d : Dev) (q t : Nat) (l : List RowDefect) : cells (Dev.mbistGiven d q t l) = cells d := by
  simp only [Dev.mbistGiven, cells_setMem, apply_ite cells, ite_self]
theorem cells_opMbistRun (d : Dev) (c : Cmd) : cells (opMbistRun d c).1 = cells d := by
  simp only [opMbistRun, cells_check, cells_setMem, cells_rowFail, cells_scrubRow, cells_foldl, apply_ite cells, ite_self, implies_true]
theorem cells_opRepairAdd (d : Dev) (c : Cmd) : cells (opRepairAdd d c).1 = cells d := by
  refine cells_check ?_
  split
  · split
    · exact cells_check rfl
    · rfl
  · exact cells_check rfl
theorem cells_opRepairList (d : Dev) (c : Cmd) : cells (opRepairList d c).1 = cells d := by simp only [opRepairList, cells_check]

/-! ### Power, resets and boot -/

theorem cells_setSys (d : Dev) (f : Sys → Sys) : cells (Dev.setSys d f) = cells d := by simp only [Dev.setSys, ↓cells_mk, cells_fold]
theorem cells_loadBlock (d : Dev) (lost : Nat) (b : Nat) : cells (Dev.loadBlock d lost b) = cells d := by
  unfold Dev.loadBlock
  split
  · rfl
  · split
    · exact cells_raise _ _ _
    · exact cells_foldl (u := fun (d : Dev) (e : Nat × Word) => { d with regs := tset 0 d.regs e.1 e.2 }) (fun _ _ => rfl) _ _
theorem cells_cfgSaved (d : Dev) : cells (Dev.cfgSaved d) = cells d := by
  unfold Dev.cfgSaved
  split <;> simp only [cells_finish, cells_setSys]
theorem cells_saveDue (d : Dev) : cells (Dev.saveDue d) = cells d := by simp only [Dev.saveDue, cells_cfgSaved, apply_ite cells, ite_self]
theorem cells_clearBlocks (d : Dev) (bs : List Nat) : cells (Dev.clearBlocks d bs) = cells d := by simp only [Dev.clearBlocks, ↓cells_mk, cells_fold]
theorem cells_coastShow (d : Dev) (on : Bool) : cells (Dev.coastShow d on) = cells d := by simp only [Dev.coastShow, cells_setBit, cells_alignShow]
theorem cells_sampleStraps (d : Dev) (role : Bool) : cells (Dev.sampleStraps d role) = cells d := by simp only [Dev.sampleStraps, cells_wn]
theorem cells_trialReset (d : Dev) : cells (Dev.trialReset d) = cells d := by simp only [Dev.trialReset, cells_inc, cells_raise, cells_setFwu]
theorem cells_safetyReset (d : Dev) : cells (Dev.safetyReset d) = cells d := by
  simp only [Dev.safetyReset, cells_setFld, cells_pairReboot, cells_setSys]
theorem cells_meshRegs (d kept : Dev) : cells (Dev.meshRegs d kept) = cells d :=
  cells_foldl (u := fun (d : Dev) (e : Nat × Word) => { d with regs := tset 0 d.regs e.1 e.2 }) (fun _ _ => rfl) _ _
theorem cells_meshOff (d : Dev) : cells (Dev.meshOff d) = cells d := by simp only [Dev.meshOff, ↓cells_mk, cells_fold]
theorem cells_huskFullReset (d : Dev) : cells (Dev.huskFullReset d) = cells d := by
  unfold Dev.huskFullReset
  split <;> simp only [cells_huskReset, cells_lbistReset, cells_clearBlocks, cells_meshRegs, cells_meshOff, ↓cells_mk, cells_fold]
theorem cells_huskScopeReset (d : Dev) : cells (Dev.huskScopeReset d) = cells d := by
  simp only [Dev.huskScopeReset, cells_huskReset, cells_updDrop, cells_lbistReset, ↓cells_mk, cells_fold]
theorem cells_stonePor (d : Dev) : cells (Dev.stonePor d) = cells d := by simp only [Dev.stonePor, cells_clearBlocks, ↓cells_mk, cells_fold]
theorem cells_coastBegin (d : Dev) : cells (Dev.coastBegin d) = cells d := by
  simp only [Dev.coastBegin, cells_setBit, cells_inc, cells_raise, cells_degrade, cells_setSys, cells_coastShow]
theorem cells_bootClocks (d : Dev) (b : BootIn) : cells (Dev.bootClocks d b) = cells d := by
  simp only [Dev.bootClocks, cells_wn, cells_setFld, cells_setBit, cells_inc, cells_log, cells_setSys, cells_coastBegin, apply_ite cells, ite_self]
theorem cells_bootBank (d : Dev) (b : BootIn) (k : Bool) (reason : Nat) (chkA chkB : Bool) : cells (Dev.bootBank d b k reason chkA chkB) = cells d := by
  simp only [Dev.bootBank, cells_wn, cells_setBit, cells_inc, cells_raise, cells_setFwu, cells_confirm, apply_ite cells, ite_self]
theorem cells_bootConfig (d : Dev) (b : BootIn) : cells (Dev.bootConfig d b) = cells d := by
  simp only [Dev.bootConfig, cells_wr, cells_keyBoot, cells_retryReload, cells_dispRun, cells_setTime, cells_loadBlock, cells_meshRegs, ↓cells_mk, cells_fold, cells_foldl, apply_ite cells, ite_self, implies_true]
theorem cells_restoreCarry (d : Dev) : cells (Dev.restoreCarry d) = cells d := by
  have hregs : ∀ (l : List (Nat × Word)) (e : Dev), cells (l.foldl (fun (d : Dev) x => { d with regs := tset 0 d.regs x.1 x.2 }) e) = cells e := cells_foldl fun _ _ => rfl
  unfold Dev.restoreCarry
  split
  · simp only [↓cells_mk, cells_fold, cells_setList, hregs]
  · rfl
theorem cells_bootSessions (d : Dev) : cells (Dev.bootSessions d) = cells d := by
  simp only [Dev.bootSessions, cells_billBoot, cells_tplArm, cells_setList, cells_coldOutlets, cells_foldl, apply_ite cells, ite_self, implies_true]
theorem cells_tamperCheck (d : Dev) (b : BootIn) : cells (Dev.tamperCheck d b) = cells d := by
  simp only [Dev.tamperCheck, cells_setBit, cells_raise, cells_burr, cells_kernDo, apply_ite cells, ite_self]
theorem cells_carryCuts (d : Dev) : cells (Dev.carryCuts d) = cells d := by
  simp only [Dev.carryCuts, cells_outCut, cells_foldl, apply_ite cells, ite_self, implies_true]
theorem cells_sprout (d : Dev) (b : BootIn) : cells (Dev.sprout d b) = cells d := by
  have hload : ∀ o : Option SavedBlock, cells (o.elim d fun s => { d with regs := tset 0 d.regs Reg.FAB_UDP_IP (tget 0 s.values Reg.FAB_UDP_IP) }) = cells d := fun o => by cases o <;> rfl
  simp only [Dev.sprout, cells_wn, cells_setMode, cells_setFwu, cells_setSys, apply_ite cells, hload, ite_self]
theorem cells_feedGood (d : Dev) (f : Bool) : cells (Dev.feedGood d f) = cells d := by
  simp only [Dev.feedGood, cells_setBit, cells_setSys, apply_ite cells, ite_self]
theorem cells_feedLost (d : Dev) (f : Bool) : cells (Dev.feedLost d f) = cells d := by
  simp only [Dev.feedLost, cells_setBit, cells_inc, cells_raise, cells_degrade, cells_setSys, apply_ite cells, ite_self]
theorem cells_feedLossClear (d : Dev) : cells (Dev.feedLossClear d) = cells d := by
  simp only [Dev.feedLossClear, cells_undegrade, apply_ite cells, ite_self]
theorem cells_pfailEnd (d : Dev) : cells (Dev.pfailEnd d) = cells d := by simp only [Dev.pfailEnd, cells_kernDo, apply_ite cells, ite_self]
theorem cells_holdupCollapse (d : Dev) : cells (Dev.holdupCollapse d) = cells d := by
  simp only [Dev.holdupCollapse, cells_kernDo, apply_ite cells, ite_self]
theorem cells_pfailRelease (d : Dev) : cells (Dev.pfailRelease d) = cells d := by
  simp only [Dev.pfailRelease, cells_setBit, cells_kernDo, cells_setSys, cells_sampleStraps, apply_ite cells, ite_self]
theorem cells_powerPip (d : Dev) (i : PipIn) : cells (Dev.powerPip d i) = cells d := by
  simp only [Dev.powerPip, cells_wn, cells_setBit, cells_raise, cells_degrade, cells_undegrade, cells_setSys, ↓cells_mk, cells_fold, apply_ite cells, ite_self]
theorem cells_refclkFail (d : Dev) : cells (Dev.refclkFail d) = cells d := by
  simp only [Dev.refclkFail, cells_setBit, cells_setSys, cells_coastBegin, apply_ite cells, ite_self]
theorem cells_refTick (d : Dev) (ok : Bool) : cells (Dev.refTick d ok) = cells d := by
  simp only [Dev.refTick, cells_setBit, cells_setSys, apply_ite cells, ite_self]
theorem cells_pllRelock (d : Dev) : cells (Dev.pllRelock d) = cells d := by
  simp only [Dev.pllRelock, cells_setBit, cells_undegrade, cells_coastShow, apply_ite cells, ite_self]
theorem cells_muxHang (d : Dev) (i : Nat) : cells (Dev.muxHang d i) = cells d := by
  simp only [Dev.muxHang, cells_setBit, cells_inc, cells_raise, cells_degrade]
theorem cells_clkSel (d : Dev) (v : Word) : cells (Dev.clkSel d v) = cells d := by simp only [Dev.clkSel, cells_wr, cells_setFld]
theorem cells_safetyTask (d : Dev) : cells (Dev.safetyTask d) = cells d := by simp only [Dev.safetyTask, cells_wn, cells_setBit]
theorem cells_forceSel (d : Dev) (i src : Nat) : cells (Dev.forceSel d i src) = cells d := by
  simp only [Dev.forceSel, cells_setFld, cells_setBit, cells_inc, cells_undegrade, cells_pairReboot, cells_alignShow, cells_enterRecovery, cells_setSys, cells_huskScopeReset, cells_safetyTask, apply_ite cells, ite_self]
theorem cells_opSysStatus (d : Dev) (c : Cmd) : cells (opSysStatus d c).1 = cells d := by simp only [opSysStatus, cells_check]
theorem cells_opSysInfo (d : Dev) (c : Cmd) : cells (opSysInfo d c).1 = cells d := by simp only [opSysInfo, cells_check]
theorem cells_opSysReset (d : Dev) (c : Cmd) : cells (opSysReset d c).1 = cells d := by
  have hhusk : ∀ (e : Dev) (x : Husk), cells { e with husk := x } = cells e := fun _ _ => rfl
  refine cells_check ?_
  split
  · exact cells_setSys _ _
  · exact (hhusk _ _).trans ((cells_inc _ _).trans (cells_huskScopeReset d))
theorem cells_opForceSel (d : Dev) (c : Cmd) : cells (opForceSel d c).1 = cells d := by simp only [opForceSel, cells_check, cells_forceSel]
theorem cells_opSetMode (d : Dev) (c : Cmd) : cells (opSetMode d c).1 = cells d := by
  simp only [opSetMode, cells_setMode, cells_check, apply_ite cells, ite_self]
theorem cells_opCfgSave (d : Dev) (c : Cmd) : cells (opCfgSave d c).1 = cells d := by simp only [opCfgSave, cells_check, cells_setSys]
theorem cells_opLogRead (d : Dev) (c : Cmd) : cells (opLogRead d c).1 = cells d := by simp only [opLogRead, cells_check, cells_logRead]

/-! ### Register writes -/

theorem cells_idleWrite (d : Dev) (a : Nat) (v : Word) : cells (Dev.idleWrite d a v) = cells d := by
  simp only [Dev.idleWrite, cells_wr, cells_setO, cells_tplArm, cells_guardTask, cells_guardMode, cells_coilShow, cells_retryReload, cells_lswShow, cells_setTag, cells_twinCfg, cells_setTime, cells_clkSel, apply_ite cells, ite_self]
theorem cells_writeWord (d : Dev) (a : Nat) (v : Word) : cells (Dev.writeWord d a v) = cells d := by
  unfold Dev.writeWord
  repeat' split
  all_goals simp only [cells_setShadow, cells_pendSet, cells_idleWrite, ↓cells_mk, cells_fold]
theorem cells_livePut (d : Dev) (a : Nat) (v : Word) : cells (Dev.livePut d a v) = cells d := by
  simp only [Dev.livePut, cells_wr, cells_meshEnable, cells_meshDisable, cells_cfgPending, cells_guardApply, cells_dispCtrl, cells_rdrShow, apply_ite cells, ite_self]
theorem cells_applyLive (d : Dev) : cells (Dev.applyLive d) = cells d :=
  cells_foldl (fun e p => by cases p <;> simp only [cells_livePut, cells_wr]) _ _
theorem cells_commitSel (d : Dev) (sels : Nat → Bool) : cells (Dev.commitSel d sels) = cells d := by
  simp only [Dev.commitSel, cells_wr, cells_alignShow, cells_masterChanged, ↓cells_mk, cells_fold, cells_foldl, apply_ite cells, ite_self, implies_true]
theorem cells_commit (d : Dev) (m : Nat) : cells (Dev.commit d m) = cells d := by simp only [Dev.commit, cells_commitSel]
theorem cells_discard (d : Dev) (m : Nat) : cells (Dev.discard d m) = cells d := by simp only [Dev.discard, ↓cells_mk, cells_fold]
theorem cells_regWrite (d : Dev) (ws : List (Nat × Word)) : cells (Dev.regWrite d ws).1 = cells d := by
  simp only [Dev.regWrite, cells_writeWord, cells_foldl, apply_ite cells, apply_ite Prod.fst, ite_self, implies_true]
theorem cells_opRegRead (d : Dev) (c : Cmd) : cells (opRegRead d c).1 = cells d := by simp only [opRegRead, cells_check]
theorem cells_opRegWrite (d : Dev) (c : Cmd) : cells (opRegWrite d c).1 = cells d := by simp only [opRegWrite, cells_check, cells_regWrite]
theorem cells_opRegModify (d : Dev) (c : Cmd) : cells (opRegModify d c).1 = cells d := by simp only [opRegModify, cells_check, cells_writeWord]
theorem cells_opRegReadShadow (d : Dev) (c : Cmd) : cells (opRegReadShadow d c).1 = cells d := by simp only [opRegReadShadow, cells_check]
theorem cells_opFabDiscard (d : Dev) (c : Cmd) : cells (opFabDiscard d c).1 = cells d := by simp only [opFabDiscard, cells_check, cells_discard]
theorem cells_opFabNop (d : Dev) (c : Cmd) : cells (opFabNop d c).1 = cells d := by simp only [opFabNop]

/-! ### The fabric -/

theorem cells_shiftCopied (d : Dev) (k : Nat) : cells (Dev.shiftCopied d k) = cells d := by simp only [Dev.shiftCopied, cells_setTwin]
theorem cells_unaligned (d : Dev) (c : Cmd) : cells (Dev.unaligned d c) = cells d := by
  simp only [Dev.unaligned, cells_inc, cells_raise, cells_log, apply_ite cells, ite_self]
theorem cells_withdraw (d : Dev) (id : Nat) : cells (Dev.withdraw d id) = cells d := by
  simp only [Dev.withdraw, cells_setUpd, cells_setTag, ↓cells_mk, cells_fold, cells_foldl, apply_ite cells, ite_self, implies_true]
theorem cells_missed (d : Dev) (c : Cmd) (started : Bool) : cells (Dev.missed d c started) = cells d := by
  simp only [Dev.missed, cells_wn, cells_inc, cells_raise, cells_log]

/-! ### The pip boundary -/

theorem cells_outLatches (d : Dev) (n : Nat) : cells (Dev.outLatches d n) = cells d := by
  simp only [Dev.outLatches, cells_outLatch, apply_ite cells, ite_self]
theorem cells_sampleLatch (d : Dev) : cells (Dev.sampleLatch d) = cells d := by
  simp only [Dev.sampleLatch, cells_degrade, cells_undegrade, cells_meteredLatch, cells_kernDo, cells_pfailRelease, cells_outLatches, ↓cells_mk, cells_fold, cells_foldl, apply_ite cells, ite_self, implies_true]
theorem cells_early (d : Dev) : cells (Dev.early d) = cells d := by simp only [Dev.early, cells_setTwin]
theorem cells_billPip (d : Dev) : cells (Dev.billPip d) = cells d := by simp only [Dev.billPip, cells_billLatch, apply_ite cells, ite_self]
theorem cells_sessOpen (d : Dev) (n : Nat) : cells (Dev.sessOpen d n) = cells d := by
  simp only [Dev.sessOpen, cells_kernSend, apply_ite cells, ite_self]
theorem cells_sessClose (d : Dev) (n : Nat) : cells (Dev.sessClose d n) = cells d := by
  simp only [Dev.sessClose, cells_setO, cells_kernSend, apply_ite cells, ite_self]
theorem cells_iBreakPass (d : Dev) (n : Nat) : cells (Dev.iBreakPass d n) = cells d := by
  simp only [Dev.iBreakPass, cells_setO, cells_kernSend, ↓cells_mk, cells_fold, apply_ite cells, ite_self]
theorem cells_meshAct (d : Dev) (a : MeshAct) : cells (Dev.meshAct d a) = cells d := by
  unfold Dev.meshAct
  extract_lets c
  have hop : cells (if a.action = 1 then opOutStop d c else if a.action = 2 then opOutSetAvailable d c else (d, .done St.badParam [])).1 = cells d := by
    simp only [apply_ite Prod.fst, apply_ite cells, cells_opOutStop, cells_opOutSetAvailable, ite_self]
  generalize (if a.action = 1 then opOutStop d c else if a.action = 2 then opOutSetAvailable d c else (d, .done St.badParam [])) = o at hop
  obtain ⟨e, ans⟩ := o
  cases ans <;> simp only [apply_ite cells, cells_meshResult, cells_inc, hop, ite_self]
theorem cells_meshExecute (d : Dev) : cells (Dev.meshExecute d) = cells d := by
  simp only [Dev.meshExecute, cells_meshAct, ↓cells_mk, cells_fold, cells_foldl, implies_true]
theorem cells_dropKey (d : Dev) (id : Nat) : cells (Dev.dropKey d id) = cells d := by
  simp only [Dev.dropKey, cells_keyShow, ↓cells_mk, cells_fold, cells_foldl, implies_true]
theorem cells_dropTask (d : Dev) (id : Nat) : cells (Dev.dropTask d id) = cells d := by
  simp only [Dev.dropTask, cells_setTwin, cells_setTime, cells_setFwu, cells_fwuShow, cells_setSys, ↓cells_mk, cells_fold, apply_ite cells, ite_self]
theorem cells_pairWord (d : Dev) (good : Bool) : cells (Dev.pairWord d good) = cells d := by
  simp only [Dev.pairWord, cells_cpuDecide, cells_permitWord, apply_ite cells, ite_self]
theorem cells_heartbeatGone (d : Dev) : cells (Dev.heartbeatGone d) = cells d := by
  simp only [Dev.heartbeatGone, cells_heartbeatLost, cells_setSys, apply_ite cells, ite_self]
theorem cells_linkLost (d : Dev) (n : Nat) : cells (Dev.linkLost d n) = cells d := by
  unfold Dev.linkLost
  split <;> simp only [cells_setO, cells_rampdown]
theorem cells_t1sLoss (d : Dev) (t : Nat) (energy : Bool) : cells (Dev.t1sLoss d t energy) = cells d := by
  simp only [Dev.t1sLoss, cells_setBit, cells_when, cells_linkLost, apply_ite cells, ite_self]
theorem cells_burrFire (d : Dev) (b : BurrIn) : cells (Dev.burrFire d b) = cells d := by
  simp only [Dev.burrFire, cells_burr, cells_kernDo, cells_setTwin, apply_ite cells, ite_self]

end Sys2Proof.Proofs
end

section
/-!
What writes the FRAM and the display buffers (O48): every writer builds on `tset` or `tnorm`, and so keeps the canonical form. First the units, then the resets and boots that reach them.
-/
namespace Sys2Proof.Proofs
open Sys2Proof.Machine Sys2Proof.Claims Sys2Proof.Laws

/-- The device as far as its memories go. -/
theorem memWf_of_cells {d e : Dev} (h : cells e = cells d) (hd : MemWf d) : MemWf e := by
  simp only [cells, Prod.mk.injEq] at h
  obtain ⟨hfram, hactive, hstaging⟩ := h
  exact ⟨hfram ▸ hd.1, hactive ▸ hd.2.1, hstaging ▸ hd.2.2⟩

/-- What each step of a run keeps, the run keeps. -/
theorem memWf_foldl {α : Type} {u : Dev → α → Dev} (hu : ∀ d a, MemWf d → MemWf (u d a)) (l : List α) {d : Dev} (hd : MemWf d) : MemWf (l.foldl u d) :=
  List.foldlRecOn l u hd fun d hd a _ => hu d a hd

theorem memWf_when {d : Dev} {b : Bool} {f : Dev → Dev} (hf : ∀ e, MemWf e → MemWf (f e)) (hd : MemWf d) : MemWf (d.when b f) := by
  unfold Dev.when
  split
  · exact hf d hd
  · exact hd

theorem memWf_check {d : Dev} {l : List (Bool × Nat)} {k : Dev × Ans} (hd : MemWf d) (hk : MemWf k.1) : MemWf (check d l k).1 := by
  unfold check
  split
  · exact hd
  · exact hk

/-! ### The display -/

theorem copyLine_wf {u : DispU} (c0 c1 y : Nat) (ha : Memory.wf u.active = true) (hs : Memory.wf u.staging = true) :
    Memory.wf (u.copyLine c0 c1 y).1.active = true ∧ Memory.wf (u.copyLine c0 c1 y).1.staging = true := by
  unfold DispU.copyLine
  extract_lets cols
  split
  · exact ⟨ha, hs⟩
  · exact ⟨List.foldlRecOn (motive := fun b => Memory.wf b = true) cols _ ha fun b hb x _ => setPixel_wf b x y _ hb, hs⟩

theorem memWf_updLine {d : Dev} (r : Nat) (hd : MemWf d) : MemWf (d.updLine r).1 := by
  obtain ⟨hfram, hactive, hstaging⟩ := hd
  unfold Dev.updLine
  extract_lets u
  split
  next c0 c1 _ y1 _ =>
  split
  · exact ⟨hfram, hactive, hstaging⟩
  · have hline := copyLine_wf c0 c1 u.line hactive hstaging
    split
    next disp copied heq =>
    rw [heq] at hline
    extract_lets e1 e2
    have he1 : MemWf e1 := ⟨hfram, hline⟩
    have he2 : cells e2 = cells e1 := by
      simp only [e2, apply_ite cells, cells_inc, ite_self]
    exact memWf_of_cells ((cells_setUpd _ _ _).trans he2) he1

theorem memWf_updSwitch {d : Dev} (r : Nat) (hd : MemWf d) : MemWf (d.updSwitch r).1 := by
  unfold Dev.updSwitch
  split
  · exact memWf_of_cells ((cells_setUpd _ _ _).trans (cells_superseded _ _)) (memWf_updLine r hd)
  · exact hd

theorem memWf_updRest {d : Dev} (r n : Nat) (hd : MemWf d) : MemWf (d.updRest r n) := by
  induction n generalizing d with
  | zero => exact hd
  | succ n ih =>
    have hline := memWf_updLine r hd
    unfold Dev.updRest
    dsimp only
    split
    · exact hline
    · exact ih hline

/-- One region's turn: a command that waits takes over, a line is updated, an update that is through ends. -/
theorem memWf_updTurn {d : Dev} (r : Nat) (hd : MemWf d) : MemWf (((d.updSwitch r).1.updLine r).1.updEnd r) :=
  memWf_of_cells (cells_updEnd _ _) (memWf_updLine r (memWf_updSwitch r hd))

theorem memWf_updRun {d : Dev} (us fuel : Nat) (hd : MemWf d) : MemWf (d.updRun us fuel) := by
  induction fuel generalizing d us with
  | zero => exact hd
  | succ fuel ih =>
    unfold Dev.updRun
    split
    next e t heq =>
    have he : MemWf e := by
      show MemWf (e, t).1
      rw [← heq]
      refine List.foldlRecOn (motive := fun acc : Dev × Nat => MemWf acc.1) _ _ hd fun acc hacc r _ => ?_
      dsimp only
      split
      · exact hacc
      · exact memWf_updTurn r hacc
    split
    · exact hd
    · split
      · exact he
      · exact ih _ he

theorem memWf_dispPip {d : Dev} (hd : MemWf d) : MemWf d.dispPip := by
  unfold Dev.dispPip
  split
  · exact hd
  · exact memWf_updRun _ _ hd

theorem memWf_dispDone {d : Dev} (r : Nat) (hd : MemWf d) : MemWf (d.dispDone r) := by
  unfold Dev.dispDone
  split
  · exact memWf_of_cells (cells_updEnd _ _) (memWf_updRest r 64 hd)
  · exact memWf_updSwitch r hd
  · exact hd

theorem memWf_opDispWrite {d : Dev} (c : Cmd) (hd : MemWf d) : MemWf (opDispWrite d c).1 := by
  obtain ⟨hfram, hactive, hstaging⟩ := hd
  refine memWf_check ⟨hfram, hactive, hstaging⟩ ⟨hfram, hactive, ?_⟩
  refine List.foldlRecOn (motive := fun b => Memory.wf b = true) _ _ hstaging fun b hb j _ => ?_
  exact List.foldlRecOn (motive := fun b => Memory.wf b = true) _ _ hb fun b hb i _ => setPixel_wf b _ _ _ hb

/-! ### The FRAM -/

/-- A change of the tag unit that writes the FRAM at most by `framWrite` keeps its form. -/
theorem memWf_setTag {d : Dev} {f : TagU → TagU} (hf : Memory.wf d.tag.fram = true → Memory.wf (f d.tag).fram = true) (hd : MemWf d) : MemWf (d.setTag f) :=
  ⟨hf hd.1, hd.2⟩

theorem memWf_passportNow {d : Dev} (hd : MemWf d) : MemWf d.passportNow := by
  unfold Dev.passportNow
  extract_lets s pp
  clear_value pp
  exact memWf_setTag (framWrite_wf d.tag.fram 0 pp) hd

theorem memWf_framNext {d : Dev} (hd : MemWf d) : MemWf d.framNext := by
  unfold Dev.framNext
  split
  · exact hd
  · split
    · exact hd
    · exact memWf_setTag (fun h => framWrite_wf _ _ _ h) hd
    · exact memWf_setTag id hd

theorem memWf_framServe {d : Dev} (hd : MemWf d) : MemWf d.framServe := by
  unfold Dev.framServe
  split
  · exact hd
  · split
    · exact memWf_framNext (memWf_of_cells (cells_readBinary _ _) (memWf_setTag id hd))
    · exact memWf_framNext hd

theorem memWf_framPush {d : Dev} (a : FramAcc) (hd : MemWf d) : MemWf (d.framPush a) := memWf_framServe (memWf_setTag id hd)

theorem memWf_framDone {d : Dev} (hd : MemWf d) : MemWf d.framDone := by
  unfold Dev.framDone
  split
  · exact hd
  · split
    · exact memWf_setTag id hd
    · next a rest _ =>
      extract_lets e1 e2
      have he1 : MemWf e1 := memWf_setTag id hd
      refine memWf_framServe ?_
      cases a with
      | read id off len => exact memWf_of_cells (cells_finish _ _ _ _) he1
      | write id off data => exact memWf_of_cells (cells_finish _ _ _ _) (memWf_setTag (fun h => framWrite_wf _ _ _ h) he1)
      | passport p =>
        cases p with
        | none => exact he1
        | some c => exact memWf_setTag (fun h => framWrite_wf _ _ _ h) he1
      | field b => exact memWf_of_cells (cells_readBinary _ _) he1

theorem memWf_holdEnd {d : Dev} (cut : Bool) (hd : MemWf d) : MemWf (d.holdEnd cut) :=
  memWf_framServe (memWf_of_cells (cells_framShow _) (memWf_setTag id hd))

theorem memWf_framCut {d : Dev} (lines : Nat) (hd : MemWf d) : MemWf (d.framCut lines) := by
  unfold Dev.framCut
  split
  · exact hd
  · extract_lets e1 host keep e2 e3
    have he1 : MemWf e1 := by
      unfold e1
      split
      · exact memWf_setTag (fun h => framWrite_wf _ _ _ h) hd
      · exact hd
    have he2 : MemWf e2 := memWf_of_cells (cells_foldl cells_stop host e1) he1
    have he3 : MemWf e3 := memWf_setTag id he2
    exact memWf_holdEnd true (memWf_of_cells ((cells_raise _ _ _).trans (cells_inc _ _)) he3)

theorem memWf_holdExpiry {d : Dev} (lines : Nat) (hd : MemWf d) : MemWf (d.holdExpiry lines) := by
  unfold Dev.holdExpiry
  split
  · exact memWf_framCut lines hd
  · exact hd

theorem memWf_passportWrite {d : Dev} (hd : MemWf d) : MemWf d.passportWrite := by
  unfold Dev.passportWrite
  split
  · exact memWf_framPush _ hd
  · exact hd

theorem memWf_tagIBlock {d : Dev} (b : Bytes) (hd : MemWf d) : MemWf (d.tagIBlock b) := by
  unfold Dev.tagIBlock
  split
  · exact memWf_of_cells ((cells_tagReply _ _).trans (cells_setFe _ _)) hd
  · refine memWf_framPush _ (memWf_of_cells ?_ hd)
    simp only [apply_ite cells, cells_tagWtx, cells_setFe, ite_self]

theorem memWf_tagApdu {d : Dev} (a : TagIn) (hd : MemWf d) : MemWf (d.tagApdu a) := by
  unfold Dev.tagApdu
  split
  · exact hd
  · cases a with
    | wake => exact memWf_of_cells (cells_setFe _ _) hd
    | select => exact memWf_of_cells (cells_setFe _ _) hd
    | rats fsdi cid =>
      refine memWf_of_cells ?_ hd
      simp only [apply_ite cells, cells_setFe, ite_self]
    | apdu cid nad b =>
      dsimp only
      split
      · exact hd
      · exact memWf_tagIBlock b hd
    | wtx =>
      refine memWf_of_cells ?_ hd
      simp only [apply_ite cells, cells_tagWtx, ite_self]

theorem memWf_opFramRead {d : Dev} (c : Cmd) (hd : MemWf d) : MemWf (opFramRead d c).1 := memWf_check hd (memWf_framPush _ hd)

theorem memWf_opFramWrite {d : Dev} (c : Cmd) (hd : MemWf d) : MemWf (opFramWrite d c).1 := memWf_check hd (memWf_framPush _ hd)

theorem memWf_opFramRelease {d : Dev} (c : Cmd) (hd : MemWf d) : MemWf (opFramRelease d c).1 := by
  refine memWf_check hd ?_
  split
  · exact memWf_of_cells (cells_framShow _) (memWf_setTag id hd)
  · split
    · exact hd
    · exact memWf_holdEnd false hd

/-- The work of a command that ends without its unit: its regions, tests and card exchange, and its FRAM access. -/
theorem memWf_dropWork {d : Dev} (id : Nat) (hd : MemWf d) : MemWf (d.dropWork id) := by
  unfold Dev.dropWork
  extract_lets e1 x e2 e3
  have he1 : cells e1 = cells d := by
    refine cells_foldl (fun e r => ?_) _ _
    simp only [apply_ite cells, cells_setUpd, ite_self]
  clear_value e1
  have he3 : cells e3 = cells d := by
    simp only [e3, e2, apply_ite cells, cells_rdrShow, cells_setTag, ↓cells_mk, cells_fold, ite_self]
    exact he1
  clear_value e3
  split
  · exact memWf_framServe (memWf_setTag (fun h => h) (memWf_of_cells he3 hd))
  · exact memWf_of_cells he3 hd

theorem memWf_dropAll {d : Dev} (id : Nat) (hd : MemWf d) : MemWf (d.dropAll id) :=
  memWf_of_cells ((cells_dropTask _ _).trans (cells_dropKey _ _)) (memWf_dropWork id hd)

end Sys2Proof.Proofs
end

section
/-!
The resets, the boot, the twin's copy and the pip's own work keep the memories' form (O48).
-/
namespace Sys2Proof.Proofs
open Sys2Proof.Machine Sys2Proof.Claims Sys2Proof.Laws

/-! ### Resets -/

/-- A reset of the core keeps the FRAM, and serves the accesses of the field that wait for it. -/
theorem memWf_coreReset {d : Dev} (cause : Nat) (hd : MemWf d) : MemWf (d.coreReset cause) := by
  have hregs : ∀ (l : List (Nat × Word)) (e : Dev), cells (l.foldl (fun (d : Dev) x => { d with regs := tset 0 d.regs x.1 x.2 }) e) = cells e := cells_foldl fun _ _ => rfl
  unfold Dev.coreReset
  extract_lets e1 role kept held e2 e3 e4 time out bill tag twin e5 e6 e7 e8 e9 e10 e11
  have he1 : cells e1 = cells d := by simp only [e1, apply_ite cells, cells_trialReset, cells_setFwu, ite_self]
  have he4 : cells e4 = cells d := by rw [cells_wn, cells_setBit, hregs, cells_updDrop, cells_clearBlocks, he1]
  clear_value e4
  have he10 : cells e10 = cells e4 := by
    simp only [e10, e9, e8, e7, e6, e5, apply_ite cells, cells_setBit, cells_setFwu, cells_setBank, cells_undegrade, cells_setFld, ↓cells_mk, cells_fold, ite_self]
  have he11 : MemWf e11 := by
    have hserved : MemWf (e10.fwuShow.lbistReset 0 1919).framServe :=
      memWf_framServe (memWf_of_cells (((cells_lbistReset _ _ _).trans (cells_fwuShow _)).trans (he10.trans he4)) hd)
    exact memWf_of_cells ((cells_setMode _ _).trans (cells_sampleStraps _ _)) hserved
  exact memWf_of_cells (cells_setSys _ _) he11

theorem memWf_shellReset {d : Dev} (cause : Nat) (hd : MemWf d) : MemWf (d.shellReset cause) :=
  memWf_of_cells ((cells_huskFullReset _).trans (cells_safetyReset _)) (memWf_coreReset cause hd)

theorem memWf_resetDue {d : Dev} (hd : MemWf d) : MemWf d.resetDue := by
  unfold Dev.resetDue
  split
  · split
    · exact memWf_of_cells (cells_setFwu _ _) (memWf_coreReset 6 hd)
    · exact memWf_shellReset _ hd
  · exact hd

theorem memWf_fullReset {d : Dev} (cause : Nat) (hd : MemWf d) : MemWf (d.fullReset cause) := by
  unfold Dev.fullReset
  extract_lets kept selftest feeds e1 e2 lsw disp fwu mem e3 e4 e5 e6
  have he2 : MemWf e2 := memWf_of_cells (((cells_stonePor _).trans (cells_keyReset _)).trans (cells_meshOff _)) (memWf_shellReset cause hd)
  clear_value e2
  have he3 : MemWf e3 := ⟨he2.1, rfl, rfl⟩
  clear_value e3
  refine memWf_of_cells ?_ he3
  simp only [e6, e5, e4, cells_setSys, cells_hubUpdate, cells_stoneEval, cells_coastShow, cells_sampleStraps, cells_setBit, cells_lbistReset, cells_wr, cells_clearBlocks]

theorem memWf_powerOnReset {d : Dev} (good : Bool × Bool) (straps : Straps) (hd : MemWf d) : MemWf (d.powerOnReset good straps) := by
  unfold Dev.powerOnReset
  extract_lets e1 e2 e3
  have he1 : MemWf e1 := memWf_fullReset 0 (memWf_of_cells (d := d) rfl hd)
  clear_value e1
  refine memWf_of_cells ?_ he1
  simp only [e3, e2, cells_setSys, cells_setBit, cells_clearBlocks, cells_mk, cells_fold]

theorem memWf_powerFailReset {d : Dev} (hd : MemWf d) : MemWf d.powerFailReset := by
  unfold Dev.powerFailReset
  split
  · exact memWf_of_cells (cells_setSys _ _) (memWf_fullReset 1 hd)
  · exact hd

theorem memWf_powerFail {d : Dev} (lines : Nat) (hd : MemWf d) : MemWf (d.powerFail lines) := by
  unfold Dev.powerFail
  split
  · exact hd
  · refine memWf_passportNow (memWf_framCut lines (memWf_of_cells ?_ hd))
    simp only [cells_dispSave, cells_dispRun, cells_billSave, cells_setSys, cells_inc, cells_setBit]

theorem memWf_resetPin {d : Dev} (low : Bool) (hd : MemWf d) : MemWf (d.resetPin low) := by
  unfold Dev.resetPin
  extract_lets e1
  have he1 : MemWf e1 := memWf_of_cells (cells_setSys _ _) hd
  clear_value e1
  split
  · exact he1
  · split
    · exact memWf_of_cells (cells_setSys _ _) (memWf_shellReset 2 he1)
    · refine memWf_of_cells ?_ he1
      simp only [apply_ite cells, cells_setSys, cells_sampleStraps, ite_self]

theorem memWf_watchdog {d : Dev} (hd : MemWf d) : MemWf d.watchdog := by
  unfold Dev.watchdog
  split
  · exact hd
  · exact memWf_shellReset 3 hd

/-- The frame of the switch die brings a reset that is due. -/
theorem memWf_dieFrame {d : Dev} (f : DieIn) (meas : List (Fin 80 × Nat × Int)) (hd : MemWf d) : MemWf (d.dieFrame f meas) := by
  unfold Dev.dieFrame
  split
  · exact hd
  · extract_lets good e1 took e2
    have he1 : cells e1 = cells d := cells_switchFrame _ _ _
    have he2 : cells e2 = cells e1 := by
      unfold e2
      split
      · simp only [apply_ite cells, cells_setFwu, cells_wn, ite_self]
      · rfl
    refine memWf_resetDue (memWf_of_cells ?_ hd)
    simp only [apply_ite cells, cells_armActHold, ite_self, he2, he1]

/-! ### Boot -/

/-- A boot of a bank serves the accesses of the field, and writes no memory otherwise. -/
theorem memWf_bootUp {d : Dev} (b : BootIn) (hd : MemWf d) : MemWf (d.bootUp b) := by
  have hregs : ∀ (l : List (Nat × Word)) (e : Dev), cells (l.foldl (fun (d : Dev) x => { d with regs := tset 0 d.regs x.1 x.2 }) e) = cells e := cells_foldl fun _ _ => rfl
  unfold Dev.bootUp
  extract_lets held tpls out e1 carry e2 saved outSaved e3 e4 e5 e6 e7 e8 e9 e10 e11 e12 e13 e14 e15
  have he1 : cells e1 = cells d := cells_bootConfig _ _
  clear_value e1
  have he4 : cells e4 = cells e1 := by
    simp only [e4, e3, e2, cells_tamperCheck, cells_setFwu, apply_ite cells, hregs, ↓cells_mk, cells_fold, saved, cells_restoreCarry, cells_setFld, ite_self]
  have he5 : MemWf e5 := by
    refine memWf_framServe (memWf_of_cells ?_ hd)
    rw [cells_rdrShow, cells_framShow, cells_setFe, cells_setBit, he4, he1]
  clear_value e5
  refine memWf_of_cells ?_ he5
  simp only [e15, e14, e13, e12, e11, e10, e9, e8, e7, e6, apply_ite cells, cells_foldl, cells_wn, cells_setSys, cells_twinStart, cells_setMode, cells_meshEnable, cells_carryCuts, cells_guardTask,
    cells_lswBoot, cells_coilShow, cells_degrade, cells_bootSessions, cells_cfgPending, cells_setStaging, cells_safeBoot, ite_self, implies_true]

theorem memWf_boot {d : Dev} (b : BootIn) (hd : MemWf d) : MemWf (d.boot b) := by
  unfold Dev.boot
  split
  · exact hd
  · extract_lets cold e1 e2
    have he2 : MemWf e2 := by
      refine memWf_of_cells ?_ hd
      simp only [e2, e1, apply_ite cells, cells_repairBoot, cells_wn, cells_bootClocks, ite_self]
    clear_value e2
    split
    · exact memWf_bootUp b (memWf_of_cells (cells_bootBank _ _ _ _ _ _) he2)
    · refine memWf_of_cells ?_ he2
      simp only [cells_sprout, cells_tamperCheck, cells_wn]

/-! ### The twin's copy -/

/-- The copy's memories are brought into their canonical form as they are taken over. -/
theorem memWf_copyApply {d : Dev} (hd : MemWf d) : MemWf d.copyApply := by
  unfold Dev.copyApply
  split
  · exact hd
  · split
    · exact hd
    · next c _ _ =>
      extract_lets was ownEpoch regs shadow lanes conns husk mesh safe disp tag e1 e2 e3 sys e4 e5 e6
      have he1 : MemWf e1 := ⟨twf_tnorm 0 _, twf_tnorm 0 _, twf_tnorm 0 _⟩
      clear_value e1
      refine memWf_of_cells ?_ he1
      simp only [e6, e5, e4, e3, e2, apply_ite cells, cells_raise, cells_inc, cells_twinTo, cells_wn, cells_setTwin, cells_pilotsLow, cells_foldl, cells_copyBreak, cells_guardCopied, ↓cells_mk, cells_fold, ite_self, implies_true]

theorem memWf_boundaryCopy {d : Dev} (hd : MemWf d) : MemWf d.boundaryCopy := by
  unfold Dev.boundaryCopy
  split
  · exact memWf_copyApply hd
  · exact hd

theorem memWf_onCopied {d e : Dev} (he : MemWf e) : MemWf (d.onCopied e) := memWf_of_cells (d := e) rfl he

/-! ### The pip -/

theorem memWf_pipWork {d : Dev} (i : PipIn) (hd : MemWf d) : MemWf (d.pipWork i) := by
  unfold Dev.pipWork
  extract_lets e1 safe e2 e3 e4 e5 e6 e7 e8
  have he5 : cells e5 = cells d := by
    simp only [e5, e4, e3, e2, e1, apply_ite cells, cells_foldl, cells_t1sTick, cells_huskTick, cells_outTick, cells_pmAges, cells_lswTick, cells_setBit, cells_powerPip, ↓cells_mk, cells_fold, ite_self, implies_true]
  have hd5 : MemWf e5 := memWf_of_cells he5 hd
  clear_value e5
  have he6 : MemWf e6 := by
    unfold e6
    split
    · refine memWf_of_cells (cells_dispScan _) ?_
      split
      · exact hd5
      · exact memWf_dispPip hd5
    · exact hd5
  clear_value e6
  refine memWf_of_cells ?_ he6
  simp only [e8, e7, apply_ite cells, cells_framShow, cells_twinPip, cells_kpPip, cells_rdrPip, cells_dispTemp, ite_self]

end Sys2Proof.Proofs
end

section
/-!
Every opcode's function keeps the memories' form (O48): the display's write and three of the FRAM's act on them, the rest leave them alone.
-/
namespace Sys2Proof.Proofs
open Sys2Proof.Machine Sys2Proof.Claims Sys2Proof.Laws

/-- The function of an opcode's row keeps the memories' form. -/
def RowKeepsMemories (o : OpSpec) : Prop := ∀ f, o.run = some f → ∀ d c, MemWf d → MemWf (f d c).1

theorem row_writes {o : OpSpec} {f : Dev → Cmd → Dev × Ans} (ho : o.run = some f) (hf : ∀ d c, MemWf d → MemWf (f d c).1) : RowKeepsMemories o := by
  intro g hg
  obtain rfl : f = g := Option.some.inj (ho.symm.trans hg)
  exact hf

theorem row_leaves {o : OpSpec} {f : Dev → Cmd → Dev × Ans} (ho : o.run = some f) (hf : ∀ d c, cells (f d c).1 = cells d) : RowKeepsMemories o :=
  row_writes ho fun d c hd => memWf_of_cells (hf d c) hd

/-- The opcodes that act on the fabric have no function of the device. -/
theorem row_none {o : OpSpec} (ho : o.run = none) : RowKeepsMemories o := fun f hf => by
  rw [ho] at hf
  cases hf

theorem ops0_keep_memories : ∀ o ∈ ops0, RowKeepsMemories o := by
  simp only [ops0, List.forall_mem_cons]
  exact ⟨row_leaves rfl cells_opSysStatus, row_leaves rfl cells_opSysInfo, row_leaves rfl cells_opSysReset, row_leaves rfl cells_opForceSel, 
    row_leaves rfl cells_opSetMode, row_leaves rfl cells_opCfgSave, row_leaves rfl cells_opLogRead, List.forall_mem_nil _⟩

theorem ops1_keep_memories : ∀ o ∈ ops1, RowKeepsMemories o := by
  simp only [ops1, List.forall_mem_cons]
  exact ⟨row_leaves rfl cells_opRegRead, row_leaves rfl cells_opRegWrite, row_leaves rfl cells_opRegModify, row_leaves rfl cells_opRegReadShadow, 
    row_none rfl, row_leaves rfl cells_opFabDiscard, row_none rfl, row_none rfl, row_leaves rfl cells_opFabNop, List.forall_mem_nil _⟩

theorem ops2_keep_memories : ∀ o ∈ ops2, RowKeepsMemories o := by
  simp only [ops2, List.forall_mem_cons]
  exact ⟨row_leaves rfl cells_opOutStatusGet, row_leaves rfl cells_opOutAuthorise, row_leaves rfl cells_opOutStartRemote, 
    row_leaves rfl cells_opOutStop, row_leaves rfl cells_opOutSetAvailable, row_leaves rfl cells_opOutClearFault, 
    row_leaves rfl cells_opOutSessionInfo, row_leaves rfl cells_opOutEventRead, row_leaves rfl cells_opListUpdate, row_leaves rfl cells_opListQuery, 
    row_leaves rfl cells_opOutCertResponse, List.forall_mem_nil _⟩

theorem ops3_keep_memories : ∀ o ∈ ops3, RowKeepsMemories o := by
  simp only [ops3, List.forall_mem_cons]
  exact ⟨row_leaves rfl cells_opKernStatus, row_leaves rfl cells_opKernCertRead, row_leaves rfl cells_opKernPubkeyRead, 
    row_leaves rfl cells_opKernLedgerRead, row_leaves rfl cells_opKernIntervalWait, row_leaves rfl cells_opKernReceiptGet, 
    row_leaves rfl cells_opKernSetChannel, row_leaves rfl cells_opKernSetCal, row_leaves rfl cells_opKernSetMclk, row_leaves rfl cells_opKernSetPulse, 
    row_leaves rfl cells_opKernSetBalance, row_leaves rfl cells_opKernSetLimits, row_leaves rfl cells_opKernFwBegin, 
    row_leaves rfl cells_opKernFwChunk, row_leaves rfl cells_opKernFwEnd, row_leaves rfl cells_opKernFwActivate, row_leaves rfl cells_opKernArchiveAck, 
    row_leaves rfl cells_opKernCheckpoint, List.forall_mem_nil _⟩

theorem ops4_keep_memories : ∀ o ∈ ops4, RowKeepsMemories o := by
  simp only [ops4, List.forall_mem_cons]
  exact ⟨row_leaves rfl cells_opTariffBegin, row_leaves rfl cells_opTariffChunk, row_leaves rfl cells_opTariffEnd, row_leaves rfl cells_opTariffAbort, 
    row_leaves rfl cells_opTariffRead, row_leaves rfl cells_opLegalTimeAdjust, row_leaves rfl cells_opLegalTimeGet, row_leaves rfl cells_opAccountSet, 
    row_leaves rfl cells_opAccountAdjust, row_leaves rfl cells_opAccountGet, row_leaves rfl cells_opTxnRead, row_leaves rfl cells_opTokenSubmit, 
    row_leaves rfl cells_opTokenList, List.forall_mem_nil _⟩

theorem ops5_keep_memories : ∀ o ∈ ops5, RowKeepsMemories o := by
  simp only [ops5, List.forall_mem_cons]
  exact ⟨row_leaves rfl cells_opHuskStatus, row_leaves rfl cells_opLaneStats, row_leaves rfl cells_opSlacProfile, row_leaves rfl cells_opLaneReset, 
    row_leaves rfl cells_opT1sStatus, row_leaves rfl cells_opLaneTxTest, List.forall_mem_nil _⟩

theorem ops6_keep_memories : ∀ o ∈ ops6, RowKeepsMemories o := by
  simp only [ops6, List.forall_mem_cons]
  exact ⟨row_leaves rfl cells_opTimeGet, row_leaves rfl cells_opTimeSetState, row_leaves rfl cells_opTimeSetTb0, row_leaves rfl cells_opTimePtpStatus, 
    List.forall_mem_nil _⟩

theorem ops7_keep_memories : ∀ o ∈ ops7, RowKeepsMemories o := by
  simp only [ops7, List.forall_mem_cons]
  exact ⟨row_leaves rfl cells_opFwuStatus, row_leaves rfl cells_opFwuBegin, row_leaves rfl cells_opFwuChunk, row_leaves rfl cells_opFwuEnd, 
    row_leaves rfl cells_opFwuActivate, row_leaves rfl cells_opFwuConfirm, row_leaves rfl cells_opFwuAbort, List.forall_mem_nil _⟩

theorem ops8_keep_memories : ∀ o ∈ ops8, RowKeepsMemories o := by
  simp only [ops8, List.forall_mem_cons]
  exact ⟨row_leaves rfl cells_opKeyStatus, row_leaves rfl cells_opKeyLoad, row_leaves rfl cells_opKeyClear, row_leaves rfl cells_opKeyGenerate, 
    row_leaves rfl cells_opKeyImport, row_leaves rfl cells_opKeyPubkey, row_leaves rfl cells_opKeyCsr, row_leaves rfl cells_opKeyAead, 
    row_leaves rfl cells_opTamperArm, row_leaves rfl cells_opChainWrite, List.forall_mem_nil _⟩

theorem ops9_keep_memories : ∀ o ∈ ops9, RowKeepsMemories o := by
  simp only [ops9, List.forall_mem_cons]
  exact ⟨row_leaves rfl cells_opDispStatus, row_writes rfl fun _ c hd => memWf_opDispWrite c hd, row_leaves rfl cells_opDispUpdate, 
    row_leaves rfl cells_opDispStressRead, row_leaves rfl cells_opDispStressReset, List.forall_mem_nil _⟩

theorem opsA_keep_memories : ∀ o ∈ opsA, RowKeepsMemories o := by
  simp only [opsA, List.forall_mem_cons]
  exact ⟨row_leaves rfl cells_opTagStatus, row_leaves rfl cells_opRdrList, row_leaves rfl cells_opRdrApdu, 
    row_writes rfl fun _ c hd => memWf_opFramRead c hd, row_writes rfl fun _ c hd => memWf_opFramWrite c hd, row_leaves rfl cells_opFramHold, 
    row_writes rfl fun _ c hd => memWf_opFramRelease c hd, row_leaves rfl cells_opKpRead, List.forall_mem_nil _⟩

theorem opsB_keep_memories : ∀ o ∈ opsB, RowKeepsMemories o := by
  simp only [opsB, List.forall_mem_cons]
  exact ⟨row_leaves rfl cells_opTwinStatus, row_leaves rfl cells_opTwinSwitchover, row_leaves rfl cells_opTwinResync, row_leaves rfl cells_opTwinKcmp, 
    List.forall_mem_nil _⟩

theorem opsC_keep_memories : ∀ o ∈ opsC, RowKeepsMemories o := by
  simp only [opsC, List.forall_mem_cons]
  exact ⟨row_leaves rfl cells_opMeshStatus, row_leaves rfl cells_opMeshTable, row_leaves rfl cells_opMeshSend, row_leaves rfl cells_opMeshRxRead, 
    row_leaves rfl cells_opMeshRescan, row_leaves rfl cells_opMeshEvict, List.forall_mem_nil _⟩

theorem opsD_keep_memories : ∀ o ∈ opsD, RowKeepsMemories o := by
  simp only [opsD, List.forall_mem_cons]
  exact ⟨row_leaves rfl cells_opSafeStatus, row_leaves rfl cells_opSafeReset, row_leaves rfl cells_opSafeCheck, row_leaves rfl cells_opSafeActivate, 
    row_leaves rfl cells_opSafeDiscard, row_leaves rfl cells_opSafeHubStop, row_leaves rfl cells_opGuardStatus, row_leaves rfl cells_opGuardTest, 
    row_leaves rfl cells_opGuardClear, List.forall_mem_nil _⟩

theorem opsE_keep_memories : ∀ o ∈ opsE, RowKeepsMemories o := by
  simp only [opsE, List.forall_mem_cons]
  exact ⟨row_leaves rfl cells_opLswStatus, row_leaves rfl cells_opLswSet, row_leaves rfl cells_opLswSetAx, row_leaves rfl cells_opLswClear, 
    List.forall_mem_nil _⟩

theorem opsF_keep_memories : ∀ o ∈ opsF, RowKeepsMemories o := by
  simp only [opsF, List.forall_mem_cons]
  exact ⟨row_leaves rfl cells_opMemStatus, row_leaves rfl cells_opEccWrite, row_leaves rfl cells_opEccRead, row_leaves rfl cells_opMbistRun, 
    row_leaves rfl cells_opRepairAdd, row_leaves rfl cells_opRepairList, List.forall_mem_nil _⟩

theorem allOps_keep_memories : ∀ o ∈ allOps, RowKeepsMemories o := by
  simp only [allOps, List.forall_mem_append]
  exact ⟨⟨⟨⟨⟨⟨⟨⟨⟨⟨⟨⟨⟨⟨⟨ops0_keep_memories, ops1_keep_memories⟩, ops2_keep_memories⟩, ops3_keep_memories⟩, ops4_keep_memories⟩, ops5_keep_memories⟩, ops6_keep_memories⟩, ops7_keep_memories⟩, ops8_keep_memories⟩, ops9_keep_memories⟩, opsA_keep_memories⟩, opsB_keep_memories⟩, opsC_keep_memories⟩, opsD_keep_memories⟩, opsE_keep_memories⟩, opsF_keep_memories⟩

/-- The function that `opSpec` finds for an opcode keeps the memories' form. -/
theorem memWf_run {op : Nat} {f : Dev → Cmd → Dev × Ans} (hf : (opSpec op).bind (·.run) = some f) {d : Dev} (c : Cmd) (hd : MemWf d) : MemWf (f d c).1 := by
  obtain ⟨o, ho, hrun⟩ := Option.bind_eq_some_iff.1 hf
  exact allOps_keep_memories o (List.mem_of_find?_eq_some ho) f hrun d c hd

end Sys2Proof.Proofs
end

section
/-!
The fabric and the memories (O48): a command reaches them through its opcode's function alone.
-/
namespace Sys2Proof.Proofs
open Sys2Proof.Machine Sys2Proof.Claims Sys2Proof.Laws

/-! ### Settling and delivery -/

theorem cells_settle (s : State) : cells s.settle.dev = cells s.dev :=
  congrArg (fun x : TagU × DispU => (x.1.fram, x.2.active, x.2.staging)) (stores_settle s)

theorem memWf_settle {s : State} (h : MemWf s.dev) : MemWf s.settle.dev := memWf_of_cells (cells_settle s) h

theorem memWf_devStep {s : State} {f : Dev → Dev} (hf : ∀ d, MemWf d → MemWf (f d)) (h : MemWf s.dev) : MemWf (s.devStep f).dev := memWf_settle (s := s.onDev f) (hf s.dev h)

theorem memWf_latchStep {s : State} {f : Dev → Dev} (hf : ∀ d, MemWf d → MemWf (f d)) (h : MemWf s.dev) : MemWf (s.latchStep f).dev :=
  memWf_settle (memWf_of_cells (d := f s.dev) (cells_takeKernel _) (hf s.dev h))

theorem memWf_latchIf {s : State} {b : Bool} {f : Dev → Dev} (hf : ∀ d, MemWf d → MemWf (f d)) (h : MemWf s.dev) : MemWf (s.latchIf b f).dev := by
  rw [State.latchIf]
  split
  · exact memWf_latchStep hf h
  · exact memWf_devStep hf h

theorem cells_show (f : Fab) (d : Dev) : cells (f.show d) = cells d := by
  rw [show_eq f d, cells_mk, cells_fold]

theorem memWf_shown {s : State} (h : MemWf s.dev) : MemWf s.shown.dev := memWf_of_cells (cells_show s.fab s.dev) h

/-! ### From arrival to the opcode's function -/

theorem fabCancel_dev (s : State) (c : Cmd) : (s.fabCancel c).1.dev = s.dev := by
  rw [State.fabCancel]
  split
  · rfl
  · split
    · rfl
    · split <;> rfl

theorem memWf_runOp {s : State} (c : Cmd) (h : MemWf s.dev) : MemWf (s.runOp c).1.dev := by
  rw [State.runOp]
  split
  · exact h
  · split
    · rw [fabCancel_dev]
      exact h
    · split
      · exact h
      · split
        · next hf => exact memWf_run hf c h
        · exact h

theorem memWf_start {s : State} (c : Cmd) (h : MemWf s.dev) : MemWf (s.start c).dev := by
  have hrun := memWf_runOp c h
  rw [State.start]
  split
  · exact h
  · split
    · exact h
    · split <;> rename_i heq <;> rw [heq] at hrun <;> split
      · exact h
      · exact hrun
      · exact h
      · exact hrun

theorem memWf_reject {s : State} (p : Packet) (st : Nat) (pl : Bytes) (h : MemWf s.dev) : MemWf (s.reject p st pl).dev := by
  rw [State.reject]
  split
  · exact memWf_of_cells ((cells_raise _ _ _).trans (cells_inc _ _)) h
  · split
    · exact memWf_of_cells ((cells_raise _ _ _).trans (cells_inc _ _)) h
    · exact h

theorem memWf_accept {s : State} (p : Packet) (h : MemWf s.dev) : MemWf (s.accept p).dev := by
  unfold State.accept
  extract_lets c now s1 s2 ans s3
  have h1 : MemWf s1.dev := memWf_of_cells ((cells_setBit _ _ _ _).trans (cells_inc _ _)) h
  clear_value s1
  have h3 : MemWf s3.dev := h1
  clear_value s3
  split
  · have hrun := memWf_runOp c (memWf_shown h3)
    split <;> rename_i heq <;> rw [heq] at hrun <;> exact hrun
  · have hwait : MemWf (s3.onFab fun f => ans St.accepted [] .accepted f s3.dev).shown.dev := memWf_shown h3
    split
    · exact hwait
    · exact memWf_start c hwait

theorem memWf_arrive {s : State} (p : Packet) (h : MemWf s.dev) : MemWf (s.arrive p).dev := by
  rw [State.arrive]
  split
  · exact memWf_reject p _ _ h
  · exact memWf_accept p h

theorem memWf_packet {s : State} (b : Bytes) (ip port own : Nat) (h : MemWf s.dev) : MemWf (s.packet b ip port own).dev := by
  unfold State.packet
  extract_lets p
  repeat' split
  · exact memWf_of_cells (cells_inc _ _) h
  · exact memWf_reject p _ _ h
  · exact memWf_reject p _ _ h
  · exact memWf_reject p _ _ h
  · exact memWf_arrive p h

/-- A register of the fabric counts. -/
theorem memWf_counted {s : State} (a : Nat) (h : MemWf s.dev) : MemWf (s.devStep fun d => d.inc a).dev := memWf_devStep (fun _ => memWf_of_cells (cells_inc _ _)) h

theorem memWf_submit {s : State} (h : Hdr) (op : Nat) (p : Bytes) (hs : MemWf s.dev) : MemWf (s.submit h op p).dev := by
  unfold State.submit
  extract_lets q
  repeat' split
  · exact hs
  · exact memWf_counted _ hs
  · exact memWf_settle (memWf_reject q _ _ hs)
  · exact memWf_settle (memWf_arrive q hs)

theorem memWf_arrival {s : State} (i : PacketIn) (h : MemWf s.dev) : MemWf (s.arrival i).dev := by
  unfold State.arrival
  split
  · exact h
  · split
    · split
      · exact h
      · split
        · exact memWf_settle (memWf_packet (s := { s with fab := { s.fab with rxBufs := _ } }) _ 0 0 0 h)
        · exact h
    · split
      · exact h
      · split
        · exact memWf_counted _ h
        · exact memWf_settle (memWf_packet _ _ _ _ h)

/-! ### The host's transports -/

theorem memWf_writePacket {s : State} (b : Bytes) (h : MemWf s.dev) : MemWf (s.writePacket b).dev := by
  rw [State.writePacket]
  split
  · exact h
  · split
    · exact memWf_devStep (fun _ => memWf_of_cells ((cells_raise _ _ _).trans (cells_inc _ _))) h
    · exact h

theorem memWf_readReply {s : State} (n : Nat) (h : MemWf s.dev) : MemWf (s.readReply n).dev := by
  rw [State.readReply]
  split
  · exact h
  · split
    · exact h
    · split
      · exact h
      · exact memWf_settle h

theorem memWf_spiUnknown {s : State} (h : MemWf s.dev) : MemWf s.spiUnknown.dev := by
  rw [State.spiUnknown]
  split
  · exact h
  · exact memWf_counted _ h

theorem memWf_udpSend {s : State} (h : MemWf s.dev) : MemWf s.udpSend.dev := by
  rw [State.udpSend]
  split
  · exact h
  · split
    · exact h
    · split
      · refine memWf_settle (memWf_of_cells ?_ h)
        simp only [apply_ite cells, cells_setTwin, ite_self]
      · exact memWf_settle h

/-! ### Deadlines and uncorrectable errors -/

/-- What each step of a run of the state keeps, the run keeps. -/
theorem memWf_foldl_state {α : Type} {u : State → α → State} (hu : ∀ s a, MemWf s.dev → MemWf (u s a).dev) (l : List α) {s : State} (h : MemWf s.dev) : MemWf (l.foldl u s).dev :=
  List.foldlRecOn (motive := fun s : State => MemWf s.dev) l u h fun s h a _ => hu s a h

theorem memWf_deadlineMiss {s : State} (h : MemWf s.dev) : MemWf s.deadlineMiss.dev := by
  refine memWf_settle (memWf_foldl_state (fun t x ht => memWf_of_cells ?_ ht) _ h)
  refine (cells_missed _ _ _).trans ?_
  simp only [apply_ite cells, cells_withdraw, ite_self]

theorem memWf_startedEnd {s : State} (h : MemWf s.dev) : MemWf s.startedEnd.dev :=
  memWf_devStep (fun _ => memWf_of_cells (cells_foldl (fun _ _ => cells_log _ _ _ _) _ _)) h

theorem memWf_quietExpiry {s : State} (h : MemWf s.dev) : MemWf s.quietExpiry.dev := memWf_settle h

theorem memWf_memoryFault {s : State} (r : Requester) (h : MemWf s.dev) : MemWf (s.memoryFault r).dev := by
  cases r with
  | host q t =>
    simp only [State.memoryFault]
    split
    · split
      · exact memWf_of_cells (cells_finish _ _ _ _) (memWf_dropAll _ h)
      all_goals exact h
    · exact h
  | core => exact memWf_shellReset 4 h
  | safety => exact memWf_of_cells (cells_setSys _ _) h
  | husk n => exact memWf_of_cells (cells_frameDelivery _ _) h
  | copy =>
    refine memWf_of_cells (d := s.dev) ?_ h
    simp only [State.memoryFault, State.onDev, apply_ite cells, cells_setTwin, ite_self]
  | display => exact h
  | none => exact h

theorem memWf_sramUncorrectable {s : State} (m addr : Nat) (r : Requester) (h : MemWf s.dev) : MemWf (s.sramUncorrectable m addr r).dev := by
  have hfault : MemWf ((s.onDev fun d => d.sramUe m addr).memoryFault r).dev := memWf_memoryFault r (memWf_of_cells (cells_sramUe _ _ _) h)
  refine memWf_settle ?_
  split
  · exact memWf_of_cells (cells_scanUe _ _) hfault
  · exact hfault

theorem memWf_flashUncorrectable {s : State} (block : Nat) (r : Requester) (h : MemWf s.dev) : MemWf (s.flashUncorrectable block r).dev := by
  have hue : MemWf (s.onDev fun d => d.flashUe block).dev := memWf_of_cells (cells_flashUe _ _) h
  refine memWf_settle ?_
  cases r with
  | host q t => exact memWf_memoryFault _ hue
  | core | safety | husk n | display | copy | none => exact hue

/-! ### The pip boundary -/

theorem memWf_commitPoint {s : State} (h : MemWf s.dev) : MemWf s.commitPoint.dev := by
  refine memWf_foldl_state (fun t x ht => ?_) _ h
  have hun : MemWf (t.onDev fun d => d.unaligned x.cmd).dev := memWf_of_cells (cells_unaligned _ _) ht
  dsimp only
  split
  · exact hun
  · exact memWf_of_cells (cells_commit _ _) hun

theorem memWf_firedDue {s : State} (l : List Flight) (h : MemWf s.dev) : MemWf (firedDue s l).dev := by
  refine memWf_foldl_state (fun t x ht => ?_) l h
  split
  · exact ht
  · split
    · exact ht
    · exact memWf_start _ (memWf_of_cells (cells_unaligned _ _) ht)

theorem memWf_firedQuiet {s : State} (h : MemWf s.dev) : MemWf (firedQuiet s).dev := by
  rw [firedQuiet]
  split
  · next x _ =>
    have hrun := memWf_runOp x.cmd h
    split
    · split
      · split <;> rename_i heq <;> rw [heq] at hrun <;> exact hrun
      · exact h
    · exact h
  · exact h

theorem memWf_fire {s : State} (h : MemWf s.dev) : MemWf s.fire.dev := by
  rw [fire_eq]
  exact memWf_firedQuiet (memWf_firedDue _ h)

theorem memWf_staleReplies {s : State} (h : MemWf s.dev) : MemWf s.staleReplies.dev := by
  rw [State.staleReplies]
  split
  · exact h
  · exact memWf_of_cells (cells_setTwin _ _) h

theorem memWf_collector {s : State} (h : MemWf s.dev) : MemWf s.collector.dev := memWf_staleReplies h

/-- A module that promotes answers what is left of its partner's commands. -/
theorem memWf_promote {s : State} {f : Dev → Dev} (hf : ∀ d, cells (f d) = cells d) (h : MemWf s.dev) : MemWf (s.onDev f).staleReplies.settle.dev :=
  memWf_settle (memWf_staleReplies (s := s.onDev f) (memWf_of_cells (hf s.dev) h))

/-- The standby does what the ACTIVE module's scheduled commands do, and takes over what it copies. -/
theorem memWf_standbyFire {d : Dev} (commits : Bool) (hd : MemWf d) : MemWf (d.standbyFire commits) := by
  unfold Dev.standbyFire
  split
  · exact hd
  · refine memWf_foldl (fun e x he => ?_) _ hd
    extract_lets x' c e'
    have he' : MemWf e' := memWf_of_cells ((cells_setTwin _ _).trans (cells_unaligned _ _)) he
    clear_value e'
    split
    · refine memWf_of_cells ?_ he'
      simp only [apply_ite cells, cells_commitSel, ite_self]
    · split
      · exact he'
      · split
        · next hf => exact memWf_onCopied (memWf_run hf c he')
        · exact he'

theorem memWf_pipBoundary {s : State} (i : PipIn) (h : MemWf s.dev) : MemWf (s.pipBoundary i).dev := by
  unfold State.pipBoundary
  have h1 : MemWf (if due s.dev.sys.resetReq s.dev.pip then s.devStep Dev.resetDue else s).dev := by
    split
    · exact memWf_devStep (fun _ => memWf_resetDue) h
    · exact h
  generalize (if due s.dev.sys.resetReq s.dev.pip = true then s.devStep Dev.resetDue else s) = s1 at h1
  dsimp -zeta only
  extract_lets s2
  have h2 : MemWf s2.dev := by
    refine memWf_of_cells ?_ h1
    exact (cells_refTick _ _).trans (cells_pfailEnd s1.dev)
  clear_value s2
  split
  · exact memWf_settle (memWf_of_cells (cells_lswTick _ _) h2)
  · next s3 d1 safe d2 s4 s5 s6 _ =>
    have hd1 : MemWf d1 := by
      refine memWf_of_cells ?_ h2
      simp only [d1, s3, State.onDev, cells_podSend, cells_applyLive, cells_shiftCopied, cells_nextPip, cells_guardPips]
    have hd2 : MemWf d2 := hd1
    have h4 : MemWf s4.dev := by
      have hcopy : MemWf d2.lagTick.handoverEnd.tamperHand.boundaryCopy := by
        refine memWf_boundaryCopy (memWf_of_cells ?_ hd2)
        rw [cells_tamperHand, cells_handoverEnd, cells_lagTick]
      refine memWf_of_cells ?_ hcopy
      rw [cells_sampleLatch, cells_saveDue, cells_keyDue]
    have h5 : MemWf s5.dev := memWf_standbyFire true (memWf_of_cells (cells_billPip _) (memWf_commitPoint h4))
    have h6 : MemWf s6.dev := memWf_standbyFire false (memWf_fire h5)
    exact memWf_settle (memWf_of_cells (cells_early _) (memWf_pipWork i (memWf_collector h6)))

end Sys2Proof.Proofs
end

section
/-!
Every command of the block keeps the memories' form (O48).
-/
namespace Sys2Proof.Proofs
open Sys2Proof.Machine Sys2Proof.Claims Sys2Proof.Laws

/-- A step of the device that leaves the memories alone. -/
theorem devStep_leaves {s : State} {f : Dev → Dev} (h : MemWf s.dev) (hf : ∀ d, cells (f d) = cells d) : MemWf (s.devStep f).dev :=
  memWf_devStep (fun d => memWf_of_cells (hf d)) h

/-- A step at the latch that leaves the memories alone: the Kernel's. -/
theorem latchStep_leaves {s : State} {f : Dev → Dev} (h : MemWf s.dev) (hf : ∀ d, cells (f d) = cells d) : MemWf (s.latchStep f).dev :=
  memWf_latchStep (fun d => memWf_of_cells (hf d)) h

theorem cells_transmit (d : Dev) (o : MeshOpp) :
    cells (match o with | .slot i => (d.when (d.slotOpen i.val) fun d => d.meshLocal Dev.meshSafeFrame).meshSlot i.val | .contention => d.meshContention) = cells d := by
  cases o with
  | slot i => exact (cells_meshSlot _ _).trans (cells_when (cells_meshLocal cells_meshSafeFrame))
  | contention => exact cells_meshContention d

/-- What a command of the block makes of canonical memories is canonical: an opcode's packet by its function, an event by its unit's. -/
theorem memWf_exec (i : Instr) {s : State} (h : MemWf s.dev) : ∃ t, exec i s = .next t ∧ MemWf t.dev := by
  cases i
  case commandPacketArrival => exact ⟨_, rfl, memWf_arrival _ h⟩
  case writePacket => exact ⟨_, rfl, memWf_writePacket _ h⟩
  case readStatus => exact ⟨_, rfl, h⟩
  case readReply => exact ⟨_, rfl, memWf_readReply _ h⟩
  case spiUnknownInstruction => exact ⟨_, rfl, memWf_spiUnknown h⟩
  case udpReplySend => exact ⟨_, rfl, memWf_udpSend h⟩
  case pipBoundary => exact ⟨_, rfl, memWf_pipBoundary _ h⟩
  case deadlineMiss => exact ⟨_, rfl, memWf_deadlineMiss h⟩
  case startedCommandEnd => exact ⟨_, rfl, memWf_startedEnd h⟩
  case quietPipWindowExpiry => exact ⟨_, rfl, memWf_quietExpiry h⟩
  case switchDieFrame => exact ⟨_, rfl, memWf_devStep (fun _ => memWf_dieFrame _ _) h⟩
  case switchDieWatchdogExpiry => exact ⟨_, rfl, devStep_leaves h fun d => cells_lswWatchdog d⟩
  case kernelCommandExecute | intervalBoundary | offsetChange => exact ⟨_, rfl, latchStep_leaves h fun d => cells_kernDo d _⟩
  case kernelSessionOpen => exact ⟨_, rfl, devStep_leaves h fun d => cells_sessOpen d _⟩
  case kernelSessionClose => exact ⟨_, rfl, devStep_leaves h fun d => cells_sessClose d _⟩
  case iBreakPass => exact ⟨_, rfl, devStep_leaves h fun d => cells_iBreakPass d _⟩
  case memMbistRun => exact ⟨_, rfl, memWf_submit _ _ _ (memWf_of_cells (cells_mbistGiven _ _ _ _) h)⟩
  case ptpOffsetMeasured => exact ⟨_, rfl, devStep_leaves h fun d => cells_ptpMeasured d _⟩
  case announceReceiptTimeout => exact ⟨_, rfl, devStep_leaves h fun d => cells_when (cells_announceTimeout d)⟩
  case bmcaOtherMaster => exact ⟨_, rfl, devStep_leaves h fun d => cells_when (cells_otherMaster d _)⟩
  case bmcaSelectsSelf => exact ⟨_, rfl, devStep_leaves h fun d => cells_when (cells_selfMaster d)⟩
  case holdoverLimitReached => exact ⟨_, rfl, devStep_leaves h fun d => cells_when (cells_holdoverLimit d)⟩
  case tb0Step => exact ⟨_, rfl, latchStep_leaves h fun d => cells_when (cells_tb0Step d)⟩
  case ptpEventSent => exact ⟨_, rfl, devStep_leaves h fun d => cells_when (cells_ptpSent d _)⟩
  case kernelSample => exact ⟨_, rfl, memWf_latchIf (fun d => memWf_of_cells (cells_kernDo d _)) h⟩
  case pipStrobe | kernelRealignStart | kernelAligned | noZc | streamRecovered | mclkClockFault | mclkSettlingEnd | pendingPulseEmit | balanceCheck |
    sealOpen | sealClose | ledgerRecordProgram | checkpointDue | meterFaultEntry | kernelPowerOn | legalTimeSlewTick | lxoStop | krefFail => exact ⟨_, rfl, devStep_leaves h fun d => cells_kernDo d _⟩
  case friendlyWindowClose => exact ⟨_, rfl, devStep_leaves h fun _ => rfl⟩
  case billStateSave => exact ⟨_, rfl, devStep_leaves h fun d => cells_when (cells_billSave d)⟩
  case billMeterRecord => exact ⟨_, rfl, devStep_leaves h fun d => cells_when (cells_billMeter d _)⟩
  case tokenMidnightPurge => exact ⟨_, rfl, devStep_leaves h fun d => cells_when (cells_tokenPurge d)⟩
  case pilotStateAccepted => exact ⟨_, rfl, devStep_leaves h fun d => cells_when (cells_pilotAccepted d _)⟩
  case faultPilotProbe => exact ⟨_, rfl, devStep_leaves h fun d => cells_when (cells_faultProbe d _ _)⟩
  case linkUp => exact ⟨_, rfl, devStep_leaves h fun d => cells_when (cells_linkIsUp d _ _)⟩
  case linkTimerExpiry => exact ⟨_, rfl, devStep_leaves h fun d => cells_when (cells_linkTimer d _)⟩
  case paymentSelectionComplete => exact ⟨_, rfl, devStep_leaves h fun d => cells_when ((cells_paymentSelected _ _ _).trans (cells_answerVehicle d _))⟩
  case protocolError => exact ⟨_, rfl, devStep_leaves h fun d => cells_when (cells_protocolError d _)⟩
  case authorisationTimerExpiry => exact ⟨_, rfl, devStep_leaves h fun d => cells_when (cells_authTimer d _)⟩
  case hostWaitExpiry => exact ⟨_, rfl, devStep_leaves h fun d => cells_when (cells_hostWait d _)⟩
  case hostOffline => exact ⟨_, rfl, devStep_leaves h fun d => cells_when (cells_hostGone d)⟩
  case preauthExpiry => exact ⟨_, rfl, devStep_leaves h fun d => cells_when (cells_foldl cells_preauthExpiry _ d)⟩
  case floatingPreauthExpiry => exact ⟨_, rfl, devStep_leaves h fun d => cells_when (cells_floatingExpiry d)⟩
  case cableCheckTimerExpiry => exact ⟨_, rfl, devStep_leaves h fun d => cells_when (cells_cableTimer d _)⟩
  case powerDeliveryRequest => exact ⟨_, rfl, devStep_leaves h fun d => cells_when ((cells_powerDelivery _ _ _).trans (cells_answerVehicle d _))⟩
  case prechargeTimerExpiry => exact ⟨_, rfl, devStep_leaves h fun d => cells_when (cells_prechTimer d _)⟩
  case vehicleStopRequest => exact ⟨_, rfl, devStep_leaves h fun d => cells_when ((cells_vehicleStop _ _).trans (cells_answerVehicle d _))⟩
  case canRxFrame => exact ⟨_, rfl, devStep_leaves h fun d => cells_when (cells_canRx d _)⟩
  case canTxTemplate => exact ⟨_, rfl, devStep_leaves h fun d => cells_when (cells_canTx d _)⟩
  case pmStatusTimeout => exact ⟨_, rfl, devStep_leaves h fun d => cells_when (cells_foldl cells_pmTimeout _ d)⟩
  case tForceExpiry => exact ⟨_, rfl, devStep_leaves h fun d => cells_tForceExpiry d _⟩
  case weldCheckTimeout => exact ⟨_, rfl, devStep_leaves h fun d => cells_when (cells_weldTimeout d _)⟩
  case unpluggedToIdle => exact ⟨_, rfl, devStep_leaves h fun d => cells_when (cells_toIdle d _)⟩
  case fcDecode => exact ⟨_, rfl, devStep_leaves h fun d => cells_when (cells_fcDecode d _)⟩
  case frameDelivery => exact ⟨_, rfl, devStep_leaves h fun d => cells_when (cells_frameDelivery d _)⟩
  case frameLate => exact ⟨_, rfl, devStep_leaves h fun d => cells_when (cells_frameLate d _)⟩
  case huskSlice => exact ⟨_, rfl, devStep_leaves h fun d => cells_when (cells_huskSlice d _ _ _)⟩
  case noiseWindowEnd => exact ⟨_, rfl, devStep_leaves h fun d => cells_when (cells_noiseWindow d _ _ _ _ _)⟩
  case slacParmReq => exact ⟨_, rfl, devStep_leaves h fun d => cells_when (cells_slacParm d _)⟩
  case soundCapture => exact ⟨_, rfl, devStep_leaves h fun d => cells_when (cells_soundCapture d _)⟩
  case slacDecision => exact ⟨_, rfl, devStep_leaves h fun d => cells_when (cells_slacDecision d _)⟩
  case slacMatchReq => exact ⟨_, rfl, devStep_leaves h fun d => cells_when (cells_slacMatch d _ _)⟩
  case t1sFrameRx => exact ⟨_, rfl, devStep_leaves h fun d => cells_when (cells_t1sRx d _ _)⟩
  case t1sLinkLoss => exact ⟨_, rfl, devStep_leaves h fun d => cells_when (cells_t1sLoss d _ _)⟩
  case meshPeriodStart => exact ⟨_, rfl, devStep_leaves h fun d => cells_when (cells_meshPeriodStart d)⟩
  case meshBeaconRx => exact ⟨_, rfl, devStep_leaves h fun d => cells_when (cells_meshBeaconRx d _ _)⟩
  case meshSlotFrameRx => exact ⟨_, rfl, devStep_leaves h fun d => cells_when (cells_meshSlotRx cells_meshSafeFrame)⟩
  case meshSackRx => exact ⟨_, rfl, devStep_leaves h fun d => cells_when (cells_meshSack d _)⟩
  case meshPeriodEnd => exact ⟨_, rfl, devStep_leaves h fun d => cells_when (cells_meshPeriodEnd d)⟩
  case meshScanEnd => exact ⟨_, rfl, devStep_leaves h fun d => cells_when (cells_meshScanEnd d)⟩
  case meshJoinReq => exact ⟨_, rfl, devStep_leaves h fun d => cells_when (cells_meshJoinReq d _ _)⟩
  case meshJoinAck => exact ⟨_, rfl, devStep_leaves h fun d => cells_when (cells_meshJoinAck d _ _ _)⟩
  case meshJoinTimeout => exact ⟨_, rfl, devStep_leaves h fun d => cells_when (cells_meshJoinTimeout d)⟩
  case meshNodeTimeout => exact ⟨_, rfl, devStep_leaves h fun d => cells_when (cells_meshNodeTimeout d _)⟩
  case meshBackupPromotion => exact ⟨_, rfl, devStep_leaves h fun d => cells_when (cells_meshPromote d)⟩
  case meshActionExecute => exact ⟨_, rfl, devStep_leaves h fun d => cells_when (cells_meshExecute d)⟩
  case rcmStageTrip => exact ⟨_, rfl, devStep_leaves h fun d => cells_when (cells_rcmTrip d _)⟩
  case imdWindowStart => exact ⟨_, rfl, devStep_leaves h fun d => cells_when (cells_imdStart d _)⟩
  case imdWindowEnd => exact ⟨_, rfl, devStep_leaves h fun d => cells_when (cells_imdEnd d _)⟩
  case guardStreamFault => exact ⟨_, rfl, devStep_leaves h fun d => cells_when (cells_guardStream d _)⟩
  case guardSelfTestEnd => exact ⟨_, rfl, devStep_leaves h fun d => cells_when (cells_guardTestEnd d _)⟩
  case safetyInputChange => exact ⟨_, rfl, devStep_leaves h fun d => cells_safetyInput d _ _ _⟩
  case discrepancyTimeout => exact ⟨_, rfl, devStep_leaves h fun d => cells_discTimeout d _⟩
  case antivalenceTimeout => exact ⟨_, rfl, devStep_leaves h fun d => cells_antivalence d _⟩
  case testPulse => exact ⟨_, rfl, devStep_leaves h fun d => cells_testPulse d _ _⟩
  case resetButtonRelease => exact ⟨_, rfl, devStep_leaves h fun d => cells_resetButton d _⟩
  case crossDisagreement => exact ⟨_, rfl, devStep_leaves h fun d => cells_crossFault d _⟩
  case stoneSelfFault => exact ⟨_, rfl, devStep_leaves h fun d => cells_stoneSelfFault d⟩
  case permitWord => exact ⟨_, rfl, devStep_leaves h fun d => cells_pairWord d _⟩
  case heartbeatLost => exact ⟨_, rfl, devStep_leaves h fun d => cells_heartbeatGone d⟩
  case heartbeatValid => exact ⟨_, rfl, devStep_leaves h fun d => cells_heartbeatValid d⟩
  case hubStopHoldEnd => exact ⟨_, rfl, devStep_leaves h fun d => cells_hubHoldEnd d⟩
  case stoneFrameRx => exact ⟨_, rfl, devStep_leaves h fun d => cells_when (cells_connRxFrame d _ _)⟩
  case stoneFrameTx => exact ⟨_, rfl, devStep_leaves h fun d => cells_when (cells_stoneTx d _)⟩
  case stoneConnWatchdog => exact ⟨_, rfl, devStep_leaves h fun d => cells_when (cells_foldl cells_connWatchdog _ d)⟩
  case overcurrentTrip => exact ⟨_, rfl, devStep_leaves h fun d => cells_overcurrent d _⟩
  case inrushWindowEnd => exact ⟨_, rfl, devStep_leaves h fun d => cells_inrushEnd d _⟩
  case thermalLatchSet => exact ⟨_, rfl, devStep_leaves h fun d => cells_thermalSet d _⟩
  case thermalLatchClear => exact ⟨_, rfl, devStep_leaves h fun d => cells_thermalClear d _⟩
  case retryBackoffElapsed => exact ⟨_, rfl, devStep_leaves h fun d => cells_retry d _⟩
  case retryCounterReload => exact ⟨_, rfl, devStep_leaves h fun d => cells_reloadAfterOn d _⟩
  case openLoadDetect => exact ⟨_, rfl, devStep_leaves h fun d => cells_openLoad d _⟩
  case pullInEnd => exact ⟨_, rfl, devStep_leaves h fun d => cells_pullInEnd d _⟩
  case underVoltage => exact ⟨_, rfl, devStep_leaves h fun d => cells_underVoltage d⟩
  case underVoltageRestore => exact ⟨_, rfl, devStep_leaves h fun d => cells_uvRestore d⟩
  case actHoldExpiry => exact ⟨_, rfl, devStep_leaves h fun d => cells_actHoldExpiry d⟩
  case podTrainingComplete => exact ⟨_, rfl, devStep_leaves h fun d => cells_when (cells_podTrain d _)⟩
  case podLaneLockLoss => exact ⟨_, rfl, devStep_leaves h fun d => cells_when (cells_podLost d _)⟩
  case podFrameRx => exact ⟨_, rfl, devStep_leaves h fun d => cells_when (cells_podFrame d _)⟩
  case kcmpMismatchSet => exact ⟨_, rfl, devStep_leaves h fun d => cells_when (cells_foldl cells_kcmpSet _ d)⟩
  case twinLiveToggle => exact ⟨_, rfl, devStep_leaves h fun d => cells_liveToggle d⟩
  case twinSilencePromote => exact ⟨_, rfl, memWf_promote (fun d => cells_when (cells_silencePromote d)) h⟩
  case promotedHubStopRampdown => exact ⟨_, rfl, devStep_leaves h fun d => cells_when (cells_promotedHub d)⟩
  case podFaultDetect => exact ⟨_, rfl, devStep_leaves h fun d => cells_when (cells_podFault d)⟩
  case partnerSilent => exact ⟨_, rfl, devStep_leaves h fun d => cells_when (cells_partnerSilent d)⟩
  case twinCopyLag => exact ⟨_, rfl, devStep_leaves h fun d => cells_when (cells_copyLag d)⟩
  case twinCopyApply => exact ⟨_, rfl, memWf_devStep (fun _ => memWf_when fun _ => memWf_copyApply) h⟩
  case twinSyncComplete => exact ⟨_, rfl, devStep_leaves h fun d => cells_when (cells_syncComplete d)⟩
  case twinSearchTimeout => exact ⟨_, rfl, devStep_leaves h fun d => cells_when (cells_searchTimeout d)⟩
  case epochNoticeTx => exact ⟨_, rfl, devStep_leaves h fun d => cells_when (cells_noticeTx d)⟩
  case epochNoticeRx => exact ⟨_, rfl, devStep_leaves h fun d => cells_when (cells_noticeRx d _ _)⟩
  case readerPollCycle => exact ⟨_, rfl, devStep_leaves h fun d => cells_when (cells_readerPoll d _)⟩
  case tagActivation => exact ⟨_, rfl, devStep_leaves h fun d => cells_tagActivate d _⟩
  case tagApdu => exact ⟨_, rfl, memWf_devStep (fun _ => memWf_tagApdu _) h⟩
  case framHoldCut => exact ⟨_, rfl, memWf_devStep (fun _ => memWf_holdExpiry _) h⟩
  case passportWrite => exact ⟨_, rfl, memWf_devStep (fun _ => memWf_when fun _ => memWf_passportWrite) h⟩
  case keypadScan => exact ⟨_, rfl, devStep_leaves h fun d => cells_when (cells_kpScan d _)⟩
  case keypadEntryTimeout => exact ⟨_, rfl, devStep_leaves h fun d => cells_when (cells_kpTimeout d)⟩
  case keypadSelectionExpiry => exact ⟨_, rfl, devStep_leaves h fun d => cells_when (cells_selExpiry d)⟩
  case dispFrameStart => exact ⟨_, rfl, devStep_leaves h fun d => cells_when (cells_dispFrame d _ _)⟩
  case dispUpdateDone => exact ⟨_, rfl, memWf_devStep (fun _ => memWf_when fun _ => memWf_dispDone _) h⟩
  case dispVpFault => exact ⟨_, rfl, devStep_leaves h fun d => cells_dispFault d⟩
  case dispStressSave => exact ⟨_, rfl, devStep_leaves h fun d => cells_when (cells_dispHourly d)⟩
  case burrLineFire => exact ⟨_, rfl, devStep_leaves h fun d => cells_burrFire d _⟩
  case fwuTrialExpiry => exact ⟨_, rfl, devStep_leaves h fun d => cells_when (cells_trialExpiry d)⟩
  case mbistRowTest => exact ⟨_, rfl, devStep_leaves h fun d => cells_when (cells_mbistRow d _)⟩
  case lbistChainTest => exact ⟨_, rfl, devStep_leaves h fun d => cells_when (cells_lbistTest d _ _ _)⟩
  case lbistRetest => exact ⟨_, rfl, devStep_leaves h fun d => cells_when (cells_lbistRetest d _)⟩
  case sramCorrectableError => exact ⟨_, rfl, devStep_leaves h fun d => cells_sramCe d _ _⟩
  case sramUncorrectableError => exact ⟨_, rfl, memWf_sramUncorrectable _ _ _ h⟩
  case flashRefresh => exact ⟨_, rfl, devStep_leaves h fun d => cells_flashRefresh d⟩
  case flashUncorrectable => exact ⟨_, rfl, memWf_flashUncorrectable _ _ h⟩
  case powerOnReset => exact ⟨_, rfl, memWf_devStep (fun _ => memWf_powerOnReset _ _) h⟩
  case boot => exact ⟨_, rfl, memWf_devStep (fun _ => memWf_boot _) h⟩
  case feedLost => exact ⟨_, rfl, devStep_leaves h fun d => cells_feedLost d _⟩
  case feedLossClear => exact ⟨_, rfl, devStep_leaves h fun d => cells_feedLossClear d⟩
  case powerFail => exact ⟨_, rfl, memWf_devStep (fun _ => memWf_powerFail _) h⟩
  case holdupCollapse => exact ⟨_, rfl, devStep_leaves h fun d => cells_holdupCollapse d⟩
  case powerFailReset => exact ⟨_, rfl, memWf_devStep (fun _ => memWf_powerFailReset) h⟩
  case resetNPin => exact ⟨_, rfl, memWf_devStep (fun _ => memWf_resetPin _) h⟩
  case internalWatchdogExpiry => exact ⟨_, rfl, memWf_devStep (fun _ => memWf_watchdog) h⟩
  case refclkFail => exact ⟨_, rfl, devStep_leaves h fun d => cells_refclkFail d⟩
  case pllRelock => exact ⟨_, rfl, devStep_leaves h fun d => cells_pllRelock d⟩
  case clkMuxHang => exact ⟨_, rfl, devStep_leaves h fun d => cells_muxHang d _⟩
  case feedGood => exact ⟨_, rfl, devStep_leaves h fun d => cells_feedGood d _⟩
  case twinLiveInEdge => exact ⟨_, rfl, devStep_leaves h fun d => cells_when (cells_liveEdge d)⟩
  case keyOperationComplete => exact ⟨_, rfl, devStep_leaves h fun d => cells_when (cells_keyComplete d _)⟩
  case cfgSaveComplete => exact ⟨_, rfl, devStep_leaves h fun d => cells_cfgSaved d⟩
  case fwuCommandComplete => exact ⟨_, rfl, devStep_leaves h fun d => cells_fwuDone d⟩
  case huskFrontEndsRunning => exact ⟨_, rfl, devStep_leaves h fun d => cells_when (cells_frontEndsRun d)⟩
  case framAccessComplete => exact ⟨_, rfl, memWf_devStep (fun _ => memWf_framDone) h⟩
  case cardAnswer => exact ⟨_, rfl, devStep_leaves h fun d => cells_when (cells_cardAnswer d _)⟩
  case cardWaitExpiry => exact ⟨_, rfl, devStep_leaves h fun d => cells_when (cells_cardWait d)⟩
  case tagFieldDrop => exact ⟨_, rfl, devStep_leaves h fun d => cells_tagDrop d⟩
  case meshTransmitOpportunity => exact ⟨_, rfl, devStep_leaves h fun d => cells_when (cells_transmit d _)⟩
  case vehicleRequestDecoded => exact ⟨_, rfl, devStep_leaves h fun d => cells_when ((cells_vehicleRequest _ _ _).trans (cells_answerVehicle d _))⟩
  case certificateInstallationRequest => exact ⟨_, rfl, devStep_leaves h fun d => cells_when ((cells_certRequest _ _).trans (cells_answerVehicle d _))⟩
  all_goals exact ⟨_, rfl, memWf_submit _ _ _ h⟩

/-- Settles O48: every command keeps the memories' form, and a step is a command of the queue or none. -/
theorem stepKeepsMemory : Obligations.StepKeepsMemory := by
  intro s t hs h
  rw [step] at h
  split at h
  · exact Host.Outcome.next.inj h ▸ hs
  · next c rest _ =>
    obtain ⟨u, hu, hwf⟩ := memWf_exec c (s := { s with pending := rest }) hs
    rw [hu] at h
    exact Host.Outcome.next.inj h ▸ hwf

end Sys2Proof.Proofs
end
